-- ==== Sys2Proof/Word.lean ====
section
/-! DEFINITION. The bytes and words of the CV2048: what a byte, a 32-bit word and a binary32 pattern are. -/

namespace Sys2Proof

/-- One byte of a packet, a frame or a stored value. -/
abbrev Byte := BitVec 8

/-- A 32-bit pattern, used for IEEE 754 binary32 values (R35). -/
abbrev Word32 := BitVec 32

end Sys2Proof
end

