-- ==== Sys2Proof/Syntax.lean ====
section
/-! DEFINITION. The commands that the device takes, one constructor per row of the table of operations and events, with the operands that come from outside the device. -/

namespace Sys2Proof

/-- A DAP client, by the identity its transport gives it (R43); a UDP client with the port that its request came in by and the source MAC of the
request, to which answers go (R362). -/
inductive Client where
  | can (ident : Nat)
  | udp (net addr port mac : Nat)
  | hspi
  | window (pair : Nat)
  deriving DecidableEq, Repr

/-- Where an update datagram comes from: source address and source MAC (R362, R475). -/
structure Sender where
  addr : Nat
  mac : Nat
  deriving DecidableEq, Repr

/-- Subtype, sv bit and version of an AVTP stream PDU (R365). -/
structure Avtp where
  subtype : Nat
  sv : Bool
  version : Nat
  deriving DecidableEq, Repr

/-- What the device measures about the frame that ends: the illumination current of each source, as a part of 65,535 of its current at full scale,
and whether the self-check of the BLC failed (R404, R425). -/
structure Watch where
  amps : List (Option Nat)
  blcBad : Bool
  deriving DecidableEq, Repr

/-- Domain and sequence number of a time-protocol message (R376). -/
structure PtpId where
  domain : Nat
  seq : Nat
  deriving DecidableEq, Repr

/-- The client and TAG of a request PDU (R39) whose other fields the command fixes. -/
structure Rq where
  client : Client
  tag : Byte
  deriving DecidableEq, Repr

/-- Where a Guardrail frame comes from (R412): Ethernet port with source address and source port, or CAN controller and identifier. -/
inductive GcSrc where
  | udp (net hi lo port : Nat)
  | can (ctl ident : Nat)
  deriving DecidableEq, Repr

/-- A loop slot in a state copy (R451): state code, integrators of the main and the phase path, the eight notch delays, handover offset, Detour
index, position, mirror phase and output for the next boundary. -/
structure LoopCopy where
  state : Nat
  integ : Word32
  integPhase : Word32
  notch : List Word32
  offset : Word32
  index : Word32
  position : Word32
  phase : Word32
  last : Word32
  deriving DecidableEq, Repr

/-- The budget of a source in a state copy (R451): b_eff, s, the ramp with its start value and the ns gone by, and the floor requirement. -/
structure BudgetCopy where
  bEff : Word32
  scale : Word32
  ramp : Option (Word32 × Nat)
  need : Word32
  deriving DecidableEq, Repr

/-- A pattern engine in a state copy (R451): state code, program counter, value, loop counters. -/
structure EngineCopy where
  state : Nat
  pc : Nat
  value : Nat
  counters : List (Option Nat)
  deriving DecidableEq, Repr

/-- What a state copy carries beside its header and latches (R451): TSE levels; t_FM and period of the next frame, LSEQ of the snapshot; by layer the
REPEAT age in ns; shading state and the ns since its ramp began; by source the budget and the step of the BLC; loop slots, engines,
string levels, TRK codes, Scan Guard states. -/
structure CopyBody where
  tse : Nat
  tfm : Nat
  period : Nat
  lseq : Nat
  layers : List (Option Nat)
  shade : Nat
  rampAge : Nat
  budgets : List BudgetCopy
  steps : List Nat
  loops : List LoopCopy
  engines : List EngineCopy
  levels : List Nat
  trk : List Nat
  guards : List Nat
  deriving DecidableEq, Repr

/-- A Guardrail frame (R413) but for its type: the byte with the reserved bits and GLEN, SEQ, TEXP, payload, CHECK, and the bytes
that pad a CAN FD frame. -/
structure GFrame where
  ctl : Byte
  seq : BitVec 16
  texp : Word32
  payload : List Byte
  check : Word32
  pad : List Byte
  deriving DecidableEq, Repr


/-- The commands of the table of operations and events, one constructor per row. `dt` is the time in ns since the command before. -/
inductive Instr where
  /-- POWER_GOOD (R56): All supply monitors in range and RESET_N released start the boot sequence from the always-on domain. -/
  | powerGood (dt : Nat) (clk : Fin 2048) (beats : Bool)
  /-- PLL_RETRY (R506): While REFCLK is missing or the root PLL fails to lock in boot, the device retries the PLL every 100 ms. -/
  | pllRetry (dt : Nat) (clk : Fin 2048) (beats : Bool)
  /-- FIRST_LIGHT (R565): At a frame milestone the first frame emits the Kerb floor pattern and ALIVE starts toggling. -/
  | firstLight (dt : Nat)
  /-- END_OF_BOOT (R52): When the application firmware runs, the device leaves BOOT for PREOP, OPERATE, STANDBY or SAFE according to the stored configuration, autostart and role. -/
  | endOfBoot (dt : Nat)
  /-- READ (R41): A DAP Read request reads an expedited entry and is answered with a Read response or a refusal. -/
  | read (dt : Nat) (rq : Rq) (key : Nat)
  /-- WRITE (R41): A DAP Write request writes an expedited entry that has no behaviour of its own, after the checks of the request order. -/
  | write (dt : Nat) (rq : Rq) (key : Nat) (data : List Byte)
  /-- REPEAT_WINDOW_EXPIRY (R45): The stored last response of a client is discarded 1 s after it was sent. -/
  | repeatWindowExpiry (dt : Nat) (c : Client)
  /-- UPLOAD_INITIATE (R42): A client opens a segmented upload of an STR or DOM entry and receives its total size. -/
  | uploadInitiate (dt : Nat) (rq : Rq) (key : Nat)
  /-- UPLOAD_SEGMENT_REQUEST (R42): A client requests the next upload segment, which the server sends with LAST on the final one. -/
  | uploadSegmentRequest (dt : Nat) (rq : Rq) (key seg : Nat)
  /-- DOWNLOAD_INITIATE (R42): A client opens a segmented download, whose announced size is checked before any segment. -/
  | downloadInitiate (dt : Nat) (rq : Rq) (key total : Nat)
  /-- DOWNLOAD_SEGMENT (R42): A download segment is placed in the staging buffer and acknowledged, or on LAST starts the check of the value. -/
  | downloadSegment (dt : Nat) (rq : Rq) (key seg : Nat) (last : Bool) (data : List Byte)
  /-- DOWNLOAD_COMPLETE (R42): Once the downloaded value has been checked, it replaces the old value in one step or is refused, and 0x87 is sent. -/
  | downloadComplete (dt : Nat) (c : Client)
  /-- ABORT (R42): An abort from the client ends the open segmented transfer and discards the staging buffer. -/
  | abort (dt : Nat) (rq : Rq) (key code detail : Nat)
  /-- TRANSFER_TIMEOUT (R42): The server ends a segmented transfer with 0x0104 when the next segment or segment request does not arrive within the segment timeout. -/
  | transferTimeout (dt : Nat) (c : Client)
  /-- HSPI_REQUEST (R552): An HSPI transaction with opcode 0x0D delivers one request PDU to the dictionary server. -/
  | hspiRequest (dt : Nat) (b : List Byte)
  /-- HSPI_POLL (R553): An HSPI transaction with opcode 0x0E returns the length and the held response PDU, or length 0. -/
  | hspiPoll (dt : Nat) (n : Nat)
  /-- HSPI_OTHER_OPCODE (R552): An HSPI transaction with any other opcode returns the status byte and 0xFF, and is ignored. -/
  | hspiOtherOpcode (dt : Nat) (n : Nat)
  /-- STATE_REQUEST_PREOP (R52): A write of 0x01 to the state request asks for the transition from OPERATE to PREOP at the next frame milestone. -/
  | stateRequestPreop (dt : Nat) (rq : Rq)
  /-- STATE_REQUEST_OPERATE (R52): A write of 0x02 to the state request checks the configuration and asks for PREOP to OPERATE or STANDBY at the entry milestone. -/
  | stateRequestOperate (dt : Nat) (rq : Rq)
  /-- SAVE (R61): Store command 0x01 starts a save of the working configuration to the copy not in use. -/
  | save (dt : Nat) (rq : Rq)
  /-- SAVE_COMPLETE (R61): A save ends after readback, making the written copy the copy in use or reporting a failure. -/
  | saveComplete (dt : Nat) (good : Bool)
  /-- RESTORE_DEFAULTS (R64): Store command 0x02 sets the working values to their defaults, except the DAP transport entries. -/
  | restoreDefaults (dt : Nat) (rq : Rq)
  /-- RELOAD_STORED_COPY (R64): Store command 0x03 reloads the working values from the copy in use. -/
  | reloadStoredCopy (dt : Nat) (rq : Rq)
  /-- MESH_COMMIT (R80): A mesh commit checks the pending calibration mesh of a source and arms it for its landing frame. -/
  | meshCommit (dt : Nat) (rq : Rq) (c : Fin 4)
  /-- OBJECT_LIST_FRAGMENT (R101): An object-list fragment is taken in, placed by its entries or discarded as old or duplicate. -/
  | objectListFragment (dt : Nat) (port : Fin 2) (payload : List Byte)
  /-- FRAGMENT_WINDOW_EXPIRY (R100): A list whose fragments have not all arrived within the fragment window is dropped with reason 0x01. -/
  | fragmentWindowExpiry (dt : Nat)
  /-- OBJECT_LIST_VISIBLE (R27): An accepted list becomes visible atomically in an object-store slot together with its vehicle state. -/
  | objectListVisible (dt : Nat)
  /-- OBJECT_SNAPSHOT (R103): At each snapshot interval the BGE takes the newest visible object list and vehicle state for the rows composed after it. -/
  | objectSnapshot (dt : Nat)
  /-- COMPOSE_START (R131): At the compose start of a frame each layer is judged ready or not, and the Kerb release is checked. -/
  | composeStart (dt : Nat) (released : Bool)
  /-- COMPOSE_ROW (R121): The BGE and PXC compose one output row through layers, Kerb clamp and the light-value chain. -/
  | composeRow (dt : Nat) (c field : Fin 4) (row : Nat)
  /-- LAYER_COMMIT (R128): A layer commit checks the shadow configuration of a layer and arms it for the landing frame. -/
  | layerCommit (dt : Nat) (rq : Rq) (l : Fin 7)
  /-- GROUP_COMMIT (R129): A group commit checks the layers of a mask together and arms all or none of them. -/
  | groupCommit (dt : Nat) (rq : Rq) (mask : Nat)
  /-- ALLOCATE_REQUEST (R135): An allocate request places a frame-store region by first fit, charged to an owner layer. -/
  | allocateRequest (dt : Nat) (rq : Rq) (word : Nat)
  /-- FREE_REQUEST (R134): A free request moves a region to RELEASING or FREE, or is refused while a configuration reads it. -/
  | freeRequest (dt : Nat) (rq : Rq) (n : Nat)
  /-- CONTENT_READY (R133): A write to the content-ready flag of a region marks its content ready or not, with refusals by region state. -/
  | contentReady (dt : Nat) (rq : Rq) (n : Fin 32) (v : Nat)
  /-- MEMORY_QUOTA (R135): A write to a layer's memory quota is refused below the charged memory while the layer is enabled. -/
  | memoryQuota (dt : Nat) (rq : Rq) (l : Fin 7) (v : Nat)
  /-- GAIN_MESH_COMMIT (R145): A gain mesh commit checks the pending uniformity gain mesh and arms it for the landing frame. -/
  | gainMeshCommit (dt : Nat) (rq : Rq) (c : Fin 4)
  /-- CLEAR_REPORTED (R147): A write of 0x01 clears every reported dead-pixel bit of a source. -/
  | clearReported (dt : Nat) (rq : Rq) (c : Fin 4)
  /-- DOSE_RESET (R152): A dose reset clears the dose of a source and sets its ageing gain to 1.0. -/
  | doseReset (dt : Nat) (rq : Rq) (c : Fin 4)
  /-- AGEING_FOLD (R151): Once an hour the firmware folds the ageing curve into the ageing map with the step limit. -/
  | ageingFold (dt : Nat)
  /-- HOST_BUDGET (R156): A write of the host budget is stored, clamped to the floor requirement with answer 0x0404 where needed. -/
  | hostBudget (dt : Nat) (rq : Rq) (c : Fin 4) (v : Nat)
  /-- KERB_COMPLEMENT_CHECK (R142): The SSV compares primary and complement of the active Kerb bank and rewrites differing words. -/
  | kerbComplementCheck (dt : Nat) (differ : Bool)
  /-- FRAME_MILESTONE (R164): A frame milestone starts a new frame: FRAME# increments, buffers swap, masks land and per-frame work runs. -/
  | frameMilestone (dt : Nat) (phi : List (Option Nat)) (pdBad : Nat) (watch : Watch)
  /-- COMMIT_MILESTONE (R174): At the commit milestone the armed configurations are taken into the landing set of the next frame and its period is fixed. -/
  | commitMilestone (dt : Nat)
  /-- SCAN_OUT_COMMIT (R175): A scan-out commit checks the whole scan-out and source configuration for the entry into OPERATE. -/
  | scanOutCommit (dt : Nat) (rq : Rq)
  /-- SCAN_OUT_ROW (R182): The SOU reads a composed row at its read point, applies the mask and formats it for the source, past the BLC tap. -/
  | scanOutRow (dt : Nat) (c : Fin 4) (r : Nat)
  /-- FALL_BACK_RELEASE (R406): The low-beam fall-back of a source ends when its release time passes with every zone within its ceiling. -/
  | fallBackRelease (dt : Nat) (c : Fin 4)
  /-- SCRUB_ACCESS (R159): The scrubber reads and checks one frame-store word, correcting or reporting it. -/
  | scrubAccess (dt : Nat) (w : Fin 4194304) (result : Fin 3)
  /-- SYNC_IN_EDGE (R179): A SYNC_IN edge is timestamped, accepted or ignored, and steers the lock state and raster. -/
  | syncInEdge (dt : Nat) (falling : Bool)
  /-- SYNC_IN_LOSS (R179): No accepted edge for two nominal SYNC_IN periods moves the lock to holdover. -/
  | syncInLoss (dt : Nat)
  /-- HOLDOVER_END (R179): At the end of the holdover time the raster slews back to nominal and becomes free-running. -/
  | holdoverEnd (dt : Nat)
  /-- MILESTONE (R212): The ALIGN slot and MILESTONE of a frame leave the balls of all ports Milestone lead ahead of the frame milestone. -/
  | milestone (dt : Nat)
  /-- RETRANSMIT_TIMEOUT (R200): A packet unanswered 4 µs after its END is sent again up to the limit, except a MILESTONE, which counts as missed. -/
  | retransmitTimeout (dt : Nat) (e : Fin 8) (seq : Nat)
  /-- ACK (R199): An ACK from an endpoint answers a MILESTONE, BLANK, STRIPE or REG_WR with its result. -/
  | ack (dt : Nat) (e : Fin 8) (head crc : Nat)
  /-- REG_RSP (R215): A REG_RSP from an endpoint delivers the values or result of a register read. -/
  | regRsp (dt : Nat) (e : Fin 8) (head : Nat) (words : List Nat) (crc : Nat)
  /-- STATUS (R220): A STATUS from an endpoint reports its state, flags, temperature and counts. -/
  | status (dt : Nat) (e : Fin 8) (head : Nat) (words : List Nat) (crc : Nat)
  /-- STATUS_MISSING (R220): Two consecutive missing STATUS packets from an endpoint raise a fault record. -/
  | statusMissing (dt : Nat) (e : Fin 8)
  /-- FMAP (R221): FMAP packets deliver an endpoint's open or short map, taken when complete into the dead-pixel map. -/
  | fmap (dt : Nat) (e : Fin 8) (head : Nat) (words : List Nat) (crc : Nat)
  /-- GMAP (R222): GMAP packets deliver an endpoint's held gain map, checked against its CRC and placed in the gain map. -/
  | gmap (dt : Nat) (e : Fin 8) (head : Nat) (words : List Nat) (crc : Nat)
  /-- GAIN_MAP_TIMEOUT (R222): A gain map not received within 50 ms counts as a load failure. -/
  | gainMapTimeout (dt : Nat) (e : Fin 8)
  /-- REGISTER_WINDOW_READ (R231): A write with READ set to the register window address sends a REG_RD to the endpoint. -/
  | registerWindowRead (dt : Nat) (rq : Rq) (ep : Fin 8) (reg : Nat)
  /-- REGISTER_WINDOW_WRITE (R231): A write to the register window data sends a REG_WR to the addressed endpoint register. -/
  | registerWindowWrite (dt : Nat) (rq : Rq) (v : Nat)
  /-- TSE_SETTLE_EXPIRY (R228): The supply settle time after TSEg assertion ends and the group's ports start training. -/
  | tseSettleExpiry (dt : Nat) (g : Fin 4)
  /-- PLANE_TABLE_COMMIT (R234): A plane-table commit checks the pending plane table of a mirror-array source and arms it. -/
  | planeTableCommit (dt : Nat) (rq : Rq) (c : Fin 4)
  /-- COLOUR_COMMIT (R245): A colour commit checks the colour table and field masks and arms them together. -/
  | colourCommit (dt : Nat) (rq : Rq) (c : Fin 4)
  /-- PLANE_SLOT (R236): A plane slot starts: mirrors change in the gap, then the illumination is driven at its level for the light time. -/
  | planeSlot (dt : Nat) (c : Fin 4) (k : Fin 32)
  /-- LASER_LINE (R252): The PTU places the pulses of one scan line at the column times of its half-period. -/
  | laserLine (dt : Nat) (c : Fin 4) (h : Nat)
  /-- SENSE_SAMPLE (R255): A 4 MS/s mirror sense sample is checked against the Scan Guard windows. -/
  | senseSample (dt : Nat) (m : Fin 2) (hCode vCode : Int) (turn : Bool) (limit fault : Fin 4) (dll : Bool)
  /-- DELAY_LINE_UNLOCK (R251): Loss of delay-line lock trips Scan Guard with cause 0x07. -/
  | delayLineUnlock (dt : Nat) (c : Fin 4)
  /-- SCAN_GUARD_STABILISED (R257): After every condition has held for T_stab the laser emits again from the next line. -/
  | scanGuardStabilised (dt : Nat) (m : Fin 2)
  /-- PWM_PERIOD_BOUNDARY (R266): A bank PWM period boundary samples the pattern engines and steers the tracking rails. -/
  | pwmPeriodBoundary (dt : Nat) (v0 v1 v2 v3 : Nat)
  /-- OWN_PERIOD_START (R268): At the start of a channel's own period its level and GREF are read and applied for the whole period. -/
  | ownPeriodStart (dt : Nat) (c : Fin 128)
  /-- SINK_SAMPLE (R269): The group ADC samples a sink pin 3 µs into its on-window and judges the sample for faults. -/
  | sinkSample (dt : Nat) (c : Fin 128) (code : Nat) (reg dropped : Bool)
  /-- PIN_HIGH (R270): A sink pin above the pin-high threshold for 5 µs is switched off in hardware. -/
  | pinHigh (dt : Nat) (c : Fin 128)
  /-- CLEAR_FAULTS (R270): A write of 0x01 clears the faults of a sink and lets a string switched off by them run again. -/
  | clearFaults (dt : Nat) (rq : Rq) (c : Fin 128)
  /-- LEVEL (R268): A write of a string head's level is stored for the next own-period start, or refused for other functions. -/
  | level (dt : Nat) (rq : Rq) (c : Fin 128) (v : Nat)
  /-- PROGRAM (R278): A write of a pattern-engine program is checked and refused while the engine runs or when invalid. -/
  | program (dt : Nat) (c : Client) (e : Fin 8)
  /-- TARGET_TABLE (R278): A write of an engine's target table commits it, releasing the old outputs and claiming the new ones. -/
  | targetTable (dt : Nat) (c : Client) (e : Fin 8)
  /-- ENGINE_START (R279): A start command clears the loop counters, sets E to 0 and runs the engine from instruction 0. -/
  | engineStart (dt : Nat) (rq : Rq) (e : Fin 8)
  /-- ENGINE_STOP (R279): A stop command sets the engine's outputs to 0 at the next sampling. -/
  | engineStop (dt : Nat) (rq : Rq) (e : Fin 8)
  /-- SET (R274): The SET instruction sets the engine value E. -/
  | set (dt : Nat) (e : Fin 8)
  /-- RAMP (R274): The RAMP instruction moves E linearly to a value over a duration. -/
  | ramp (dt : Nat) (e : Fin 8)
  /-- HOLD (R274): The HOLD instruction holds E for a duration, or halts the engine when the duration is 0. -/
  | hold (dt : Nat) (e : Fin 8)
  /-- LOOP (R275): The LOOP instruction arms or decrements a loop counter and jumps while it is above 0. -/
  | loop (dt : Nat) (e : Fin 8)
  /-- JUMP (R274): The JUMP instruction continues at the target address. -/
  | jump (dt : Nat) (e : Fin 8)
  /-- WAIT_MS (R274): The WAIT_MS instruction waits for the n-th following frame milestone. -/
  | waitMs (dt : Nat) (e : Fin 8)
  /-- WAIT_TIME (R276): The WAIT_TIME instruction waits until the device time modulo the wait period equals its phase. -/
  | waitTime (dt : Nat) (e : Fin 8)
  /-- TIMED_INSTRUCTION_END (R274): A RAMP, HOLD or wait ends at its exact instant and the engine continues. -/
  | timedInstructionEnd (dt : Nat) (e : Fin 8)
  /-- CHAIN_UPDATE (R283): 10 µs after the frame milestone a segment chain shifts and latches the levels in force and checks its readback. -/
  | chainUpdate (dt : Nat) (n : Fin 2) (rb : List Byte)
  /-- MATRIX_SLOT (R286): A matrix row slot blanks the columns, asserts the row gate and drives the row's segments in the light interval. -/
  | matrixSlot (dt : Nat) (r : Fin 16)
  /-- LOOP_SAMPLE (R300): At its boundary a loop slot samples its feedback, computes its output and applies the previous one. -/
  | loopSample (dt : Nat) (n : Fin 8) (code aux : Int) (fault : Bool)
  /-- GAIN_COMMIT (R303): A gain commit checks the shadow gains of a slot and applies them at the next boundary without a step. -/
  | gainCommit (dt : Nat) (rq : Rq) (n : Fin 8)
  /-- TABLE (R304): A write of a slot's friction and cogging table is checked and acts at the next boundary. -/
  | table (dt : Nat) (c : Client) (n : Fin 8)
  /-- SLOT_START (R322): Slot command 0x01 checks a slot's configuration and starts it. -/
  | slotStart (dt : Nat) (rq : Rq) (n : Fin 8)
  /-- SLOT_STOP (R322): Slot command 0x02 sets the slot output to 0 at the next boundary. -/
  | slotStop (dt : Nat) (rq : Rq) (n : Fin 8)
  /-- ENTER_DETOUR (R306): Slot command 0x03 puts the slot into DETOUR with cause 0x05. -/
  | enterDetour (dt : Nat) (rq : Rq) (n : Fin 8)
  /-- LEAVE_DETOUR (R308): Slot command 0x04 returns the slot to CLOSED when its feedback passes the checks. -/
  | leaveDetour (dt : Nat) (rq : Rq) (n : Fin 8)
  /-- START_TIMEOUT (R313): A slot that has not reached CLOSED within the start timeout enters FAULT. -/
  | startTimeout (dt : Nat) (n : Fin 8)
  /-- CURRENT_LOOP_PERIOD (R316): At each actuator PWM period the phase currents are sampled and the field-oriented current loop runs. -/
  | currentLoopPeriod (dt : Nat) (a : Fin 4) (ia ib ic : Int)
  /-- POSITION_COUNT (R317): A Hall or quadrature input change updates the actuator position count. -/
  | positionCount (dt : Nat) (a : Fin 4) (lines : Nat)
  /-- STO_N_ASSERT (R319): An accepted low pulse on STO_N removes torque on every member ACT port through both paths. -/
  | stoNAssert (dt : Nat)
  /-- STO_PATH_MISMATCH (R319): A torque-off path whose pins disagree with its command for 2 µs raises a safety fault. -/
  | stoPathMismatch (dt : Nat) (a : Fin 4) (path : Fin 2)
  /-- TRAVEL_EXCESS (R398): An actuator beyond its travel by the excess limit for 10 ms makes the SSV request torque off. -/
  | travelExcess (dt : Nat) (a : Fin 4)
  /-- BIT_SLIP (R334): A host bit-slip command moves the lane receiver's block boundary one bit later. -/
  | bitSlip (dt : Nat) (rq : Rq) (l : Fin 18)
  /-- TRAIN (R335): A TRAIN block received on a lane advances the training of its port. -/
  | train (dt : Nat) (l : Fin 18) (b : List Byte)
  /-- TRAINING_START (R335): A port starts training at 1.6 Gb/s with TRAIN on every forward lane. -/
  | trainingStart (dt : Nat) (p : Fin 9)
  /-- TRAINING_COMPLETE (R335): After 16 locked and ready TRAIN blocks on every lane the port sends FILL and ALIGN and the Tile Link starts. -/
  | trainingComplete (dt : Nat) (p : Fin 9)
  /-- TRAINING_TIMEOUT (R335): No lane completing training within the timeout raises a fault record and schedules a retry. -/
  | trainingTimeout (dt : Nat) (p : Fin 9)
  /-- TRAINING_RETRY (R335): One second after a training timeout the port tries training again. -/
  | trainingRetry (dt : Nat) (p : Fin 9)
  /-- RATE_SWITCH (R338): After first light the device switches ports to their target rate in a dark frame. -/
  | rateSwitch (dt : Nat) (p : Fin 9)
  /-- RATE_CHECK (R339): At the end of the rate check window the new rate is kept or the port falls back one rate. -/
  | rateCheck (dt : Nat) (p : Fin 8) (invalid : Nat)
  /-- BLOCK_LOCK_LOSS (R331): Loss of block lock on a return lane or locked spare pair declares a lane fault with cause 0x01. -/
  | blockLockLoss (dt : Nat) (l : Fin 18)
  /-- LOSS (R345): A LOSS block on a spare return pair names a failed forward lane, cause 0x02. -/
  | loss (dt : Nat) (l : Fin 18) (b : List Byte)
  /-- RETURN_LOSS (R220): No valid return packet for 8 µs declares the return lane failed, cause 0x03. -/
  | returnLoss (dt : Nat) (e : Fin 8)
  /-- ELECTRICAL_IDLE (R345): Electrical idle on a lane in use without a preceding EIDLE declares a lane fault, cause 0x04. -/
  | electricalIdle (dt : Nat) (l : Fin 18)
  /-- EIDLE (R343): EIDLE blocks on a spare pair put the device receiver into lane idle. -/
  | eidle (dt : Nat) (l : Fin 18) (b : List Byte)
  /-- RESTRIPE_TIMEOUT (R183): A re-stripe not acknowledged within 1 ms leaves the group blank with a safety record. -/
  | restripeTimeout (dt : Nat) (g : Fin 4)
  /-- FAILED_LANE_RETRY (R348): Once a second the lane manager tries to train a failed lane alone. -/
  | failedLaneRetry (dt : Nat) (l : Fin 18)
  /-- EYE_SCAN (R349): A write of the eye scan point starts a scan of the offset sampler over 2^E bits. -/
  | eyeScan (dt : Nat) (rq : Rq) (l : Fin 18) (v : Nat)
  /-- EYE_SCAN_DONE (R349): An eye scan completes and its error count becomes readable. -/
  | eyeScanDone (dt : Nat) (l : Fin 18) (n : Nat)
  /-- PRBS_CONTROL (R350): A write of the PRBS control starts or stops the pattern generator and checker of a lane. -/
  | prbsControl (dt : Nat) (rq : Rq) (l : Fin 18) (v : Nat)
  /-- ETHERNET_FRAME (R361): A received Ethernet frame is checked, classified, delivered, forwarded or dropped. -/
  | ethernetFrame (dt : Nat) (p : Fin 2) (fcsOk : Bool) (b : List Byte)
  /-- FRAME_TRANSMIT (R362): A queued frame leaves an Ethernet port in the order of precedence and priority. -/
  | frameTransmit (dt : Nat) (p : Fin 2)
  /-- LINK_STATE_CHANGE (R356): The in-band auto-negotiation word from the PHY changes the link state and speed of a port. -/
  | linkStateChange (dt : Nat) (p : Fin 2) (st : Fin 7)
  /-- VIDEO_PDU (R368): A video stream PDU is checked and written into the stream buffer, completing or dropping a frame. -/
  | videoPdu (dt : Nat) (p : Fin 2) (form : Avtp) (sid mac : Nat) (seq : Byte) (b : List Byte)
  /-- STREAM_COMMIT (R370): A stream commit checks the video stream configuration for the entry into OPERATE. -/
  | streamCommit (dt : Nat) (rq : Rq) (n : Fin 2)
  /-- CAN_FRAME (R373): A received CAN frame with a configured identifier is stored for DAP or passed to an SSV mailbox. -/
  | canFrame (dt : Nat) (c : Fin 4) (ident : Nat) (fd : Bool) (b : List Byte)
  /-- CAN_FRAME_TRANSMIT (R373): A pending CAN transmission leaves in identifier order. -/
  | canFrameTransmit (dt : Nat) (c : Fin 4)
  /-- BUS_OFF (R374): A CAN controller entering bus-off raises a fault record and starts automatic recovery if set. -/
  | busOff (dt : Nat) (c : Fin 4)
  /-- BUS_OFF_RECOVERY (R374): After 128 occurrences of 11 recessive bits the controller rejoins the bus. -/
  | busOffRecovery (dt : Nat) (c : Fin 4)
  /-- RECOVER (R374): The recover command starts bus-off recovery of a controller in command mode. -/
  | recover (dt : Nat) (rq : Rq) (c : Fin 4)
  /-- SYNC (R377): A two-step Sync message is timestamped at ingress on the slave port. -/
  | sync (dt : Nat) (p : Fin 2) (domain seq : Nat) (twoStep : Bool) (logInt : Int)
  /-- FOLLOW_UP (R379): A Follow_Up completes an offset sample, which drives the servo or is refused, and is relayed in line topology. -/
  | followUp (dt : Nat) (p : Fin 2) (seq : PtpId) (t1 c cum : Int) (gm : Nat)
  /-- FOLLOW_UP_TIMEOUT (R378): A Follow_Up not arrived within the sync interval is dropped and its Sync not relayed. -/
  | followUpTimeout (dt : Nat)
  /-- PDELAY_REQ_SEND (R376): At each peer-delay interval a port sends Pdelay_Req. -/
  | pdelayReqSend (dt : Nat) (p : Fin 2)
  /-- PDELAY_REQ (R376): A received Pdelay_Req is answered by the port. -/
  | pdelayReq (dt : Nat) (p : Fin 2) (seq : PtpId)
  /-- PDELAY_RESP (R377): Pdelay responses complete a peer-delay exchange and update the mean link delay. -/
  | pdelayResp (dt : Nat) (p : Fin 2) (seq : PtpId) (t2 t3 : Int)
  /-- SYNC_TIMEOUT (R380): No accepted sample for the sync timeout moves the synchronisation state to holdover. -/
  | syncTimeout (dt : Nat)
  /-- HOLDOVER_LIMIT (R380): At the end of the holdover limit the synchronisation state becomes free-running. -/
  | holdoverLimit (dt : Nat)
  /-- STEP_AT_NEXT_SAMPLE (R381): Step command 0x01 makes the next offset sample step the time base whatever its size. -/
  | stepAtNextSample (dt : Nat) (rq : Rq)
  /-- SET_TIME (R381): Step command 0x02 sets the time base at once while free-running. -/
  | setTime (dt : Nat) (rq : Rq)
  /-- ONE_SHOT (R383): Mode 0x01 arms a time-pulse output for one pulse at its start time. -/
  | oneShot (dt : Nat) (rq : Rq) (n : Fin 4)
  /-- PERIODIC (R383): Mode 0x02 arms a time-pulse output for pulses at start plus whole periods. -/
  | periodic (dt : Nat) (rq : Rq) (n : Fin 4)
  /-- TPO_OFF (R383): Mode 0x00 stops a time-pulse output and frees its parameters. -/
  | tpoOff (dt : Nat) (rq : Rq) (n : Fin 4)
  /-- TPO_PULSE (R384): A scheduled time-pulse edge is emitted, or missed after a step. -/
  | tpoPulse (dt : Nat) (n : Fin 4)
  /-- ROADBLOCK_N_ASSERT (R396): An accepted low pulse on ROADBLOCK_N latches a Roadblock of the pin-mask sources on both paths. -/
  | roadblockNAssert (dt : Nat) (ball : Fin 2)
  /-- ROADBLOCK_BALL_MISMATCH (R557): The two ROADBLOCK_N balls differing after their filters for 20 µs raise a record. -/
  | roadblockBallMismatch (dt : Nat)
  /-- ROADBLOCK_PATH_MISMATCH (R395): A Roadblock path readback differing from its command for 2 µs raises a safety record. -/
  | roadblockPathMismatch (dt : Nat) (path : Fin 2)
  /-- VEHICLE (R418): A Guardrail VEHICLE frame updates speed, supply state and owner lock. -/
  | vehicle (dt : Nat) (from_ : GcSrc) (f : GFrame)
  /-- GLARE (R418): A Guardrail GLARE frame replaces the glare region set of its connection. -/
  | glare (dt : Nat) (from_ : GcSrc) (f : GFrame)
  /-- BEAM_MODE (R418): A Guardrail BEAM_MODE frame sets LOW, ADAPTIVE or FLOOR for the sources of its mask. -/
  | beamMode (dt : Nat) (from_ : GcSrc) (f : GFrame)
  /-- KERB_LOAD (R141): A Guardrail Kerb-load command makes the SSV check the staged Kerb image and arm it in the inactive bank. -/
  | kerbLoad (dt : Nat) (from_ : GcSrc) (f : GFrame)
  /-- ROADBLOCK_REQUEST (R394): A Guardrail ROADBLOCK request latches a Roadblock of the sources in its mask. -/
  | roadblockRequest (dt : Nat) (from_ : GcSrc) (f : GFrame)
  /-- ROADBLOCK_RELEASE (R397): A Guardrail ROADBLOCK release frees each source of its mask whose release conditions hold. -/
  | roadblockRelease (dt : Nat) (from_ : GcSrc) (f : GFrame)
  /-- TORQUE_REQUEST (R319): A Guardrail TORQUE request latches torque off on the ports of its mask. -/
  | torqueRequest (dt : Nat) (from_ : GcSrc) (f : GFrame)
  /-- TORQUE_RELEASE (R398): A Guardrail TORQUE release re-enables the ports whose release conditions hold. -/
  | torqueRelease (dt : Nat) (from_ : GcSrc) (f : GFrame)
  /-- SW_WRITE (R564): A Guardrail SW_WRITE frame writes an SW entry after the command checks. -/
  | swWrite (dt : Nat) (from_ : GcSrc) (f : GFrame)
  /-- SAFE_ACK (R433): A Guardrail SAFE_ACK acknowledges one log entry, safety entries included. -/
  | safeAck (dt : Nat) (from_ : GcSrc) (f : GFrame)
  /-- SAFE_ACK_ALL (R433): A Guardrail SAFE_ACK with 0xFF acknowledges every inactive entry and clears the overflow stop latch. -/
  | safeAckAll (dt : Nat) (from_ : GcSrc) (f : GFrame)
  /-- GUARDRAIL_DEADLINE (R417): A consumer connection whose receive deadline passes becomes LOST and its fail-safe values apply. -/
  | guardrailDeadline (dt : Nat) (n : Fin 16)
  /-- PRODUCED_FRAME_SEND (R417): A producing connection sends its STATUS frame at each period. -/
  | producedFrameSend (dt : Nat) (n : Fin 16)
  /-- FAULT_RECORD (R430): A fault record reaches the FCOL, is logged and receives the reactions of its matching rules. -/
  | faultRecord (dt : Nat) (src kind : Byte) (arg : Word32) (standing : Bool)
  /-- FAULT_CAUSE_CLEARED (R431): Hardware clears an entry's active flag when its cause is gone, ending non-sticky stops. -/
  | faultCauseCleared (dt : Nat) (src kind : Byte) (arg : Word32)
  /-- FAULT_ACKNOWLEDGE (R433): A DAP acknowledge of one log entry clears its latched flag, refused for safety entries. -/
  | faultAcknowledge (dt : Nat) (rq : Rq) (n : Nat)
  /-- FAULT_ACKNOWLEDGE_ALL (R433): A DAP acknowledge with 0xFF clears the latched flag of every inactive non-safety entry. -/
  | faultAcknowledgeAll (dt : Nat) (rq : Rq)
  /-- RULE (R430): A write of a reaction rule is applied or refused for safety rules and disallowed block resets. -/
  | rule (dt : Nat) (rq : Rq) (n : Fin 64) (v : Nat)
  /-- ALIVE_TOGGLE (R434): Every 500 µs the voted ALIVE toggle is passed to ALIVE_P and ALIVE_N while no stop is in force. -/
  | aliveToggle (dt : Nat) (votes : List (Fin 8))
  /-- CORE_RESYNC_COMPLETE (R410): A reset SSV core rejoins the vote after resynchronisation. -/
  | coreResyncComplete (dt : Nat) (c : Fin 3)
  /-- ALIVE_SILENCE (R434): No voted toggle for 600 µs stops ALIVE and raises a record. -/
  | aliveSilence (dt : Nat)
  /-- ALIVE_READBACK_MISMATCH (R434): An ALIVE readback differing from the driven level for 2 µs stops ALIVE and raises a record. -/
  | aliveReadbackMismatch (dt : Nat) (pin : Fin 2)
  /-- CONFIGURATION_INTEGRITY_CHECK (R425): Every 10 ms the CRC of each active configuration is compared with its value at landing. -/
  | configurationIntegrityCheck (dt : Nat) (bad : List (Fin 6 × Nat))
  /-- LATENT_TEST (R426): The latent tests of voters, paths, Scan Guard and BLC run at their interval. -/
  | latentTest (dt : Nat) (failed : Fin 128)
  /-- MILEPOST_BEAT (R447): Every 100 µs a device sends a Milepost beat on the TWL and toggles BEAT_OUT. -/
  | milepostBeat (dt : Nat)
  /-- MILEPOST (R448): A MILEPOST packet from the partner delivers its FRAME#, state, role and readiness. -/
  | milepost (dt : Nat) (head : Nat) (words : List Nat) (crc : Nat)
  /-- BEAT_IN_EDGE (R447): A BEAT_IN edge is accepted within its window as a beat of the partner. -/
  | beatInEdge (dt : Nat)
  /-- BEAT_PATH_LOSS (R447): No beat for three intervals on a path loses it, raising a path fault or a takeover trigger. -/
  | beatPathLoss (dt : Nat) (b : Fin 2)
  /-- CLAIM_IN_FALL (R457): The partner's claim falls, starting the claim-release filter of a standby or enabling a yielded claimer. -/
  | claimInFall (dt : Nat)
  /-- CLAIM_IN_RISE (R445): The partner asserts its claim, which may make the claim simultaneous or block a takeover. -/
  | claimInRise (dt : Nat)
  /-- CLAIM_RELEASE_FILTER_EXPIRY (R457): CLAIM_IN low for the filter time with no offer pending makes a capable standby claim and take over. -/
  | claimReleaseFilterExpiry (dt : Nat)
  /-- TIE_BREAK_YIELD (R445): After 50 µs of simultaneous or blocked claims the yielding device withdraws its claim. -/
  | tieBreakYield (dt : Nat)
  /-- CLAIM_WATCHDOG (R444): With no BEAT_OUT edge for the watchdog time the device lowers CLAIM_OUT in hardware. -/
  | claimWatchdog (dt : Nat)
  /-- DEFERRED_CLAIM (R454): Device 1 claims 20 ms after step 7 of boot if CLAIM_IN is still low. -/
  | deferredClaim (dt : Nat)
  /-- TAKEOVER_CHECK (R459): Within 50 µs of taking over, the new active device checks its output stages, JOIN answers and Scan Guard. -/
  | takeoverCheck (dt : Nat) (bad : Option (Fin 4))
  /-- COPY (R451): A COPY packet delivers a state-copy segment, applied by the standby at each block's next boundary. -/
  | copy (dt : Nat) (crcOk : Bool) (frame cfg kseq cls rb torque : Nat) (body : CopyBody)
  /-- COMMIT (R451): A COMMIT packet delivers a forwarded configuration, armed by the standby for its landing frame. -/
  | commit (dt : Nat) (crcOk : Bool) (landing item : Nat) (vals : List (Nat × Nat)) (doms : List (Nat × List Byte))
  /-- SIGNATURE (R453): A SIGNATURE packet is compared with the standby's own frame signature and input digest. -/
  | signature (dt : Nat) (head : Nat) (words : List Nat) (crc : Nat)
  /-- KERB (R452): KERB packets deliver the active device's Kerb image, checked and armed by the standby's SSV. -/
  | kerb (dt : Nat) (head : Nat) (words : List Nat) (crc : Nat)
  /-- BULK (R454): A BULK packet delivers a segment of bulk sync to a new standby. -/
  | bulk (dt : Nat) (head : Nat) (words : List Nat) (crc : Nat)
  /-- BULK_SYNC_COMPLETE (R454): Bulk sync completes and the newcomer takes the partner's configuration and Kerb image. -/
  | bulkSyncComplete (dt : Nat) (vals : List (Nat × Nat)) (doms : List (Nat × List Byte)) (cells : List (Nat × Byte)) (maps : List (List (Nat × Nat) × List (Nat × Nat)))
  /-- HANDOVER_COMMAND (R460): A write of 0x01 to the handover command starts a planned handover from the active device. -/
  | handoverCommand (dt : Nat) (rq : Rq)
  /-- SWAP_DRILL (R461): The swap-drill timer starts a planned handover, retried after 1 min if refused. -/
  | swapDrill (dt : Nat)
  /-- HANDOVER_OFFER (R460): A HANDOVER offer at the commit milestone asks the standby to take over at the next frame milestone. -/
  | handoverOffer (dt : Nat) (head : Nat) (words : List Nat) (crc : Nat)
  /-- HANDOVER_GRANT (R460): A HANDOVER grant lets the active device release its claim at the frame milestone. -/
  | handoverGrant (dt : Nat) (head : Nat) (words : List Nat) (crc : Nat)
  /-- HANDOVER_REFUSE (R460): A HANDOVER refuse ends the planned handover. -/
  | handoverRefuse (dt : Nat) (head : Nat) (words : List Nat) (crc : Nat)
  /-- UPDATE_START (R474): Update command 0x01 checks the staged manifest and starts or resumes a download. -/
  | updateStart (dt : Nat) (rq : Rq)
  /-- UPDATE_ABANDON (R479): Update command 0x02 abandons the resumable download. -/
  | updateAbandon (dt : Nat) (rq : Rq)
  /-- UPDATE_VERIFY (R482): Update command 0x03 starts verification of a fully stored image. -/
  | updateVerify (dt : Nat) (rq : Rq)
  /-- VERIFICATION_COMPLETE (R482): Verification ends with the stage verified, or restarts the download from chunk 0. -/
  | verificationComplete (dt : Nat) (corrected bad : List Nat)
  /-- UPDATE_ACTIVATE (R484): Update command 0x04 activates the verified image by a rolling restart through HOLD. -/
  | updateActivate (dt : Nat) (rq : Rq)
  /-- END_OF_ROLLING_RESTART (R484): The last restart ends, the boot record is written with STAGE trial and the state before HOLD returns. -/
  | endOfRollingRestart (dt : Nat)
  /-- UPDATE_ACTIVATE_WITH_RESET (R483): Update command 0x07 writes a trial boot record and resets the device into the new image. -/
  | updateActivateWithReset (dt : Nat) (rq : Rq)
  /-- UPDATE_CONFIRM (R487): Update command 0x05 confirms the trial image and advances the security-version counter. -/
  | updateConfirm (dt : Nat) (rq : Rq)
  /-- AUTO_CONFIRM (R487): After the auto-confirm time of trial operation without a latched safety record the firmware confirms by itself. -/
  | autoConfirm (dt : Nat)
  /-- UPDATE_FALL_BACK (R489): Update command 0x06 falls back from the trial image to the image in ACTIVE. -/
  | updateFallBack (dt : Nat) (rq : Rq)
  /-- RECOVERY_ACTIVATE (R469): In the recovery loader, command 0x04 writes both boot records afresh and resets into the downloaded image. -/
  | recoveryActivate (dt : Nat) (rq : Rq)
  /-- CHUNK (R477): A chunk written over DAP is checked, stored in its sub-sector and counted in the journal. -/
  | chunk (dt : Nat) (c : Client)
  /-- MANIFEST_FRAGMENT (R475): An update datagram carrying a manifest fragment is collected and a complete manifest acts as a start. -/
  | manifestFragment (dt : Nat) (p : Fin 2) (addr : Sender) (port : Nat) (frag : Byte) (image : Word32) (data : List Byte)
  /-- CHUNK_FRAGMENT (R475): An update datagram carrying a chunk fragment is collected and a complete chunk is stored and answered. -/
  | chunkFragment (dt : Nat) (p : Fin 2) (addr : Sender) (port : Nat) (frag : Byte) (image chunk : Word32) (data : List Byte)
  /-- STATUS_QUERY (R475): An update status query is answered with the download status. -/
  | statusQuery (dt : Nat) (p : Fin 2) (addr : Sender) (port : Nat) (image chunk : Word32)
  /-- UPDATE_FRAGMENT_TIMEOUT (R475): Fragments of a manifest or chunk not all arrived within 100 ms are discarded. -/
  | updateFragmentTimeout (dt : Nat)
  /-- REFRESH_BLOCK (R466): The refresher rewrites one store block through the staging area on its schedule. -/
  | refreshBlock (dt : Nat) (corrected : Nat) (bad : List Nat)
  /-- DOSE_ARCHIVE (R491): At the archive interval the dose and ageing maps are written to the dose copy not in use. -/
  | doseArchive (dt : Nat)
  /-- FAULT_ARCHIVE (R492): The store manager copies a new log entry to the fault archive. -/
  | faultArchive (dt : Nat)
  /-- POWER_REQUEST_COMMIT (R497): A power request commit checks the staged domain states and applies them as a set. -/
  | powerRequestCommit (dt : Nat) (rq : Rq)
  /-- DOMAIN_STATE_REACHED (R497): A domain enters its requested state once the accesses in flight to it have completed. -/
  | domainStateReached (dt : Nat) (d : Fin 38)
  /-- DOMAIN_WAKE_COMPLETE (R496): A waking domain becomes ready after restoring its configuration and checking retention signatures. -/
  | domainWakeComplete (dt : Nat) (d : Fin 38) (upset : Fin 16)
  /-- STALL_LIMIT (R498): An access stalled for 200 µs on a domain not yet ready answers WAKING and raises a record. -/
  | stallLimit (dt : Nat)
  /-- WAKE_DETECT (R500): An enabled AON wake detector wakes the domains it names. -/
  | wakeDetect (dt : Nat) (w : Fin 6) (n : Fin 4) (pat : Bool)
  /-- SUPPLY_MONITOR_TRIP (R544): A supply beyond its threshold for 5 µs causes a power-on reset. -/
  | supplyMonitorTrip (dt : Nat) (rail : Fin 8)
  /-- RESET_N_ASSERT (R503): An accepted low pulse on RESET_N resets the device. -/
  | resetNAssert (dt : Nat)
  /-- RESET_N_RELEASE (R503): Release of RESET_N ends the reset and records a long hold. -/
  | resetNRelease (dt : Nat)
  /-- STUCK_RESET (R504): With tolerance on, RESET_N still asserted 500 ms after the reset makes the device ignore the pin and start. -/
  | stuckReset (dt : Nat)
  /-- CLOCK_MONITOR_FAULT (R506): A failed clock check resets the device directly from AON with cause 0x04. -/
  | clockMonitorFault (dt : Nat) (check : Fin 11)
  /-- TEMPERATURE_SAMPLE (R509): The sensors are sampled and the thermal supervisor judges Hot and Cool and broken sensors. -/
  | temperatureSample (dt : Nat) (r : List Int) (mv : Nat)
  /-- GRACE_TIME_END (R511): At the end of the grace time a device that is not Cool enters thermal step 1. -/
  | graceTimeEnd (dt : Nat)
  /-- STEP_INTERVAL_END (R511): At the end of a step interval a Hot device moves to the next thermal step. -/
  | stepIntervalEnd (dt : Nat)
  /-- RELEASE_TIME_END (R511): After Cool for the release time the thermal state steps back. -/
  | releaseTimeEnd (dt : Nat)
  /-- CALIBRATION_RUN (R514): Calibration command 0x01 or a trigger starts a calibration run. -/
  | calibrationRun (dt : Nat) (rq : Rq)
  /-- CALIBRATION_RUN_COMPLETE (R515): A calibration run ends, applying accepted items and rejecting the others. -/
  | calibrationRunComplete (dt : Nat) (a b : List (List Nat))
  /-- CALIBRATION_RETRY (R515): 60 s after a run with rejected items the run is repeated, up to three times. -/
  | calibrationRetry (dt : Nat)
  /-- CALIBRATION_SAVE (R516): Calibration command 0x02 saves the working values into the calibration record not in use. -/
  | calibrationSave (dt : Nat) (rq : Rq)
  /-- CALIBRATION_RELOAD (R516): Calibration command 0x03 reloads the record in use into the working values. -/
  | calibrationReload (dt : Nat) (rq : Rq)
  /-- CRC_START (R524): CRC command 0x01 loads the initial value and runs the descriptor list. -/
  | crcStart (dt : Nat) (rq : Rq) (u : Fin 8)
  /-- CRC_CONTINUE (R524): CRC command 0x02 runs the descriptor list from the present running value. -/
  | crcContinue (dt : Nat) (rq : Rq) (u : Fin 8)
  /-- CRC_ABORT (R524): CRC command 0x03 stops the run at the next 64-bit boundary. -/
  | crcAbort (dt : Nat) (rq : Rq) (u : Fin 8)
  /-- CRC_RUN_END (R523): A check-value run ends done, with an address error or with a memory error. -/
  | crcRunEnd (dt : Nat) (u : Fin 8)
  /-- DAP_CLAIM (R525): A write of 0x01 claims a check-value unit for DAP clients. -/
  | dapClaim (dt : Nat) (rq : Rq) (u : Fin 8)
  /-- DAP_CLAIM_RELEASE (R525): A write of 0x00 releases a check-value unit claimed for DAP. -/
  | dapClaimRelease (dt : Nat) (rq : Rq) (u : Fin 8)
  /-- PCG_START (R527): Counter-group command 0x01 claims the group and starts its counters. -/
  | pcgStart (dt : Nat) (rq : Rq) (g : Fin 12)
  /-- PCG_STOP (R526): Counter-group command 0x02 stops all nine counters in one cycle. -/
  | pcgStop (dt : Nat) (rq : Rq) (g : Fin 12)
  /-- PCG_CLEAR (R526): Counter-group command 0x03 clears the counters and their overflow flags. -/
  | pcgClear (dt : Nat) (rq : Rq) (g : Fin 12)
  /-- PCG_STOP_AND_RELEASE (R527): Counter-group command 0x04 stops the group and releases its claim. -/
  | pcgStopAndRelease (dt : Nat) (rq : Rq) (g : Fin 12)
  /-- TRACE_ARM (R528): Trace command 0x01 claims two banks and arms recording. -/
  | traceArm (dt : Nat) (rq : Rq)
  /-- TRACE_FORCE_TRIGGER (R532): Trace command 0x02 forces the trigger. -/
  | traceForceTrigger (dt : Nat) (rq : Rq)
  /-- TRACE_STOP (R532): Trace command 0x03 stops trace at once. -/
  | traceStop (dt : Nat) (rq : Rq)
  /-- TRACE_RELEASE (R528): Trace command 0x04 frees the trace banks. -/
  | traceRelease (dt : Nat) (rq : Rq)
  /-- TRACE_WRITE (R531): The trace writer takes a record from a probe queue, writes it and advances the trace state. -/
  | traceWrite (dt : Nat)
  /-- BYPASS (R554): The JTAG BYPASS instruction selects the bypass register. -/
  | bypass (dt : Nat)
  /-- IDCODE (R554): The JTAG IDCODE instruction returns 0xB204_8B5F. -/
  | idcode (dt : Nat)
  /-- SAMPLE_PRELOAD (R554): The JTAG SAMPLE/PRELOAD instruction captures and loads the boundary cells. -/
  | samplePreload (dt : Nat) (cells : List Bool)
  /-- EXTEST (R554): The JTAG EXTEST instruction drives the boundary only while both ROADBLOCK_N balls read asserted. -/
  | extest (dt : Nat)
  /-- CLAMP (R554): The JTAG CLAMP instruction holds the boundary only while both ROADBLOCK_N balls read asserted. -/
  | clamp (dt : Nat)
  /-- ROADBLOCK_N_RELEASE (R397): ROADBLOCK_N returns high after its filter, which changes its state entry and starts the 1 ms high time that a Roadblock release requires. -/
  | roadblockNRelease (dt : Nat) (ball : Fin 2)
  /-- STO_N_RELEASE (R398): STO_N returns high after its filter, which changes 0x6000:02 and starts the 1 ms high time that a torque-off release requires. -/
  | stoNRelease (dt : Nat)
  /-- CALIBRATION_SAVE_COMPLETE (R516): A calibration save ends after writing and reading back the record, which sets the save status done or failed and makes the record the one in use. -/
  | calibrationSaveComplete (dt : Nat) (good : Bool)
  /-- KERB_MAPS_ARMED (R141): Within 1 ms of an accepted Kerb-load command the SSV has written, read back and armed the maps, and writes to the staged image are accepted again. -/
  | kerbMapsArmed (dt : Nat)
  /-- APC_PAIR_RESTARTED (R484): An application-core lockstep pair finishes its restart from the firmware slot and takes up DAP service again, so the next step of the restart can begin. -/
  | apcPairRestarted (dt : Nat) (p : Fin 2)
  /-- UNKNOWN_COMMAND (R562): A DAP PDU whose CMD is not a request code of R40 is refused with 0x0101 Unknown command. -/
  | unknownCommand (dt : Nat) (rq : Rq) (cmd key arg : Nat) (data : List Byte)
  /-- CAN_BUS_ERROR (R374): A CAN controller detects a bus error under ISO 11898-1, which updates its error counters and can move it between the error-active and error-passive states. -/
  | canBusError (dt : Nat) (c : Fin 4) (tec rec : Nat)
  /-- IDLE (R220): A return IDLE packet from an endpoint is accepted and keeps the return lane live for the return-loss rule. -/
  | idle (dt : Nat) (e : Fin 8) (head crc : Nat)
  deriving DecidableEq, Repr

end Sys2Proof
end

