-- ==== Sys2Proof/Decode.lean ====
section
/-! DEFINITION. The table's words: no row of spec/opcode_table.json gives bits, so no word spells a command. -/

namespace Sys2Proof

/-- The command that a word spells by the table's bits: none, since the rows have none. [DESIGN CHOICE, log entry 172] -/
def decodeTableWord (_nbits _w : Nat) : Option Instr := none

end Sys2Proof
end

