-- ==== Sys2Proof/Config.lean ====
section
/-! DEFINITION. What the spec leaves to the implementation or leaves open: free values with no body. -/

namespace Sys2Proof.Config

/-- Electrical angle in degrees of an actuator port at Hall count 0: the spec does not give the offset of the Hall sectors (R316).
[DESIGN CHOICE, log entry 84] -/
opaque hallOffset : Nat → Word32

/-- Quadrature counts of one mechanical revolution of an actuator port, which no entry holds (R316, R317). [DESIGN CHOICE, log entry 84] -/
opaque countsPerTurn : Nat → Nat

/-- Whether an ECDSA P-384 signature over a byte string verifies under a key (R472, R473). [DESIGN CHOICE, log entry 11] -/
opaque ecdsaValid : List Byte → List Byte → List Byte → Bool

/-- AES-256-GCM: key, nonce, associated data, cipher text and tag to plain text, or none when the tag fails. [DESIGN CHOICE, log entry 11] -/
opaque gcmOpen : List Byte → List Byte → List Byte → List Byte → List Byte → Option (List Byte)

/-- SHA-384 of a byte string. [DESIGN CHOICE, log entry 11] -/
opaque sha384 : List Byte → List Byte

/-- The ARG of a record whose kind takes a number that the spec does not give: by kind and by input or event of the model.
[DEDUCED, log entry 111; DESIGN CHOICE, log entry 12] -/
opaque argCode : Nat → Nat → Nat

/-- The digest of a frame's inputs that a SIGNATURE carries (R453). [DESIGN CHOICE, log entry 132] -/
opaque inputDigest : List Nat → Nat

/-- The boundary cells that hold their reset state whatever the scan data, by number: the spec gives no cell numbers (R554).
[DESIGN CHOICE, log entry 170] -/
opaque lightCell : Nat → Bool

/-- The level that a boundary cell holds in reset. [DESIGN CHOICE, log entry 170] -/
opaque cellReset : Nat → Bool

/-- Frames that the queues of an Ethernet egress port hold for forwarding, by port and queue: the spec gives no depth (R364).
[DESIGN CHOICE, log entry 99] -/
opaque queueDepth : Nat → Nat → Nat

/-- A value that the spec leaves undefined or random: the n-th one the machine takes. [DESIGN CHOICE, log entry 9] -/
opaque freeValue : Nat → Nat

end Sys2Proof.Config
end

