-- ==== Sys2Proof/Machine/Bits.lean ====
section
/-! DEFINITION. Bit fields, byte order (R16, R35), saturation, and the CRC-32C of R58. -/

namespace Sys2Proof.Machine

/-- Bits [hi:lo] of a value, both ends included (R16). -/
def field (v hi lo : Nat) : Nat := (v >>> lo) % 2 ^ (hi + 1 - lo)

/-- Bit k of a value. -/
def bit (v k : Nat) : Bool := v.testBit k

/-- A flag as the number 0 or 1. -/
def b2n (b : Bool) : Nat := if b then 1 else 0

/-- A value with bit k set to b. -/
def setBit (v k : Nat) (b : Bool) : Nat :=
  if b then v ||| 2 ^ k else if v.testBit k then v - 2 ^ k else v

/-- Number of bits set among the lowest n bits. -/
def popcount (v : Nat) : Nat → Nat
  | 0 => 0
  | n + 1 => popcount v n + b2n (v.testBit n)

/-- The bytes of a multi-byte field as a number, most significant byte first (R16, R35). -/
def be (bs : List Byte) : Nat := bs.foldl (fun a b => a * 256 + b.toNat) 0

/-- A number as n bytes, most significant byte first (R16, R35). -/
def toBe : Nat → Nat → List Byte
  | 0, _ => []
  | n + 1, v => BitVec.ofNat 8 (v / 256 ^ n) :: toBe n v

/-- `n` bytes from offset `o`; bytes beyond the end read 0. -/
def slice (bs : List Byte) (o n : Nat) : List Byte :=
  let r := (bs.drop o).take n
  r ++ List.replicate (n - r.length) 0

/-- The number held in `n` bytes at offset `o`. -/
def beAt (bs : List Byte) (o n : Nat) : Nat := be (slice bs o n)

/-- The byte at an offset, 0 beyond the end. -/
def byteAt (bs : List Byte) (o : Nat) : Nat := beAt bs o 1

/-- A w-bit pattern read as two's complement (R35). -/
def sgn (w v : Nat) : Int :=
  if v % 2 ^ w < 2 ^ (w - 1) then (v % 2 ^ w : Nat) else ((v % 2 ^ w : Nat) : Int) - (2 ^ w : Nat)

/-- The w-bit two's complement pattern of an integer. -/
def unsgn (w : Nat) (v : Int) : Nat := (v % ((2 ^ w : Nat) : Int)).toNat

/-- An integer clamped to an interval. -/
def clampI (lo hi v : Int) : Int := if v < lo then lo else if hi < v then hi else v

/-- A natural number clamped from above: counters and sums that saturate. -/
def satN (hi v : Nat) : Nat := if hi < v then hi else v

/-- Quotient rounded up. -/
def ceilDiv (a b : Nat) : Nat := if b = 0 then 0 else (a + b - 1) / b

/-- Quotient rounded to nearest, halves up. -/
def roundDiv (a b : Nat) : Nat := if b = 0 then 0 else (2 * a + b) / (2 * b)

/-- The element of a list at a position, a default beyond the end. -/
def nth {α : Type} (d : α) (l : List α) (n : Nat) : α := (l[n]?).getD d

/-- The list with one position replaced; a list that ends before it is filled up with the default. -/
def putNth {α : Type} (d : α) (l : List α) (n : Nat) (x : α) : List α :=
  match l, n with
  | [], 0 => [x]
  | [], k + 1 => d :: putNth d [] k x
  | _ :: r, 0 => x :: r
  | a :: r, k + 1 => a :: putNth d r k x

/-- One position of a list changed by a function. -/
def modNth {α : Type} (d : α) (l : List α) (n : Nat) (f : α → α) : List α := putNth d l n (f (nth d l n))

/-- One element of a list changed by a function, where there is one. -/
def updNth {α : Type} (l : List α) (n : Nat) (f : α → α) : List α :=
  match l, n with
  | [], _ => []
  | x :: r, 0 => f x :: r
  | x :: r, k + 1 => x :: updNth r k f

/-- Position of the first element that meets a test. -/
def firstIdx {α : Type} (p : α → Bool) (l : List α) : Option Nat := l.findIdx? p

/-- One bit of a reflected CRC division step. -/
def crcBit (poly c : Nat) : Nat := if c % 2 = 1 then (c / 2).xor poly else c / 2

/-- One byte into the reflected CRC register of R58. -/
def crcByte (c : Nat) (b : Byte) : Nat :=
  let c0 := c.xor b.toNat
  (List.range 8).foldl (fun a _ => crcBit 0x82F63B78 a) c0

/-- The CRC register after bytes. The match on the register only has it evaluated byte by byte: both cases say the same. -/
def crcRun : List Byte → Nat → Nat
  | [], c => c
  | b :: r, 0 => crcRun r (crcByte 0 b)
  | b :: r, c + 1 => crcRun r (crcByte (c + 1) b)

theorem crcRun_eq (bs : List Byte) (c : Nat) : crcRun bs c = bs.foldl crcByte c := by
  induction bs generalizing c with
  | nil => simp [crcRun]
  | cons b r ih => cases c <;> simp [crcRun, ih]

/-- CRC-32C of R58: polynomial 0x1EDC_6F41 (0x82F6_3B78 reflected), initial value and final XOR 0xFFFF_FFFF. -/
def crc32c (bs : List Byte) : Nat := (crcRun bs 0xFFFFFFFF).xor 0xFFFFFFFF

/-- Sequence comparison of R60: x is newer than y. -/
def seqNewer (x y : Nat) : Bool :=
  let d := (x + 2 ^ 32 - y % 2 ^ 32) % 2 ^ 32
  decide (1 ≤ d ∧ d ≤ 2 ^ 31 - 1)

end Sys2Proof.Machine
end

