-- ==== Sys2Proof/Machine/DictTypes.lean ====
section
/-! DEFINITION. The columns of an object table (R19): data types (R35), access classes (R36), ranges, and the record of an index. -/

namespace Sys2Proof.Machine

/-- Data types of R35, and the I8 of 0x7180:0C. -/
inductive Ty where
  | bool | u8 | u16 | u32 | u64 | i8 | i16 | i32 | f32 | fx32 | time64 | str | dom
  deriving DecidableEq, Repr

/-- Access classes of R36. -/
inductive Acc where
  | const | ro | rw | wo | rwp | sw
  deriving DecidableEq, Repr

/-- The Range column: any value of the type, intervals of the value as a signed number, a mask of the bits
that may be set (R17), an interval of binary32 values, or the lengths of a DOM (least, greatest, multiple). -/
inductive Rng where
  | any
  | iv (l : List (Int × Int))
  | bits (mask : Nat)
  | fl (lo hi : BitVec 32)
  | len (lo hi mult : Nat)
  deriving DecidableEq, Repr

/-- One row of an object table, standing for `cnt` consecutive sub-indices. -/
structure Ent where
  sub : Nat
  cnt : Nat
  ty : Ty
  acc : Acc
  dflt : Nat
  rng : Rng
  vol : Bool
  deriving DecidableEq, Repr

/-- The rows of `cnt` consecutive indices of one layout, with the highest sub-index (R38). -/
structure Obj where
  idx : Nat
  cnt : Nat
  hi : Nat
  ents : List Ent
  deriving DecidableEq, Repr

/-- Type size in bytes of a numeric entry (R35); 0 for STR and DOM. -/
def Ty.size : Ty → Nat
  | .bool | .u8 | .i8 => 1
  | .u16 | .i16 => 2
  | .u32 | .i32 | .f32 | .fx32 => 4
  | .u64 | .time64 => 8
  | .str | .dom => 0

/-- STR and DOM entries move by segmented transfer only (R41). -/
def Ty.segmented : Ty → Bool
  | .str | .dom => true
  | _ => false

/-- A pattern of the type as the number the Range column speaks of. -/
def Ty.value (t : Ty) (v : Nat) : Int :=
  match t with
  | .i8 => sgn 8 v
  | .i16 => sgn 16 v
  | .i32 | .fx32 => sgn 32 v
  | _ => v

end Sys2Proof.Machine
end

