-- ==== Sys2Proof/Machine/DictTable.lean ====
section
/-! DEFINITION. The object tables of the spec: one record per dictionary index (R19, R20, R37, R38), chapter by chapter. -/

namespace Sys2Proof.Machine

/-- Object records of chapter 00. -/
def objsIdentity : List Obj := [
  -- Identity (R7)
  ⟨0x1018, 1, 0x05, [
    ⟨0x01, 1, .u32, .const, 0x5A4C47, .any, false⟩,
    ⟨0x02, 1, .u32, .const, 0x2048, .any, false⟩,
    ⟨0x03, 1, .u8, .const, 0xB0, .any, false⟩,
    ⟨0x04, 1, .u64, .const, 0x0, .any, false⟩,
    ⟨0x05, 1, .u8, .const, 0x1, .any, false⟩]⟩]

/-- Object records of chapter 02. -/
def objsStates : List Obj := [
  -- CAN DAP (R50)
  ⟨0x1200, 1, 0x03, [
    ⟨0x01, 1, .u8, .rwp, 0x0, (.iv [(0, 3), (255, 255)]), false⟩,
    ⟨0x02, 1, .u32, .rwp, 0x6A0, .any, false⟩,
    ⟨0x03, 1, .u32, .rwp, 0x5A0, .any, false⟩]⟩,
  -- UDP DAP (R50)
  ⟨0x1210, 1, 0x02, [
    ⟨0x01, 1, .u16, .rwp, 0xC422, (.iv [(1024, 65535)]), false⟩,
    ⟨0x02, 1, .u8, .rwp, 0x3, (.bits 0x3), false⟩]⟩,
  -- HSPI DAP (R50)
  ⟨0x1220, 1, 0x01, [
    ⟨0x01, 1, .bool, .rwp, 0x1, (.iv [(0, 1)]), false⟩]⟩,
  -- DAP service (R50)
  ⟨0x1230, 1, 0x02, [
    ⟨0x01, 1, .u32, .rw, 0x1F4, (.iv [(10, 60000)]), false⟩,
    ⟨0x02, 1, .u8, .ro, 0x0, .any, false⟩]⟩,
  -- Device state (R55)
  ⟨0x2000, 1, 0x04, [
    ⟨0x01, 1, .u8, .ro, 0x0, .any, false⟩,
    ⟨0x02, 1, .u8, .rw, 0x1, (.iv [(1, 1), (2, 2)]), false⟩,
    ⟨0x03, 1, .bool, .rwp, 0x0, (.iv [(0, 1)]), false⟩,
    ⟨0x04, 1, .u8, .ro, 0x1, .any, false⟩]⟩,
  -- Store control (R64)
  ⟨0x2010, 1, 0x03, [
    ⟨0x01, 1, .u8, .wo, 0x0, (.iv [(1, 1), (2, 2), (3, 3)]), false⟩,
    ⟨0x02, 1, .u8, .ro, 0x0, .any, false⟩,
    ⟨0x03, 1, .u16, .ro, 0x0, .any, false⟩]⟩,
  -- Configuration copies (R64)
  ⟨0x2011, 1, 0x06, [
    ⟨0x01, 1, .u8, .ro, 0x0, .any, false⟩,
    ⟨0x02, 1, .u32, .ro, 0x0, .any, false⟩,
    ⟨0x03, 1, .u32, .ro, 0x0, .any, false⟩,
    ⟨0x04, 1, .u8, .ro, 0x0, .any, false⟩,
    ⟨0x05, 1, .u16, .ro, 0x0, .any, false⟩,
    ⟨0x06, 1, .u32, .ro, 0x0, .any, false⟩]⟩,
  -- Claim table (R66)
  ⟨0x2041, 1, 0xF6, [
    ⟨0x01, 246, .u32, .ro, 0x0, .any, false⟩]⟩]

/-- Object records of chapter 03. -/
def objsGeometry : List Obj := [
  -- Mounting (R76)
  ⟨0x3000, 1, 0x07, [
    ⟨0x01, 1, .fx32, .rwp, 0x0, (.iv [(-655360, 655360)]), false⟩,
    ⟨0x02, 1, .fx32, .rwp, 0x0, (.iv [(-655360, 655360)]), false⟩,
    ⟨0x03, 1, .fx32, .rwp, 0x0, (.iv [(-655360, 655360)]), false⟩,
    ⟨0x04, 1, .fx32, .rwp, 0xB333, (.iv [(13107, 327680)]), false⟩,
    ⟨0x05, 1, .fx32, .rw, 0x640000, (.iv [(327680, 39321600)]), false⟩,
    ⟨0x06, 1, .u8, .rwp, 0x0, (.iv [(0, 0), (1, 1)]), false⟩,
    ⟨0x07, 1, .u32, .rwp, 0x0, (.iv [(0, 500000)]), false⟩]⟩,
  -- Mesh S0 (R81)
  ⟨0x3100, 4, 0x05, [
    ⟨0x01, 1, .dom, .rw, 0x0, (.len 17180 17180 1), false⟩,
    ⟨0x02, 1, .u8, .wo, 0x0, (.iv [(1, 1)]), false⟩,
    ⟨0x03, 1, .u32, .ro, 0x0, .any, false⟩,
    ⟨0x04, 1, .u32, .ro, 0x0, .any, false⟩,
    ⟨0x05, 1, .u16, .ro, 0x0, .any, false⟩]⟩,
  -- Levelling (R86)
  ⟨0x3010, 1, 0x0A, [
    ⟨0x01, 1, .u8, .rwp, 0x1, (.iv [(0, 3)]), false⟩,
    ⟨0x02, 1, .fx32, .rw, 0x0, (.iv [(-327680, 327680)]), false⟩,
    ⟨0x03, 1, .fx32, .rwp, 0x30000, (.iv [(0, 393216)]), false⟩,
    ⟨0x04, 1, .u16, .rw, 0x14, (.iv [(0, 5000)]), false⟩,
    ⟨0x05, 1, .fx32, .rw, 0x140000, (.iv [(6554, 6553600)]), false⟩,
    ⟨0x06, 1, .u16, .rw, 0x7D0, (.iv [(100, 20000)]), false⟩,
    ⟨0x07, 1, .u16, .rw, 0x64, (.iv [(10, 1000)]), false⟩,
    ⟨0x08, 1, .fx32, .ro, 0x0, .any, false⟩,
    ⟨0x09, 1, .u8, .ro, 0x0, .any, false⟩,
    ⟨0x0A, 1, .u8, .rwp, 0xFF, (.iv [(0, 7), (255, 255)]), false⟩]⟩,
  -- Geometry L0 (R91)
  ⟨0x3300, 7, 0x15, [
    ⟨0x01, 1, .u8, .rw, 0x0, (.iv [(0, 3)]), false⟩,
    ⟨0x02, 1, .bool, .rw, 0x1, (.iv [(0, 1)]), false⟩,
    ⟨0x03, 1, .u16, .rw, 0x0, (.iv [(0, 8191)]), false⟩,
    ⟨0x04, 1, .u16, .rw, 0x0, (.iv [(0, 8191)]), false⟩,
    ⟨0x05, 1, .u16, .rw, 0x800, (.iv [(1, 8192)]), false⟩,
    ⟨0x06, 1, .u16, .rw, 0x400, (.iv [(1, 8192)]), false⟩,
    ⟨0x07, 1, .f32, .rw, 0xC24CCCCD, .any, false⟩,
    ⟨0x08, 1, .f32, .rw, 0x0, .any, false⟩,
    ⟨0x09, 1, .f32, .rw, 0x44800000, .any, false⟩,
    ⟨0x0A, 1, .f32, .rw, 0x0, .any, false⟩,
    ⟨0x0B, 1, .f32, .rw, 0xC24CCCCD, .any, false⟩,
    ⟨0x0C, 1, .f32, .rw, 0x44000000, .any, false⟩,
    ⟨0x0D, 1, .f32, .rw, 0x0, .any, false⟩,
    ⟨0x0E, 1, .f32, .rw, 0x0, .any, false⟩,
    ⟨0x0F, 1, .f32, .rw, 0x3F800000, .any, false⟩,
    ⟨0x10, 1, .fx32, .rw, 0xA0000, (.iv [(32768, 13107200)]), false⟩,
    ⟨0x11, 1, .fx32, .rw, 0x140000, (.iv [(65536, 13107200)]), false⟩,
    ⟨0x12, 1, .fx32, .rw, 0x10000, (.iv [(-3276800, 3276800)]), false⟩,
    ⟨0x13, 1, .fx32, .rw, 0xFFFF0000, (.iv [(-3276800, 3276800)]), false⟩,
    ⟨0x14, 1, .u8, .ro, 0x0, .any, false⟩,
    ⟨0x15, 1, .u32, .ro, 0x0, .any, false⟩]⟩,
  -- Class 0x00 (R112)
  ⟨0x3210, 2, 0x08, [
    ⟨0x01, 1, .u8, .rw, 0x1, (.iv [(0, 0), (1, 1), (2, 2)]), false⟩,
    ⟨0x02, 1, .u16, .rw, 0x0, (.iv [(0, 65535)]), false⟩,
    ⟨0x03, 1, .fx32, .rw, 0x4CCD, (.iv [(0, 327680)]), false⟩,
    ⟨0x04, 1, .fx32, .rw, 0x3333, (.iv [(0, 327680)]), false⟩,
    ⟨0x05, 1, .fx32, .rw, 0x10000, (.iv [(0, 3276800)]), false⟩,
    ⟨0x06, 1, .fx32, .rw, 0x4000, (.iv [(0, 131072)]), false⟩,
    ⟨0x07, 1, .u16, .rw, 0xFFFF, (.iv [(1, 65535)]), false⟩,
    ⟨0x08, 1, .fx32, .rw, 0x20000, (.iv [(0, 655360)]), false⟩]⟩,
  -- Class 0x00 (R112)
  ⟨0x3212, 1, 0x08, [
    ⟨0x01, 1, .u8, .rw, 0x1, (.iv [(0, 0), (1, 1), (2, 2)]), false⟩,
    ⟨0x02, 1, .u16, .rw, 0x0, (.iv [(0, 65535)]), false⟩,
    ⟨0x03, 1, .fx32, .rw, 0x4000, (.iv [(0, 327680)]), false⟩,
    ⟨0x04, 1, .fx32, .rw, 0x2666, (.iv [(0, 327680)]), false⟩,
    ⟨0x05, 1, .fx32, .rw, 0x8000, (.iv [(0, 3276800)]), false⟩,
    ⟨0x06, 1, .fx32, .rw, 0x4000, (.iv [(0, 131072)]), false⟩,
    ⟨0x07, 1, .u16, .rw, 0xFFFF, (.iv [(1, 65535)]), false⟩,
    ⟨0x08, 1, .fx32, .rw, 0x20000, (.iv [(0, 655360)]), false⟩]⟩,
  -- Class 0x00 (R112)
  ⟨0x3213, 1, 0x08, [
    ⟨0x01, 1, .u8, .rw, 0x1, (.iv [(0, 0), (1, 1), (2, 2)]), false⟩,
    ⟨0x02, 1, .u16, .rw, 0x0, (.iv [(0, 65535)]), false⟩,
    ⟨0x03, 1, .fx32, .rw, 0x3333, (.iv [(0, 327680)]), false⟩,
    ⟨0x04, 1, .fx32, .rw, 0x199A, (.iv [(0, 327680)]), false⟩,
    ⟨0x05, 1, .fx32, .rw, 0x20000, (.iv [(0, 3276800)]), false⟩,
    ⟨0x06, 1, .fx32, .rw, 0x3333, (.iv [(0, 131072)]), false⟩,
    ⟨0x07, 1, .u16, .rw, 0x4000, (.iv [(1, 65535)]), false⟩,
    ⟨0x08, 1, .fx32, .rw, 0x20000, (.iv [(0, 655360)]), false⟩]⟩,
  -- Class 0x00 (R112)
  ⟨0x3214, 1, 0x08, [
    ⟨0x01, 1, .u8, .rw, 0x1, (.iv [(0, 0), (1, 1), (2, 2)]), false⟩,
    ⟨0x02, 1, .u16, .rw, 0x0, (.iv [(0, 65535)]), false⟩,
    ⟨0x03, 1, .fx32, .rw, 0x4000, (.iv [(0, 327680)]), false⟩,
    ⟨0x04, 1, .fx32, .rw, 0x2666, (.iv [(0, 327680)]), false⟩,
    ⟨0x05, 1, .fx32, .rw, 0x20000, (.iv [(0, 3276800)]), false⟩,
    ⟨0x06, 1, .fx32, .rw, 0x3333, (.iv [(0, 131072)]), false⟩,
    ⟨0x07, 1, .u16, .rw, 0x6000, (.iv [(1, 65535)]), false⟩,
    ⟨0x08, 1, .fx32, .rw, 0x20000, (.iv [(0, 655360)]), false⟩]⟩]

/-- Object records of chapter 03. -/
def objsGeometry2 : List Obj := [
  -- Class 0x00 (R112)
  ⟨0x3215, 1, 0x08, [
    ⟨0x01, 1, .u8, .rw, 0x1, (.iv [(0, 0), (1, 1), (2, 2)]), false⟩,
    ⟨0x02, 1, .u16, .rw, 0x4000, (.iv [(0, 65535)]), false⟩,
    ⟨0x03, 1, .fx32, .rw, 0x199A, (.iv [(0, 327680)]), false⟩,
    ⟨0x04, 1, .fx32, .rw, 0x199A, (.iv [(0, 327680)]), false⟩,
    ⟨0x05, 1, .fx32, .rw, 0x8000, (.iv [(0, 3276800)]), false⟩,
    ⟨0x06, 1, .fx32, .rw, 0x199A, (.iv [(0, 131072)]), false⟩,
    ⟨0x07, 1, .u16, .rw, 0xFFFF, (.iv [(1, 65535)]), false⟩,
    ⟨0x08, 1, .fx32, .rw, 0x10000, (.iv [(0, 655360)]), false⟩]⟩,
  -- Class 0x00 (R112)
  ⟨0x3216, 1, 0x08, [
    ⟨0x01, 1, .u8, .rw, 0x2, (.iv [(0, 0), (1, 1), (2, 2)]), false⟩,
    ⟨0x02, 1, .u16, .rw, 0x4000, (.iv [(0, 65535)]), false⟩,
    ⟨0x03, 1, .fx32, .rw, 0x3333, (.iv [(0, 327680)]), false⟩,
    ⟨0x04, 1, .fx32, .rw, 0x199A, (.iv [(0, 327680)]), false⟩,
    ⟨0x05, 1, .fx32, .rw, 0x20000, (.iv [(0, 3276800)]), false⟩,
    ⟨0x06, 1, .fx32, .rw, 0x4CCD, (.iv [(0, 131072)]), false⟩,
    ⟨0x07, 1, .u16, .rw, 0xFFFF, (.iv [(1, 65535)]), false⟩,
    ⟨0x08, 1, .fx32, .rw, 0x20000, (.iv [(0, 655360)]), false⟩]⟩,
  -- Class 0x00 (R112)
  ⟨0x3217, 1, 0x08, [
    ⟨0x01, 1, .u8, .rw, 0x2, (.iv [(0, 0), (1, 1), (2, 2)]), false⟩,
    ⟨0x02, 1, .u16, .rw, 0x4000, (.iv [(0, 65535)]), false⟩,
    ⟨0x03, 1, .fx32, .rw, 0x4CCD, (.iv [(0, 327680)]), false⟩,
    ⟨0x04, 1, .fx32, .rw, 0x3333, (.iv [(0, 327680)]), false⟩,
    ⟨0x05, 1, .fx32, .rw, 0x20000, (.iv [(0, 3276800)]), false⟩,
    ⟨0x06, 1, .fx32, .rw, 0x4CCD, (.iv [(0, 131072)]), false⟩,
    ⟨0x07, 1, .u16, .rw, 0xFFFF, (.iv [(1, 65535)]), false⟩,
    ⟨0x08, 1, .fx32, .rw, 0x20000, (.iv [(0, 655360)]), false⟩]⟩,
  -- Class 0x00 (R112)
  ⟨0x3218, 8, 0x08, [
    ⟨0x01, 1, .u8, .rw, 0x0, (.iv [(0, 0), (1, 1), (2, 2)]), false⟩,
    ⟨0x02, 1, .u16, .rw, 0x0, (.iv [(0, 65535)]), false⟩,
    ⟨0x03, 1, .fx32, .rw, 0x0, (.iv [(0, 327680)]), false⟩,
    ⟨0x04, 1, .fx32, .rw, 0x0, (.iv [(0, 327680)]), false⟩,
    ⟨0x05, 1, .fx32, .rw, 0x0, (.iv [(0, 3276800)]), false⟩,
    ⟨0x06, 1, .fx32, .rw, 0x0, (.iv [(0, 131072)]), false⟩,
    ⟨0x07, 1, .u16, .rw, 0xFFFF, (.iv [(1, 65535)]), false⟩,
    ⟨0x08, 1, .fx32, .rw, 0x0, (.iv [(0, 655360)]), false⟩]⟩,
  -- Cut-off mask (R117)
  ⟨0x3020, 1, 0x03, [
    ⟨0x01, 1, .dom, .rw, 0x0, (.len 16 64 8), false⟩,
    ⟨0x02, 1, .fx32, .rw, 0x4CCD, (.iv [(0, 131072)]), false⟩,
    ⟨0x03, 1, .u16, .rw, 0x0, (.iv [(0, 65535)]), false⟩]⟩,
  -- Object input (R118)
  ⟨0x3200, 1, 0x10, [
    ⟨0x01, 1, .u16, .rwp, 0xC490, (.iv [(1024, 65535)]), false⟩,
    ⟨0x02, 1, .u8, .rwp, 0x3, (.bits 0x3), false⟩,
    ⟨0x03, 1, .u16, .rw, 0x96, (.iv [(20, 1000)]), false⟩,
    ⟨0x04, 1, .u16, .rw, 0x50, (.iv [(5, 500)]), false⟩,
    ⟨0x05, 1, .u16, .rw, 0x2, (.iv [(1, 20)]), false⟩,
    ⟨0x06, 1, .u8, .rw, 0x2, (.iv [(1, 10)]), false⟩,
    ⟨0x07, 1, .u16, .rw, 0xC8, (.iv [(0, 2000)]), false⟩,
    ⟨0x08, 1, .u16, .rw, 0x5, (.iv [(1, 50)]), false⟩,
    ⟨0x09, 1, .u32, .ro, 0x0, .any, false⟩,
    ⟨0x0A, 1, .u32, .ro, 0x0, .any, false⟩,
    ⟨0x0B, 1, .u8, .ro, 0x0, .any, false⟩,
    ⟨0x0C, 1, .u8, .ro, 0x1, .any, false⟩,
    ⟨0x0D, 1, .u32, .ro, 0x0, .any, false⟩,
    ⟨0x0E, 1, .u32, .ro, 0x0, .any, false⟩,
    ⟨0x0F, 1, .u32, .ro, 0x0, .any, false⟩,
    ⟨0x10, 1, .u32, .ro, 0x0, .any, false⟩]⟩]

/-- Object records of chapter 04. -/
def objsCompositor : List Obj := [
  -- Layer L0 (R126)
  ⟨0x3400, 7, 0x19, [
    ⟨0x01, 1, .bool, .rw, 0x0, (.iv [(0, 1)]), false⟩,
    ⟨0x02, 1, .u8, .rw, 0x0, (.iv [(0, 0), (1, 5)]), false⟩,
    ⟨0x03, 1, .u8, .rw, 0x0, .any, false⟩,
    ⟨0x04, 1, .u8, .rw, 0x0, (.iv [(0, 0), (1, 1)]), false⟩,
    ⟨0x05, 1, .u16, .rw, 0x800, (.iv [(1, 8192)]), false⟩,
    ⟨0x06, 1, .u16, .rw, 0x400, (.iv [(1, 8192)]), false⟩,
    ⟨0x07, 1, .u8, .rw, 0x0, (.iv [(0, 4)]), false⟩,
    ⟨0x08, 1, .u16, .rw, 0xFFFF, (.iv [(0, 65535)]), false⟩,
    ⟨0x09, 1, .u8, .rw, 0x1, (.bits 0xF), false⟩,
    ⟨0x0A, 1, .u8, .rw, 0x0, (.iv [(0, 0), (1, 1), (2, 2)]), false⟩,
    ⟨0x0B, 1, .u16, .rw, 0x0, .any, false⟩,
    ⟨0x0C, 1, .u16, .rw, 0x32, (.iv [(5, 1000)]), false⟩,
    ⟨0x0D, 1, .u16, .rw, 0x0, .any, false⟩,
    ⟨0x0E, 1, .u16, .rw, 0xFFFF, .any, false⟩,
    ⟨0x0F, 1, .u16, .rw, 0x10, (.iv [(1, 8192)]), false⟩,
    ⟨0x10, 1, .fx32, .rw, 0x3E80000, (.iv [(65536, 655360000)]), false⟩,
    ⟨0x11, 1, .u16, .rw, 0x0, (.iv [(0, 60000)]), false⟩,
    ⟨0x12, 1, .u16, .rw, 0x40, (.iv [(0, 512)]), false⟩,
    ⟨0x13, 1, .u16, .ro, 0x0, .any, false⟩,
    ⟨0x14, 1, .u8, .wo, 0x0, (.iv [(1, 1)]), false⟩,
    ⟨0x15, 1, .u32, .ro, 0x0, .any, false⟩,
    ⟨0x16, 1, .u16, .ro, 0x0, .any, false⟩,
    ⟨0x17, 1, .u8, .ro, 0x0, .any, false⟩,
    ⟨0x18, 1, .bool, .rw, 0x0, (.iv [(0, 1)]), false⟩,
    ⟨0x19, 1, .dom, .rw, 0x0, (.len 2048 2048 1), false⟩]⟩,
  -- Group commit (R129)
  ⟨0x3410, 1, 0x03, [
    ⟨0x01, 1, .u8, .wo, 0x0, (.iv [(1, 127)]), false⟩,
    ⟨0x02, 1, .u16, .ro, 0x0, .any, false⟩,
    ⟨0x03, 1, .u32, .ro, 0x0, .any, false⟩]⟩,
  -- Region management (R136)
  ⟨0x3420, 1, 0x04, [
    ⟨0x01, 1, .u32, .wo, 0x0, .any, false⟩,
    ⟨0x02, 1, .u8, .wo, 0x0, (.iv [(0, 31)]), false⟩,
    ⟨0x03, 1, .u8, .ro, 0xFF, .any, false⟩,
    ⟨0x04, 1, .u16, .ro, 0x0, .any, false⟩]⟩,
  -- Region 0 (R136)
  ⟨0x3440, 32, 0x07, [
    ⟨0x01, 1, .u8, .ro, 0x0, .any, false⟩,
    ⟨0x02, 1, .u8, .ro, 0x7, .any, false⟩,
    ⟨0x03, 1, .u32, .ro, 0x0, .any, false⟩,
    ⟨0x04, 1, .u16, .ro, 0x0, .any, false⟩,
    ⟨0x05, 1, .bool, .rw, 0x0, (.iv [(0, 1)]), true⟩,
    ⟨0x06, 1, .dom, .rw, 0x0, (.len 0 33554432 1), true⟩,
    ⟨0x07, 1, .u32, .ro, 0x0, .any, false⟩]⟩,
  -- Compositor S0 (R137)
  ⟨0x4000, 4, 0x04, [
    ⟨0x01, 1, .u16, .rw, 0x0, .any, false⟩,
    ⟨0x02, 1, .u8, .rwp, 0x7, (.bits 0x7), false⟩,
    ⟨0x03, 1, .u32, .ro, 0x0, .any, false⟩,
    ⟨0x04, 1, .u32, .ro, 0x0, .any, false⟩]⟩,
  -- Kerb layer (R144)
  ⟨0x4100, 1, 0x09, [
    ⟨0x01, 1, .dom, .rw, 0x0, (.len 0 262196 1), true⟩,
    ⟨0x02, 1, .u32, .ro, 0x0, .any, false⟩,
    ⟨0x03, 1, .u32, .ro, 0x0, .any, false⟩,
    ⟨0x04, 1, .u32, .ro, 0x0, .any, false⟩,
    ⟨0x05, 1, .u8, .ro, 0x0, .any, false⟩,
    ⟨0x06, 1, .u32, .ro, 0x0, .any, false⟩,
    ⟨0x07, 1, .u8, .ro, 0x0, .any, false⟩,
    ⟨0x08, 1, .u8, .ro, 0x0, .any, false⟩,
    ⟨0x09, 1, .u32, .ro, 0x0, .any, false⟩]⟩,
  -- Uniformity S0 (R146)
  ⟨0x4200, 4, 0x05, [
    ⟨0x01, 1, .u8, .rwp, 0x0, (.iv [(0, 3)]), false⟩,
    ⟨0x02, 1, .dom, .rw, 0x0, (.len 4294 4294 1), false⟩,
    ⟨0x03, 1, .u8, .wo, 0x0, (.iv [(1, 1)]), false⟩,
    ⟨0x04, 1, .dom, .rwp, 0x0, (.len 0 4194304 1), true⟩,
    ⟨0x05, 1, .u8, .ro, 0x0, .any, false⟩]⟩,
  -- Dead pixels S0 (R149)
  ⟨0x4210, 4, 0x05, [
    ⟨0x01, 1, .u16, .rw, 0x8000, (.iv [(0, 65535)]), false⟩,
    ⟨0x02, 1, .u32, .ro, 0x0, .any, false⟩,
    ⟨0x03, 1, .dom, .ro, 0x0, .any, false⟩,
    ⟨0x04, 1, .dom, .rwp, 0x0, (.len 0 262144 1), false⟩,
    ⟨0x05, 1, .u8, .wo, 0x0, (.iv [(1, 1)]), false⟩]⟩]

/-- Object records of chapter 04. -/
def objsCompositor2 : List Obj := [
  -- Ageing S0 (R152)
  ⟨0x4220, 4, 0x08, [
    ⟨0x01, 1, .dom, .rw, 0x0, (.len 196 196 1), false⟩,
    ⟨0x02, 1, .u8, .rw, 0x0, (.iv [(0, 2)]), false⟩,
    ⟨0x03, 1, .u16, .rw, 0xA000, (.iv [(32768, 65535)]), false⟩,
    ⟨0x04, 1, .u16, .rw, 0x21, (.iv [(1, 2048)]), false⟩,
    ⟨0x05, 1, .time64, .ro, 0x0, .any, false⟩,
    ⟨0x06, 1, .u32, .ro, 0x0, .any, false⟩,
    ⟨0x07, 1, .u8, .rwp, 0x0, (.iv [(1, 1)]), false⟩,
    ⟨0x08, 1, .u32, .ro, 0x0, .any, false⟩]⟩,
  -- Budget S0 (R157); a host budget below 0 lies below the floor requirement and is clamped (R156)
  ⟨0x4240, 4, 0x0D, [
    ⟨0x01, 1, .f32, .rw, 0x461C4000, (.fl 0xFF7FFFFF 0x461C4000), false⟩,
    ⟨0x02, 1, .f32, .ro, 0x461C4000, .any, false⟩,
    ⟨0x03, 1, .u8, .ro, 0x0, .any, false⟩,
    ⟨0x04, 1, .f32, .rwp, 0x3F800000, (.fl 0x00000000 0x461C4000), false⟩,
    ⟨0x05, 1, .f32, .rwp, 0x0, (.fl 0x00000000 0x461C4000), false⟩,
    ⟨0x06, 1, .u16, .rw, 0xC8, (.iv [(10, 10000)]), false⟩,
    ⟨0x07, 1, .u16, .rw, 0xC8, (.iv [(10, 10000)]), false⟩,
    ⟨0x08, 1, .u16, .rw, 0x64, (.iv [(0, 2000)]), false⟩,
    ⟨0x09, 1, .f32, .ro, 0x0, .any, false⟩,
    ⟨0x0A, 1, .f32, .ro, 0x0, .any, false⟩,
    ⟨0x0B, 1, .f32, .ro, 0x0, .any, false⟩,
    ⟨0x0C, 1, .u16, .ro, 0xFFFF, .any, false⟩,
    ⟨0x0D, 1, .u8, .ro, 0x0, .any, false⟩]⟩]

/-- Object records of chapter 05. -/
def objsScanOut : List Obj := [
  -- Source S0 (R176)
  ⟨0x4330, 4, 0x05, [
    ⟨0x01, 1, .bool, .rwp, 0x0, (.iv [(0, 1)]), false⟩,
    ⟨0x02, 1, .u8, .rwp, 0x0, (.iv [(0, 0), (1, 1), (2, 2), (3, 3), (4, 4)]), false⟩,
    ⟨0x03, 1, .u16, .rwp, 0x800, (.iv [(1, 2048)]), false⟩,
    ⟨0x04, 1, .u16, .rwp, 0x400, (.iv [(1, 1024)]), false⟩,
    ⟨0x05, 1, .u32, .ro, 0x0, .any, false⟩]⟩,
  -- Scan-out (R184)
  ⟨0x4300, 1, 0x1D, [
    ⟨0x01, 1, .u8, .rwp, 0x0, (.iv [(0, 0), (1, 1)]), false⟩,
    ⟨0x02, 1, .f32, .rwp, 0x43700000, (.fl 0x42700000 0x43F00000), false⟩,
    ⟨0x03, 1, .u16, .rwp, 0x400, (.iv [(16, 2048)]), false⟩,
    ⟨0x04, 1, .u16, .rwp, 0x10, (.iv [(8, 256)]), false⟩,
    ⟨0x05, 1, .u8, .rw, 0x4, (.iv [(1, 64)]), false⟩,
    ⟨0x06, 1, .u16, .rw, 0x80, (.iv [(40, 400)]), false⟩,
    ⟨0x07, 1, .u8, .rwp, 0x0, (.iv [(0, 0), (1, 1), (2, 2)]), false⟩,
    ⟨0x08, 1, .u8, .rwp, 0x8, (.iv [(1, 16)]), false⟩,
    ⟨0x09, 1, .u8, .rwp, 0x0, (.iv [(0, 0), (1, 1)]), false⟩,
    ⟨0x0A, 1, .u32, .rw, 0x0, (.iv [(0, 999999999)]), false⟩,
    ⟨0x0B, 1, .u16, .rw, 0x3E8, (.iv [(0, 60000)]), false⟩,
    ⟨0x0C, 1, .u16, .rw, 0xA, (.iv [(1, 100)]), false⟩,
    ⟨0x0D, 1, .time64, .rwp, 0x0, .any, false⟩,
    ⟨0x0E, 1, .u8, .ro, 0x0, .any, false⟩,
    ⟨0x0F, 1, .i32, .ro, 0x0, .any, false⟩,
    ⟨0x10, 1, .u32, .ro, 0x0, .any, false⟩,
    ⟨0x11, 1, .u32, .ro, 0x0, .any, false⟩,
    ⟨0x12, 1, .u32, .ro, 0x0, .any, false⟩,
    ⟨0x13, 1, .u32, .ro, 0x0, .any, false⟩,
    ⟨0x14, 1, .u16, .ro, 0x0, .any, false⟩,
    ⟨0x15, 1, .u8, .ro, 0x0, .any, false⟩,
    ⟨0x16, 1, .u32, .ro, 0x0, .any, false⟩,
    ⟨0x17, 1, .u32, .rw, 0x0, (.iv [(0, 999999999)]), false⟩,
    ⟨0x18, 1, .u32, .rw, 0x0, (.iv [(0, 999999999)]), false⟩,
    ⟨0x19, 1, .u8, .ro, 0x0, .any, false⟩,
    ⟨0x1A, 1, .u8, .rwp, 0x0, (.iv [(0, 0), (1, 1), (2, 2), (3, 3)]), false⟩,
    ⟨0x1B, 1, .u16, .rw, 0xA, (.iv [(1, 1000)]), false⟩,
    ⟨0x1C, 1, .u8, .wo, 0x0, (.iv [(1, 1)]), false⟩,
    ⟨0x1D, 1, .u16, .ro, 0x0, .any, false⟩]⟩,
  -- Frame store (R185)
  ⟨0x4310, 1, 0x09, [
    ⟨0x01, 1, .u16, .rw, 0x3E8, (.iv [(700, 60000)]), false⟩,
    ⟨0x02, 1, .u32, .ro, 0x0, .any, false⟩,
    ⟨0x03, 1, .u32, .ro, 0x0, .any, false⟩,
    ⟨0x04, 1, .u32, .ro, 0x0, .any, false⟩,
    ⟨0x05, 1, .u32, .ro, 0x0, .any, false⟩,
    ⟨0x06, 1, .u16, .ro, 0x0, .any, false⟩,
    ⟨0x07, 1, .u16, .ro, 0x0, .any, false⟩,
    ⟨0x08, 1, .u16, .ro, 0x0, .any, false⟩,
    ⟨0x09, 1, .u32, .ro, 0x0, .any, false⟩]⟩,
  -- Scan-out S0 (R186)
  ⟨0x4320, 4, 0x08, [
    ⟨0x01, 1, .u32, .ro, 0x0, .any, false⟩,
    ⟨0x02, 1, .time64, .ro, 0x0, .any, false⟩,
    ⟨0x03, 1, .u32, .ro, 0x0, .any, false⟩,
    ⟨0x04, 1, .u32, .ro, 0x0, .any, false⟩,
    ⟨0x05, 1, .u32, .ro, 0x0, .any, false⟩,
    ⟨0x06, 1, .u16, .ro, 0x0, .any, false⟩,
    ⟨0x07, 1, .u32, .ro, 0x0, .any, false⟩,
    ⟨0x08, 1, .u8, .ro, 0x0, .any, false⟩]⟩]

/-- Object records of chapter 06. -/
def objsTileLink : List Obj := [
  -- Endpoint E0 (R230)
  ⟨0x4400, 8, 0x19, [
    ⟨0x01, 1, .bool, .rwp, 0x0, (.iv [(0, 1)]), false⟩,
    ⟨0x02, 1, .u8, .rwp, 0x0, (.iv [(0, 3)]), false⟩,
    ⟨0x03, 1, .u8, .rwp, 0x1, (.iv [(1, 1), (2, 2)]), false⟩,
    ⟨0x04, 1, .u8, .rwp, 0x0, (.iv [(0, 3)]), false⟩,
    ⟨0x05, 1, .u8, .rwp, 0x3, (.iv [(1, 15)]), false⟩,
    ⟨0x06, 1, .u16, .rwp, 0x0, (.iv [(0, 2047)]), false⟩,
    ⟨0x07, 1, .u16, .rwp, 0x0, (.iv [(0, 1023)]), false⟩,
    ⟨0x08, 1, .u8, .rwp, 0xC, (.iv [(8, 8), (10, 10), (12, 12), (16, 16)]), false⟩,
    ⟨0x09, 1, .u16, .rwp, 0x0, (.iv [(0, 20000)]), false⟩,
    ⟨0x0A, 1, .u8, .ro, 0x0, .any, false⟩,
    ⟨0x0B, 1, .u8, .ro, 0x0, .any, false⟩,
    ⟨0x0C, 1, .i16, .ro, 0x0, .any, false⟩,
    ⟨0x0D, 1, .u16, .ro, 0x0, .any, false⟩,
    ⟨0x0E, 1, .u8, .ro, 0x1, .any, false⟩,
    ⟨0x0F, 1, .u32, .ro, 0x0, .any, false⟩,
    ⟨0x10, 1, .u32, .ro, 0x0, .any, false⟩,
    ⟨0x11, 1, .u32, .ro, 0x0, .any, false⟩,
    ⟨0x12, 1, .u32, .ro, 0x0, .any, false⟩,
    ⟨0x13, 1, .u32, .ro, 0x0, .any, false⟩,
    ⟨0x14, 1, .u32, .ro, 0x0, .any, false⟩,
    ⟨0x15, 1, .u32, .ro, 0x0, .any, false⟩,
    ⟨0x16, 1, .u32, .ro, 0x0, .any, false⟩,
    ⟨0x17, 1, .u32, .ro, 0x0, .any, false⟩,
    ⟨0x18, 1, .u16, .rwp, 0x400, (.iv [(16, 2048)]), false⟩,
    ⟨0x19, 1, .u16, .rwp, 0x200, (.iv [(16, 1024)]), false⟩]⟩,
  -- Tile Link (R231)
  ⟨0x4410, 1, 0x07, [
    ⟨0x01, 1, .u16, .rwp, 0xFA0, (.iv [(2000, 20000)]), false⟩,
    ⟨0x02, 1, .u8, .rw, 0x3, (.iv [(0, 7)]), false⟩,
    ⟨0x03, 1, .u32, .rw, 0x0, (.bits 0x8007FFFF), true⟩,
    ⟨0x04, 1, .u32, .rw, 0x0, .any, true⟩,
    ⟨0x05, 1, .u8, .ro, 0x0, .any, false⟩,
    ⟨0x06, 1, .u16, .const, 0x100, .any, false⟩,
    ⟨0x07, 1, .u16, .rwp, 0x19, (.iv [(1, 100)]), false⟩]⟩]

/-- Object records of chapter 07. -/
def objsProjection : List Obj := [
  -- Planes S0 (R243)
  ⟨0x4500, 4, 0x0C, [
    ⟨0x01, 1, .u8, .rwp, 0x10, (.iv [(8, 16)]), false⟩,
    ⟨0x02, 1, .u16, .rwp, 0x1770, (.iv [(1000, 50000)]), false⟩,
    ⟨0x03, 1, .dom, .rw, 0x0, (.len 20 268 1), false⟩,
    ⟨0x04, 1, .u8, .wo, 0x0, (.iv [(1, 1)]), false⟩,
    ⟨0x05, 1, .u32, .ro, 0x0, .any, false⟩,
    ⟨0x06, 1, .u16, .ro, 0x0, .any, false⟩,
    ⟨0x07, 1, .u32, .ro, 0x0, .any, false⟩,
    ⟨0x08, 1, .u32, .ro, 0x0, .any, false⟩,
    ⟨0x09, 1, .u32, .ro, 0x0, .any, false⟩,
    ⟨0x0A, 1, .u16, .rw, 0x148, (.iv [(1, 4096)]), false⟩,
    ⟨0x0B, 1, .u32, .ro, 0x0, .any, false⟩,
    ⟨0x0C, 1, .u32, .ro, 0x0, .any, false⟩]⟩,
  -- Colour S0 (R248)
  ⟨0x4530, 4, 0x1C, [
    ⟨0x01, 1, .u8, .rwp, 0x1, (.iv [(1, 4)]), false⟩,
    ⟨0x02, 1, .dom, .rw, 0x0, (.len 328 328 1), false⟩,
    ⟨0x03, 1, .u8, .wo, 0x0, (.iv [(1, 1)]), false⟩,
    ⟨0x04, 7, .u8, .rw, 0x1, (.bits 0xF), false⟩,
    ⟨0x0B, 3, .u32, .rwp, 0x0, .any, false⟩,
    ⟨0x0E, 3, .f32, .rwp, 0x42C80000, (.fl 0x00000000 0x457FF000), false⟩,
    ⟨0x11, 3, .u8, .rwp, 0xFF, (.iv [(0, 7), (255, 255)]), false⟩,
    ⟨0x14, 3, .u8, .rwp, 0xFF, (.iv [(0, 7), (255, 255)]), false⟩,
    ⟨0x17, 1, .u16, .rw, 0x21, (.iv [(1, 2048)]), false⟩,
    ⟨0x18, 3, .u16, .ro, 0x8000, .any, false⟩,
    ⟨0x1B, 1, .u32, .ro, 0x0, .any, false⟩,
    ⟨0x1C, 1, .u16, .ro, 0x0, .any, false⟩]⟩,
  -- Scanner S0 (R254)
  ⟨0x4520, 4, 0x10, [
    ⟨0x01, 1, .u16, .rwp, 0x86, (.iv [(10, 1000)]), false⟩,
    ⟨0x02, 1, .u16, .rwp, 0xC, (.iv [(2, 512)]), false⟩,
    ⟨0x03, 1, .fx32, .rwp, 0x3C0000, (.iv [(1966080, 5242880)]), false⟩,
    ⟨0x04, 1, .fx32, .rwp, 0x4B0000, (.iv [(2031616, 5767168)]), false⟩,
    ⟨0x05, 1, .u32, .rw, 0x0, (.iv [(0, 50000)]), false⟩,
    ⟨0x06, 1, .u16, .rw, 0xC000, (.iv [(8192, 62259)]), false⟩,
    ⟨0x07, 1, .i32, .rw, 0x0, (.iv [(-20000, 20000)]), false⟩,
    ⟨0x08, 1, .u8, .rw, 0x10, (.iv [(0, 64)]), false⟩,
    ⟨0x09, 1, .u16, .rw, 0x40, (.iv [(8, 1024)]), false⟩,
    ⟨0x0A, 1, .u8, .rwp, 0x0, (.iv [(0, 0), (1, 1)]), false⟩,
    ⟨0x0B, 1, .u16, .ro, 0x0, .any, false⟩,
    ⟨0x0C, 1, .u32, .ro, 0x0, .any, false⟩,
    ⟨0x0D, 1, .i32, .ro, 0x0, .any, false⟩,
    ⟨0x0E, 1, .u32, .ro, 0x0, .any, false⟩,
    ⟨0x0F, 1, .u8, .ro, 0x0, .any, false⟩,
    ⟨0x10, 1, .u32, .ro, 0x0, .any, false⟩]⟩,
  -- Scan Guard MDV0 (R259)
  ⟨0x4540, 2, 0x0A, [
    ⟨0x01, 1, .u16, .rwp, 0x3B6, (.iv [(500, 1000)]), false⟩,
    ⟨0x02, 1, .u16, .rwp, 0x41A, (.iv [(1000, 1500)]), false⟩,
    ⟨0x03, 1, .u16, .rwp, 0x32, (.iv [(5, 200)]), false⟩,
    ⟨0x04, 1, .fx32, .rwp, 0x8000, (.iv [(3277, 327680)]), false⟩,
    ⟨0x05, 1, .u8, .rwp, 0x8, (.iv [(1, 40)]), false⟩,
    ⟨0x06, 1, .u16, .rwp, 0x14, (.iv [(5, 1000)]), false⟩,
    ⟨0x07, 1, .u8, .ro, 0x0, .any, false⟩,
    ⟨0x08, 1, .u32, .ro, 0x0, .any, false⟩,
    ⟨0x09, 1, .u8, .ro, 0x0, .any, false⟩,
    ⟨0x0A, 1, .time64, .ro, 0x0, .any, false⟩]⟩]

/-- Object records of chapter 08. -/
def objsSinks : List Obj := [
  -- Sink bank (R291)
  ⟨0x5000, 1, 0x08, [
    ⟨0x01, 1, .u8, .rw, 0xFF, (.iv [(1, 255)]), false⟩,
    ⟨0x02, 1, .u16, .rwp, 0x1000, (.iv [(1024, 16384)]), false⟩,
    ⟨0x03, 1, .u8, .rwp, 0x2, (.iv [(1, 4)]), false⟩,
    ⟨0x04, 1, .u8, .rwp, 0x1, (.iv [(0, 2)]), false⟩,
    ⟨0x05, 1, .dom, .rwp, 0x0, (.len 128 128 1), false⟩,
    ⟨0x06, 1, .u8, .rwp, 0x1, (.iv [(0, 0), (1, 1), (2, 2)]), false⟩,
    ⟨0x07, 1, .f32, .ro, 0x0, .any, false⟩,
    ⟨0x08, 1, .f32, .rwp, 0x40900000, (.fl 0x3F000000 0x40B00000), false⟩]⟩,
  -- Group SG0 (R291)
  ⟨0x5010, 16, 0x02, [
    ⟨0x01, 1, .u8, .rwp, 0x2, (.iv [(0, 0), (1, 1), (2, 2)]), false⟩,
    ⟨0x02, 1, .u8, .rwp, 0xFF, (.iv [(0, 3), (255, 255)]), false⟩]⟩,
  -- SK000 (R292)
  ⟨0xA000, 128, 0x0E, [
    ⟨0x01, 1, .u8, .rwp, 0x0, (.iv [(0, 0), (1, 1), (2, 2), (3, 3)]), false⟩,
    ⟨0x02, 1, .u8, .rwp, 0x0, (.iv [(0, 127)]), false⟩,
    ⟨0x03, 1, .f32, .rwp, 0x42C80000, (.fl 0x00000000 0x42C80000), false⟩,
    ⟨0x04, 1, .u16, .rw, 0x0, .any, false⟩,
    ⟨0x05, 1, .bool, .rwp, 0x1, (.iv [(0, 1)]), false⟩,
    ⟨0x06, 1, .u8, .rwp, 0x1, (.iv [(0, 0), (1, 1)]), false⟩,
    ⟨0x07, 1, .u16, .rwp, 0x64, (.iv [(20, 1000)]), false⟩,
    ⟨0x08, 1, .u16, .rwp, 0xBB8, (.iv [(500, 20000)]), false⟩,
    ⟨0x09, 1, .u8, .rwp, 0x3, (.iv [(1, 15)]), false⟩,
    ⟨0x0A, 1, .u16, .ro, 0x0, .any, false⟩,
    ⟨0x0B, 1, .u16, .ro, 0x0, .any, false⟩,
    ⟨0x0C, 1, .u8, .ro, 0x0, .any, false⟩,
    ⟨0x0D, 1, .u8, .ro, 0x0, .any, false⟩,
    ⟨0x0E, 1, .u8, .wo, 0x0, (.iv [(1, 1)]), false⟩]⟩,
  -- TRK0 (R293)
  ⟨0x5020, 4, 0x0C, [
    ⟨0x01, 1, .bool, .rwp, 0x0, (.iv [(0, 1)]), false⟩,
    ⟨0x02, 1, .u16, .rw, 0x1F4, (.iv [(350, 3000)]), false⟩,
    ⟨0x03, 1, .u16, .rw, 0x64, (.iv [(20, 1000)]), false⟩,
    ⟨0x04, 1, .u16, .rwp, 0x0, (.iv [(0, 1023)]), false⟩,
    ⟨0x05, 1, .u16, .rwp, 0x3FF, (.iv [(0, 1023)]), false⟩,
    ⟨0x06, 1, .u16, .rwp, 0x0, (.iv [(0, 1023)]), false⟩,
    ⟨0x07, 1, .u8, .rw, 0x1, (.iv [(1, 64)]), false⟩,
    ⟨0x08, 1, .u8, .rw, 0x10, (.iv [(1, 255)]), false⟩,
    ⟨0x09, 1, .u16, .ro, 0x0, .any, false⟩,
    ⟨0x0A, 1, .u16, .ro, 0x0, .any, false⟩,
    ⟨0x0B, 1, .u16, .ro, 0x0, .any, false⟩,
    ⟨0x0C, 1, .u8, .ro, 0x0, .any, false⟩]⟩,
  -- PE0 (R294)
  ⟨0x5100, 8, 0x09, [
    ⟨0x01, 1, .dom, .rw, 0x0, (.len 4 128 4), false⟩,
    ⟨0x02, 1, .dom, .rw, 0x0, (.len 0 320 10), false⟩,
    ⟨0x03, 1, .u32, .rw, 0xF4240, (.iv [(1000, 16777215)]), false⟩,
    ⟨0x04, 1, .u8, .wo, 0x0, (.iv [(1, 1), (2, 2)]), false⟩,
    ⟨0x05, 1, .bool, .rw, 0x0, (.iv [(0, 1)]), false⟩,
    ⟨0x06, 1, .u16, .rw, 0x0, .any, false⟩,
    ⟨0x07, 1, .u8, .ro, 0x0, .any, false⟩,
    ⟨0x08, 1, .u8, .ro, 0x0, .any, false⟩,
    ⟨0x09, 1, .u16, .ro, 0x0, .any, false⟩]⟩,
  -- SCH0 (R295)
  ⟨0x5200, 2, 0x0B, [
    ⟨0x01, 1, .bool, .rwp, 0x0, (.iv [(0, 1)]), false⟩,
    ⟨0x02, 1, .u8, .rwp, 0x1, (.iv [(1, 64)]), false⟩,
    ⟨0x03, 1, .u8, .rwp, 0x0, (.iv [(0, 4)]), false⟩,
    ⟨0x04, 1, .u32, .rwp, 0x2710, (.iv [(100, 25000)]), false⟩,
    ⟨0x05, 1, .dom, .rw, 0x0, (.len 0 8192 2), false⟩,
    ⟨0x06, 1, .u8, .rwp, 0x1, (.iv [(0, 0), (1, 1)]), false⟩,
    ⟨0x07, 1, .bool, .rwp, 0x1, (.iv [(0, 1)]), false⟩,
    ⟨0x08, 1, .dom, .ro, 0x0, .any, false⟩,
    ⟨0x09, 1, .u8, .ro, 0x0, .any, false⟩,
    ⟨0x0A, 1, .u32, .ro, 0x0, .any, false⟩,
    ⟨0x0B, 1, .u32, .ro, 0x0, .any, false⟩]⟩,
  -- Matrix (R295)
  ⟨0x5300, 1, 0x0A, [
    ⟨0x01, 1, .u8, .rwp, 0x80, (.iv [(1, 128)]), false⟩,
    ⟨0x02, 1, .u8, .rwp, 0x10, (.iv [(1, 16)]), false⟩,
    ⟨0x03, 1, .u8, .rwp, 0x4, (.iv [(1, 64)]), false⟩,
    ⟨0x04, 1, .u16, .rwp, 0x7D0, (.iv [(2000, 20000)]), false⟩,
    ⟨0x05, 1, .u16, .rwp, 0x1F4, (.iv [(0, 19800)]), false⟩,
    ⟨0x06, 1, .u8, .rwp, 0x0, (.iv [(0, 0), (1, 1)]), false⟩,
    ⟨0x07, 1, .u8, .rwp, 0x0, (.iv [(0, 0), (1, 1)]), false⟩,
    ⟨0x08, 1, .u32, .ro, 0x0, .any, false⟩,
    ⟨0x09, 1, .u32, .ro, 0x0, .any, false⟩,
    ⟨0x0A, 1, .u8, .ro, 0x0, .any, false⟩]⟩]

/-- Object records of chapter 09. -/
def objsLoops : List Obj := [
  -- LS0 (R325)
  ⟨0x6010, 8, 0x2D, [
    ⟨0x01, 1, .bool, .rwp, 0x0, (.iv [(0, 1)]), false⟩,
    ⟨0x02, 1, .u8, .rwp, 0x0, (.iv [(0, 0), (1, 4)]), false⟩,
    ⟨0x03, 1, .u8, .rwp, 0x0, (.iv [(0, 3)]), false⟩,
    ⟨0x04, 1, .u16, .rwp, 0x3E8, (.iv [(200, 10000)]), false⟩,
    ⟨0x05, 1, .u8, .rwp, 0x0, (.iv [(0, 0), (1, 1), (2, 2)]), false⟩,
    ⟨0x06, 1, .f32, .rw, 0x0, .any, false⟩,
    ⟨0x07, 1, .f32, .rw, 0x0, .any, false⟩,
    ⟨0x08, 1, .f32, .rw, 0x0, .any, false⟩,
    ⟨0x09, 1, .f32, .rw, 0x0, .any, false⟩,
    ⟨0x0A, 1, .bool, .rw, 0x0, (.iv [(0, 1)]), false⟩,
    ⟨0x0B, 1, .f32, .rwp, 0xBF800000, .any, false⟩,
    ⟨0x0C, 1, .f32, .rwp, 0x3F800000, .any, false⟩,
    ⟨0x0D, 1, .f32, .rw, 0x0, .any, false⟩,
    ⟨0x0E, 1, .f32, .rw, 0x3F800000, (.fl 0x00000000 0x7F7FFFFF), false⟩,
    ⟨0x0F, 1, .f32, .rw, 0x0, .any, false⟩,
    ⟨0x10, 1, .f32, .rw, 0x40A00000, (.fl 0x3F000000 0x42480000), false⟩,
    ⟨0x11, 1, .f32, .rw, 0x42200000, (.fl 0x00000000 0x42A00000), false⟩,
    ⟨0x12, 1, .f32, .rw, 0x0, .any, false⟩,
    ⟨0x13, 1, .f32, .rw, 0x40A00000, (.fl 0x3F000000 0x42480000), false⟩,
    ⟨0x14, 1, .f32, .rw, 0x42200000, (.fl 0x00000000 0x42A00000), false⟩,
    ⟨0x15, 1, .f32, .rw, 0x0, .any, false⟩,
    ⟨0x16, 1, .f32, .rw, 0x0, .any, false⟩,
    ⟨0x17, 1, .u8, .wo, 0x0, (.iv [(1, 1)]), false⟩,
    ⟨0x18, 1, .dom, .rw, 0x0, (.len 1044 1044 1), false⟩,
    ⟨0x19, 1, .u16, .rw, 0xC8, (.iv [(2, 4096)]), false⟩,
    ⟨0x1A, 1, .f32, .rw, 0x3C23D70A, .any, false⟩,
    ⟨0x1B, 1, .f32, .rw, 0x3C23D70A, .any, false⟩,
    ⟨0x1C, 1, .f32, .rw, 0xC1F00000, .any, false⟩,
    ⟨0x1D, 1, .f32, .rw, 0x41F00000, .any, false⟩,
    ⟨0x1E, 1, .f32, .rw, 0x3F800000, .any, false⟩,
    ⟨0x1F, 1, .u16, .rw, 0x32, (.iv [(1, 10000)]), false⟩,
    ⟨0x20, 1, .bool, .rw, 0x1, (.iv [(0, 1)]), false⟩,
    ⟨0x21, 1, .u16, .rw, 0xC8, (.iv [(0, 10000)]), false⟩,
    ⟨0x22, 1, .f32, .rw, 0x0, .any, false⟩,
    ⟨0x23, 1, .f32, .rw, 0x40000000, .any, false⟩,
    ⟨0x24, 1, .u16, .rw, 0x7D0, (.iv [(10, 60000)]), false⟩,
    ⟨0x25, 1, .f32, .rw, 0x3D4CCCCD, .any, false⟩,
    ⟨0x26, 1, .u16, .rwp, 0x12C, (.iv [(10, 5000)]), false⟩,
    ⟨0x27, 1, .u8, .wo, 0x0, (.iv [(1, 1), (2, 2), (3, 3), (4, 4)]), false⟩,
    ⟨0x28, 1, .u8, .ro, 0x0, .any, false⟩,
    ⟨0x29, 1, .u8, .ro, 0x0, .any, false⟩,
    ⟨0x2A, 1, .f32, .ro, 0x0, .any, false⟩,
    ⟨0x2B, 1, .f32, .ro, 0x0, .any, false⟩,
    ⟨0x2C, 1, .u32, .ro, 0x0, .any, false⟩,
    ⟨0x2D, 1, .u32, .ro, 0x0, .any, false⟩]⟩,
  -- MDV0 (R326)
  ⟨0x6040, 2, 0x0A, [
    ⟨0x01, 1, .f32, .rwp, 0x3A83126F, .any, true⟩,
    ⟨0x02, 1, .f32, .rwp, 0x0, .any, true⟩,
    ⟨0x03, 1, .f32, .rwp, 0x3A83126F, .any, true⟩,
    ⟨0x04, 1, .f32, .rwp, 0x0, .any, true⟩,
    ⟨0x05, 1, .f32, .rw, 0x41A00000, (.fl 0x3F800000 0x42340000), false⟩,
    ⟨0x06, 1, .f32, .rw, 0x41200000, (.fl 0xC2340000 0x42340000), false⟩,
    ⟨0x07, 1, .f32, .rw, 0xC1200000, (.fl 0xC2340000 0x42340000), false⟩,
    ⟨0x08, 1, .u16, .rwp, 0x32, (.iv [(1, 1000)]), false⟩,
    ⟨0x09, 1, .f32, .ro, 0x0, .any, false⟩,
    ⟨0x0A, 1, .u8, .ro, 0x0, .any, false⟩]⟩,
  -- ACT0 (R327)
  ⟨0x6030, 4, 0x14, [
    ⟨0x01, 1, .u8, .rwp, 0x0, (.iv [(0, 0), (1, 1), (2, 2)]), false⟩,
    ⟨0x02, 1, .u8, .rwp, 0x4, (.iv [(1, 32)]), false⟩,
    ⟨0x03, 1, .f32, .rwp, 0x42C80000, (.fl 0x3F800000 0x47C35000), false⟩,
    ⟨0x04, 1, .f32, .rwp, 0x0, .any, false⟩,
    ⟨0x05, 1, .u8, .rwp, 0x0, (.iv [(0, 3)]), false⟩,
    ⟨0x06, 1, .f32, .rwp, 0x43480000, (.fl 0x00000000 0x461C4000), false⟩,
    ⟨0x07, 1, .f32, .rwp, 0xC0A00000, .any, false⟩,
    ⟨0x08, 1, .f32, .rwp, 0x40A00000, .any, false⟩,
    ⟨0x09, 1, .f32, .rw, 0x41200000, (.fl 0x3DCCCCCD 0x447A0000), false⟩,
    ⟨0x0A, 1, .f32, .rw, 0x42C80000, (.fl 0x3F800000 0x47C35000), false⟩,
    ⟨0x0B, 1, .u32, .rwp, 0x4E20, (.iv [(16000, 50000)]), false⟩,
    ⟨0x0C, 1, .u16, .rwp, 0x190, (.iv [(100, 2000)]), false⟩,
    ⟨0x0D, 1, .f32, .rwp, 0x3F800000, .any, true⟩,
    ⟨0x0E, 1, .f32, .rwp, 0x447A0000, (.fl 0x00000000 0x461C4000), false⟩,
    ⟨0x0F, 1, .f32, .rw, 0x3F000000, .any, false⟩,
    ⟨0x10, 1, .f32, .rw, 0x43FA0000, .any, false⟩,
    ⟨0x11, 1, .bool, .rwp, 0x1, (.iv [(0, 1)]), false⟩,
    ⟨0x12, 1, .f32, .ro, 0x0, .any, false⟩,
    ⟨0x13, 1, .f32, .ro, 0x0, .any, false⟩,
    ⟨0x14, 1, .u8, .ro, 0x0, .any, false⟩]⟩,
  -- Loop Engine (R328)
  ⟨0x6000, 1, 0x06, [
    ⟨0x01, 1, .u16, .ro, 0x0, .any, false⟩,
    ⟨0x02, 1, .u8, .ro, 0x0, .any, false⟩,
    ⟨0x03, 1, .u8, .sw, 0x0, (.bits 0xF), false⟩,
    ⟨0x04, 1, .u8, .sw, 0x0, (.iv [(1, 1)]), false⟩,
    ⟨0x05, 1, .u8, .ro, 0x0, .any, false⟩,
    ⟨0x06, 1, .u32, .ro, 0x0, .any, false⟩]⟩]

/-- Object records of chapter 10. -/
def objsLanes : List Obj := [
  -- Lanes (R353)
  ⟨0x7000, 1, 0x05, [
    ⟨0x01, 1, .u16, .rw, 0x3E8, (.iv [(100, 10000)]), false⟩,
    ⟨0x02, 1, .u16, .rw, 0x0, (.iv [(0, 1000)]), false⟩,
    ⟨0x03, 1, .u16, .rw, 0x64, (.iv [(20, 1000)]), false⟩,
    ⟨0x04, 1, .u32, .ro, 0x0, .any, false⟩,
    ⟨0x05, 1, .u32, .ro, 0x0, .any, false⟩]⟩,
  -- Group LG0 (R353)
  ⟨0x7020, 4, 0x07, [
    ⟨0x01, 1, .u8, .rwp, 0x2, (.iv [(0, 3)]), false⟩,
    ⟨0x02, 1, .u8, .rwp, 0xFF, (.iv [(0, 7), (255, 255)]), false⟩,
    ⟨0x03, 1, .u8, .rwp, 0x2, (.iv [(0, 7)]), false⟩,
    ⟨0x04, 1, .u8, .rwp, 0x2, (.iv [(0, 3)]), false⟩,
    ⟨0x05, 1, .u8, .rwp, 0x0, (.iv [(0, 0), (16, 31)]), false⟩,
    ⟨0x06, 1, .bool, .rwp, 0x0, (.iv [(0, 1)]), false⟩,
    ⟨0x07, 1, .u8, .rw, 0x2, (.bits 0x3), false⟩]⟩,
  -- SL0 (R354)
  ⟨0x7010, 16, 0x0E, [
    ⟨0x01, 1, .u8, .ro, 0x0, .any, false⟩,
    ⟨0x02, 1, .u8, .ro, 0x0, .any, false⟩,
    ⟨0x03, 1, .u8, .rwp, 0x0, (.iv [(0, 0), (1, 1)]), false⟩,
    ⟨0x04, 1, .u8, .wo, 0x0, (.iv [(1, 1)]), false⟩,
    ⟨0x05, 1, .u8, .ro, 0x0, .any, false⟩,
    ⟨0x06, 1, .u32, .ro, 0x0, .any, false⟩,
    ⟨0x07, 1, .u32, .ro, 0x0, .any, false⟩,
    ⟨0x08, 1, .u8, .ro, 0x0, .any, false⟩,
    ⟨0x09, 1, .u8, .rw, 0x0, .any, true⟩,
    ⟨0x0A, 1, .u64, .ro, 0x0, .any, false⟩,
    ⟨0x0B, 1, .u8, .ro, 0x0, .any, false⟩,
    ⟨0x0C, 1, .u32, .rw, 0x0, .any, true⟩,
    ⟨0x0D, 1, .u32, .ro, 0x0, .any, false⟩,
    ⟨0x0E, 1, .u64, .ro, 0x0, .any, false⟩]⟩,
  -- SL0 (R354)
  ⟨0x7032, 2, 0x0E, [
    ⟨0x01, 1, .u8, .ro, 0x0, .any, false⟩,
    ⟨0x02, 1, .u8, .ro, 0x0, .any, false⟩,
    ⟨0x03, 1, .u8, .rwp, 0x0, (.iv [(0, 0), (1, 1)]), false⟩,
    ⟨0x04, 1, .u8, .wo, 0x0, (.iv [(1, 1)]), false⟩,
    ⟨0x05, 1, .u8, .ro, 0x0, .any, false⟩,
    ⟨0x06, 1, .u32, .ro, 0x0, .any, false⟩,
    ⟨0x07, 1, .u32, .ro, 0x0, .any, false⟩,
    ⟨0x08, 1, .u8, .ro, 0x0, .any, false⟩,
    ⟨0x09, 1, .u8, .rw, 0x0, .any, true⟩,
    ⟨0x0A, 1, .u64, .ro, 0x0, .any, false⟩,
    ⟨0x0B, 1, .u8, .ro, 0x0, .any, false⟩,
    ⟨0x0C, 1, .u32, .rw, 0x0, .any, true⟩,
    ⟨0x0D, 1, .u32, .ro, 0x0, .any, false⟩,
    ⟨0x0E, 1, .u64, .ro, 0x0, .any, false⟩]⟩,
  -- Twin link (R355)
  ⟨0x7030, 1, 0x04, [
    ⟨0x01, 1, .bool, .rwp, 0x0, (.iv [(0, 1)]), false⟩,
    ⟨0x02, 1, .u8, .rwp, 0xFF, (.iv [(0, 7), (255, 255)]), false⟩,
    ⟨0x03, 1, .u8, .ro, 0x0, .any, false⟩,
    ⟨0x04, 1, .u8, .ro, 0x0, .any, false⟩]⟩]

/-- Object records of chapter 11. -/
def objsNetwork : List Obj := [
  -- NET0 (R385)
  ⟨0x7100, 2, 0x10, [
    ⟨0x01, 1, .bool, .rwp, 0x1, (.iv [(0, 1)]), false⟩,
    ⟨0x02, 1, .u8, .rwp, 0x0, (.iv [(0, 0), (1, 1)]), false⟩,
    ⟨0x03, 1, .u64, .rwp, 0x0, (.iv [(0, 281474976710655)]), false⟩,
    ⟨0x04, 1, .u8, .rwp, 0x0, (.iv [(0, 2)]), false⟩,
    ⟨0x05, 1, .u16, .rwp, 0x1, (.iv [(1, 4094)]), false⟩,
    ⟨0x06, 1, .u8, .rw, 0x5, (.iv [(0, 7)]), false⟩,
    ⟨0x07, 1, .u8, .rw, 0x2, (.iv [(0, 7)]), false⟩,
    ⟨0x08, 1, .i32, .rwp, 0x0, (.iv [(-1000000, 1000000)]), false⟩,
    ⟨0x09, 1, .i32, .rwp, 0x0, (.iv [(-1000000, 1000000)]), false⟩,
    ⟨0x0A, 1, .i32, .rwp, 0x0, (.iv [(-1000000, 1000000)]), false⟩,
    ⟨0x0B, 1, .u8, .ro, 0x0, .any, false⟩,
    ⟨0x0C, 1, .u32, .ro, 0x0, .any, false⟩,
    ⟨0x0D, 1, .u32, .ro, 0x0, .any, false⟩,
    ⟨0x0E, 1, .u32, .ro, 0x0, .any, false⟩,
    ⟨0x0F, 1, .u32, .ro, 0x0, .any, false⟩,
    ⟨0x10, 1, .u32, .ro, 0x0, .any, false⟩]⟩,
  -- IP services (R386)
  ⟨0x7110, 1, 0x09, [
    ⟨0x01, 1, .u32, .rwp, 0x0, .any, false⟩,
    ⟨0x02, 1, .u32, .rwp, 0x0, .any, false⟩,
    ⟨0x03, 1, .u64, .rwp, 0x0, .any, false⟩,
    ⟨0x04, 1, .u64, .rwp, 0x0, .any, false⟩,
    ⟨0x05, 1, .u16, .rwp, 0xC49A, (.iv [(1024, 65535)]), false⟩,
    ⟨0x06, 1, .u16, .rwp, 0xC4A4, (.iv [(1024, 65535)]), false⟩,
    ⟨0x07, 1, .u8, .rwp, 0x0, (.iv [(0, 0), (1, 1)]), false⟩,
    ⟨0x08, 1, .u32, .ro, 0x0, .any, false⟩,
    ⟨0x09, 1, .u8, .ro, 0x0, .any, false⟩]⟩,
  -- VS0 (R387)
  ⟨0x7120, 1, 0x10, [
    ⟨0x01, 1, .bool, .rwp, 0x0, (.iv [(0, 1)]), false⟩,
    ⟨0x02, 1, .u64, .rwp, 0x0, .any, false⟩,
    ⟨0x03, 1, .u64, .rwp, 0x91E0F0000000, (.iv [(0, 281474976710655)]), false⟩,
    ⟨0x04, 1, .u8, .rwp, 0x1, (.bits 0x3), false⟩,
    ⟨0x05, 1, .u16, .rwp, 0x500, (.iv [(16, 1280)]), false⟩,
    ⟨0x06, 1, .u16, .rwp, 0x2D0, (.iv [(16, 720)]), false⟩,
    ⟨0x07, 1, .u8, .rwp, 0x1, (.iv [(1, 4)]), false⟩,
    ⟨0x08, 1, .u64, .rwp, 0x5A4C47000000, (.iv [(0, 281474976710655)]), false⟩,
    ⟨0x09, 1, .u8, .wo, 0x0, (.iv [(1, 1)]), false⟩,
    ⟨0x0A, 1, .u16, .ro, 0x0, .any, false⟩,
    ⟨0x0B, 1, .u8, .ro, 0x0, .any, false⟩,
    ⟨0x0C, 1, .u32, .ro, 0x0, .any, false⟩,
    ⟨0x0D, 1, .u32, .ro, 0x0, .any, false⟩,
    ⟨0x0E, 1, .u8, .ro, 0x0, .any, false⟩,
    ⟨0x0F, 1, .time64, .ro, 0x0, .any, false⟩,
    ⟨0x10, 1, .u32, .ro, 0x0, .any, false⟩]⟩,
  -- VS0 (R387)
  ⟨0x7121, 1, 0x10, [
    ⟨0x01, 1, .bool, .rwp, 0x0, (.iv [(0, 1)]), false⟩,
    ⟨0x02, 1, .u64, .rwp, 0x0, .any, false⟩,
    ⟨0x03, 1, .u64, .rwp, 0x91E0F0000001, (.iv [(0, 281474976710655)]), false⟩,
    ⟨0x04, 1, .u8, .rwp, 0x1, (.bits 0x3), false⟩,
    ⟨0x05, 1, .u16, .rwp, 0x500, (.iv [(16, 1280)]), false⟩,
    ⟨0x06, 1, .u16, .rwp, 0x2D0, (.iv [(16, 720)]), false⟩,
    ⟨0x07, 1, .u8, .rwp, 0x1, (.iv [(1, 4)]), false⟩,
    ⟨0x08, 1, .u64, .rwp, 0x5A4C47000000, (.iv [(0, 281474976710655)]), false⟩,
    ⟨0x09, 1, .u8, .wo, 0x0, (.iv [(1, 1)]), false⟩,
    ⟨0x0A, 1, .u16, .ro, 0x0, .any, false⟩,
    ⟨0x0B, 1, .u8, .ro, 0x0, .any, false⟩,
    ⟨0x0C, 1, .u32, .ro, 0x0, .any, false⟩,
    ⟨0x0D, 1, .u32, .ro, 0x0, .any, false⟩,
    ⟨0x0E, 1, .u8, .ro, 0x0, .any, false⟩,
    ⟨0x0F, 1, .time64, .ro, 0x0, .any, false⟩,
    ⟨0x10, 1, .u32, .ro, 0x0, .any, false⟩]⟩,
  -- CAN0 (R388)
  ⟨0x7140, 1, 0x0E, [
    ⟨0x01, 1, .bool, .rwp, 0x1, (.iv [(0, 1)]), false⟩,
    ⟨0x02, 1, .u8, .rwp, 0x0, (.iv [(0, 0), (1, 1), (2, 2), (3, 3)]), false⟩,
    ⟨0x03, 1, .u32, .rwp, 0x7F2020, .any, false⟩,
    ⟨0x04, 1, .u32, .rwp, 0x1F0808, .any, false⟩,
    ⟨0x05, 1, .u8, .rwp, 0x0, (.iv [(0, 127)]), false⟩,
    ⟨0x06, 1, .u8, .rwp, 0x0, (.iv [(0, 0), (1, 1)]), false⟩,
    ⟨0x07, 1, .u8, .wo, 0x0, (.iv [(1, 1)]), false⟩,
    ⟨0x08, 1, .u8, .ro, 0x0, .any, false⟩,
    ⟨0x09, 1, .u16, .ro, 0x0, .any, false⟩,
    ⟨0x0A, 1, .u32, .ro, 0x0, .any, false⟩,
    ⟨0x0B, 1, .u32, .ro, 0x0, .any, false⟩,
    ⟨0x0C, 1, .u32, .ro, 0x0, .any, false⟩,
    ⟨0x0D, 1, .u32, .ro, 0x0, .any, false⟩,
    ⟨0x0E, 1, .bool, .rw, 0x1, (.iv [(0, 1)]), false⟩]⟩,
  -- CAN0 (R388)
  ⟨0x7141, 3, 0x0E, [
    ⟨0x01, 1, .bool, .rwp, 0x0, (.iv [(0, 1)]), false⟩,
    ⟨0x02, 1, .u8, .rwp, 0x0, (.iv [(0, 0), (1, 1), (2, 2), (3, 3)]), false⟩,
    ⟨0x03, 1, .u32, .rwp, 0x7F2020, .any, false⟩,
    ⟨0x04, 1, .u32, .rwp, 0x1F0808, .any, false⟩,
    ⟨0x05, 1, .u8, .rwp, 0x0, (.iv [(0, 127)]), false⟩,
    ⟨0x06, 1, .u8, .rwp, 0x0, (.iv [(0, 0), (1, 1)]), false⟩,
    ⟨0x07, 1, .u8, .wo, 0x0, (.iv [(1, 1)]), false⟩,
    ⟨0x08, 1, .u8, .ro, 0x0, .any, false⟩,
    ⟨0x09, 1, .u16, .ro, 0x0, .any, false⟩,
    ⟨0x0A, 1, .u32, .ro, 0x0, .any, false⟩,
    ⟨0x0B, 1, .u32, .ro, 0x0, .any, false⟩,
    ⟨0x0C, 1, .u32, .ro, 0x0, .any, false⟩,
    ⟨0x0D, 1, .u32, .ro, 0x0, .any, false⟩,
    ⟨0x0E, 1, .bool, .rw, 0x1, (.iv [(0, 1)]), false⟩]⟩,
  -- Time Unit (R389)
  ⟨0x7180, 1, 0x15, [
    ⟨0x01, 1, .u8, .rwp, 0x0, (.iv [(0, 0), (1, 1)]), false⟩,
    ⟨0x02, 1, .u8, .rwp, 0x0, (.iv [(0, 127)]), false⟩,
    ⟨0x03, 1, .u8, .rwp, 0x0, (.iv [(0, 0), (1, 1), (255, 255)]), false⟩,
    ⟨0x04, 1, .bool, .rwp, 0x1, (.iv [(0, 1)]), false⟩,
    ⟨0x05, 1, .f32, .rw, 0x3F333333, (.fl 0x00000000 0x3F800000), false⟩,
    ⟨0x06, 1, .f32, .rw, 0x3E99999A, (.fl 0x00000000 0x3F800000), false⟩,
    ⟨0x07, 1, .u32, .rw, 0x186A0, (.iv [(1000, 100000000)]), false⟩,
    ⟨0x08, 1, .u32, .rw, 0x3E8, (.iv [(10, 100000)]), false⟩,
    ⟨0x09, 1, .u32, .rw, 0x30D40, (.iv [(1000, 1000000)]), false⟩,
    ⟨0x0A, 1, .u8, .rw, 0x3, (.iv [(2, 255)]), false⟩,
    ⟨0x0B, 1, .u32, .rw, 0x2710, (.iv [(0, 3600000)]), false⟩,
    ⟨0x0C, 1, .i8, .rwp, 0x0, (.iv [(-3, 3)]), false⟩,
    ⟨0x0D, 1, .u8, .wo, 0x0, (.iv [(1, 1), (2, 2)]), false⟩,
    ⟨0x0E, 1, .time64, .rw, 0x0, .any, true⟩,
    ⟨0x0F, 1, .u8, .ro, 0x0, .any, false⟩,
    ⟨0x10, 1, .i32, .ro, 0x0, .any, false⟩,
    ⟨0x11, 1, .i32, .ro, 0x0, .any, false⟩,
    ⟨0x12, 1, .time64, .ro, 0x0, .any, false⟩,
    ⟨0x13, 1, .u32, .ro, 0x0, .any, false⟩,
    ⟨0x14, 1, .u32, .ro, 0x0, .any, false⟩,
    ⟨0x15, 1, .u64, .ro, 0x0, .any, false⟩]⟩,
  -- TPO0 (R390)
  ⟨0x71A0, 4, 0x07, [
    ⟨0x01, 1, .u8, .rw, 0x0, (.iv [(0, 0), (1, 1), (2, 2)]), false⟩,
    ⟨0x02, 1, .time64, .rw, 0x0, .any, false⟩,
    ⟨0x03, 1, .u32, .rw, 0xF4240, (.iv [(1000, 1000000000)]), false⟩,
    ⟨0x04, 1, .u32, .rw, 0x2710, (.iv [(10, 1000000000)]), false⟩,
    ⟨0x05, 1, .u8, .rw, 0x0, (.iv [(0, 0), (1, 1)]), false⟩,
    ⟨0x06, 1, .u8, .ro, 0x0, .any, false⟩,
    ⟨0x07, 1, .u32, .ro, 0x0, .any, false⟩]⟩]

/-- Object records of chapter 12. -/
def objsSafety : List Obj := [
  -- GC0 (R436)
  ⟨0x1400, 16, 0x16, [
    ⟨0x01, 1, .bool, .rwp, 0x0, (.iv [(0, 1)]), false⟩,
    ⟨0x02, 1, .u8, .rwp, 0x0, (.iv [(0, 0), (1, 1)]), false⟩,
    ⟨0x03, 1, .u8, .rwp, 0x0, (.iv [(0, 0), (16, 19)]), false⟩,
    ⟨0x04, 1, .u32, .rwp, 0x0, .any, false⟩,
    ⟨0x05, 1, .u64, .rwp, 0x0, .any, false⟩,
    ⟨0x06, 1, .u64, .rwp, 0x0, .any, false⟩,
    ⟨0x07, 1, .u16, .rwp, 0xC49A, (.iv [(1024, 65535)]), false⟩,
    ⟨0x08, 1, .u8, .rwp, 0x3, (.bits 0x3), false⟩,
    ⟨0x09, 1, .u32, .rwp, 0x0, .any, false⟩,
    ⟨0x0A, 1, .u32, .rwp, 0x0, .any, false⟩,
    ⟨0x0B, 1, .u16, .rwp, 0x0, (.bits 0x1FE), false⟩,
    ⟨0x0C, 1, .u8, .rwp, 0x0, (.iv [(0, 2)]), false⟩,
    ⟨0x0D, 1, .u32, .rwp, 0xC350, (.iv [(1000, 1000000)]), false⟩,
    ⟨0x0E, 1, .u16, .rwp, 0x14, (.iv [(2, 1000)]), false⟩,
    ⟨0x0F, 1, .u8, .rwp, 0x4, (.iv [(1, 64)]), false⟩,
    ⟨0x10, 1, .u8, .rwp, 0x2, (.iv [(1, 16)]), false⟩,
    ⟨0x11, 1, .u8, .rwp, 0xF, (.bits 0xF), false⟩,
    ⟨0x12, 1, .u8, .ro, 0x0, .any, false⟩,
    ⟨0x13, 1, .u32, .ro, 0x0, .any, false⟩,
    ⟨0x14, 1, .u32, .ro, 0x0, .any, false⟩,
    ⟨0x15, 1, .u8, .ro, 0x0, .any, false⟩,
    ⟨0x16, 1, .u32, .ro, 0x0, .any, false⟩]⟩,
  -- Guardrail (R436)
  ⟨0x1410, 1, 0x03, [
    ⟨0x01, 1, .u16, .ro, 0x0, .any, false⟩,
    ⟨0x02, 1, .u32, .ro, 0x0, .any, false⟩,
    ⟨0x03, 1, .u16, .ro, 0x0, .any, false⟩]⟩,
  -- Roadblock (R437)
  ⟨0x8010, 1, 0x08, [
    ⟨0x01, 1, .u8, .ro, 0x0, .any, false⟩,
    ⟨0x02, 1, .u8, .rwp, 0xF, (.bits 0xF), false⟩,
    ⟨0x03, 1, .u8, .sw, 0x0, (.bits 0xF), false⟩,
    ⟨0x04, 1, .u8, .sw, 0x0, (.bits 0xF), false⟩,
    ⟨0x05, 1, .u8, .ro, 0x0, .any, false⟩,
    ⟨0x06, 1, .u8, .ro, 0x0, .any, false⟩,
    ⟨0x07, 1, .u32, .ro, 0x0, .any, false⟩,
    ⟨0x08, 1, .u32, .ro, 0x0, .any, false⟩]⟩,
  -- Vehicle inputs (R437)
  ⟨0x8020, 1, 0x07, [
    ⟨0x01, 1, .u16, .sw, 0xFFFF, .any, false⟩,
    ⟨0x02, 1, .u8, .sw, 0x1, (.iv [(0, 2)]), false⟩,
    ⟨0x03, 1, .bool, .sw, 0x1, (.iv [(0, 1)]), false⟩,
    ⟨0x04, 4, .u8, .sw, 0x1, (.iv [(1, 3)]), false⟩]⟩,
  -- BLC S0 (R438)
  ⟨0x8200, 4, 0x11, [
    ⟨0x01, 1, .u16, .rwp, 0xC000, (.iv [(32768, 65535)]), false⟩,
    ⟨0x02, 1, .u16, .rwp, 0x6000, (.iv [(0, 32768)]), false⟩,
    ⟨0x03, 1, .u32, .rwp, 0x400, (.iv [(0, 65535)]), false⟩,
    ⟨0x04, 4, .u16, .rwp, 0x8000, (.iv [(0, 65535)]), false⟩,
    ⟨0x08, 1, .u8, .rw, 0x3, (.iv [(1, 60)]), false⟩,
    ⟨0x09, 1, .u16, .rw, 0x3E8, (.iv [(100, 60000)]), false⟩,
    ⟨0x0A, 1, .u8, .rwp, 0x2, (.iv [(1, 10)]), false⟩,
    ⟨0x0B, 1, .u8, .rwp, 0x3, (.iv [(1, 60)]), false⟩,
    ⟨0x0C, 1, .u8, .ro, 0x0, .any, false⟩,
    ⟨0x0D, 1, .u16, .ro, 0x0, .any, false⟩,
    ⟨0x0E, 1, .u32, .ro, 0x0, .any, false⟩,
    ⟨0x0F, 1, .u32, .ro, 0x0, .any, false⟩,
    ⟨0x10, 1, .u8, .ro, 0x0, .any, false⟩,
    ⟨0x11, 1, .u32, .ro, 0x0, .any, false⟩]⟩,
  -- SSV (R439)
  ⟨0x8300, 1, 0x07, [
    ⟨0x01, 1, .u8, .ro, 0x0, .any, false⟩,
    ⟨0x02, 1, .u8, .rwp, 0x3, (.iv [(1, 10)]), false⟩,
    ⟨0x03, 1, .u32, .ro, 0x0, .any, false⟩,
    ⟨0x04, 1, .u8, .ro, 0xFF, .any, false⟩,
    ⟨0x05, 1, .f32, .rwp, 0x3F800000, (.fl 0x3DCCCCCD 0x41200000), false⟩,
    ⟨0x06, 1, .u16, .rwp, 0x1F4, (.iv [(100, 2000)]), false⟩,
    ⟨0x07, 1, .u32, .ro, 0x0, .any, false⟩]⟩,
  -- ALIVE (R439)
  ⟨0x8400, 1, 0x04, [
    ⟨0x01, 1, .u8, .ro, 0x0, .any, false⟩,
    ⟨0x02, 1, .u8, .ro, 0x5, .any, false⟩,
    ⟨0x03, 1, .u32, .ro, 0x0, .any, false⟩,
    ⟨0x04, 1, .u32, .ro, 0x0, .any, false⟩]⟩,
  -- Latent tests (R439)
  ⟨0x8500, 1, 0x04, [
    ⟨0x01, 1, .u8, .rwp, 0x18, (.iv [(1, 24)]), false⟩,
    ⟨0x02, 1, .time64, .ro, 0x0, .any, false⟩,
    ⟨0x03, 1, .u32, .ro, 0x0, .any, false⟩,
    ⟨0x04, 1, .u32, .ro, 0x0, .any, false⟩]⟩]

/-- Object records of chapter 12. -/
def objsSafety2 : List Obj := [
  -- FCOL (R440)
  ⟨0x8100, 1, 0x06, [
    ⟨0x01, 1, .u8, .ro, 0x0, .any, false⟩,
    ⟨0x02, 1, .u8, .ro, 0x0, .any, false⟩,
    ⟨0x03, 1, .u8, .wo, 0x0, (.iv [(1, 64), (255, 255)]), false⟩,
    ⟨0x04, 1, .u32, .ro, 0x0, .any, false⟩,
    ⟨0x05, 1, .u8, .ro, 0x0, .any, false⟩,
    ⟨0x06, 1, .u8, .ro, 0x0, .any, false⟩]⟩,
  -- Fault log (R440)
  ⟨0x8110, 1, 0x40, [
    ⟨0x01, 64, .dom, .ro, 0x0, .any, false⟩]⟩,
  -- Reaction rules (R440)
  ⟨0x8120, 1, 0x40, [
    ⟨0x01, 1, .u32, .rw, 0xF1100F1, .any, false⟩,
    ⟨0x02, 1, .u32, .rw, 0xE1200F1, .any, false⟩,
    ⟨0x03, 1, .u32, .rw, 0x81200F1, .any, false⟩,
    ⟨0x04, 1, .u32, .rw, 0x121300F1, .any, false⟩,
    ⟨0x05, 1, .u32, .rw, 0xFF0900F1, .any, false⟩,
    ⟨0x06, 1, .u32, .rw, 0x101200F1, .any, false⟩,
    ⟨0x07, 1, .u32, .rw, 0x50300F1, .any, false⟩,
    ⟨0x08, 1, .u32, .rw, 0xFF1700F1, .any, false⟩,
    ⟨0x09, 1, .u32, .rw, 0xFF1500F1, .any, false⟩,
    ⟨0x0A, 1, .u32, .rw, 0x171600F1, .any, false⟩,
    ⟨0x0B, 1, .u32, .rw, 0x160A00E8, .any, false⟩,
    ⟨0x0C, 1, .u32, .rw, 0x140F0085, .any, false⟩,
    ⟨0x0D, 1, .u32, .rw, 0xFFFF0081, .any, false⟩,
    ⟨0x0E, 1, .u32, .rw, 0x81300E1, .any, false⟩,
    ⟨0x0F, 1, .u32, .rw, 0xF1400F1, .any, false⟩,
    ⟨0x10, 1, .u32, .rw, 0x50700F1, .any, false⟩,
    ⟨0x11, 48, .u32, .rw, 0x0, .any, false⟩]⟩]

/-- Object records of chapter 13. -/
def objsTwin : List Obj := [
  -- Twin control (R463)
  ⟨0x8600, 1, 0x12, [
    ⟨0x01, 1, .bool, .rwp, 0x0, (.iv [(0, 1)]), false⟩,
    ⟨0x02, 1, .u8, .ro, 0x0, .any, false⟩,
    ⟨0x03, 1, .u8, .ro, 0x0, .any, false⟩,
    ⟨0x04, 1, .u8, .ro, 0xFF, .any, false⟩,
    ⟨0x05, 1, .u16, .ro, 0x0, .any, false⟩,
    ⟨0x06, 1, .u16, .ro, 0x0, .any, false⟩,
    ⟨0x07, 1, .u8, .ro, 0x0, .any, false⟩,
    ⟨0x08, 1, .u16, .rw, 0x3C, (.iv [(0, 0), (10, 1440)]), false⟩,
    ⟨0x09, 1, .u8, .wo, 0x0, (.iv [(1, 1)]), false⟩,
    ⟨0x0A, 1, .time64, .ro, 0x0, .any, false⟩,
    ⟨0x0B, 1, .u32, .ro, 0x0, .any, false⟩,
    ⟨0x0C, 1, .u32, .ro, 0x0, .any, false⟩,
    ⟨0x0D, 1, .u8, .ro, 0x0, .any, false⟩,
    ⟨0x0E, 1, .u32, .ro, 0x0, .any, false⟩,
    ⟨0x0F, 1, .u32, .ro, 0x0, .any, false⟩,
    ⟨0x10, 1, .u32, .ro, 0x0, .any, false⟩,
    ⟨0x11, 1, .u32, .ro, 0x0, .any, false⟩,
    ⟨0x12, 1, .u32, .ro, 0x0, .any, false⟩]⟩]

/-- Object records of chapter 14. -/
def objsStore : List Obj := [
  -- Store (R494)
  ⟨0x2100, 1, 0x06, [
    ⟨0x01, 1, .u16, .rwp, 0x721, (.iv [(30, 1825)]), false⟩,
    ⟨0x02, 1, .u16, .ro, 0x0, .any, false⟩,
    ⟨0x03, 1, .time64, .ro, 0x0, .any, false⟩,
    ⟨0x04, 1, .u32, .ro, 0x0, .any, false⟩,
    ⟨0x05, 1, .u32, .ro, 0x0, .any, false⟩,
    ⟨0x06, 1, .u16, .ro, 0xFFFF, .any, false⟩]⟩,
  -- Archives (R494)
  ⟨0x2110, 1, 0x05, [
    ⟨0x01, 1, .u8, .rw, 0xA, (.iv [(1, 10)]), false⟩,
    ⟨0x02, 1, .time64, .ro, 0x0, .any, false⟩,
    ⟨0x03, 1, .u8, .ro, 0x0, .any, false⟩,
    ⟨0x04, 1, .u32, .ro, 0x0, .any, false⟩,
    ⟨0x05, 1, .dom, .ro, 0x0, .any, false⟩]⟩,
  -- Update (R494)
  ⟨0x2200, 1, 0x10, [
    ⟨0x01, 1, .u8, .wo, 0x0, (.iv [(1, 1), (2, 2), (3, 3), (4, 4), (5, 5), (6, 6), (7, 7)]), false⟩,
    ⟨0x02, 1, .dom, .rw, 0x0, (.len 4096 4096 1), true⟩,
    ⟨0x03, 1, .dom, .wo, 0x0, (.len 4104 4104 1), false⟩,
    ⟨0x04, 1, .u8, .ro, 0x0, .any, false⟩,
    ⟨0x05, 1, .u16, .ro, 0x0, .any, false⟩,
    ⟨0x06, 1, .u16, .ro, 0x0, .any, false⟩,
    ⟨0x07, 1, .u16, .ro, 0x0, .any, false⟩,
    ⟨0x08, 1, .u16, .ro, 0xFFFF, .any, false⟩,
    ⟨0x09, 1, .u8, .ro, 0x0, .any, false⟩,
    ⟨0x0A, 1, .u32, .ro, 0x0, .any, false⟩,
    ⟨0x0B, 1, .u8, .ro, 0x0, .any, false⟩,
    ⟨0x0C, 1, .u32, .ro, 0x0, .any, false⟩,
    ⟨0x0D, 1, .u16, .rw, 0x0, (.iv [(0, 3600)]), false⟩,
    ⟨0x0E, 1, .u8, .ro, 0x0, .any, false⟩,
    ⟨0x0F, 1, .u8, .ro, 0x0, .any, false⟩,
    ⟨0x10, 1, .u8, .rwp, 0x3, (.bits 0x3), false⟩]⟩,
  -- Update guards (R494)
  ⟨0x2202, 1, 0x06, [
    ⟨0x01, 1, .u16, .rw, 0x4, (.bits 0x777), false⟩,
    ⟨0x02, 1, .u16, .rw, 0xE, (.iv [(0, 1000)]), false⟩,
    ⟨0x03, 1, .u16, .rw, 0x2CEC, (.iv [(6000, 36000)]), false⟩,
    ⟨0x04, 1, .u16, .rw, 0x1F4, (.iv [(100, 3000)]), false⟩,
    ⟨0x05, 1, .u16, .ro, 0x0, .any, false⟩,
    ⟨0x06, 1, .u16, .ro, 0x0, .any, false⟩]⟩]

/-- Object records of chapter 15. -/
def objsPower : List Obj := [
  -- Power control (R517)
  ⟨0x2300, 1, 0x07, [
    ⟨0x01, 1, .u8, .wo, 0x0, (.iv [(1, 1)]), false⟩,
    ⟨0x02, 1, .u16, .ro, 0x0, .any, false⟩,
    ⟨0x03, 1, .u8, .rw, 0xF, (.bits 0xF), false⟩,
    ⟨0x04, 1, .u8, .rw, 0x1, (.iv [(1, 1), (2, 2), (3, 3)]), false⟩,
    ⟨0x05, 1, .u64, .rw, 0x3FFFFFFFFF, (.bits 0x3FFFFFFFFF), false⟩,
    ⟨0x06, 1, .u8, .ro, 0x0, .any, false⟩,
    ⟨0x07, 1, .u16, .const, 0xC8, .any, false⟩]⟩,
  -- Requested states (R517)
  ⟨0x2301, 1, 0x26, [
    ⟨0x01, 38, .u8, .rw, 0x0, (.iv [(0, 0), (1, 1), (2, 2)]), true⟩]⟩,
  -- Domain status (R517)
  ⟨0x2302, 1, 0x26, [
    ⟨0x01, 38, .u32, .ro, 0x0, .any, false⟩]⟩,
  -- Auto-wake (R517)
  ⟨0x2303, 1, 0x26, [
    ⟨0x01, 38, .bool, .rw, 0x1, (.iv [(0, 1)]), false⟩]⟩,
  -- Reset (R519)
  ⟨0x2320, 1, 0x05, [
    ⟨0x01, 1, .u8, .rwp, 0x0, (.iv [(0, 0), (1, 1), (2, 2)]), false⟩,
    ⟨0x02, 1, .u8, .ro, 0x1, .any, false⟩,
    ⟨0x03, 1, .u32, .ro, 0x0, .any, false⟩,
    ⟨0x04, 1, .u8, .ro, 0x0, .any, false⟩,
    ⟨0x05, 1, .u32, .ro, 0x0, .any, false⟩]⟩,
  -- Clocks (R519)
  ⟨0x2330, 1, 0x03, [
    ⟨0x01, 1, .u16, .ro, 0x0, .any, false⟩,
    ⟨0x02, 1, .u32, .ro, 0x0, .any, false⟩,
    ⟨0x03, 1, .u32, .ro, 0x0, .any, false⟩]⟩,
  -- Thermal (R520)
  ⟨0x2500, 1, 0x0F, [
    ⟨0x01, 1, .fx32, .rwp, 0x8C0000, (.iv [(-140737488355328, 140737488289792)]), false⟩,
    ⟨0x02, 1, .fx32, .rwp, 0x960000, (.iv [(-140737488355328, 140737488289792)]), false⟩,
    ⟨0x03, 1, .fx32, .rwp, 0x50000, (.iv [(32768, 3276800)]), false⟩,
    ⟨0x04, 1, .fx32, .rwp, 0x50000, (.iv [(65536, 1310720)]), false⟩,
    ⟨0x05, 1, .u16, .rw, 0x7D0, (.iv [(0, 60000)]), false⟩,
    ⟨0x06, 1, .u16, .rw, 0x7D0, (.iv [(500, 60000)]), false⟩,
    ⟨0x07, 1, .u16, .rw, 0x2710, (.iv [(1000, 60000)]), false⟩,
    ⟨0x08, 1, .u16, .rwp, 0xCCCD, (.iv [(32768, 62259)]), false⟩,
    ⟨0x09, 1, .u8, .ro, 0x0, .any, false⟩,
    ⟨0x0A, 1, .u16, .ro, 0xFFFF, .any, false⟩,
    ⟨0x0B, 1, .fx32, .ro, 0x0, .any, false⟩,
    ⟨0x0C, 1, .fx32, .ro, 0x0, .any, false⟩,
    ⟨0x0D, 1, .fx32, .ro, 0x0, .any, false⟩,
    ⟨0x0E, 1, .u8, .ro, 0x0, .any, false⟩,
    ⟨0x0F, 1, .u32, .ro, 0x0, .any, false⟩]⟩,
  -- Sensors (R520)
  ⟨0x2510, 1, 0x18, [
    ⟨0x01, 24, .fx32, .ro, 0x0, .any, false⟩]⟩]

/-- Object records of chapter 15. -/
def objsPower2 : List Obj := [
  -- Calibration (R521)
  ⟨0x2400, 1, 0x08, [
    ⟨0x01, 1, .u8, .wo, 0x0, (.iv [(1, 1), (2, 2), (3, 3)]), false⟩,
    ⟨0x02, 1, .fx32, .rw, 0xF0000, (.iv [(65536, 3276800)]), false⟩,
    ⟨0x03, 1, .u8, .ro, 0x0, .any, false⟩,
    ⟨0x04, 1, .u8, .ro, 0x0, .any, false⟩,
    ⟨0x05, 1, .time64, .ro, 0x0, .any, false⟩,
    ⟨0x06, 1, .u8, .ro, 0x0, .any, false⟩,
    ⟨0x07, 1, .u8, .ro, 0x0, .any, false⟩,
    ⟨0x08, 1, .u32, .ro, 0x0, .any, false⟩]⟩,
  -- Tolerances (R521)
  ⟨0x2401, 1, 0x06, [
    ⟨0x01, 1, .u16, .rw, 0x14, (.iv [(1, 500)]), false⟩,
    ⟨0x02, 1, .u16, .rw, 0x2, (.iv [(1, 500)]), false⟩,
    ⟨0x03, 1, .u16, .rw, 0x8, (.iv [(1, 500)]), false⟩,
    ⟨0x04, 1, .u16, .rw, 0xA, (.iv [(1, 500)]), false⟩,
    ⟨0x05, 1, .u16, .rw, 0x14, (.iv [(1, 500)]), false⟩,
    ⟨0x06, 1, .u16, .rw, 0x32, (.iv [(1, 500)]), false⟩]⟩,
  -- Calibration values (R521)
  ⟨0x2410, 1, 0x05, [
    ⟨0x01, 1, .dom, .rw, 0x0, (.len 256 256 1), true⟩,
    ⟨0x02, 1, .dom, .rw, 0x0, (.len 32 32 1), true⟩,
    ⟨0x03, 1, .dom, .rw, 0x0, (.len 48 48 1), true⟩,
    ⟨0x04, 1, .dom, .rw, 0x0, (.len 32 32 1), true⟩,
    ⟨0x05, 1, .dom, .rw, 0x0, (.len 16 16 1), true⟩]⟩]

/-- Object records of chapter 16. -/
def objsInstruments : List Obj := [
  -- CRC0 (R534)
  ⟨0x9000, 8, 0x0C, [
    ⟨0x01, 1, .u8, .rw, 0x0, (.iv [(0, 0), (1, 1)]), true⟩,
    ⟨0x02, 1, .u8, .rw, 0x20, (.iv [(1, 64)]), true⟩,
    ⟨0x03, 1, .u64, .rw, 0x1EDC6F41, .any, true⟩,
    ⟨0x04, 1, .u64, .rw, 0xFFFFFFFF, .any, true⟩,
    ⟨0x05, 1, .u64, .rw, 0xFFFFFFFF, .any, true⟩,
    ⟨0x06, 1, .u8, .rw, 0x3, (.bits 0x3), true⟩,
    ⟨0x07, 1, .dom, .rw, 0x0, (.len 16 1024 16), true⟩,
    ⟨0x08, 1, .u8, .wo, 0x0, (.iv [(1, 3)]), false⟩,
    ⟨0x09, 1, .u8, .ro, 0x0, .any, false⟩,
    ⟨0x0A, 1, .u64, .rw, 0x0, .any, false⟩,
    ⟨0x0B, 1, .u64, .ro, 0x0, .any, false⟩,
    ⟨0x0C, 1, .u64, .ro, 0x0, .any, false⟩]⟩,
  -- PCG0 (R535)
  ⟨0x9100, 12, 0x14, [
    ⟨0x01, 1, .u8, .wo, 0x0, (.iv [(1, 1), (2, 2), (3, 3), (4, 4)]), false⟩,
    ⟨0x02, 1, .u64, .ro, 0x0, .any, false⟩,
    ⟨0x03, 8, .u64, .ro, 0x0, .any, false⟩,
    ⟨0x0B, 8, .u8, .rw, 0x0, .any, true⟩,
    ⟨0x13, 1, .u16, .ro, 0x0, .any, false⟩,
    ⟨0x14, 1, .u8, .ro, 0x0, .any, false⟩]⟩,
  -- Trace (R536)
  ⟨0x9200, 1, 0x0E, [
    ⟨0x01, 1, .u8, .wo, 0x0, (.iv [(1, 1), (2, 2), (3, 3), (4, 4)]), false⟩,
    ⟨0x02, 1, .u8, .ro, 0x0, .any, false⟩,
    ⟨0x03, 1, .u8, .rw, 0x1, (.iv [(0, 2)]), true⟩,
    ⟨0x04, 1, .u32, .rw, 0x8000, (.iv [(0, 65536)]), true⟩,
    ⟨0x05, 1, .u8, .rw, 0x0, (.iv [(0, 15)]), true⟩,
    ⟨0x06, 1, .u8, .rw, 0x0, (.iv [(0, 4)]), true⟩,
    ⟨0x07, 1, .u32, .rw, 0x0, .any, true⟩,
    ⟨0x08, 1, .u32, .rw, 0xFFFFFFFF, .any, true⟩,
    ⟨0x09, 1, .u8, .ro, 0xFF, .any, false⟩,
    ⟨0x0A, 1, .u32, .ro, 0x0, .any, false⟩,
    ⟨0x0B, 1, .u32, .ro, 0x0, .any, false⟩,
    ⟨0x0C, 1, .u32, .ro, 0xFFFFFFFF, .any, false⟩,
    ⟨0x0D, 1, .dom, .ro, 0x0, .any, false⟩,
    ⟨0x0E, 1, .time64, .ro, 0x0, .any, false⟩]⟩,
  -- Probe 0 (R536)
  ⟨0x9210, 16, 0x05, [
    ⟨0x01, 1, .u8, .rw, 0x0, (.iv [(0, 0), (1, 1), (2, 2)]), true⟩,
    ⟨0x02, 1, .u8, .rw, 0x1, (.iv [(1, 7)]), true⟩,
    ⟨0x03, 1, .u32, .rw, 0x0, .any, true⟩,
    ⟨0x04, 1, .u16, .rw, 0x1, (.iv [(1, 65535)]), true⟩,
    ⟨0x05, 1, .u32, .ro, 0x0, .any, false⟩]⟩]

/-- Every object record of the dictionary. -/
def objs : List Obj :=
  objsIdentity ++
  objsStates ++
  objsGeometry ++
  objsGeometry2 ++
  objsCompositor ++
  objsCompositor2 ++
  objsScanOut ++
  objsTileLink ++
  objsProjection ++
  objsSinks ++
  objsLoops ++
  objsLanes ++
  objsNetwork ++
  objsSafety ++
  objsSafety2 ++
  objsTwin ++
  objsStore ++
  objsPower ++
  objsPower2 ++
  objsInstruments

end Sys2Proof.Machine
end

