-- ==== Sys2Proof/Machine/Parts/Comp.lean ====
section
/-! DEFINITION. State of chapter 04: layers in use, Kerb banks, gain, dose, ageing, dead pixels, budget. -/

namespace Sys2Proof.Machine

/-- A layer configuration: the values of 0x340k and 0x330k that differ from their defaults, and its tone LUT. -/
structure LCfg where
  vals : List (Nat × Nat)
  lut : Option (List Byte)
  deriving DecidableEq, Repr

/-- How a layer is composed in the present frame (R132): not at all, with a configuration, or as its background value. -/
inductive LUse where
  | off
  | live (c : LCfg)
  | background (c : LCfg)
  deriving DecidableEq, Repr

/-- What a layer keeps from frame to frame (R131, R132). -/
structure Layer where
  use : LUse
  /-- Configuration and video buffer of the last frame at which it was ready, since it was enabled. -/
  last : Option LCfg
  /-- Time of the first compose start of the present run at which it was not ready. -/
  lateSince : Option Nat
  deriving DecidableEq, Repr

/-- The maps of a Kerb image (R140). -/
structure KerbImg where
  kseq : Nat
  crc : Nat
  /-- MW, MH and OFFSET of S0 to S3. -/
  desc : List (Nat × Nat × Nat)
  maps : List Byte
  deriving DecidableEq, Repr

/-- A Kerb bank (R142): primary maps, and their complement. -/
structure KerbBank where
  img : KerbImg
  compl : List Byte
  deriving DecidableEq, Repr

/-- The Kerb layer (R138–R143). -/
structure Kerb where
  banks : List KerbBank
  /-- Bank 62 or 63 that is active, as 0 or 1. -/
  active : Nat
  /-- A checked load whose maps the SSV is writing (R141). -/
  loading : Option KerbImg
  /-- The maps held in each SSV core's RAM: the voted copy of the active image. -/
  ram : Option KerbImg
  /-- The other bank is armed: frame on which it lands, and whether it waits for the entry frame. -/
  armed : Option (Nat × Bool)
  deriving DecidableEq, Repr

/-- Sums over one frame of a source (R137, R154). -/
structure Sums where
  d : Nat
  fd : Nat
  maxFd : Nat
  out : Nat
  satD : Nat
  satF : Nat
  deriving DecidableEq, Repr

/-- The budget limiter of a source (R154, R155). -/
structure Budget where
  /-- No frame has been judged yet. -/
  fresh : Bool
  bEff : Word32
  target : Word32
  /-- The ramp in progress: its start value, and frames and length in ns gone by. -/
  ramp : Option (Word32 × Nat)
  /-- The ramp in progress runs over the cut ramp, not the rise ramp (R155). -/
  cut : Bool
  /-- Scale of the frame for which the limiter last ran, and of the one before it. -/
  scale : Word32
  before : Word32
  deriving DecidableEq, Repr

/-- What the compositor holds for a source. -/
structure Src where
  /-- Clamped rows, by field × 2,048 + row: of the frame being composed (R148), of the one that waits, and of the front buffer. -/
  pRows : List (Nat × List Nat)
  pReady : List (Nat × List Nat)
  pFront : List (Nat × List Nat)
  /-- Rows that the compositor has written in the frame being composed, and the buffer that the SOU reads. -/
  back : List (Nat × List Nat)
  /-- A frame composed in full that waits for its frame milestone while the next one is composed. -/
  ready : List (Nat × List Nat)
  front : List (Nat × List Nat)
  /-- Sums of the frame being composed and of the frame before, by field (R244). -/
  sums : List Sums
  lastSums : List Sums
  budget : Budget
  /-- Dead-pixel bits reported, by pixel number, and the map in force at this frame. -/
  reported : List Nat
  dead : List Nat
  /-- Dose counters and ageing gains that differ from 0 and 1.0, by block number. -/
  dose : List (Nat × Nat)
  again : List (Nat × Nat)
  /-- Frozen dose blocks (R160). -/
  frozen : List Nat
  /-- Tile-held gain map, by pixel number, complete and in force or being read (R145). -/
  gmap : List (Nat × Nat)
  gmapReady : Bool
  /-- Active gain mesh. -/
  gmesh : Option (List Byte)
  deriving DecidableEq, Repr

/-- State of chapter 04. -/
structure Comp where
  layers : List Layer
  /-- The frame for which the budget limiter last ran (R154). -/
  budgetFor : Option Nat
  kerb : Kerb
  src : List Src
  deriving DecidableEq, Repr

/-- No light seen. -/
def Sums.zero : Sums := { d := 0, fd := 0, maxFd := 0, out := 0, satD := 0, satF := 0 }

/-- A limiter that has seen no frame. -/
def Budget.init : Budget := { fresh := true, bEff := 0, target := 0, ramp := none, cut := false, scale := 0x3F800000, before := 0x3F800000 }

/-- A source that has composed nothing. -/
def Src.init : Src :=
  { pRows := [], pReady := [], pFront := [], back := [], ready := [], front := [], sums := List.replicate 4 Sums.zero, lastSums := List.replicate 4 Sums.zero, budget := Budget.init,
    reported := [], dead := [], dose := [], again := [], frozen := [], gmap := [], gmapReady := false, gmesh := none }

/-- The all-zero maps of R57. -/
def KerbImg.zero : KerbImg := { kseq := 0, crc := 0, desc := [(0, 0, 0), (0, 0, 0), (0, 0, 0), (0, 0, 0)], maps := [] }

/-- Chapter 04 after reset. -/
def Comp.init : Comp :=
  { layers := List.replicate 7 ⟨.off, none, none⟩, budgetFor := none,
    kerb := { banks := [⟨KerbImg.zero, []⟩, ⟨KerbImg.zero, []⟩], active := 0, loading := none, ram := none,
              armed := none },
    src := List.replicate 4 Src.init }

end Sys2Proof.Machine
end

