-- ==== Sys2Proof/Machine/Parts/Fs.lean ====
section
/-! DEFINITION. State of chapter 05: frame store, regions, raster, scan-out, lock. -/

namespace Sys2Proof.Machine

/-- A scan-out configuration accepted and not in force yet (R175): its entries, and the end of its fixed area. -/
structure ScanCfg where
  vals : List (Nat × Nat)
  doms : List (Nat × List Byte)
  fixedEnd : Nat
  /-- Its fixed area holds a gain map, and differs from the one in force (R161, R162). -/
  gain : Bool
  relayout : Bool
  deriving DecidableEq, Repr

/-- Lock of the raster to SYNC_IN or PTP (R177–R179). -/
structure Lock where
  lastEdge : Option Nat
  /-- Accepted edges in a row, and edges or frames in a row within ±2 µs. -/
  edges : Nat
  inPhase : Nat
  /-- Measured SYNC_IN period in ns. -/
  measured : Nat
  err : Int
  /-- When holdover began (R179). -/
  heldAt : Nat
  deriving DecidableEq, Repr

/-- State of chapter 05. -/
structure Fs where
  /-- Bytes of the region pool that are not 0, by byte offset in the frame store. -/
  mem : List Host.Cell
  /-- Words of the frame store that read as uncorrectable, by byte offset / 8 (R160). -/
  bad : List Nat
  /-- Regions: last frame composed from each that has still to retire (R134). -/
  lastUse : List (Nat × Nat)
  fixedEnd : Nat
  /-- The fixed area in force holds a gain map (R161). -/
  gainArea : Bool
  /-- Which of the two output buffers is the front one (R167). -/
  frontBuf : Nat
  accepted : Option ScanCfg
  /-- A state change waits for this frame, on which the landing set of its commit milestone lands (R175). -/
  entryFrame : Option Nat
  /-- Row period that the entry frame begins with, where its nominal one is new (R175). -/
  entryU : Option Nat
  /-- The present frame is the entry frame of a relayout: nothing is composed or emitted (R175). -/
  dark : Bool
  running : Bool
  firstLight : Bool
  /-- Step 8 of R56 is due, and the frame whose MILESTONEs carry no BLANK for it (R565). -/
  lightDue : Bool
  lightFrame : Option Nat
  /-- Milestone of the present frame by the clock and in device time. -/
  fmAt : Nat
  /-- Milestone of the frame before, by the clock. -/
  prevFm : Option Nat
  fmTime : Nat
  /-- T_row of the present and the next frame, in 1/65,536 PIX cycle. -/
  rowU : Nat
  nextRowU : Nat
  /-- In double-buffered mode, T_row of the frame after the next, once its commit milestone has passed (R166). -/
  rowU2 : Option Nat
  /-- Raster rows and compose lead in force. -/
  ra : Nat
  vb : Nat
  g : Nat
  lead : Nat
  /-- Frame being composed, and whether its commit milestone has passed (R174). -/
  compFrame : Nat
  composing : Bool
  cmTaken : Bool
  /-- Landing set of the next composed frame. -/
  landing : List (Nat × List (Nat × Nat) × List (Nat × List Byte))
  /-- Items that landed on the latest frames, with their frame (R453). -/
  landed : List (Nat × Nat)
  /-- Plane and colour tables that come into force at the frame milestone of their frame (R242). -/
  ptuLand : List (Nat × List (Nat × Nat) × List (Nat × List Byte))
  /-- The frame that the front buffer holds, and the one that waits complete for its milestone. -/
  shown : Nat
  readyOf : Option Nat
  halveNext : Option Bool
  /-- Sources with an underrun in this frame, and with a word of the output buffer that read as uncorrectable. -/
  under : Nat
  badRead : Nat
  lock : Lock
  /-- Scrub pass: words checked, and when the pass began. -/
  scrubbed : Nat
  scrubStart : Nat
  /-- Lane groups with a re-stripe in progress: group, start, lanes that remain (R183). -/
  restripe : List (Nat × Nat × Nat)
  deriving DecidableEq, Repr

/-- Chapter 05 after reset. -/
def Fs.init : Fs :=
  { mem := [], bad := [], lastUse := [], fixedEnd := 0, gainArea := false, frontBuf := 0, accepted := none, entryFrame := none, entryU := none, dark := false,
    running := false, firstLight := false, lightDue := false, lightFrame := none, fmAt := 0, prevFm := none, fmTime := 0, rowU := 0, nextRowU := 0, rowU2 := none, ra := 1024, vb := 16, g := 4,
    lead := 128, compFrame := 0, composing := false, cmTaken := false, landing := [], landed := [], ptuLand := [], shown := 0, readyOf := none, halveNext := none,
    under := 0, badRead := 0, lock := ⟨none, 0, 0, 0, 0, 0⟩, scrubbed := 0, scrubStart := 0, restripe := [] }

end Sys2Proof.Machine
end

