-- ==== Sys2Proof/Machine/Parts/Geo.lean ====
section
/-! DEFINITION. State of chapter 03: object lists, vehicle state, shading, levelling. -/

namespace Sys2Proof.Machine

/-- An object entry (R98), each field as its pattern. -/
structure ObjE where
  oid : Nat
  cls : Nat
  flags : Nat
  tso : Nat
  hl : Nat
  hr : Nat
  vb : Nat
  vt : Nat
  hrate : Nat
  vrate : Nat
  range : Nat
  rrate : Nat
  deriving DecidableEq, Repr

/-- A vehicle state (R97, R102): a field whose flag is clear is 0. -/
structure Veh where
  tvs : Nat
  yawValid : Bool
  pitchValid : Bool
  yaw : Nat
  pitch : Nat
  rate : Nat
  speed : Nat
  deriving DecidableEq, Repr

/-- An object list with its vehicle state. -/
structure ObjList where
  lseq : Nat
  tlist : Nat
  vsOnly : Bool
  veh : Veh
  objs : List ObjE
  deriving DecidableEq, Repr

/-- A fragment held (R96). -/
structure Frag where
  fidx : Nat
  fcnt : Nat
  first : Nat
  nent : Nat
  bytes : List Byte
  deriving DecidableEq, Repr

/-- The list being assembled (R100). -/
structure Assembly where
  lseq : Nat
  start : Nat
  /-- Ingress timestamp of fragment 0. -/
  ingress : Option Nat
  frags : List Frag
  deriving DecidableEq, Repr

/-- What levels the low-beam map of a source in one frame: pitch and beam mesh (R83, R401). -/
structure Lev where
  theta : Word32
  mesh : Option (List Byte)
  deriving DecidableEq, Repr

/-- State of chapter 03. -/
structure Geo where
  asm : Option Assembly
  lastLseq : Option Nat
  /-- LSEQs counted as rejected with reason 0x06 (R101). -/
  counted : List Nat
  /-- Accepted lists that are not visible yet. -/
  accepted : List ObjList
  slots : List (Option ObjList)
  /-- Slot of the newest visible list, and of the snapshot. -/
  newest : Option Nat
  inUse : Option Nat
  vehicle : Option Veh
  /-- The newest vehicle state with PITCH_VALID. -/
  pitched : Option Veh
  snap : Option ObjList
  snapVeh : Option Veh
  snapAt : Nat
  /-- Fresh lists in a row since FALL-BACK began, and the emission time at which the ramp starts (R115). -/
  fresh : Nat
  rampStart : Option Nat
  /-- The LSEQ of the list that ended FALL-BACK, until a snapshot has taken it or a later one (R115). -/
  rampWait : Option Nat
  /-- Instant of the last step of visibility, and the slot and vehicle state that were newest before it (R27). -/
  visAt : Option Nat
  newestBefore : Option Nat
  vehicleBefore : Option Veh
  /-- Filter state, rate-limit state and dynamic pitch of R82. -/
  filt : Word32
  ratst : Word32
  thetaD : Word32
  /-- Electronic pitch that each source's levelled mesh has for the frame composed, and for the landing frame. -/
  theta : List Word32
  thetaNext : Word32
  /-- Pitch and mesh of each source in the frame shown, in a frame that waits complete, and in the frame being composed (R401). -/
  lev : List Lev
  levReady : List Lev
  levNext : List Lev
  /-- Sources whose levelled mesh of the frame before stays for one frame (R160). -/
  keep : Nat
  deriving DecidableEq, Repr

/-- Chapter 03 after reset (R82, R118). -/
def Geo.init : Geo :=
  { asm := none, lastLseq := none, counted := [], accepted := [], slots := [none, none, none, none], newest := none,
    inUse := none, vehicle := none, pitched := none, snap := none, snapVeh := none, snapAt := 0, fresh := 0, rampStart := none,
    rampWait := none, visAt := none, newestBefore := none, vehicleBefore := none,
    filt := 0, ratst := 0, thetaD := 0, theta := [0, 0, 0, 0], thetaNext := 0, lev := List.replicate 4 ⟨0, none⟩, levReady := List.replicate 4 ⟨0, none⟩,
    levNext := List.replicate 4 ⟨0, none⟩, keep := 0 }

end Sys2Proof.Machine
end

