-- ==== Sys2Proof/Machine/Parts/Ins.lean ====
section
/-! DEFINITION. State of chapter 16: check-value units, counter groups, trace. -/

namespace Sys2Proof.Machine

/-- A trace record (R529). -/
structure TRec where
  time : Nat
  probe : Nat
  flags : Nat
  tag : Nat
  value : Nat
  deriving DecidableEq, Repr

/-- A trace probe: its queue, oldest first, whether a record was dropped, and events since the last record (R530, R531). -/
structure Probe where
  queue : List TRec
  dropped : Bool
  skip : Nat
  deriving DecidableEq, Repr

/-- Where a running check-value unit stands: offset of its descriptor in application RAM, bytes of that descriptor
already taken, descriptors taken in the run (R523). -/
structure CrcRun where
  desc : Nat
  off : Nat
  taken : Nat
  deriving DecidableEq, Repr

/-- State of the instruments. -/
structure Ins where
  crc : List CrcRun
  /-- When each running counter group's cycle counter was last brought up to date. -/
  pcgSince : List Nat
  probes : List Probe
  /-- The probe whose queue the writer took last (R531). -/
  turn : Nat
  /-- Records written, oldest first (R528). -/
  ring : List TRec
  /-- Place in the trace banks of the oldest record (R528). -/
  ringAt : Nat
  /-- Post-trigger records still to write. -/
  post : Nat
  /-- Bytes of application RAM that are not 0 (R523). -/
  ram : List Host.Cell
  deriving DecidableEq, Repr

/-- Chapter 16 after reset. -/
def Ins.init : Ins :=
  { crc := List.replicate 8 ⟨0, 0, 0⟩, pcgSince := List.replicate 12 0, probes := List.replicate 16 ⟨[], false, 0⟩, turn := 15,
    ring := [], ringAt := 0, post := 0, ram := [] }

end Sys2Proof.Machine
end

