-- ==== Sys2Proof/Machine/Parts/Lanes.lean ====
section
/-! DEFINITION. State of chapter 10: lanes SL0–SL15, T0, T1, and the training of their ports. -/

namespace Sys2Proof.Machine

/-- A lane, beside its entries at 0x701l. -/
structure Lane where
  /-- Consecutive TRAIN blocks received with LOCKED and READY set (R335). -/
  run : Nat
  /-- PRESET and RATES of the last TRAIN block (R333). -/
  preset : Nat
  rates : Nat
  /-- Bit slips since the training began, modulo 66. -/
  slips : Nat
  /-- The receiver has block lock; it is in lane idle after EIDLE (R343). -/
  locked : Bool
  idle : Bool
  /-- Since when the receiver is locked, and adapts (R335). -/
  lockAt : Nat
  /-- The failed lane trains alone, and when it last began to (R348). -/
  alone : Bool
  triedAt : Nat
  /-- The forward pair is trained and its transmitter runs (R344). -/
  fwd : Bool
  /-- When the counts of the lane's PRBS checker were last brought up to date (R350). -/
  prbsAt : Nat
  /-- When the entry of the receive equaliser was last brought up to date (R342). -/
  eqAt : Nat
  deriving DecidableEq, Repr

/-- A rate switch (R337, R338): step, rate aimed at, rate before, frame. Step 0: it begins with the next MILESTONE; 1: its BLANK
MILESTONE has left; 2: that is acknowledged, and the countdown is due; 3: the new rate is in force and the lanes train; 6: the link has resumed. -/
structure Switch where
  step : Nat
  target : Nat
  before : Nat
  frame : Nat
  deriving DecidableEq, Repr

/-- Training of a port: endpoints E0–E7, and 8 for the twin link. -/
structure Train where
  since : Option Nat
  retryAt : Option Nat
  switch : Option Switch
  /-- Start of the rate check, and whether a STATUS in it reported a discard or a gap (R339). -/
  check : Option Nat
  checkBad : Bool
  /-- When the last STATUS came, whose interval the next one follows; the window is over, with no error on the return lane (R339). -/
  statusAt : Nat
  checkOver : Bool
  /-- No step-up until the port trains again (R339). -/
  noStepUp : Bool
  deriving DecidableEq, Repr

/-- State of chapter 10. -/
structure Lanes where
  lanes : List Lane
  trains : List Train
  deriving DecidableEq, Repr

/-- A lane that is off. -/
def Lane.init : Lane :=
  { run := 0, preset := 0, rates := 0, slips := 0, locked := false, idle := false, lockAt := 0, alone := false, triedAt := 0,
    fwd := false, prbsAt := 0, eqAt := 0 }

/-- A port that does not train. -/
def Train.init : Train :=
  { since := none, retryAt := none, switch := none, check := none, checkBad := false, statusAt := 0, checkOver := false, noStepUp := false }

/-- Chapter 10 after reset. -/
def Lanes.init : Lanes := { lanes := List.replicate 18 Lane.init, trains := List.replicate 9 Train.init }

end Sys2Proof.Machine
end

