-- ==== Sys2Proof/Machine/Parts/Lpe.lean ====
section
/-! DEFINITION. State of chapter 09: loop slots, actuators, Safe Torque Off. -/

namespace Sys2Proof.Machine

/-- Delays of a notch filter (R302). -/
structure Notch where
  x1 : Word32
  x2 : Word32
  y1 : Word32
  y2 : Word32
  deriving DecidableEq, Repr

/-- A check sample (R297, R306): the value checked, the output applied with it, the value that Detour mode would go on from, the electrical angle
of an actuator, and when. -/
structure Check where
  y : Word32
  u : Word32
  val : Word32
  elec : Word32
  at_ : Nat
  deriving DecidableEq, Repr

/-- A loop slot (R296–R310). -/
structure Slot where
  /-- When the slot started, the LOOP cycle from which its boundaries count, and the number of its next sample (R297). -/
  startAt : Nat
  t0 : Nat
  k : Nat
  /-- Integrators of the main path and of the phase path. -/
  i : Word32
  iPhase : Word32
  n1 : Notch
  n2 : Notch
  /-- Applied output, and the one computed for the next boundary (R298); likewise the drive phase in degrees. -/
  u : Word32
  next : Word32
  phase : Word32
  nextPhase : Word32
  /-- What the horizontal DAC carries, as a fraction of full scale (R312). -/
  dac : Word32
  /-- Drive phase at CLOSED entry (R301). -/
  phase0 : Word32
  /-- Error and proportional term of the last sample, and the error of the phase path (R303). -/
  e : Word32
  p : Word32
  ePhase : Word32
  /-- Gains in force and the sample period of their notches, gains that wait for a boundary and theirs, and the table in force. -/
  gains : List (Nat × Nat)
  ts : Word32
  newGains : Option (List (Nat × Nat))
  newTs : Word32
  table : Option (List Byte)
  /-- Handover: offset at its start, samples gone, samples in all (R309). -/
  hand : Word32
  handJ : Nat
  handN : Nat
  /-- The source of the output has changed: what the outgoing one would apply (R309). -/
  outgoing : Option Word32
  /-- The last check samples, newest first (R306). -/
  hist : List Check
  /-- A check of R306 has failed since the last boundary, by cause; slot samples that have passed since, and whether the cause of the
  Detour persists (R308). -/
  failed : Nat
  good : Nat
  persists : Bool
  /-- The value at which the feedback is stuck, until a check sample lies beyond the tolerance of it (R306, R308). -/
  stuckAt : Option Word32
  /-- Last valid feedback, its rate per second, the electrical angle, and when (R307). -/
  valid : Word32
  rate : Word32
  elec : Word32
  validAt : Nat
  /-- Invalid power samples in a row. -/
  invalid : Nat
  /-- Detour index, when DETOUR began, and index at the end of the extrapolation. -/
  q : Word32
  detourAt : Nat
  /-- A command or condition that acts at the next boundary: DETOUR cause, stop, return. -/
  detour : Option Nat
  stop : Bool
  leave : Bool
  /-- Half-periods in a row within the limits of R313; the amplitude loop has closed. -/
  settled : Nat
  loops : Bool
  /-- Shaped setpoint of an actuator and its velocity (R318). -/
  r : Word32
  vel : Word32
  /-- Levelling target taken at the last commit milestone. -/
  target : Word32
  /-- A quasi-static slot follows its trajectory. -/
  following : Bool
  /-- The sensor was lost during torque off. -/
  lost : Bool
  /-- Homing: counts moved since, and since when it has stalled. -/
  stallAt : Option Nat
  deriving DecidableEq, Repr

/-- An actuator port (R316, R317). -/
structure Act where
  count : Int
  /-- Counts per second at the last change, and when that was. -/
  speed : Word32
  countAt : Nat
  /-- Sensor lines as last seen, and the count at the last index. -/
  lines : Nat
  index : Option Int
  /-- PWM periods in a row above 1.5 times the limit. -/
  overRun : Nat
  iq : Word32
  idc : Word32
  /-- Integrators of the q and d current controllers. -/
  qInt : Word32
  dInt : Word32
  /-- Duties of the three phases. -/
  duty : List Word32
  /-- Dead time in ns between the two gates of a phase, as inserted in the last period (R316). -/
  dead : Nat
  /-- Count at which the 100 ms of d-axis current of a homing quadrature sensor ended (R316). -/
  aligned : Int
  /-- Torque-off causes: pin in bit 0, Guardrail in bit 1, SSV in bit 2. -/
  causes : Nat
  /-- Path 1 enabled again since, for the 100 µs of R320. -/
  freeAt : Option Nat
  /-- Since when the position lies beyond the travel by the excess limit (R398). -/
  excessSince : Option Nat
  deriving DecidableEq, Repr

/-- State of chapter 09. -/
structure Lpe where
  slots : List Slot
  acts : List Act
  /-- STO_N balls as filtered, true when asserted, and since when it has been high. -/
  sto : Bool
  stoHighSince : Nat
  /-- Slots whose host setpoint has been written since reset; the others have the default of their kind (R325). -/
  hostSet : Nat
  /-- Actuator angle returned to the BGE at the last commit milestone (R318). -/
  thetaA : Word32
  deriving DecidableEq, Repr

/-- A notch at rest. -/
def Notch.init : Notch := { x1 := 0, x2 := 0, y1 := 0, y2 := 0 }

/-- A slot that is off. -/
def Slot.init : Slot :=
  { startAt := 0, t0 := 0, k := 0, i := 0, iPhase := 0, n1 := Notch.init, n2 := Notch.init, u := 0, next := 0, phase := 0, nextPhase := 0,
    dac := 0, phase0 := 0, e := 0, p := 0, ePhase := 0, gains := [], ts := 0, newGains := none, newTs := 0, table := none, hand := 0, handJ := 0, handN := 0,
    outgoing := none, hist := [], failed := 0, good := 0, persists := false, stuckAt := none, valid := 0, rate := 0, elec := 0, validAt := 0, invalid := 0, q := 0, detourAt := 0,
    detour := none, stop := false, leave := false, settled := 0, loops := false, r := 0, vel := 0, target := 0, following := false,
    lost := false, stallAt := none }

/-- An actuator at rest. -/
def Act.init : Act :=
  { count := 0, speed := 0, countAt := 0, lines := 0, index := none, overRun := 0, iq := 0, idc := 0, qInt := 0, dInt := 0, duty := [0, 0, 0], dead := 0, aligned := 0, causes := 0,
    freeAt := none, excessSince := none }

/-- Chapter 09 after reset. -/
def Lpe.init : Lpe :=
  { slots := List.replicate 8 Slot.init, acts := List.replicate 4 Act.init, sto := false, stoHighSince := 0, hostSet := 0, thetaA := 0 }

end Sys2Proof.Machine
end

