-- ==== Sys2Proof/Machine/Parts/Net.lean ====
section
/-! DEFINITION. State of chapters 11 and 17 that the ports hold: transmit queues, HSPI, pins. -/

namespace Sys2Proof.Machine

/-- What waits to leave an Ethernet port: precedence class (0 time protocol, 1 Guardrail, 2 forwarded, 3 answers),
queue of a forwarded frame, and either a whole frame or a UDP payload with its destination (R362, R363). -/
structure EthTx where
  cls : Nat
  queue : Nat
  raw : Bool
  addr : Nat
  port : Nat
  data : List Byte
  /-- Destination MAC of an answer; the spec gives none for the frames of a Guardrail connection. -/
  mac : Option Nat
  deriving DecidableEq, Repr

/-- What waits to leave a CAN controller; Guardrail frames go ahead of DAP frames (R373). -/
structure CanTx where
  guard : Bool
  ident : Nat
  data : List Byte
  deriving DecidableEq, Repr

/-- Pins and host ports (17). -/
structure Pins where
  /-- HSPI responses held: one, and an abort behind it (R553). -/
  hspiHeld : List (List Byte)
  /-- An HSPI request is being served. -/
  hspiBusy : Bool
  /-- Filtered levels of the two ROADBLOCK_N balls, true when asserted (R557). -/
  rbBalls : List Bool
  /-- Since when the two balls differ. -/
  ballsDiffer : Option Nat
  /-- JTAG instruction in force: 0 BYPASS, 1 IDCODE, 2 SAMPLE/PRELOAD, 3 EXTEST, 4 CLAMP (R554). -/
  jtag : Nat
  /-- Boundary cells as preloaded. -/
  cells : List Bool
  /-- Supplies in range (R544). -/
  supplies : Bool
  /-- Levels of LAS0_EN to LAS3_EN (R240, R395). -/
  las : Nat
  deriving DecidableEq, Repr

/-- Pins after power-on. -/
def Pins.init : Pins :=
  { hspiHeld := [], hspiBusy := false, rbBalls := [false, false], ballsDiffer := none, jtag := 1, cells := [], supplies := true, las := 0 }

/-- How a stream stands to the frame being received (R368): none, one under assembly, or one dropped and discarded. -/
inductive Asm where
  | idle | filling | skipping
  deriving DecidableEq, Repr

/-- A video stream (R368, R369): two buffers of raw samples by pixel number, the one that holds the newest complete
frame, the one that the present composition reads, and the frame being received. -/
structure Stream where
  bufs : List (List (Nat × Nat))
  newest : Option Nat
  reading : Option Nat
  /-- Ingress time of the last PDU of the newest complete frame. -/
  doneAt : Nat
  /-- VFRAME of the newest complete frame. -/
  doneFrame : Nat
  asm : Asm
  /-- Sequence number of the last PDU, next sample expected, and VFRAME of the frame under assembly. -/
  lastSeq : Nat
  next : Nat
  vframe : Nat
  deriving DecidableEq, Repr

/-- A stream that has received nothing. -/
def Stream.init : Stream :=
  { bufs := [[], []], newest := none, reading := none, doneAt := 0, doneFrame := 0, asm := .idle, lastSeq := 0, next := 0, vframe := 0 }

/-- A peer-delay exchange of a port (R376, R377): sequence number and time of the last request, steps of the time base at it, whether it
waits for its response, neighbour rate ratio in 2^-41, and the last response: t3 and t4. -/
structure Pdelay where
  seq : Nat
  t1 : Int
  steps : Nat
  waiting : Bool
  sentAt : Option Nat
  ratio : Int
  last : Option (Int × Int)
  deriving DecidableEq, Repr

/-- A Sync that waits for its Follow_Up: sequence number, ingress time in ps, steps of the time base, when it came. -/
structure SyncWait where
  seq : Nat
  t2 : Int
  steps : Nat
  at_ : Nat
  deriving DecidableEq, Repr

/-- The Time Unit (R375–R381). -/
structure Tmu where
  /-- Integrator of the servo, binary32. -/
  i : Word32
  stepPending : Bool
  /-- A sample has been accepted since BOOT; the last accepted one; a sample has been refused since it. -/
  sampled : Bool
  lastAt : Option Nat
  refused : Bool
  /-- Accepted samples in a row below, and at or above, the lock threshold. -/
  below : Nat
  above : Nat
  /-- Sync interval in ns, by the last Sync. -/
  interval : Nat
  sync : Option SyncWait
  pdelay : List Pdelay
  /-- When holdover began. -/
  heldAt : Nat
  deriving DecidableEq, Repr

/-- A time-pulse output (R383, R384): parameters read when the mode was written, next scheduled pulse, end of a pulse in progress. -/
structure Tpo where
  start : Nat
  period : Nat
  width : Nat
  low : Bool
  next : Option Nat
  endAt : Option Nat
  deriving DecidableEq, Repr

/-- State of chapter 11. -/
structure Net where
  streams : List Stream
  /-- Frames waiting at each Ethernet port, oldest first. -/
  ethTx : List (List EthTx)
  /-- Frames waiting at each CAN controller, and controllers in bus-off that recover. -/
  canTx : List (List CanTx)
  recovering : List Bool
  tmu : Tmu
  tpo : List Tpo
  deriving DecidableEq, Repr

/-- No exchange has been made; the rate ratio is 1. -/
def Pdelay.init : Pdelay := { seq := 0, t1 := 0, steps := 0, waiting := false, sentAt := none, ratio := 2 ^ 41, last := none }

/-- The Time Unit after reset. -/
def Tmu.init : Tmu :=
  { i := 0, stepPending := false, sampled := false, lastAt := none, refused := false, below := 0, above := 0, interval := 125000000,
    sync := none, pdelay := [Pdelay.init, Pdelay.init], heldAt := 0 }

/-- An output that is off. -/
def Tpo.init : Tpo := { start := 0, period := 0, width := 0, low := false, next := none, endAt := none }

/-- Chapter 11 after reset. -/
def Net.init : Net :=
  { streams := [Stream.init, Stream.init], ethTx := [[], []], canTx := [[], [], [], []], recovering := [false, false, false, false],
    tmu := Tmu.init, tpo := List.replicate 4 Tpo.init }

end Sys2Proof.Machine
end

