-- ==== Sys2Proof/Machine/Parts/Prj.lean ====
section
/-! DEFINITION. State of chapter 07: Scan Guard and what the Projector Timing Unit drives. -/

namespace Sys2Proof.Machine

/-- Scan Guard of a mirror-drive port (R255–R257). -/
structure Guard where
  /-- Failing samples in a row of the horizontal and of the vertical window. -/
  failH : Nat
  failV : Nat
  /-- Since when every condition has held. -/
  okSince : Option Nat
  /-- Times of the last trips. -/
  trips : List Nat
  /-- Sensed angles of the last sample. -/
  lastH : Word32
  lastV : Word32
  deriving DecidableEq, Repr

/-- Light of an emitter in a plane slot or reference window: level in the unit of its channel, start and length in PIX cycles. -/
structure Drive where
  emitter : Nat
  level : Word32
  start : Nat
  len : Nat
  deriving DecidableEq, Repr

/-- A pulse of a scan line: emitter, column, start in taps from the line's zero crossing, width in taps (R252). -/
structure Pulse where
  emitter : Nat
  column : Nat
  start : Int
  width : Nat
  deriving DecidableEq, Repr

/-- What the PTU holds for a source. -/
structure PtuSrc where
  /-- Budget scale in force at this frame (R242), as U0.16. -/
  scale : Nat
  /-- Slot or line shown last, and its light. -/
  slot : Option Nat
  drive : List Drive
  pulses : List Pulse
  /-- Crossing error of the last half-period in ps (R250). -/
  crossing : Int
  /-- Setpoint codes of a scanner's LAS ports, by emitter (R240, R253). -/
  power : List (Nat × Nat)
  /-- Levels of the longest planes shown since the frame milestone, by 3 × field + emitter (R246). -/
  lit : List (Nat × Word32)
  /-- The latent test of Scan Guard has taken the reference pulses of a half-period (R426). -/
  tested : Bool
  deriving DecidableEq, Repr

/-- State of chapter 07. -/
structure Prj where
  guards : List Guard
  src : List PtuSrc
  deriving DecidableEq, Repr

/-- A guard that has seen no sample. -/
def Guard.init : Guard := { failH := 0, failV := 0, okSince := none, trips := [], lastH := 0, lastV := 0 }

/-- A source that has shown nothing. -/
def PtuSrc.init : PtuSrc := { scale := 0xFFFF, slot := none, drive := [], pulses := [], crossing := 0, power := [], lit := [], tested := false }

/-- Chapter 07 after reset. -/
def Prj.init : Prj := { guards := [Guard.init, Guard.init], src := List.replicate 4 PtuSrc.init }

end Sys2Proof.Machine
end

