-- ==== Sys2Proof/Machine/Parts/Sys.lean ====
section
/-! DEFINITION. State of chapter 02: what leaves the device, DAP clients and transfers, staged configurations, stored copies. -/

namespace Sys2Proof.Machine

/-- A block of a Tile Link stream (R191): the link codes, and data blocks of 8 bytes. -/
inductive Block where
  | fill
  /-- Stripe position, stripe width, and ALIGN count modulo 256. -/
  | align (pos width count : Nat)
  | start
  | data (w : Nat)
  /-- END with the CRC of its packet. -/
  | stop (crc : Nat)
  deriving DecidableEq, Repr

/-- What the device puts on its ports in one command. -/
inductive Out where
  /-- A DAP response PDU to a client (R39). -/
  | dap (c : Client) (pdu : List Byte)
  /-- A Tile Link packet to an endpoint (R192, R193, R195): when its first block slot begins, in quarters of a ps by the clock; lanes of
  a single-lane form or 0 for the striped form; header word, payload words, CRC of the END block; and its block slots, each with the blocks
  at its stripe positions. In single-lane form each lane named carries the one position. -/
  | tl (ep at_ lanes head : Nat) (words : List Nat) (crc : Nat) (slots : List (List Block))
  /-- IDLE packets of one header that have left on a port, each END at most 2 µs after the END before it (R201); the last ends at `at_`. -/
  | idles (ep at_ head crc n : Nat)
  /-- An Ethernet frame on a port (R362). -/
  | eth (port : Nat) (bytes : List Byte)
  /-- A CAN frame: controller, identifier, data (R373). -/
  | can (ctl ident : Nat) (data : List Byte)
  /-- A UDP datagram on an Ethernet port: VLAN identifier and PCP of its tag if any, peer address and port, payload (R360, R362). -/
  | udp (net : Nat) (vlan : Option (Nat × Nat)) (mac : Option Nat) (addr port : Nat) (data : List Byte)
  /-- A time-protocol message on a port (R376–R378): type as IEEE 1588 numbers it, sequence number, and its times and corrections in ps. -/
  | ptp (net domain msg seq : Nat) (vals : List Int)
  /-- A packet on the twin link: header word, payload words, CRC (R448). -/
  | twl (head : Nat) (words : List Nat) (crc : Nat)
  /-- The bytes an HSPI transaction returns (R552). -/
  | hspi (data : List Byte)
  /-- Interrupt to both APC pairs (R430). -/
  | irq
  /-- Non-maskable trap to both APC pairs (R430). -/
  | nmi
  /-- A pulse or level on a named pin (17). -/
  | pin (name : String) (level : Bool)
  /-- A high pulse of a width in ns on a named pin, from now (R181). -/
  | pulse (name : String) (ns : Nat)
  /-- Ball ROWr takes a level, a delay in ns from now (R286). -/
  | gate (row delay : Nat) (level : Bool)
  /-- Blocks sent on a lane by the lane layer: lane and control code (R191, R332). -/
  | block (lane code : Nat) (bytes : List Byte)
  /-- A lane sends a raw PRBS pattern, or with pattern 0 no longer (R350). -/
  | prbs (lane pattern : Nat)
  /-- The stream that a segment chain shifts and latches (R282). -/
  | chain (n : Nat) (stream : List Byte)
  /-- The bits that a JTAG instruction returns (R554). -/
  | jtag (value : Nat)
  /-- The boundary cells drive the balls from now, or with no cells no longer (R554). -/
  | boundary (cells : List Bool)
  deriving DecidableEq, Repr

/-- A commit-acting configuration accepted and waiting for its frame (R174). -/
structure Armed where
  /-- The commit entry that armed it, as index × 256 + sub-index. -/
  item : Nat
  vals : List (Nat × Nat)
  doms : List (Nat × List Byte)
  landing : Nat
  /-- Checked against dimensions that are not in force: lands with the entry frame (R175). -/
  entry : Bool
  deriving DecidableEq, Repr

/-- The last exchange with a DAP client (R45). -/
structure ClientRec where
  client : Client
  request : List Byte
  response : List Byte
  sentAt : Nat
  deriving DecidableEq, Repr

/-- An open segmented transfer (R42). -/
structure Xfer where
  client : Client
  tag : Byte
  upload : Bool
  key : Nat
  /-- Staging buffer of a download, or the value of an upload at its initiate. -/
  data : List Byte
  total : Nat
  /-- Number of the next segment. -/
  next : Nat
  /-- The LAST segment has arrived. -/
  last : Bool
  /-- Time of the last message of the transfer. -/
  at_ : Nat
  deriving DecidableEq, Repr

/-- A stored configuration copy (R58, R59): header fields, entries, and Kerb section. -/
structure ConfCopy where
  magic : Nat
  seq : Nat
  format : Nat
  bodyLen : Nat
  kerbOff : Nat
  kerbLen : Nat
  written : Nat
  image : Nat
  crc : Nat
  vals : List (Nat × Nat)
  doms : List (Nat × List Byte)
  kerb : List Byte
  deriving DecidableEq, Repr

/-- A save in progress (R61, R63): the target copy (0 A, 1 B), the values of the instant of acceptance, the attempt. -/
structure SaveJob where
  target : Nat
  copy : ConfCopy
  attempt : Nat
  deriving DecidableEq, Repr

/-- A state change accepted and waiting for its milestone (R52). -/
structure StateReq where
  target : Nat
  cause : Nat
  /-- The configuration checked at acceptance. -/
  vals : List (Nat × Nat)
  deriving DecidableEq, Repr

/-- State of the dictionary server and of the device states (02). -/
structure Sys where
  /-- Steps of R56 reached, 0 before power-good. -/
  bootStep : Nat
  /-- Cause with which the present boot began: 0x01 or 0x02 (R52). -/
  bootCause : Nat
  /-- The boot commit was refused: result code and detail (R566). -/
  bootRefused : Option (Nat × Nat)
  /-- The recovery loader runs in place of the firmware (R469). -/
  recovery : Bool
  stateReq : Option StateReq
  /-- State before HOLD, as its code (R52). -/
  before : Nat
  /-- APC pairs running: APC0–APC1, APC2–APC3. -/
  apc : List Bool
  clients : List ClientRec
  xfers : List Xfer
  save : Option SaveJob
  /-- Owners of the claim records that are not free: sub-index, OCLASS × 256 + OINST (R66). -/
  claims : List (Nat × Nat)
  deriving DecidableEq, Repr

/-- Chapter 02 after reset. -/
def Sys.init : Sys :=
  { bootStep := 0, bootCause := 1, bootRefused := none, recovery := false, stateReq := none, before := 1, apc := [false, false],
    clients := [], xfers := [], save := none, claims := [] }

end Sys2Proof.Machine
end

