-- ==== Sys2Proof/Machine/Parts/Pwr.lean ====
section
/-! DEFINITION. State of chapter 15: power domains, reset, clocks, temperature, calibration. -/

namespace Sys2Proof.Machine

/-- A DAP request that waits for a domain to wake (R498). -/
structure Stall where
  client : Client
  pdu : List Byte
  dom : Nat
  since : Nat
  deriving DecidableEq, Repr

/-- A calibration record (R516): its header, and the values of R513 by entry. -/
structure CalRec where
  magic : Nat
  seq : Nat
  format : Nat
  len : Nat
  written : Nat
  tLogic : Nat
  tPower : Nat
  vals : List (Nat × Nat)
  doms : List (Nat × List Byte)
  crc : Nat
  deriving DecidableEq, Repr

/-- Calibration in progress and its history (R514, R515). -/
structure Cal where
  running : Bool
  startedAt : Nat
  /-- A trigger has come and waits. -/
  waiting : Bool
  retries : Nat
  retryAt : Option Nat
  /-- Mean readings of the dies at the last run that accepted every item. -/
  refs : Option (Int × Int)
  /-- Mean readings of the dies at the last run. -/
  runLogic : Int
  runPower : Int
  /-- Record under save, 0 or 1, with its content. -/
  saving : Option (Nat × CalRec)
  attempt : Nat
  /-- The trigger of the first run after BOOT has been taken. -/
  firstDone : Bool
  deriving DecidableEq, Repr

/-- State of chapter 15. -/
structure Pwr where
  /-- Start of the wake of each waking domain, and when each domain that is off went off. -/
  wakeAt : List (Nat × Nat)
  offAt : List (Nat × Nat)
  /-- State that each domain is entering, 0x01 retention or 0x02 off (R497). -/
  entering : List (Nat × Nat)
  /-- Domains to wake again once their entry completes (R499). -/
  rewake : List Nat
  /-- The last wake event: when it came, and the domains that it named (R497, R500). -/
  named : Nat × List Nat
  /-- State from which each waking domain wakes. -/
  wokeFrom : List (Nat × Nat)
  stalled : List Stall
  /-- Retention signatures by bank, in AON (R501). -/
  sigs : List (Nat × Nat)
  /-- The device is held in reset by RESET_N, and since when the pin is low (R503). -/
  inReset : Bool
  pinLow : Bool
  lowSince : Nat
  /-- When the last reset began (R375). -/
  resetAt : Nat
  /-- Since when a stuck pin has read high; stuck-reset tolerance as last configured (R504). -/
  highSince : Nat
  tolerant : Bool
  /-- A clock check that failed and is to be raised after the restart (R506). -/
  clockFault : Option Nat
  /-- Readings in FX32, and the history of samples of the last second: time and readings. -/
  temps : List Int
  hist : List (Nat × List Int)
  /-- Since when each broken sensor has been near the mean of its neighbours (R508). -/
  nearSince : List (Nat × Nat)
  /-- Start of the present thermal state and of its present step interval, and since when every sensor is Cool (R511). -/
  thermSince : Nat
  stepFrom : Nat
  coolSince : Option Nat
  hot : Bool
  cal : Cal
  deriving DecidableEq, Repr

/-- No calibration has run. -/
def Cal.init : Cal :=
  { running := false, startedAt := 0, waiting := false, retries := 0, retryAt := none, refs := none, runLogic := 0,
    runPower := 0, saving := none, attempt := 0, firstDone := false }

/-- Chapter 15 after reset; sensors read 25 °C (DESIGN CHOICE, log entry 3). -/
def Pwr.init : Pwr :=
  { wakeAt := [], offAt := [], entering := [], rewake := [], named := (0, []), wokeFrom := [], stalled := [], sigs := [], inReset := false,
    pinLow := false, lowSince := 0, resetAt := 0, highSince := 0, tolerant := false, clockFault := none,
    temps := List.replicate 24 1638400, hist := [], nearSince := [],
    thermSince := 0, stepFrom := 0, coolSince := none, hot := false, cal := Cal.init }

end Sys2Proof.Machine
end

