-- ==== Sys2Proof/Machine/Parts/Safe.lean ====
section
/-! DEFINITION. State of chapter 12: fault log, Roadblock, ALIVE, output masks, Beam Limit Checker, voters, Guardrail connections. -/

namespace Sys2Proof.Machine

/-- A log entry of the FCOL (R432). -/
structure LogE where
  src : Nat
  kind : Nat
  arg : Nat
  active : Bool
  latched : Bool
  safety : Bool
  /-- ALIVE stop taken, and taken as a sticky stop. -/
  alive : Bool
  sticky : Bool
  count : Nat
  first : Nat
  last : Nat
  /-- Order in which the entries were taken, for the oldest one. -/
  ord : Nat
  deriving DecidableEq, Repr

/-- A glare region of R418, angles as OA16 patterns. -/
structure Region where
  hl : Nat
  hr : Nat
  vb : Nat
  vt : Nat
  level : Nat
  deriving DecidableEq, Repr

/-- A Guardrail connection in operation (R416, R417). -/
structure Conn where
  lastSeq : Option Nat
  /-- Consecutive accepted frames with d = 1 while LOST. -/
  recover : Nat
  /-- Monotonic time of the last accepted frame, or of the enable. -/
  since : Nat
  /-- Source mask and regions of the last GLARE frame. -/
  glareMask : Nat
  regions : List Region
  /-- Speed, supply state and owner lock of the last VEHICLE frame. -/
  vehicle : Option (Nat × Nat × Nat)
  /-- Beam mode asked for each source, 0 none. -/
  beam : List Nat
  /-- SEQ of the next produced frame. -/
  txSeq : Nat
  deriving DecidableEq, Repr

/-- What the SSV has decided for a source (R400, R418, R421): zone-blank bitmap (bit j·64 + i), whether a low-beam limit
applies and the node factors of its map (none listed: every node is 0xFFFF), beam mode, and glare regions. -/
structure Mask where
  blank : Nat
  limit : Bool
  low : List Nat
  beam : Nat
  regions : List Region
  deriving DecidableEq, Repr

/-- A zone's sums over the fields (R403). -/
structure ZoneSum where
  zone : Nat
  d : List Nat
  e : List Nat
  deriving DecidableEq, Repr

/-- What the limits of a zone rest on (R405): pixels, Kerb term K, floor F, and direction box. -/
structure ZoneLim where
  zone : Nat
  n : Nat
  k : Nat
  f : Nat
  hLo : Int
  hHi : Int
  vLo : Int
  vHi : Int
  deriving DecidableEq, Repr

/-- The Beam Limit Checker of one source (R403–R407). -/
structure Blc where
  sums : List ZoneSum
  /-- Zones that the SSV blanks, and frames in a row with D at or below C of those. -/
  blank : Nat
  okRun : List (Nat × Nat)
  /-- Zones whose latest comparison had D above C; one did so in this frame; frames in a row with one. -/
  aboveZones : List Nat
  aboveNow : Bool
  aboveRun : Nat
  /-- A zone had E above its ceiling in this frame; frames in a row with one, and ARG of the standing record of step 3. -/
  ceNow : Bool
  ceRun : Nat
  ceArg : Option Nat
  /-- The checker has blocked the source: step 3, until a release (R397, R406). -/
  blocked : Bool
  /-- Frames in a row with E below F, by zone. -/
  flRun : List (Nat × Nat)
  /-- Zones whose floor check is skipped in this frame. -/
  skip : List Nat
  /-- Start of the time with every zone within its ceiling, in fall-back. -/
  calmSince : Option Nat
  fallBack : Bool
  /-- A floor violation has been seen in this frame. -/
  floorHit : Bool
  deriving DecidableEq, Repr

/-- State of chapter 12. -/
structure Safe where
  log : List (Option LogE)
  nextOrd : Nat
  conns : List Conn
  /-- Sources with an SSV-decision cause present: BLC in bits 0–3, 2-out-of-2 in bits 4–7, illumination in bits 8–11; and
  the safety records that caused each Roadblock: source, block, kind, argument. -/
  rbSsv : Nat
  rbRecs : List (Nat × Nat × Nat × Nat)
  /-- The voter has failed: two remaining cores disagreed (R410). -/
  voterFailed : Bool
  /-- Masks of the sources on which path 1 and path 2 act, and of those whose path 1 awaits a MILESTONE. -/
  path1 : Nat
  path2 : Nat
  path1Ending : Nat
  /-- Time since which ROADBLOCK_N has been high after its filter. -/
  rbHighSince : Nat
  /-- Levels of ALIVE_P and ALIVE_N (R434). -/
  aliveP : Bool
  aliveN : Bool
  lastToggle : Nat
  /-- Standing readback fault of ALIVE. -/
  aliveReadback : Bool
  /-- No voted toggle has come for 600 µs (R434). -/
  silent : Bool
  /-- Decisions in force, the newest decisions, and those that wait for a landing, oldest first, with the instant at which each is complete
  (R402). -/
  masks : List Mask
  pendMasks : List Mask
  maskQueue : List (List (Nat × Mask))
  /-- Limits of the frame that is read, of a frame that waits complete, and of the frame being composed (R405). -/
  limits : List (List ZoneLim)
  limReady : List (List ZoneLim)
  limNext : List (List ZoneLim)
  blc : List Blc
  /-- Core states: in the vote, and times of the resynchronisations in the last 24 h (AON). -/
  cores : List Bool
  resyncs : List Nat
  /-- Frames in a row with an output signature or illumination difference, by source (R425, R411). -/
  sigRun : List Nat
  illumRun : List Nat
  /-- When the latent tests ran last, since reset (R426). -/
  latentAt : Option Nat
  cmdRes : Nat
  cmdConn : Nat
  cmdSeq : Nat
  deriving DecidableEq, Repr

/-- A connection that has received nothing. -/
def Conn.init : Conn :=
  { lastSeq := none, recover := 0, since := 0, glareMask := 0, regions := [], vehicle := none, beam := [0, 0, 0, 0], txSeq := 0 }

/-- No zone blanked and no low-beam limit; the beam mode is the fail-safe one (R437). -/
def Mask.clear : Mask := { blank := 0, limit := false, low := [], beam := 1, regions := [] }

/-- A checker that has seen no row. -/
def Blc.init : Blc :=
  { sums := [], blank := 0, okRun := [], aboveZones := [], aboveNow := false, aboveRun := 0, ceNow := false, ceRun := 0, ceArg := none, blocked := false, flRun := [], skip := [],
    calmSince := none, fallBack := false, floorHit := false }

/-- Chapter 12 after power-on. -/
def Safe.init : Safe :=
  { log := List.replicate 64 none, nextOrd := 0, conns := List.replicate 16 Conn.init, rbSsv := 0, rbRecs := [], voterFailed := false,
    path1 := 0, path2 := 0, path1Ending := 0, rbHighSince := 0, aliveP := false, aliveN := false, lastToggle := 0, aliveReadback := false, silent := false,
    masks := List.replicate 4 Mask.clear, pendMasks := List.replicate 4 Mask.clear, maskQueue := [[], [], [], []],
    limits := [[], [], [], []], limReady := [[], [], [], []], limNext := [[], [], [], []], blc := List.replicate 4 Blc.init, cores := [true, true, true], resyncs := [],
    sigRun := [0, 0, 0, 0], illumRun := [0, 0, 0, 0], latentAt := none, cmdRes := 0, cmdConn := 0, cmdSeq := 0 }

end Sys2Proof.Machine
end

