-- ==== Sys2Proof/Machine/Parts/Skb.lean ====
section
/-! DEFINITION. State of chapter 08: sink channels, tracking rails, pattern engines, segment chains, matrix. -/

namespace Sys2Proof.Machine

/-- A sink channel. -/
structure Chan where
  /-- Level, amplitude code and on-time in LOOP cycles of the present own period, and its length (R265–R268). -/
  level : Nat
  amp : Nat
  on : Nat
  len : Nat
  /-- Failing and passing samples in a row, for OPEN, LED_SHORT and LOW_HEADROOM (R270). -/
  fails : List Nat
  passes : List Nat
  /-- A valid sample was taken in the present bank period. -/
  sampled : Bool
  /-- Charge of this frame in mA × LOOP cycles × 1,023 (R271). -/
  charge : Nat
  deriving DecidableEq, Repr

/-- What a running pattern engine waits for. -/
inductive EngWait where
  | none
  /-- RAMP: value at its start, target, start and length in ns. -/
  | ramp (a v start len : Nat)
  | hold (start len : Nat)
  /-- Frame milestones still to come. -/
  | frames (n : Nat)
  | time (phase : Nat)
  deriving DecidableEq, Repr

/-- A pattern engine (R274, R275). -/
structure Engine where
  value : Nat
  counters : List (Option Nat)
  /-- Instructions in a row that took no time. -/
  untimed : Nat
  wait : EngWait
  /-- Levels of the targets at the last sampling. -/
  levels : List Nat
  deriving DecidableEq, Repr

/-- A segment chain (R283, R284): levels in force at the last frame milestone, the stream shifted in the last update, and
mismatches in a row. -/
structure Chain where
  levels : List Nat
  stream : Option (List Byte)
  bad : Nat
  deriving DecidableEq, Repr

/-- A row of the direct matrix as shown: row, time from the slot's start at which its gate is asserted in ns, light interval in LOOP cycles,
and for each column its amplitude code, on-time and the start of its window. -/
structure MatrixShow where
  row : Nat
  gateAt : Nat
  light : Nat
  cols : List (Nat × Nat × Nat)
  deriving DecidableEq, Repr

/-- State of chapter 08. -/
structure Skb where
  chans : List Chan
  engines : List Engine
  chains : List Chain
  /-- Valid VRAIL readings in a row since a fall-back (R273). -/
  railOk : List Nat
  /-- Failing and passing samples in a row of a matrix segment, by row × 128 + column (R270, R287). -/
  segs : List (Nat × List Nat × List Nat)
  /-- Front and back half of the matrix frame memory, rows of drive values, and whether the back half is complete. -/
  front : List (List Nat)
  back : List (Nat × List Nat)
  /-- The present frame is late under R170, so what the SOU writes is no new frame (R285). -/
  late : Bool
  show_ : Option MatrixShow
  /-- The row whose gate is asserted in the present slot (R286). -/
  gate : Option Nat
  deriving DecidableEq, Repr

/-- A channel that is off. -/
def Chan.init : Chan := { level := 0, amp := 0, on := 0, len := 0, fails := [0, 0, 0], passes := [0, 0, 0], sampled := false, charge := 0 }

/-- A stopped engine. -/
def Engine.init : Engine := { value := 0, counters := [none, none], untimed := 0, wait := .none, levels := [] }

/-- Chapter 08 after reset. -/
def Skb.init : Skb :=
  { chans := List.replicate 128 Chan.init, engines := List.replicate 8 Engine.init, chains := [⟨[], none, 0⟩, ⟨[], none, 0⟩],
    railOk := [0, 0, 0, 0], segs := [], front := [], back := [], late := false, show_ := none, gate := none }

end Sys2Proof.Machine
end

