-- ==== Sys2Proof/Machine/Parts/Tl.lean ====
section
/-! DEFINITION. State of chapter 06: the port of each endpoint E0–E7. -/

namespace Sys2Proof.Machine

/-- Why the device reads or writes registers of an endpoint. -/
inductive Why where
  /-- Identity check and TCONFIG (R224). -/
  | ident | config
  /-- Fault maps asked again (R221). -/
  | maps
  /-- Gain map: its description, and the request to send it (R222). -/
  | gainInfo | gainAsk
  /-- The register window (R231). -/
  | window
  /-- Plane schedule (R239). -/
  | planes
  deriving DecidableEq, Repr

/-- A register packet to send: REG_WR with its values, or REG_RD. -/
structure RegOp where
  why : Why
  write : Bool
  first : Nat
  count : Nat
  vals : List Nat
  deriving DecidableEq, Repr

/-- A packet that waits for its answer (R200). -/
structure Unans where
  seq : Nat
  typ : Nat
  arg : Nat
  words : List Nat
  /-- Lanes of a single-lane form, 0 for the striped form (R193). -/
  lanes : Nat
  sends : Nat
  /-- The register packet, for TYPE 0x7 and 0x8. -/
  op : Option RegOp
  deriving DecidableEq, Repr

/-- A packet that waits to leave (R201): since when, what it is, and the SEQ that it keeps when it is sent again (R198). -/
structure Tx where
  at_ : Nat
  typ : Nat
  arg : Nat
  words : List Nat
  lanes : Nat
  again : Option Nat
  op : Option RegOp
  deriving DecidableEq, Repr

/-- A map being received (R221, R222): bytes by offset. -/
structure MapRx where
  bytes : List (Nat × List Byte)
  tries : Nat
  deriving DecidableEq, Repr

/-- The port of an endpoint. -/
structure Port where
  /-- Last forward SEQ used; last return SEQ seen since training, and sequence gaps counted (R198). -/
  seq : Nat
  retSeq : Option Nat
  gaps : Nat
  /-- Packets that wait to leave. -/
  txq : List Tx
  /-- When the next block slot begins, in quarters of a ps; slots since the last ALIGN slot, and its count (R192). -/
  slotAt : Nat
  since : Nat
  alignNo : Nat
  /-- When the last END left, in quarters of a ps (R201). -/
  lastEnd : Nat
  unans : List Unans
  /-- Register packets that wait for the one unanswered. -/
  regq : List RegOp
  /-- No further valid packet is sent (R200). -/
  mute : Bool
  /-- BLANK with HOLD = 1 is in force, and the port has no capacity for its rows (R208). -/
  hold : Bool
  noCap : Bool
  /-- The MILESTONE of the present frame, and of the next one, carried the BLANK flag. -/
  dark : Bool
  darkNext : Bool
  /-- Training is complete; the identity check is passed (R224). -/
  trained : Bool
  ready : Bool
  /-- TLVER as read. -/
  tlver : Nat
  /-- A MILESTONE has left, so a STATUS is due; it has come; STATUS packets missing in a row (R220). -/
  due : Bool
  gotStatus : Bool
  missing : Nat
  /-- Time of the last valid return packet. -/
  lastRet : Nat
  openMap : MapRx
  shortMap : MapRx
  gainMap : MapRx
  /-- TGMAP_CRC and TGMAP_LEN as read, and when the map was asked for. -/
  gainCrc : Nat
  gainLen : Nat
  gainAsked : Option Nat
  /-- The endpoint's gain map has been placed. -/
  gainDone : Bool
  /-- Lanes, within the group, at the stripe positions; the return lane (R190, R225). -/
  stripe : List Nat
  ret : Nat
  /-- Lane rate in force, 0x00 to 0x03 (R208). -/
  rate : Nat
  /-- The landing plane schedule waits for the ACK of its registers (R239), and it did when the last MILESTONE left. -/
  planesWait : Bool
  planesHeld : Bool
  deriving DecidableEq, Repr

/-- No map bytes received. -/
def MapRx.empty : MapRx := { bytes := [], tries := 0 }

/-- A port that is down. -/
def Port.init : Port :=
  { seq := 0, retSeq := none, gaps := 0, txq := [], slotAt := 0, since := 0, alignNo := 0, lastEnd := 0, unans := [], regq := [],
    mute := false, hold := false, noCap := false, dark := false, darkNext := false, trained := false, ready := false,
    tlver := 0, due := false, gotStatus := false, missing := 0, lastRet := 0, openMap := MapRx.empty, shortMap := MapRx.empty,
    gainMap := MapRx.empty, gainCrc := 0, gainLen := 0, gainAsked := none, gainDone := false, stripe := [], ret := 0, rate := 0, planesWait := false, planesHeld := false }

/-- State of chapter 06. -/
structure Tl where
  ports : List Port
  /-- TSE0 to TSE3 as driven, bit per group. -/
  tse : Nat
  /-- When each TSE was asserted, while its settle time runs. -/
  settling : List (Nat × Nat)
  /-- Endpoints, with their groups, whose last frame is the present one (R228). -/
  leaving : List (Nat × Nat)
  /-- A block reset has come: the ports that are up train again at the next frame milestone (R430). -/
  redo : Bool
  deriving DecidableEq, Repr

/-- Chapter 06 after reset. -/
def Tl.init : Tl := { ports := List.replicate 8 Port.init, tse := 0, settling := [], leaving := [], redo := false }

end Sys2Proof.Machine
end

