-- ==== Sys2Proof/Machine/Parts/Twin.lean ====
section
/-! DEFINITION. State of chapter 13: the claim interlock, beats, partner, handover, bulk sync. -/

namespace Sys2Proof.Machine

/-- What the packets of the partner say: its last MILEPOST, and the header of its last state copy (R448, R451). -/
structure Partner where
  id : Nat
  state : Nat
  role : Nat
  ready : Nat
  frame : Nat
  tfm : Nat
  cfgCrc : Nat
  kseq : Nat
  cls : Nat
  deriving DecidableEq, Repr

/-- A Kerb image being received from the partner (R452): KSEQ, length, CRC, landing frame, bytes so far. -/
structure KerbRx where
  kseq : Nat
  len : Nat
  crc : Nat
  landing : Nat
  bytes : List Byte
  deriving DecidableEq, Repr

/-- State of chapter 13. -/
structure Tw where
  /-- Level of the TWIN_ID strap, and the identity in use (R442). -/
  strap : Nat
  ident : Nat
  /-- The claim gate runs single since the last step 5 of boot (R446), and the twin enable read there (R443). -/
  single : Bool
  enabled : Nat
  claimOut : Bool
  claimIn : Bool
  /-- When CLAIM_IN last changed, and when CLAIM_OUT was asserted. -/
  claimInAt : Nat
  claimAt : Nat
  /-- The claim that stands met one of the partner, or one that had stood for more than 50 µs (R445). -/
  contested : Bool
  meets : Bool
  /-- A takeover was blocked, and the partner's claim has not fallen since (R450). -/
  blocked : Bool
  /-- A planned handover (R460): wanted by this device, offer sent, granted by the partner; an offer of the partner granted here. -/
  wanted : Bool
  offerOut : Bool
  granted : Bool
  offerIn : Bool
  beatOut : Bool
  lastEdge : Nat
  /-- Last packet beat, last BEAT_IN edge, and last one accepted as a beat (R447). -/
  lastTwl : Option Nat
  lastIn : Option Nat
  lastBeatIn : Option Nat
  /-- Beats in a row on each path. -/
  runTwl : Nat
  runIn : Nat
  partner : Option Partner
  /-- SEQ of the last packet sent, by type. -/
  seqs : List Nat
  /-- Signature words of this device by frame, newest first (R453). -/
  sigs : List (Nat × List Nat)
  /-- Signature mismatches in a row, and frames in agreement since bit 7 last cleared. -/
  sigRun : Nat
  agreed : Nat
  /-- TSE levels of the partner by the state copy (R228, R451). -/
  tse : Nat
  /-- The items of the last state copy (R451). -/
  copied : Option CopyBody
  /-- Packets of the twin link whose CRC failed (R448). -/
  crcBad : Nat
  kerb : Option KerbRx
  /-- Bulk sync runs; its segments by offset. -/
  bulk : Bool
  bulkSegs : List (Nat × List Nat)
  /-- When step 7 of boot was reached. -/
  step7At : Nat
  /-- When the next swap drill or its retry is due (R461), and whether the present handover is one. -/
  drillAt : Option Nat
  drilling : Bool
  /-- Execution of the JOIN MILESTONEs of the last takeover (R457), and when the claim last passed in a planned handover (R460). -/
  joinAt : Option Nat
  handedAt : Option Nat
  /-- The next frame milestone takes the partner's FRAME# (R454). -/
  joinFrame : Bool
  deriving DecidableEq, Repr

/-- Chapter 13 after power-on; the strap reads 0 (DESIGN CHOICE, log entry 2). -/
def Tw.init : Tw :=
  { strap := 0, ident := 0, single := true, enabled := 0, claimOut := false, claimIn := false, claimInAt := 0, claimAt := 0,
    contested := false, meets := false, blocked := false, wanted := false, offerOut := false, granted := false, offerIn := false,
    beatOut := false, lastEdge := 0, lastTwl := none, lastIn := none, lastBeatIn := none, runTwl := 0, runIn := 0, partner := none,
    seqs := List.replicate 8 0, sigs := [], sigRun := 0, agreed := 0, tse := 0, copied := none, crcBad := 0, kerb := none, bulk := false, bulkSegs := [],
    step7At := 0, drillAt := none, drilling := false, joinAt := none, handedAt := none, joinFrame := false }

end Sys2Proof.Machine
end

