-- ==== Sys2Proof/Machine/Parts/Nv.lean ====
section
/-! DEFINITION. State of chapter 14: the in-package store, which outlives a reset, the fuses, and the update manager. -/

namespace Sys2Proof.Machine

/-- A dose archive copy (R491): dose counters and ageing gains of each source by block. -/
structure DoseCopy where
  magic : Nat
  seq : Nat
  written : Nat
  /-- Bytes of both maps. -/
  doseLen : Nat
  ageLen : Nat
  crc : Nat
  dose : List (List (Nat × Nat))
  again : List (List (Nat × Nat))
  deriving DecidableEq, Repr

/-- A boot record (R467). -/
structure BootRec where
  magic : Nat
  seq : Nat
  active : Nat
  stage : Nat
  trials : Nat
  cause : Nat
  pending : Nat
  actmode : Nat
  actDigest : List Byte
  pendDigest : List Byte
  crc : Nat
  deriving DecidableEq, Repr

/-- An image slot: the manifest, and the chunks in their sub-sectors by number (R470). Bytes beyond the listed ones read 0. -/
structure SlotImg where
  manifest : List Byte
  chunks : List (Nat × List Byte)
  deriving DecidableEq, Repr

/-- The fuses (R473). -/
structure Fuses where
  imageKeys : List (List Byte)
  keyHashes : List (List Byte)
  revoked : List Bool
  counter : Nat
  /-- Grade: 1 CV2048-AQ, 2 CV2048-LQ (R5). -/
  grade : Nat
  /-- Factory trims: the values of 0x2410:01 to 05 (R516). -/
  trims : List (List Byte)
  deriving DecidableEq, Repr

/-- A journal record (R478): sequence, image, digest of the manifest, stage, chunks stored. -/
structure Journal where
  magic : Nat
  seq : Nat
  image : Nat
  digest : List Byte
  stage : Nat
  stored : List Nat
  crc : Nat
  deriving DecidableEq, Repr

/-- The fault archive (R492): two halves of 32-byte records in order, and the half being written. -/
structure FaultArc where
  halves : List (List (List Byte))
  half : Nat
  /-- Log entries taken before this order are archived. -/
  nextOrd : Nat
  deriving DecidableEq, Repr

/-- The refresher (R466): next block in address order, blocks to take first, and blocks skipped in this pass. -/
structure Refresh where
  next : Nat
  first : List Nat
  skipped : List Nat
  deriving DecidableEq, Repr

/-- The in-package store and the fuses. -/
structure Nv where
  boots : List BootRec
  slots : List SlotImg
  fuses : Fuses
  confs : List ConfCopy
  cals : List CalRec
  journals : List (Option Journal)
  doses : List DoseCopy
  faults : FaultArc
  refresh : Refresh
  deriving DecidableEq, Repr

/-- A rolling restart in progress (R484, R489): slot it restarts from, cause of a fall-back, step. -/
structure Roll where
  slot : Nat
  fall : Option Nat
  step : Nat
  deriving DecidableEq, Repr

/-- Fragments of a manifest or chunk being collected (R475). -/
structure Coll where
  port : Nat
  addr : Nat
  udp : Nat
  image : Nat
  chunk : Nat
  firstAt : Nat
  frags : List (Nat × List Byte)
  deriving DecidableEq, Repr

/-- The update manager. -/
structure Upd where
  /-- Slot of the running image. -/
  slot : Nat
  /-- Chunks stored, and how many of them since the last journal record. -/
  stored : List Nat
  fresh : Nat
  colls : List Coll
  roll : Option Roll
  /-- When the trial operation of the running image began. -/
  trialAt : Nat
  /-- A fall-back refused in SAFE or HOLD that waits, by its cause. -/
  waits : Option Nat
  battLow : Bool
  /-- Slot that the download of a recovery loader fills, 0 when none is open (R469). -/
  target : Nat
  /-- When the last dose archive was written, and whether one that is due waits (R485, R491, R492). -/
  doseAt : Nat
  doseDue : Bool
  deriving DecidableEq, Repr

/-- The update manager after reset. -/
def Upd.init : Upd :=
  { slot := 1, stored := [], fresh := 0, colls := [], roll := none, trialAt := 0, waits := none, battLow := false, target := 0, doseAt := 0, doseDue := false }

end Sys2Proof.Machine
end

