-- ==== Sys2Proof/Machine/Records.lean ====
section
/-! DEFINITION. The records of the in-package store as bytes (R16, R58, R467, R478, R491, R516): their layouts, CRCs and validity (R59), and the
store as it leaves the factory. -/

namespace Sys2Proof.Machine

/-! ### Configuration copies (R58, R59) -/

/-- An entry in the body of a configuration copy: index and sub-index, length, and the value, most significant byte first (R35).
[DESIGN CHOICE, log entry 178] -/
def bodyEnt (k : Nat) (v : List Byte) : List Byte := toBe 3 k ++ toBe 4 v.length ++ v

/-- The entries of the body of a configuration copy; a number takes 8 bytes. -/
def ConfCopy.entries (c : ConfCopy) : List Byte :=
  (c.vals.flatMap fun p => bodyEnt p.1 (toBe 8 p.2)) ++ c.doms.flatMap fun p => bodyEnt p.1 p.2

/-- The body of a configuration copy: its entries and the Kerb section. -/
def ConfCopy.body (c : ConfCopy) : List Byte := c.entries ++ c.kerb

/-- The header of a configuration copy up to its CRC (R58). -/
def ConfCopy.head (c : ConfCopy) : List Byte :=
  toBe 4 c.magic ++ toBe 4 c.seq ++ toBe 2 c.format ++ toBe 2 0 ++ toBe 4 c.bodyLen ++ toBe 4 c.kerbOff ++ toBe 4 c.kerbLen
    ++ toBe 8 c.written ++ toBe 4 c.image ++ List.replicate 24 0

/-- The CRC that R58 gives a configuration copy. -/
def ConfCopy.crcOf (c : ConfCopy) : Nat := crc32c (c.head ++ c.body)

/-- A configuration copy with MAGIC, lengths and CRC as a save writes them (R58, R61). -/
def ConfCopy.sealed (c : ConfCopy) : ConfCopy :=
  let d := { c with magic := 0x5A434346, bodyLen := c.body.length, kerbOff := c.entries.length, kerbLen := c.kerb.length }
  { d with crc := d.crcOf }

/-- MAGIC, BODY_LEN and CRC of a configuration copy hold (R59). -/
def ConfCopy.intact (c : ConfCopy) : Bool := c.magic == 0x5A434346 && decide (c.bodyLen ≤ 2097088) && c.crc == c.crcOf

/-- A configuration copy whose header and body are erased (R61). -/
def ConfCopy.empty : ConfCopy :=
  { magic := 0xFFFFFFFF, seq := 0, format := 0, bodyLen := 0, kerbOff := 0, kerbLen := 0, written := 0, image := 0, crc := 0,
    vals := [], doms := [], kerb := [] }

/-! ### Boot records (R467) -/

/-- A digest as its 48 bytes, 0 when there is none. -/
def digest48 (d : List Byte) : List Byte := slice d 0 48

/-- A boot record up to its CRC. -/
def BootRec.head (r : BootRec) : List Byte :=
  toBe 4 r.magic ++ toBe 4 r.seq ++ toBe 1 r.active ++ toBe 1 r.stage ++ toBe 1 r.trials ++ toBe 1 r.cause ++ toBe 1 r.pending
    ++ toBe 1 r.actmode ++ toBe 2 0 ++ digest48 r.actDigest ++ digest48 r.pendDigest ++ List.replicate 140 0

/-- A boot record with its MAGIC and CRC. -/
def BootRec.sealed (r : BootRec) : BootRec :=
  let d := { r with magic := 0x5A425452 }
  { d with crc := crc32c d.head }

/-- A boot record is valid: MAGIC and CRC hold. -/
def BootRec.valid (r : BootRec) : Bool := r.magic == 0x5A425452 && r.crc == crc32c r.head

/-! ### Journal records (R478) -/

/-- A journal record up to its CRC: the fields in the order of R478, with the bitmap of the chunks stored. [DESIGN CHOICE, log entry 178] -/
def Journal.head (j : Journal) : List Byte :=
  let bits (b : Nat) : Nat := (List.range 8).foldl (fun a n => 2 * a + b2n (j.stored.contains (8 * b + n))) 0
  toBe 4 j.magic ++ toBe 4 j.seq ++ toBe 4 j.image ++ digest48 j.digest ++ toBe 1 j.stage ++ toBe 2 j.stored.length
    ++ (List.range 512).map fun b => BitVec.ofNat 8 (bits b)

/-- A journal record with its MAGIC and CRC. -/
def Journal.sealed (j : Journal) : Journal :=
  let d := { j with magic := 0x5A4A524E }
  { d with crc := crc32c d.head }

/-- A journal record is valid: MAGIC and CRC hold. -/
def Journal.valid (j : Journal) : Bool := j.magic == 0x5A4A524E && j.crc == crc32c j.head

/-! ### Dose copies (R491) -/

/-- A map by block as bytes: the blocks that hold something, in rising order. [DESIGN CHOICE, log entry 178] -/
def mapBytes (m : List (List (Nat × Nat))) : List Byte :=
  m.flatMap fun l => toBe 4 l.length ++ l.flatMap fun p => toBe 4 p.1 ++ toBe 4 p.2

/-- The header of a dose copy up to its CRC, in the order of R491, and the maps. [DESIGN CHOICE, log entry 178] -/
def DoseCopy.bytes (c : DoseCopy) : List Byte :=
  toBe 4 c.magic ++ toBe 4 c.seq ++ toBe 8 c.written ++ toBe 4 c.doseLen ++ toBe 4 c.ageLen ++ List.replicate 36 0
    ++ mapBytes c.dose ++ mapBytes c.again

/-- A dose copy with its MAGIC and CRC. -/
def DoseCopy.sealed (c : DoseCopy) : DoseCopy :=
  let d := { c with magic := 0x5A444F53 }
  { d with crc := crc32c d.bytes }

/-- A dose copy is valid: MAGIC and CRC hold. -/
def DoseCopy.valid (c : DoseCopy) : Bool := c.magic == 0x5A444F53 && c.crc == crc32c c.bytes

/-- An archive copy that holds nothing. -/
def DoseCopy.empty : DoseCopy :=
  { magic := 0xFFFFFFFF, seq := 0, written := 0, doseLen := 0, ageLen := 0, crc := 0, dose := [], again := [] }

/-! ### Calibration records (R516) -/

/-- VALUES of a calibration record: items 1 to 6 in order. -/
def CalRec.values (r : CalRec) : List Byte :=
  let dom (n : Nat) : List Byte := ((r.doms.find? fun p => p.1 == 0x241000 + n).map Prod.snd).getD []
  let nums (i n : Nat) : List Byte := (r.vals.filter fun p => decide (i ≤ p.1 / 256 ∧ p.1 / 256 < i + n)).flatMap fun p => toBe 4 p.2
  dom 1 ++ dom 2 ++ dom 3 ++ nums 0x6040 2 ++ dom 4 ++ dom 5 ++ nums 0x6030 4

/-- A calibration record up to its CRC. -/
def CalRec.bytes (r : CalRec) : List Byte :=
  toBe 4 r.magic ++ toBe 4 r.seq ++ toBe 2 r.format ++ toBe 2 0 ++ toBe 4 r.len ++ toBe 8 r.written ++ toBe 4 r.tLogic ++ toBe 4 r.tPower
    ++ r.values

/-- A calibration record with MAGIC, FORMAT, length and CRC as a save writes them. -/
def CalRec.sealed (r : CalRec) : CalRec :=
  let d := { r with magic := 0x5A43414C, format := 0x0100, len := r.values.length }
  { d with crc := crc32c d.bytes }

/-- A calibration record is valid: MAGIC, CRC and the FORMAT major hold. -/
def CalRec.valid (r : CalRec) : Bool := r.magic == 0x5A43414C && r.format / 256 == 1 && r.crc == crc32c r.bytes

/-- A calibration record that holds nothing. -/
def CalRec.empty : CalRec :=
  { magic := 0xFFFFFFFF, seq := 0, format := 0, len := 0, written := 0, tLogic := 0, tPower := 0, vals := [], doms := [], crc := 0 }

/-! ### The store as it leaves the factory -/

/-- A boot record as it leaves the factory (DESIGN CHOICE, log entry 2): the image of slot 1, settled. -/
def BootRec.factory (valid : Bool) : BootRec :=
  let r : BootRec :=
    { magic := 0xFFFFFFFF, seq := 1, active := 1, stage := 0, trials := 0, cause := 0, pending := 0, actmode := 0, actDigest := [],
      pendDigest := [], crc := 0 }
  if valid then r.sealed else r

/-- The manifest of the factory image up to SET_WRITE (DESIGN CHOICE, log entry 2): every configuration format is read, format 1.0 is
written, everything else is 0. -/
def factoryManifest : List Byte := List.replicate 29 0 ++ [0xFF, 1, 0]

/-- Factory trims (DESIGN CHOICE, log entry 2): photodiode gains are 1, every other trim is 0. -/
def factoryTrims : List (List Byte) :=
  [List.replicate 256 0, List.replicate 32 0, List.replicate 48 0, (List.replicate 8 [0x3F, 0x80, 0, 0]).flatten, List.replicate 16 0]

/-- A store as it leaves the factory. -/
def Nv.init : Nv :=
  { boots := [BootRec.factory true, BootRec.factory false], slots := [⟨factoryManifest, []⟩, ⟨[], []⟩],
    fuses := { imageKeys := [[], [], [], []], keyHashes := [[], [], [], []], revoked := [false, false, false, false], counter := 0, grade := 1, trims := factoryTrims },
    confs := [ConfCopy.empty, ConfCopy.empty], cals := [CalRec.empty, CalRec.empty], journals := [none, none],
    doses := [DoseCopy.empty, DoseCopy.empty], faults := { halves := [[], []], half := 0, nextOrd := 0 },
    refresh := { next := 0, first := [], skipped := [] } }

end Sys2Proof.Machine
end

