-- ==== Sys2Proof/Machine/State.lean ====
section
/-! DEFINITION. The state of the device: everything the spec gives it, as plain data, and the state after reset. -/

namespace Sys2Proof.Machine

/-- Device states of R51. -/
inductive Mode where
  | boot | preop | operate | standby | hold | safe
  deriving DecidableEq, Repr

/-- The state of the device. Numbers of the dictionary are held by entry, as index × 256 + sub-index, and an
entry that is not listed holds its default. -/
structure State where
  /-- Commands that wait, first in, first out. -/
  pending : List Instr
  /-- Nanoseconds since the model's start, by the always-on clock. -/
  now : Nat
  /-- The device time base in 2^-32 ns, and its rate adjustment in ppb (R375). -/
  time : Nat
  rate : Int
  /-- What the last command put on the ports. -/
  out : List Out
  /-- A chip reset reaction of this instant, with what had left on the ports and what the store held when it came: the reset ends every
  other event of the instant (R53, R430). -/
  due : Option (List Out × Nv)
  /-- Free values taken so far: the model's own field. -/
  freeCount : Nat
  mode : Mode
  /-- Working values of the dictionary: numeric entries, then STR and DOM entries. -/
  dict : List (Nat × Nat)
  doms : List (Nat × List Byte)
  /-- Values in force of the entries that act only through a commit or at BOOT. -/
  active : List (Nat × Nat)
  activeDoms : List (Nat × List Byte)
  armed : List Armed
  sys : Sys
  safe : Safe
  ins : Ins
  pwr : Pwr
  pins : Pins
  net : Net
  geo : Geo
  comp : Comp
  fs : Fs
  tl : Tl
  prj : Prj
  skb : Skb
  lpe : Lpe
  ln : Lanes
  tw : Tw
  nv : Nv
  upd : Upd
  deriving DecidableEq, Repr

/-- No command of this model ends in a fault: the device answers, records or ignores (R48, R427). -/
inductive Fault where
  deriving DecidableEq, Repr

/-- Why a command has no meaning in the model. -/
inductive Refusal where
  /-- Raised by exec for a row whose meaning is not written yet; safe, since nothing is claimed of it. -/
  | notModelled (mnemonic : String)
  deriving DecidableEq, Repr

/-- The device right after reset (R20, R51, R55): every entry at its default, nothing waiting. -/
def State.reset : State :=
  { pending := [], now := 0, time := 0, rate := 0, out := [], due := none, freeCount := 0, mode := .boot,
    dict := [], doms := [], active := [], activeDoms := [], armed := [],
    sys := Sys.init, safe := Safe.init, ins := Ins.init, pwr := Pwr.init, pins := Pins.init, net := Net.init,
    geo := Geo.init, comp := Comp.init, fs := Fs.init,
    tl := Tl.init, prj := Prj.init, skb := Skb.init, lpe := Lpe.init, ln := Lanes.init, tw := Tw.init, nv := Nv.init, upd := Upd.init }

end Sys2Proof.Machine
end

