-- ==== Sys2Proof/Machine/F32.lean ====
section
/-! DEFINITION. IEEE 754 binary32 arithmetic (R35, R72): exact results rounded to nearest, ties to even. -/

namespace Sys2Proof.Machine

/-- A binary32 pattern taken apart: not a number, an infinity, or the number ±m·2^e. -/
inductive FVal where
  | nan
  | inf (neg : Bool)
  | fin (neg : Bool) (m : Nat) (e : Int)
  deriving DecidableEq, Repr

namespace F32

/-- The binary32 pattern nearest to ±m·2^e, ties to even; overflow gives an infinity. -/
def round (neg : Bool) (m : Nat) (e : Int) : Word32 :=
  let s : Nat := if neg then 2 ^ 31 else 0
  if m = 0 then BitVec.ofNat 32 s else
  let bl : Int := (Nat.log2 m + 1 : Nat)
  let sh : Int := max (bl - 24) (-149 - e)
  let k := sh.toNat
  let q0 : Nat := if sh ≤ 0 then m <<< (-sh).toNat else m >>> k
  let r : Nat := if sh ≤ 0 then 0 else m % 2 ^ k
  let half : Nat := 2 ^ (k - 1)
  let up := decide (0 < sh) && (decide (half < r) || (decide (r = half) && decide (q0 % 2 = 1)))
  let q1 : Nat := if up then q0 + 1 else q0
  let e1 := e + sh
  let q : Nat := if q1 = 2 ^ 24 then 2 ^ 23 else q1
  let e2 := if q1 = 2 ^ 24 then e1 + 1 else e1
  if q < 2 ^ 23 then BitVec.ofNat 32 (s + q) else
  let b : Int := e2 + 150
  if 255 ≤ b then BitVec.ofNat 32 (s + 0x7F800000)
  else BitVec.ofNat 32 (s + b.toNat * 2 ^ 23 + (q - 2 ^ 23))

/-- The value a pattern denotes. -/
def val (x : Word32) : FVal :=
  let n := x.toNat
  let neg := n.testBit 31
  let ex : Nat := n / 2 ^ 23 % 256
  let f : Nat := n % 2 ^ 23
  if ex = 255 then (if f = 0 then .inf neg else .nan)
  else if ex = 0 then .fin neg f (-149)
  else .fin neg (f + 2 ^ 23) ((ex : Int) - 150)

/-- The pattern of a NaN, of +infinity and of -infinity. -/
def nan : Word32 := 0x7FC00000

/-- An infinity by sign. -/
def infinity (neg : Bool) : Word32 := if neg then 0xFF800000 else 0x7F800000

/-- NaN and infinities are out of range in every F32 entry (R35). -/
def finite (x : Word32) : Bool := x.toNat / 2 ^ 23 % 256 != 255

/-- Opposite number. -/
def neg (x : Word32) : Word32 := x ^^^ 0x80000000

/-- Absolute value. -/
def abs (x : Word32) : Word32 := x &&& 0x7FFFFFFF

/-- The signed integer ±m·2^(e-e0) of a finite value, for e0 at most e. -/
def scaled (n : Bool) (m : Nat) (e e0 : Int) : Int :=
  let v : Int := (m <<< (e - e0).toNat : Nat)
  if n then -v else v

/-- Sum. -/
def add (x y : Word32) : Word32 :=
  match val x, val y with
  | .nan, _ | _, .nan => nan
  | .inf a, .inf b => if a = b then infinity a else nan
  | .inf a, .fin .. => infinity a
  | .fin .., .inf b => infinity b
  | .fin na ma ea, .fin nb mb eb =>
    let e := min ea eb
    let v := scaled na ma ea e + scaled nb mb eb e
    if v = 0 then (if na && nb then 0x80000000 else 0) else round (decide (v < 0)) v.natAbs e

/-- Difference. -/
def sub (x y : Word32) : Word32 := add x (neg y)

/-- Product. -/
def mul (x y : Word32) : Word32 :=
  match val x, val y with
  | .nan, _ | _, .nan => nan
  | .inf a, .inf b => infinity (a != b)
  | .inf a, .fin b m _ => if m = 0 then nan else infinity (a != b)
  | .fin a m _, .inf b => if m = 0 then nan else infinity (a != b)
  | .fin na ma ea, .fin nb mb eb => round (na != nb) (ma * mb) (ea + eb)

/-- Quotient; a finite number over zero is an infinity. -/
def div (x y : Word32) : Word32 :=
  match val x, val y with
  | .nan, _ | _, .nan => nan
  | .inf _, .inf _ => nan
  | .inf a, .fin b _ _ => infinity (a != b)
  | .fin a _ _, .inf b => round (a != b) 0 0
  | .fin na ma ea, .fin nb mb eb =>
    if mb = 0 then (if ma = 0 then nan else infinity (na != nb)) else
    let num := ma <<< 64
    let q := num / mb
    let st := if num % mb = 0 then 0 else 1
    round (na != nb) (2 * q + st) (ea - eb - 65)

/-- One bit of an integer square root, from the bit `b` down. -/
def isqrtGo (n : Nat) : Nat → Nat → Nat
  | 0, r => r
  | b + 1, r =>
    let c := r + 2 ^ b
    isqrtGo n b (if c * c ≤ n then c else r)

/-- Integer square root. -/
def isqrt (n : Nat) : Nat := isqrtGo n (Nat.log2 n / 2 + 1) 0

/-- Square root; of a negative number a NaN. -/
def sqrt (x : Word32) : Word32 :=
  match val x with
  | .nan => nan
  | .inf n => if n then nan else infinity false
  | .fin n m e =>
    if m = 0 then x else if n then nan else
    let odd := e % 2 != 0
    let m1 := if odd then 2 * m else m
    let e1 := if odd then e - 1 else e
    let big := m1 <<< 64
    let r := isqrt big
    let st := if r * r = big then 0 else 1
    round false (2 * r + st) (e1 / 2 - 32 - 1)

/-- An order key: the pattern as a sign-magnitude integer. -/
def key (x : Word32) : Int :=
  let n := x.toNat
  if n.testBit 31 then -((n - 2 ^ 31 : Nat) : Int) else (n : Int)

/-- x < y on numbers. -/
def lt (x y : Word32) : Bool := decide (key x < key y)

/-- x ≤ y on numbers. -/
def le (x y : Word32) : Bool := decide (key x ≤ key y)

/-- The lesser and the greater of two numbers. -/
def fmin (x y : Word32) : Word32 := if le x y then x else y

/-- The greater of two numbers. -/
def fmax (x y : Word32) : Word32 := if le x y then y else x

/-- x held within lo and hi. -/
def clamp (lo hi x : Word32) : Word32 := fmin hi (fmax lo x)

/-- The number nearest to an integer times 2^e. -/
def ofScaled (v : Int) (e : Int) : Word32 := round (decide (v < 0)) v.natAbs e

/-- The number nearest to an integer. -/
def ofInt (v : Int) : Word32 := ofScaled v 0

/-- The number nearest to a quotient of integers. -/
def ofRat (p : Int) (q : Nat) : Word32 :=
  if q = 0 then 0 else
  let num := p.natAbs <<< 64
  round (decide (p < 0)) (2 * (num / q) + (if num % q = 0 then 0 else 1)) (-65)

/-- An FX32 pattern (R35) as binary32. -/
def ofFx (v : Nat) : Word32 := ofScaled (sgn 32 v) (-16)

/-- Floor of x·2^k, for a finite x; 0 for the others. -/
def floorMul (x : Word32) (k : Nat) : Int :=
  match val x with
  | .fin n m e =>
    let e1 := e + k
    let v : Int := if n then -(m : Int) else m
    if 0 ≤ e1 then v * (2 ^ e1.toNat : Nat) else v / (2 ^ (-e1).toNat : Nat)
  | _ => 0

/-- x·2^k rounded to the nearest integer, halves up. -/
def roundMul (x : Word32) (k : Nat) : Int :=
  match val x with
  | .fin n m e =>
    let e1 := e + k
    let v : Int := if n then -(m : Int) else m
    if 0 ≤ e1 then v * (2 ^ e1.toNat : Nat)
    else (2 * v + (2 ^ (-e1).toNat : Nat)) / (2 * (2 ^ (-e1).toNat : Nat))
  | _ => 0

/-- binary32 to an FX32 pattern, to nearest, saturating. -/
def toFx (x : Word32) : Nat := unsgn 32 (clampI (-(2 ^ 31)) (2 ^ 31 - 1) (roundMul x 16))

/-- A pattern held as a number. -/
def ofNat (v : Nat) : Word32 := BitVec.ofNat 32 v

end F32

end Sys2Proof.Machine
end

