-- ==== Sys2Proof/Machine/Trig.lean ====
section
/-! DEFINITION. The elementary functions of R69, R72, R74, R82, R83, R87, R302 on binary32: the true value to 192 fraction bits, rounded to
nearest. -/

namespace Sys2Proof.Machine

namespace F32

/-- One, with 192 fraction bits. -/
def fixOne : Int := 2 ^ 192

/-- π with 192 fraction bits. -/
def fixPi : Int := 0x3243F6A8885A308D313198A2E03707344A4093822299F31D0

/-- The natural logarithm of 2 with 192 fraction bits. -/
def fixLn2 : Int := 0xB17217F7D1CF79ABC9E3B39803F2F6AF40F343267298B62D

/-- The natural logarithm of 10 with 192 fraction bits. -/
def fixLn10 : Int := 0x24D763776AAA2B05BA95B58AE0B4C28A38A3FB3E76977E43A

/-- Product of fixed-point numbers. -/
def fixMul (a b : Int) : Int := a * b / fixOne

/-- A finite number with 192 fraction bits. -/
def toFix (x : Word32) : Int := floorMul x 192

/-- The binary32 number nearest to a fixed-point one. -/
def ofFix (v : Int) : Word32 := ofScaled v (-192)

/-- Terms of the series of sine and cosine from the term t of degree n on, for the square x2 of the angle in radians. -/
def trigSum (x2 : Int) : Nat → Nat → Int → Int
  | 0, _, _ => 0
  | f + 1, n, t => t + trigSum x2 f (n + 2) (-(fixMul t x2) / ((n + 1) * (n + 2) : Nat))

/-- Sine and cosine of an angle of at most 45° in degrees. -/
def fixSinCos (d : Int) : Int × Int :=
  let r := d * fixPi / (180 * fixOne)
  let x2 := fixMul r r
  (trigSum x2 24 1 r, trigSum x2 24 0 fixOne)

/-- Sine and cosine of an angle in degrees. -/
def fixTrig (d : Int) : Int × Int :=
  let v := d % (360 * fixOne)
  let q := (v + 45 * fixOne) / (90 * fixOne)
  let (s, c) := fixSinCos (v - q * (90 * fixOne))
  match (q % 4).toNat with
  | 0 => (s, c)
  | 1 => (c, -s)
  | 2 => (-s, -c)
  | _ => (-c, s)

/-- Terms of the series of the arc tangent from the power t of degree n on. -/
def atanSum (t2 : Int) : Nat → Nat → Int → Int
  | 0, _, _ => 0
  | f + 1, n, t => t / n + atanSum t2 f (n + 2) (-(fixMul t t2))

/-- The tangent of half the angle whose tangent is t. -/
def fixHalf (t : Int) : Int := t * fixOne / (fixOne + (isqrt (fixOne * fixOne + t * t).toNat : Nat))

/-- Arc tangent in degrees of a number from 0 to 1. -/
def fixAtan (t : Int) : Int :=
  let u := fixHalf (fixHalf (fixHalf t))
  8 * atanSum (fixMul u u) 32 1 u * 180 * fixOne / fixPi

/-- Angle in degrees of the point (x, y). -/
def fixAtan2 (y x : Int) : Int :=
  let ax : Int := x.natAbs
  let ay : Int := y.natAbs
  let a := if ax = 0 ∧ ay = 0 then 0 else if ay ≤ ax then fixAtan (ay * fixOne / ax) else 90 * fixOne - fixAtan (ax * fixOne / ay)
  let b := if x < 0 then 180 * fixOne - a else a
  if y < 0 then -b else b

/-- Terms of the exponential series from the term t of degree n on. -/
def expSum (x : Int) : Nat → Nat → Int → Int
  | 0, _, _ => 0
  | f + 1, n, t => t + expSum x f (n + 1) (fixMul t x / (n + 1 : Nat))

/-- The exponential of a fixed-point number as binary32. -/
def expFix (v : Int) : Word32 :=
  let k := v / fixLn2
  ofScaled (expSum (v - k * fixLn2) 56 0 fixOne) (k - 192)

/-- Sine of an angle in degrees. [DEDUCED, log entry 10] -/
def sinDeg (x : Word32) : Word32 := if finite x then ofFix (fixTrig (toFix x)).1 else nan

/-- Cosine of an angle in degrees. [DEDUCED, log entry 10] -/
def cosDeg (x : Word32) : Word32 := if finite x then ofFix (fixTrig (toFix x)).2 else nan

/-- Tangent of an angle in degrees. [DEDUCED, log entry 10] -/
def tanDeg (x : Word32) : Word32 :=
  if finite x then
    let (s, c) := fixTrig (toFix x)
    if c = 0 then infinity (decide (s < 0)) else ofFix (s * fixOne / c)
  else nan

/-- Arc tangent of y over x in degrees, by quadrant. [DEDUCED, log entry 10] -/
def atan2Deg (y x : Word32) : Word32 := if finite x && finite y then ofFix (fixAtan2 (toFix y) (toFix x)) else nan

/-- Arc sine in degrees; a NaN beyond ±1. [DEDUCED, log entry 10] -/
def asinDeg (x : Word32) : Word32 :=
  let v := toFix x
  if finite x && decide (v.natAbs ≤ fixOne.natAbs) then ofFix (fixAtan2 v (isqrt (fixOne * fixOne - v * v).toNat : Nat)) else nan

/-- The exponential function: beyond ±200 its result is no finite binary32 number, or 0. [DEDUCED, log entry 10] -/
def exp (x : Word32) : Word32 :=
  if le (ofInt 200) x then infinity false else if le x (ofInt (-200)) then 0 else expFix (toFix x)

/-- A power of ten. [DEDUCED, log entry 10] -/
def exp10 (x : Word32) : Word32 :=
  if le (ofInt 100) x then infinity false else if le x (ofInt (-100)) then 0 else expFix (fixMul (toFix x) fixLn10)

end F32

end Sys2Proof.Machine
end

