-- ==== Sys2Proof/Machine/Ops.lean ====
section
/-! DEFINITION. The operations that the meanings share: the dictionary (R20, R35–R38), time, fault records (R427–R434),
claims (R65, R66), resets (R431, R502), and what hardware keeps true at every instant (R53, R434). -/

namespace Sys2Proof.Machine

/-- The answer of the machine to a command. -/
abbrev Res := Host.Outcome State Fault Refusal

/-- A dictionary entry as index × 256 + sub-index. -/
@[irreducible] def K (i sub : Nat) : Nat := i * 256 + sub

/-! ### Sparse maps with rising keys -/

/-- The value at a key. -/
def mapGet {α : Type} : List (Nat × α) → Nat → Option α
  | [], _ => none
  | (a, x) :: r, k => if k = a then some x else mapGet r k

/-- The map with a value at a key; keys stay strictly rising. -/
def mapPut {α : Type} : List (Nat × α) → Nat → α → List (Nat × α)
  | [], k, v => [(k, v)]
  | (a, x) :: r, k, v =>
    if k < a then (k, v) :: (a, x) :: r else if k = a then (k, v) :: r else (a, x) :: mapPut r k v

/-- The map without a key. -/
def mapDel {α : Type} (m : List (Nat × α)) (k : Nat) : List (Nat × α) := m.filter fun p => p.1 != k

/-- The map with every pair of a second map put into it. -/
def mapMerge {α : Type} (m n : List (Nat × α)) : List (Nat × α) :=
  n.foldl (fun a p => mapPut a p.1 p.2) m

/-! ### The dictionary -/

/-- The object record of an index (R37). -/
def findObj (i : Nat) : Option Obj := objs.find? fun o => decide (o.idx ≤ i ∧ i < o.idx + o.cnt)

/-- The row of a sub-index in an object record. -/
def findSub (o : Obj) (sub : Nat) : Option Ent := o.ents.find? fun e => decide (e.sub ≤ sub ∧ sub < e.sub + e.cnt)

/-- Sub-index 0x00: a U8 CONST with the highest sub-index (R38). -/
def entHigh (o : Obj) : Ent := ⟨0, 1, .u8, .const, o.hi, .any, false⟩

/-- The row of an entry; sub-index 0x00 of every index is CONST (R38). -/
def findEnt (k : Nat) : Option Ent :=
  match findObj (k / 256) with
  | none => none
  | some o => if k % 256 = 0 then some (entHigh o) else findSub o (k % 256)

/-- The Default column of an entry (R20). [DESIGN CHOICE, log entry 28] -/
@[irreducible] def dflt (k : Nat) : Nat := match findEnt k with | some e => e.dflt | none => 0

/-- The width of an entry in bits (R35). -/
@[irreducible] def widthOf (k : Nat) : Nat := match findEnt k with | some e => 8 * e.ty.size | none => 64

/-- The working value of a numeric entry. [DESIGN CHOICE, log entry 28] -/
def State.get (s : State) (k : Nat) : Nat := (mapGet s.dict k).getD (dflt k)

/-- A map of numeric entries with one entry set: a default is not listed, and the value keeps the type's width. -/
@[irreducible] def putVal (m : List (Nat × Nat)) (k v : Nat) : List (Nat × Nat) :=
  if v % 2 ^ widthOf k = dflt k then mapDel m k else mapPut m k (v % 2 ^ widthOf k)

/-- The state with the working value of a numeric entry set. -/
def State.set (s : State) (k v : Nat) : State := { s with dict := putVal s.dict k v }

/-- A counter entry that counts one more. [DEDUCED, log entry 15] -/
def State.inc (s : State) (k : Nat) : State := s.set k (s.get k + 1)

/-- A counter entry that counts n more. -/
def State.addTo (s : State) (k n : Nat) : State := s.set k (s.get k + n)

/-- A counter entry that counts one more and saturates at `top`. [DEDUCED, log entry 15] -/
def State.incSat (s : State) (k top : Nat) : State := s.set k (satN top (s.get k + 1))

/-- A bit of an entry set or cleared. -/
def State.setFlag (s : State) (k b : Nat) (v : Bool) : State := s.set k (setBit (s.get k) b v)

/-- The value in force of an entry that acts through a commit or at BOOT. -/
def State.act (s : State) (k : Nat) : Nat := (mapGet s.active k).getD (dflt k)

/-- The state with values in force replaced. -/
def State.putAct (s : State) (vals : List (Nat × Nat)) : State :=
  { s with active := vals.foldl (fun m p => putVal m p.1 p.2) s.active }

/-- The working values of a list of entries. -/
def State.snap (s : State) (ks : List Nat) : List (Nat × Nat) := ks.map fun k => (k, s.get k)

/-- The entries of one index with sub-indices `a` to `b`. -/
def keys (i a b : Nat) : List Nat := (List.range (b + 1 - a)).map fun n => K i (a + n)

/-- The working bytes of a STR or DOM entry, given its default. -/
def State.dom (s : State) (k : Nat) : Option (List Byte) := mapGet s.doms k

/-- The state with the bytes of a STR or DOM entry set. -/
def State.setDom (s : State) (k : Nat) (v : List Byte) : State := { s with doms := mapPut s.doms k v }

/-! ### Time, ports and free values -/

/-- Time passes; what the last command put on the ports is past. [DESIGN CHOICE, log entries 7, 171, 173] -/
def State.tick (s : State) (dt : Nat) : State :=
  { s with now := s.now + dt, time := s.time + dt * 4294967296 * ((1000000000 * 2 ^ 64 + s.rate).toNat) / (1000000000 * 2 ^ 64), out := [], due := none }

/-- The device time in ns (TIME64, R35). -/
def State.timeNs (s : State) : Nat := s.time / 4294967296

/-- Something leaves on a port. [DESIGN CHOICE, log entry 171] -/
def State.emit (s : State) (o : Out) : State := { s with out := s.out ++ [o] }

/-- A value that the spec leaves open, and the state that has taken it. [DESIGN CHOICE, log entries 9, 16] -/
def State.fresh (s : State) : Nat × State := (Config.freeValue s.freeCount, { s with freeCount := s.freeCount + 1 })

/-! ### Sources and device state -/

/-- Source s is enabled in the configuration in force (R11, R176). -/
def State.srcOn (s : State) (i : Nat) : Bool := decide (s.act (K (0x4330 + i) 1) = 1)

/-- Type of source s in force (R176). -/
def State.srcType (s : State) (i : Nat) : Nat := s.act (K (0x4330 + i) 2)

/-- Committed width and height of source s (R176). -/
def State.srcW (s : State) (i : Nat) : Nat := s.get (K (0x4330 + i) 5) / 65536

/-- Committed height of source s (R176). -/
def State.srcH (s : State) (i : Nat) : Nat := s.get (K (0x4330 + i) 5) % 65536

/-- The enabled sources. -/
def State.srcs (s : State) : List Nat := (List.range 4).filter s.srcOn

/-- Mask of the enabled sources. -/
def State.srcMask (s : State) : Nat := s.srcs.foldl (fun m i => m + 2 ^ i) 0

/-- Code of a device state (R51). -/
def Mode.code : Mode → Nat
  | .boot => 0 | .preop => 1 | .operate => 2 | .standby => 3 | .hold => 4 | .safe => 5

/-- The device enters a state, with the cause that 0x2000:04 shows (R52). -/
def State.enter (s : State) (m : Mode) (cause : Nat) : State :=
  { s with mode := m }.set (K 0x2000 4) cause

/-- Sources with a latched Roadblock (0x8010:01). -/
def State.latched (s : State) : Nat := s.get (K 0x8010 1)

/-- A Roadblock is latched on every enabled source, of which there is one (R51). -/
def State.allBlocked (s : State) : Bool := !s.srcs.isEmpty && s.srcs.all fun i => bit s.latched i

/-- Valid Kerb maps are held, active or armed (0x4100:08 bit 0). -/
def State.kerbValid (s : State) : Bool := bit (s.get (K 0x4100 8)) 0

/-- The device time in ps, as a message is captured: in steps of 2.5 ns (R377). -/
def State.capture (s : State) : Int := s.time * 1000 / 2 ^ 32 / 2500 * 2500

/-- Ingress time in ps of what arrives at a port: the capture minus the ingress constant (R377). -/
def State.ingress (s : State) (p : Nat) : Int := s.capture - sgn 32 (s.get (K (0x7100 + p) 8))

/-- The same in whole ns. -/
def State.ingressNs (s : State) (p : Nat) : Nat := (s.ingress p / 1000).toNat

/-! ### Counter groups and trace (R526–R532) -/

/-- Counter j of a group counts n events and sets its overflow flag as it wraps at 48 bits (R526). -/
def State.pcgBump (s : State) (g j n : Nat) : State :=
  let v := s.get (K (0x9100 + g) (3 + j)) + n
  let t := s.set (K (0x9100 + g) (3 + j)) (v % 2 ^ 48)
  if v < 2 ^ 48 then t else t.setFlag (K (0x9100 + g) 0x13) (j + 1) true

/-- n events of a code happen in the block that a counter group observes (R526, R527). -/
def State.count (s : State) (g code n : Nat) : State :=
  if s.get (K (0x9100 + g) 0x14) = 2 then
    (List.range 8).foldl (fun t j => if t.get (K (0x9100 + g) (0x0B + j)) = code then t.pcgBump g j n else t) s
  else s

/-- The trigger comparison of R532. -/
def trigHit (op val cmp mask : Nat) : Bool :=
  let v := val &&& mask
  match op with
  | 0 => true
  | 1 => v == cmp
  | 2 => v != cmp
  | 3 => decide (cmp < v)
  | _ => decide (v < cmp)

/-- An event reaches probe p: the trigger judges it, and every n-th makes a record (R530–R532). -/
def State.probeEvent (s : State) (p tag val : Nat) : State :=
  let en := s.get (K (0x9210 + p) 1)
  let armed := s.get (K 0x9200 2) = 1
  let trig := decide armed && decide (s.get (K 0x9200 5) = p) &&
    trigHit (s.get (K 0x9200 6)) val (s.get (K 0x9200 7)) (s.get (K 0x9200 8))
  let pr := nth ⟨[], false, 0⟩ s.ins.probes p
  let due := decide (pr.skip + 1 ≥ s.get (K (0x9210 + p) 4))
  let s1 := if trig then
      let t := ((s.set (K 0x9200 2) 2).set (K 0x9200 0x0C) s.ins.ring.length).set (K 0x9200 0x0E) s.timeNs
      { t with ins := { t.ins with post := s.get (K 0x9200 4) } }
    else s
  let wanted := en = 1 && (due || trig) && !(decide (s.get (K 0x9200 3) = 2) && decide armed && !trig)
  let pr1 : Probe := { pr with skip := if due then 0 else pr.skip + 1 }
  let fl := (if trig then 2 else 0) + (if pr.dropped then 4 else 0)
  let full := decide (pr.queue.length ≥ 32)
  let pr2 : Probe :=
    if !wanted then pr1 else if full then { pr1 with dropped := true }
    else { pr1 with queue := pr.queue ++ [⟨s.timeNs % 2 ^ 48, p, fl, tag, val⟩], dropped := false }
  let s2 : State := { s1 with ins := { s1.ins with probes := putNth ⟨[], false, 0⟩ s1.ins.probes p pr2 } }
  if wanted && full then (s2.inc (K (0x9210 + p) 5)).inc (K 0x9200 0x0B) else s2

/-- An event of a trace class happens: every probe of the class whose select field matches takes it (R530). -/
def State.probe (s : State) (cls : Nat) (sel : Nat → Bool) (tag val : Nat) : State :=
  if s.get (K 0x9200 2) = 1 ∨ s.get (K 0x9200 2) = 2 then
    (List.range 16).foldl (fun t p =>
      if t.get (K (0x9210 + p) 1) ≠ 0 ∧ t.get (K (0x9210 + p) 2) = cls ∧ sel (t.get (K (0x9210 + p) 3)) = true
      then t.probeEvent p tag val else t) s
  else s

/-! ### Fault records (R427–R432) -/

/-- A rule matches a record (R430). -/
def ruleHits (r src kind : Nat) : Bool :=
  bit r 7 && (decide (field r 31 24 = 0xFF) || decide (field r 31 24 = src))
    && (decide (field r 23 16 = 0xFF) || decide (field r 23 16 = kind))

/-- The rules in sub-index order. -/
def State.rules (s : State) : List Nat := (List.range 64).map fun n => s.get (K 0x8120 (n + 1))

/-- The rules whose reactions a record takes: the first that matches, and every matching safety rule (R430). -/
def State.rulesFor (s : State) (src kind : Nat) : List Nat :=
  let hit := s.rules.filter fun r => ruleHits r src kind
  (hit.take 1) ++ (hit.drop 1).filter fun r => bit r 6

/-- A record that a safety rule matches is a safety record (R430). -/
def State.isSafety (s : State) (src kind : Nat) : Bool :=
  (s.rules.filter fun r => ruleHits r src kind).any fun r => bit r 6

/-- Whether an entry of the log equals a record and is active or latched (R432). -/
def logHit (src kind arg : Nat) (e : Option LogE) : Bool :=
  match e with
  | some x => x.src == src && x.kind == kind && x.arg == arg && (x.active || x.latched)
  | none => false

/-- The position of the oldest entry that is neither active nor latched. [DEDUCED, log entry 53] -/
def oldestIdle (l : List (Option LogE)) : Option Nat :=
  let idle := (List.range l.length).filter fun n =>
    match nth none l n with | some x => !x.active && !x.latched | none => false
  let ordOf : Nat → Nat := fun n => match nth none l n with | some x => x.ord | none => 0
  idle.foldl (fun best n => match best with
    | none => some n
    | some b => if ordOf n < ordOf b then some n else some b) none

/-- Where a record goes in the log: an equal entry, a free one, or the oldest idle one (R432). [DEDUCED, log entry 53] -/
def logSlot (l : List (Option LogE)) (src kind arg : Nat) : Option Nat :=
  match firstIdx (logHit src kind arg) l with
  | some n => some n
  | none => match firstIdx (fun e => e.isNone) l with
    | some n => some n
    | none => oldestIdle l

/-- The entry a record leaves in its slot (R431, R432). An event clears its active flag in the cycle that set it. -/
def logEntry (old : Option LogE) (hit : Bool) (src kind arg t ord : Nat) (standing safety alive sticky : Bool) : LogE :=
  match old, hit with
  | some e, true =>
    { e with active := e.active || standing, latched := true, safety := e.safety || safety, alive := e.alive || alive,
             sticky := e.sticky || (alive && sticky), count := satN 255 (e.count + 1), last := t }
  | _, _ => ⟨src, kind, arg, standing, true, safety, alive, alive && sticky, 1, t, t, ord⟩

/-- The blocks for which a rule may carry BLOCK (R430). -/
def resetBlocks : List Nat := [0x01, 0x06, 0x14, 0x15, 0x1B, 0x1D]

/-- Check-value units, counter groups and trace stop where they stand: a unit as by an abort, a group and the trace as by a stop. -/
def State.stopInstruments (s : State) : State :=
  let units := (List.range 8).foldl (fun t u => if t.get (K (0x9000 + u) 9) = 1 then t.set (K (0x9000 + u) 9) 5 else t) s
  let groups := (List.range 12).foldl (fun t g => if t.get (K (0x9100 + g) 0x14) = 2 then t.set (K (0x9100 + g) 0x14) 1 else t) units
  if groups.get (K 0x9200 2) = 1 ∨ groups.get (K 0x9200 2) = 2 then groups.set (K 0x9200 2) 3 else groups

/-- A reset of a block re-applies its committed configuration (R430): what the block was at is gone, what is in force stays. NET drops what waits
at its ports and what it assembles; the Tile Link takes its ports down, which train again; the cores stop until their pairs have restarted; a save of
the store manager fails; the CAN controllers drop what waits and begin error-active; the instruments stop. [DESIGN CHOICE, log entry 174] -/
def State.blockReset (s : State) (src : Nat) : State :=
  if src = 0x01 then { s with net := { s.net with ethTx := [[], []], streams := [Stream.init, Stream.init] } }
  else if src = 0x06 then { s with tl := { s.tl with redo := true } }
  else if src = 0x14 then { s with sys := { s.sys with apc := [false, false] } }
  else if src = 0x15 then
    (if s.sys.save.isSome then (({ s with sys := { s.sys with save := none } }.set (K 0x2010 2) 3).set (K 0x2010 3) 0x0601) else s)
  else if src = 0x1B then
    (List.range 4).foldl (fun t c => (t.set (K (0x7140 + c) 8) 0).set (K (0x7140 + c) 9) 0)
      { s with net := { s.net with canTx := [[], [], [], []], recovering := [false, false, false, false] } }
  else if src = 0x1D then s.stopInstruments
  else s

/-- Entries that a reset keeps: retained in the store or in AON (R64, R440, R519), and the fuses. -/
def retainedKeys : List Nat :=
  [K 0x1018 4, K 0x1018 5, K 0x2011 6, K 0x2100 2, K 0x2100 3, K 0x2320 2, K 0x2320 3, K 0x2320 4, K 0x2320 5, K 0x2330 3, K 0x8100 4, K 0x8100 5, K 0x8100 6]

/-- The log entry with its active flag cleared (R431). -/
def logQuiet (e : Option LogE) : Option LogE := e.map fun x => { x with active := false }

/-- An FSD domain, 0 to 15, is in retention (R518). -/
def State.retained (s : State) (f : Nat) : Bool := field (s.get (K 0x2302 (8 + f))) 23 16 == 1

/-- Stuck-reset tolerance as configured: by itself, or with twin operation (R504). [DEDUCED, log entry 154] -/
def State.tolerance (s : State) : Bool :=
  if s.sys.bootStep < 5 then s.pwr.tolerant
  else s.get (K 0x2320 1) == 1 || (s.get (K 0x2320 1) == 0 && s.tw.enabled == 1)

/-- Names of the laser enable balls (R540). -/
def lasName : Nat → String
  | 0 => "LAS0_EN" | 1 => "LAS1_EN" | 2 => "LAS2_EN" | _ => "LAS3_EN"

/-- What the balls show when ALIVE falls from its present levels. -/
def State.aliveFalls (s : State) : List Out :=
  (if s.safe.aliveP then [.pin "ALIVE_P" false] else []) ++ (if s.safe.aliveN then [.pin "ALIVE_N" false] else [])

/-- What the balls show when the laser enables fall from their present levels. -/
def State.lasFalls (s : State) : List Out := ((List.range 4).filter (bit s.pins.las)).map fun p => .pin (lasName p) false

/-- Two ROADBLOCK_N balls that differ are timed afresh from a reset (R431, R557). -/
def State.ballsAfresh (s : State) : Option Nat :=
  if nth false s.pins.rbBalls 0 = nth false s.pins.rbBalls 1 then none else some s.now

/-- A reset of the device: everything at its reset value but the always-on domain, the fuses and the store (R431, R502). FSD domains in
retention stay so, with the other fields of their status at 0 (R518); a power-on reset loses their content, and their signatures then match no content.
[DEDUCED, log entries 52, 153] -/
def State.resetTo (s : State) (powerOn : Bool) (cause : Nat) : State :=
  let r := State.reset
  let held := (List.range 16).filter s.retained
  let kept (k : Nat) : Bool := retainedKeys.contains k || held.any fun f => k == K 0x2302 (8 + f)
  let sigs := s.pwr.sigs.filter fun p => held.contains (p.1 / 4)
  let t : State := { r with
    pending := s.pending, now := s.now, time := s.time, freeCount := s.freeCount, out := s.out ++ s.aliveFalls ++ s.lasFalls,
    dict := (s.dict.filter fun p => kept p.1).map fun p =>
      if p.1 / 256 = 0x2302 then (p.1, field p.2 23 16 * 65536) else p,
    fs := { r.fs with mem := if powerOn then [] else s.fs.mem.filter fun p => held.contains (p.1 / 2097152) },
    sys := { r.sys with bootCause := if powerOn then 1 else 2 },
    pins := { r.pins with rbBalls := s.pins.rbBalls, supplies := s.pins.supplies, ballsDiffer := s.ballsAfresh },
    tw := { r.tw with strap := s.tw.strap, claimIn := s.tw.claimIn, claimInAt := s.tw.claimInAt }, nv := s.nv,
    pwr := { r.pwr with sigs := if powerOn then sigs.map (fun p => (p.1, 2 ^ 32)) else sigs, pinLow := s.pwr.pinLow,
                        lowSince := s.pwr.lowSince, highSince := s.pwr.highSince, tolerant := s.tolerance,
                        clockFault := s.pwr.clockFault, resetAt := s.now, inReset := s.pwr.inReset },
    safe := { r.safe with log := s.safe.log.map logQuiet, nextOrd := s.safe.nextOrd, resyncs := s.safe.resyncs } }
  ((t.set (K 0x2320 2) cause).inc (K 0x2320 5)).set (K 0x2000 4) (if powerOn then 1 else 2)

/-! ### Boot records and the running image (R60, R61, R467, R468) -/

/-- Of two copies, 0 the first and 1 the second, the valid one with the newer sequence; the first when neither is newer (R60). -/
def pickCopy (a b : Option Nat) : Option Nat :=
  match a, b with
  | some x, some y => if seqNewer y x then some 1 else some 0
  | some _, none => some 0
  | none, some _ => some 1
  | none, none => none

/-- The boot record in force, by its number. -/
def State.bootNo (s : State) : Option Nat :=
  let sq (n : Nat) : Option Nat := match nth none (s.nv.boots.map some) n with | some r => if r.valid then some r.seq else none | none => none
  pickCopy (sq 0) (sq 1)

/-- The boot record in force. -/
def State.bootRec (s : State) : BootRec := nth (BootRec.factory false) s.nv.boots (s.bootNo.getD 0)

/-- A boot record is written: into the other place, with the next sequence (R61, R468). [DEDUCED, log entry 145] -/
def State.writeBoot (s : State) (r : BootRec) : State :=
  let n := match s.bootNo with | some k => 1 - k | none => 0
  let q := match s.bootNo with | some _ => (s.bootRec.seq + 1) % 2 ^ 32 | none => 1
  { s with nv := { s.nv with boots := putNth (BootRec.factory false) s.nv.boots n ({ r with seq := q } : BootRec).sealed } }

/-- The manifest of a slot, 1 or 2. -/
def State.slotManifest (s : State) (slot : Nat) : List Byte := (nth ⟨[], []⟩ s.nv.slots (slot - 1)).manifest

/-- The manifest of the running image. -/
def State.runManifest (s : State) : List Byte := s.slotManifest s.upd.slot

/-- The newest journal record over both copies (R478). -/
def State.journal (s : State) : Option Journal :=
  let j (n : Nat) : Option Journal := (nth none s.nv.journals n).filter Journal.valid
  match pickCopy ((j 0).map Journal.seq) ((j 1).map Journal.seq) with
  | some n => j n
  | none => none

/-- A stage change of the download that the journal holds is appended to both of its copies (R478). -/
def State.noteStage (s : State) : State :=
  match s.journal with
  | some j =>
    let k := Journal.sealed { j with seq := (j.seq + 1) % 2 ^ 32, stage := s.get (K 0x2200 4) }
    { s with nv := { s.nv with journals := [some k, some k] } }
  | none => s

/-- A rolling restart begins: HOLD, and the pair APC2–APC3 restarts first (R52, R484). -/
def State.startRoll (s : State) (slot : Nat) (fall : Option Nat) : State :=
  let t : State := { s with
    sys := { s.sys with before := s.mode.code, apc := [true, false] },
    upd := { s.upd with roll := some ⟨slot, fall, 3⟩, waits := none } }
  ((t.enter .hold 7).set (K 0x2200 4) (if fall.isSome then 7 else 5)).noteStage

/-- A fall-back starts: a rolling restart into the image in ACTIVE, or a reset (R489). -/
def State.fallBackNow (s : State) (cause : Nat) : State :=
  let r := s.bootRec
  if r.actmode = 0 then s.startRoll r.active (some cause)
  else (s.writeBoot { r with stage := 0, pending := 0, pendDigest := [], cause := cause }).resetTo false 5

/-- An ALIVE stop reaction is in force: an entry holds one, or the overflow stop latch does (R431, R432). -/
def State.reactionStop (s : State) : Bool :=
  bit (s.get (K 0x8100 6)) 0 || s.safe.log.any fun e =>
    match e with | some x => x.alive && (x.active || (x.sticky && x.latched)) | none => false

/-- A stop begins or stands, with its code: both pins fall, and CLAIM_OUT with a stop that begins and every stop but a state's (R434, R444).
[DEDUCED, log entry 230] -/
def State.aliveLow (s : State) (code : Nat) : State :=
  let drop := decide (s.get (K 0x8400 1) ≠ 0) || decide (code ≠ 2)
  let low : State := { s with safe := { s.safe with aliveP := false, aliveN := false }, out := s.out ++ s.aliveFalls,
                              tw := { s.tw with claimOut := s.tw.claimOut && !drop } }
  if s.get (K 0x8400 1) = 0 then low
  else ((low.set (K 0x8400 1) 0).set (K 0x8400 2) code).inc (K 0x8400 3)

/-- A fault record reaches the FCOL: it is logged and receives its reactions but for a chip reset (R427, R430–R432). `standing` says that
the cause stays, so that the entry stays active. An ALIVE stop that no entry holds begins and ends in this instant (R431).
[DEDUCED, log entries 38, 230] -/
def State.logRecord (s : State) (src kind arg : Nat) (standing : Bool) : State :=
  let rs := s.rulesFor src kind
  let safety := s.isSafety src kind
  let alive := rs.any fun r => bit r 4
  let sticky := rs.any fun r => bit r 4 && bit r 5
  let hit := (firstIdx (logHit src kind arg) s.safe.log).isSome
  let s1 : State :=
    match logSlot s.safe.log src kind arg with
    | some n =>
      let e := logEntry (nth none s.safe.log n) hit src kind arg s.timeNs s.safe.nextOrd standing safety alive sticky
      let log := putNth none s.safe.log n (some e)
      let ord := if hit then s.safe.nextOrd else s.safe.nextOrd + 1
      { s with safe := { s.safe with log := log, nextOrd := ord } }.set (K 0x8100 5) (n + 1)
    | none =>
      let o := s.inc (K 0x8100 4)
      if sticky then
        o.set (K 0x8100 6) (setBit (setBit (o.get (K 0x8100 6)) 0 true) 1 (bit (o.get (K 0x8100 6)) 1 || safety))
      else o
  let s1 := if alive && !s1.reactionStop then s1.aliveLow 1 else s1
  let s2 := if rs.any (fun r => bit r 0) then s1.emit .irq else s1
  let s3 := if rs.any (fun r => bit r 1) then s2.emit .nmi else s2
  let s4 := if rs.any (fun r => bit r 2) then s3.blockReset src else s3
  (s4.count 10 4 1).probe 2
    (fun sel => (field sel 31 24 == 0xFF || field sel 31 24 == src) && (field sel 23 16 == 0xFF || field sel 23 16 == kind))
    (src * 2 ^ 24 + kind * 2 ^ 16) arg

/-- A fault record with all its reactions (R427, R430). A chip reset takes the device in this instant and ends what else happens in it (R53).
[DEDUCED, log entry 52; DESIGN CHOICE, log entry 177] -/
def State.record (s : State) (src kind arg : Nat) (standing : Bool) : State :=
  if s.due.isSome then s else
  let t := s.logRecord src kind arg standing
  if (s.rulesFor src kind).any (fun r => bit r 3) then { t with due := some (t.out, t.nv) } else t

/-- A fault that is an event: its active flag clears in the same cycle (R431). [DEDUCED, log entry 13; DESIGN CHOICE, log entry 12] -/
def State.event (s : State) (src kind arg : Nat) : State := s.record src kind arg false

/-- A fault whose cause stays present. [DEDUCED, log entry 13] -/
def State.stand (s : State) (src kind arg : Nat) : State := s.record src kind arg true

/-- Hardware clears the active flag of the entries whose cause is gone (R431). -/
def State.causeGone (s : State) (src kind arg : Nat) : State :=
  let clear := fun (e : Option LogE) => e.map fun x =>
    if x.src == src && x.kind == kind && x.arg == arg then { x with active := false } else x
  { s with safe := { s.safe with log := s.safe.log.map clear } }

/-! ### ALIVE and the entry into SAFE (R53, R434) -/

/-- The state calls for a stop: before first light, without valid Kerb maps in BOOT or PREOP, blocked in BOOT, SAFE, or STANDBY while
not capable (R434, R449). [DEDUCED, log entry 127] -/
def State.stateStop (s : State) : Bool :=
  match s.mode with
  | .boot => decide (s.sys.bootStep < 8) || !s.kerbValid || s.allBlocked
  | .preop => !s.kerbValid
  | .safe => true
  | .standby => decide (s.get (K 0x8600 5) &&& 0x23F ≠ 0x23F)
  | .operate | .hold => false

/-- The ALIVE stop in force as a code of 0x8400:02, 0 when none is (R434). -/
def State.aliveStop (s : State) : Nat :=
  if s.reactionStop then 1 else if s.stateStop then 2 else if s.safe.silent then 3
  else if s.safe.aliveReadback then 4 else 0

/-- A Roadblock latched on all enabled sources moves the device to SAFE in every state but BOOT (R52, R53). [DESIGN CHOICE, log entry 8] -/
def State.safeSettle (s : State) : State :=
  if s.mode ≠ .boot ∧ s.mode ≠ .safe ∧ s.allBlocked = true then
    { s with sys := { s.sys with stateReq := none } }.enter .safe 5
  else s

/-- The output stages are enabled by the claim interlock (R444, R446). -/
def State.outputsOn (s : State) : Bool :=
  if s.tw.single then decide (7 ≤ s.sys.bootStep) else s.tw.claimOut && !s.tw.claimIn

/-- Without the claim the interlock in the power die holds the laser enables low at every instant (R441, R444). -/
def State.interlock (s : State) : State :=
  if s.outputsOn then s else { s with pins := { s.pins with las := 0 }, out := s.out ++ s.lasFalls }

/-- While a stop is in force, ALIVE does not toggle and both its pins are low (R434). [DEDUCED, log entry 135; DESIGN CHOICE, log entry 8] -/
def State.aliveSettle (s : State) : State := if s.aliveStop = 0 then s else s.aliveLow s.aliveStop

/-- A fall-back that was refused runs when the device has left SAFE or HOLD (R489). [DEDUCED, log entry 143; DESIGN CHOICE, log entry 8] -/
def State.fallSettle (s : State) : State :=
  match s.upd.waits with
  | some c => if s.mode = .preop ∨ ((s.mode = .operate ∨ s.mode = .standby) ∧ (s.bootRec.actmode = 0 ∨ c = 2)) then s.fallBackNow c else s
  | none => s

/-- A chip reset reaction ends every other event of its instant: what these put on the ports or in the store did not happen (R53). -/
def State.resetSettle (s : State) : State :=
  match s.due with
  | some (o, v) => { s with out := o, nv := v }.resetTo false 3
  | none => s

/-- What hardware keeps true at every instant, by the ranks of R53. [DESIGN CHOICE, log entry 8] -/
def State.settle (s : State) : State := s.resetSettle.safeSettle.fallSettle.aliveSettle.interlock

/-- The answer of a command whose effect is made. [DESIGN CHOICE, log entry 8] -/
def done (s : State) : Res := .next s.settle

/-! ### Claims (R65, R66) -/

/-- Owner of a claim record, OCLASS × 256 + OINST; 0 when free. -/
def State.owner (s : State) (rec : Nat) : Nat := (mapGet s.sys.claims rec).getD 0

/-- The first record of a list that another owner holds. -/
def State.claimBlock (s : State) (recs : List Nat) (own : Nat) : Option Nat :=
  recs.find? fun r => decide (s.owner r ≠ 0 ∧ s.owner r ≠ own)

/-- The state with records claimed for an owner. -/
def State.claim (s : State) (recs : List Nat) (own : Nat) : State :=
  { s with sys := { s.sys with claims := recs.foldl (fun m r => mapPut m r own) s.sys.claims } }

/-- The state with records freed. -/
def State.unclaim (s : State) (recs : List Nat) : State :=
  { s with sys := { s.sys with claims := recs.foldl (fun m r => mapDel m r) s.sys.claims } }

/-- The state with every record of an owner freed. -/
def State.unclaimOwner (s : State) (own : Nat) : State :=
  { s with sys := { s.sys with claims := s.sys.claims.filter fun p => p.2 != own } }

/-- Resource class of a claim record (R66). -/
def claimClass (r : Nat) : Nat × Nat :=
  if r ≤ 0x80 then (1, r - 1) else if r ≤ 0x84 then (2, r - 0x81) else if r ≤ 0x8C then (3, r - 0x85)
  else if r ≤ 0x8E then (4, r - 0x8D) else if r ≤ 0x92 then (5, r - 0x8F) else if r ≤ 0x96 then (6, r - 0x93)
  else if r ≤ 0x98 then (7, r - 0x97) else if r = 0x99 then (8, 0) else if r = 0x9A then (9, 0)
  else if r ≤ 0xDA then (10, r - 0x9B) else if r ≤ 0xE2 then (11, r - 0xDB) else if r ≤ 0xEE then (12, r - 0xE3)
  else (13, r - 0xEF)

/-- A claim record as 0x2041 shows it (R66). -/
def State.claimWord (s : State) (r : Nat) : Nat :=
  (claimClass r).1 * 2 ^ 24 + (claimClass r).2 * 2 ^ 16 + s.owner r

end Sys2Proof.Machine
end

