-- ==== Sys2Proof/Machine/Beam.lean ====
section
/-! DEFINITION. Beam space (03): meshes, directions, levelling, layer mapping, object prediction, shading. Angles inside the
engine are integers in 1/4,096 degree (R71); prediction, parallax and levelling are binary32 (R72). -/

namespace Sys2Proof.Machine

/-- An angle of the internal format as binary32 degrees. -/
def degOf (x : Int) : Word32 := F32.ofScaled x (-12)

/-- A binary32 angle rounded to the internal format of R71; one beyond the format saturates. [DESIGN CHOICE, log entry 183] -/
def toAng (x : Word32) : Int := clampI (-524288) 524287 (F32.roundMul x 12)

/-! ### Meshes (R77–R80) -/

/-- Nodes of the identity mesh of R81: +20° to −20° by +10° to −10°, as FX32 patterns. -/
def identityNode (i j : Nat) : Nat × Nat :=
  (unsgn 32 (1310720 - 40960 * (i : Int)), unsgn 32 (655360 - 40960 * (j : Int)))

/-- The identity mesh of a source of W columns and Hs rows, in the layout of R79. -/
def identityMesh (w h : Nat) : List Byte :=
  let nodes := (List.range 33).flatMap fun j => (List.range 65).flatMap fun i =>
    toBe 4 (identityNode i j).1 ++ toBe 4 (identityNode i j).2
  let body := toBe 4 0x5A4D5348 ++ toBe 2 0x0100 ++ toBe 2 0 ++ toBe 2 w ++ toBe 2 h ++ toBe 4 0 ++ nodes
  body ++ toBe 4 (crc32c body)

/-- The working, or active, mesh bytes of a source: the identity mesh where none is held. -/
def State.meshBytes (s : State) (m : List (Nat × List Byte)) (i : Nat) : List Byte :=
  (mapGet m (K (0x3100 + i) 1)).getD (identityMesh (s.srcW i) (s.srcH i))

/-- Node (i, j) of a mesh as two FX32 numbers (R79). -/
def meshNode (b : Option (List Byte)) (i j : Nat) : Int × Int :=
  match b with
  | none => (sgn 32 (identityNode i j).1, sgn 32 (identityNode i j).2)
  | some l => (sgn 32 (beAt l (16 + 8 * (65 * j + i)) 4), sgn 32 (beAt l (20 + 8 * (65 * j + i)) 4))

/-- Twice the area that R80 forms at the top-left corner of a cell. -/
def cellCross (b : Option (List Byte)) (i j : Nat) : Int :=
  let o := meshNode b i j
  let x := meshNode b (i + 1) j
  let y := meshNode b i (j + 1)
  (x.1 - o.1) * (y.2 - o.2) - (x.2 - o.2) * (y.1 - o.1)

/-- The mesh is folded (R80). -/
def meshFolded (b : List Byte) : Bool :=
  let c := cellCross (some b) 0 0
  (List.range 32).any fun j => (List.range 64).any fun i =>
    let d := cellCross (some b) i j
    d == 0 || decide ((0 < d) ≠ (0 < c))

/-- The check of a mesh commit: 0, or the detail of R95. Form, then dimensions and nodes, then folding. -/
def meshCheck (b : List Byte) (w h : Nat) : Nat :=
  let n := b.length
  if n ≠ 17180 ∨ beAt b 0 4 ≠ 0x5A4D5348 ∨ beAt b 4 2 ≠ 0x0100 ∨ beAt b 6 2 ≠ 0 ∨ beAt b 12 4 ≠ 0
      ∨ beAt b 0x4318 4 ≠ crc32c (b.take 0x4318) then 0x3005
  else if beAt b 8 2 ≠ w ∨ beAt b 10 2 ≠ h ∨ ((List.range 4290).any fun k =>
      decide (90 * 65536 < (sgn 32 (beAt b (16 + 4 * k) 4)).natAbs)) = true then 0x3004
  else if meshFolded b then 0x3003 else 0

/-- A direction rotated about the y axis by the pitch θ (R83): H and V in degrees. -/
def levelDir (theta h v : Word32) : Word32 × Word32 :=
  let cv := F32.cosDeg v
  let dx := F32.mul cv (F32.cosDeg h)
  let dy := F32.mul cv (F32.sinDeg h)
  let dz := F32.sinDeg v
  let ct := F32.cosDeg theta
  let st := F32.sinDeg theta
  let ex := F32.add (F32.mul dx ct) (F32.mul dz st)
  let ez := F32.sub (F32.mul dz ct) (F32.mul dx st)
  (F32.atan2Deg dy ex, F32.atan2Deg ez (F32.sqrt (F32.add (F32.mul ex ex) (F32.mul dy dy))))

/-- Node of a mesh after levelling by an optional pitch (R84); a corrected node keeps the format of a node, FX32.
[DESIGN CHOICE, log entry 183] -/
def levNode (b : Option (List Byte)) (theta : Option Word32) (i j : Nat) : Int × Int :=
  let n := meshNode b i j
  match theta with
  | none => n
  | some t =>
    let d := levelDir t (F32.ofScaled n.1 (-16)) (F32.ofScaled n.2 (-16))
    (F32.roundMul d.1 16, F32.roundMul d.2 16)

/-- Cell and 10-bit weight of a coordinate in eighths of a pixel: n cells over `size` pixels (R78). -/
def cellOf (n size c8 : Nat) : Nat × Nat :=
  let num := c8 * n
  let den := size * 8
  let i := if den = 0 then 0 else min (num / den) (n - 1)
  (i, roundDiv ((num - i * den) * 1024) den)

/-- Direction of a grid point, in eighths of a pixel, through the mesh (R78), in the internal format. -/
def dirAt (b : Option (List Byte)) (theta : Option Word32) (w h u8 v8 : Nat) : Int × Int :=
  let (i, fa) := cellOf 64 w u8
  let (j, fb) := cellOf 32 h v8
  let n00 := levNode b theta i j
  let n10 := levNode b theta (i + 1) j
  let n01 := levNode b theta i (j + 1)
  let n11 := levNode b theta (i + 1) (j + 1)
  let mix (a00 a10 a01 a11 : Int) : Int :=
    let x : Int := ((1024 - fa) * (1024 - fb) : Nat) * a00 + (fa * (1024 - fb) : Nat) * a10
      + ((1024 - fa) * fb : Nat) * a01 + (fa * fb : Nat) * a11
    clampI (-524288) 524287 ((x + 2 ^ 23) / 2 ^ 24)
  (mix n00.1 n10.1 n01.1 n11.1, mix n00.2 n10.2 n01.2 n11.2)

/-! ### Layer mapping (R87–R90) -/

/-- A value of a layer configuration. -/
def LCfg.get (c : LCfg) (k : Nat) : Nat := (mapGet c.vals k).getD (dflt k)

/-- A row of a 3 × 3 matrix applied to a vector. -/
def dot3 (a b c x y z : Word32) : Word32 := F32.add (F32.add (F32.mul a x) (F32.mul b y)) (F32.mul c z)

/-- The road matrix of R88 for a layer: rows m1, m2, m3. -/
def State.roadMatrix (s : State) (c : LCfg) (l : Nat) : List Word32 :=
  let g := 0x3300 + l
  let h := F32.ofFx (s.get (K 0x3000 4))
  let ox := sgn 32 (s.get (K 0x3000 1))
  let oy := sgn 32 (s.get (K 0x3000 2))
  let a := F32.ofScaled (sgn 32 (c.get (K g 0x10)) - ox) (-16)
  let f := F32.ofScaled (sgn 32 (c.get (K g 0x11)) - ox) (-16)
  let le := F32.ofScaled (sgn 32 (c.get (K g 0x12)) - oy) (-16)
  let ri := F32.ofScaled (sgn 32 (c.get (K g 0x13)) - oy) (-16)
  let wc := F32.ofInt (c.get (K g 5))
  let hc := F32.ofInt (c.get (K g 6))
  let dw := F32.sub le ri
  let dh := F32.sub f a
  [F32.div (F32.mul h wc) dw, F32.div (F32.mul le wc) dw, 0, 0, F32.div (F32.mul f hc) dh, F32.div (F32.mul h hc) dh,
   0, 0x3F800000, 0]

/-- The matrix of a BEAM or IMAGE layer (R91). -/
def matrixOf (c : LCfg) (l : Nat) : List Word32 := (List.range 9).map fun n => F32.ofNat (c.get (K (0x3300 + l) (7 + n)))

/-- Layer position of a direction, in 1/64 of a layer pixel relative to the crop window, inside it or not (R87, R88, R72); none where
the mapping has no value: above the horizon of a road, or at infinity. -/
def State.layerMap (s : State) (c : LCfg) (l : Nat) (h v : Int) : Option (Int × Int) :=
  let cls := c.get (K (0x3300 + l) 1)
  let hd := degOf h
  let vd := degOf v
  let gx := F32.tanDeg hd
  let gy := F32.div (F32.tanDeg vd) (F32.cosDeg hd)
  let m := if cls = 1 then s.roadMatrix c l else matrixOf c l
  let x := if cls = 0 then hd else gx
  let y := if cls = 0 then vd else gy
  let at_ (n : Nat) : Word32 := nth 0 m n
  let p := dot3 (at_ 0) (at_ 1) (at_ 2) x y 0x3F800000
  let q := dot3 (at_ 3) (at_ 4) (at_ 5) x y 0x3F800000
  let r := dot3 (at_ 6) (at_ 7) (at_ 8) x y 0x3F800000
  let sx := F32.div p r
  let ty := F32.div q r
  if (cls = 1 ∧ F32.lt gy 0 = false) ∨ F32.finite sx = false ∨ F32.finite ty = false then none else
  some (F32.roundMul sx 6, F32.roundMul ty 6)

/-- Layer position of a direction; none where the layer reads as transparent (R87, R88, R90). -/
def State.layerPos (s : State) (c : LCfg) (l : Nat) (h v : Int) : Option (Int × Int) :=
  match s.layerMap c l h v with
  | some (a, b) =>
    if 0 ≤ a ∧ a < 64 * (c.get (K (0x3300 + l) 5) : Int) ∧ 0 ≤ b ∧ b < 64 * (c.get (K (0x3300 + l) 6) : Int)
    then some (a, b) else none
  | none => none

/-- Whether a layer maps levelled directions (R87). -/
def LCfg.levelled (c : LCfg) (l : Nat) : Bool :=
  match c.get (K (0x3300 + l) 1) with
  | 1 => true
  | 3 => false
  | _ => c.get (K (0x3300 + l) 2) == 1

/-- The matrix is singular by the test of R95 0x3006. -/
def matrixSingular (m : List Word32) : Bool :=
  let a (n : Nat) : Word32 := nth 0 m n
  let minor (p q r t : Nat) : Word32 := F32.sub (F32.mul (a p) (a t)) (F32.mul (a q) (a r))
  let det := F32.add (F32.sub (F32.mul (a 0) (minor 4 5 7 8)) (F32.mul (a 1) (minor 3 5 6 8))) (F32.mul (a 2) (minor 3 4 6 7))
  let norm (p : Nat) : Word32 :=
    F32.sqrt (F32.add (F32.add (F32.mul (a p) (a p)) (F32.mul (a (p + 1)) (a (p + 1)))) (F32.mul (a (p + 2)) (a (p + 2))))
  let bound := F32.mul (F32.ofScaled 1 (-20)) (F32.mul (F32.mul (norm 0) (norm 3)) (norm 6))
  F32.lt (F32.abs det) bound || F32.abs det == 0

/-! ### Predicting objects (R74, R106–R109) -/

/-- A direction in sensor beam space at a range, seen from the lamp (R74); none when it lies beside or behind the lamp. -/
def State.toLamp (s : State) (h v r : Word32) : Option (Word32 × Word32) :=
  let cv := F32.cosDeg v
  let qx := F32.sub (F32.mul r (F32.mul cv (F32.cosDeg h))) (F32.ofFx (s.get (K 0x3000 1)))
  let qy := F32.sub (F32.mul r (F32.mul cv (F32.sinDeg h))) (F32.ofFx (s.get (K 0x3000 2)))
  let qz := F32.sub (F32.mul r (F32.sinDeg v)) (F32.ofFx (s.get (K 0x3000 3)))
  if F32.lt qx 0x3F800000 then none
  else some (F32.atan2Deg qy qx, F32.atan2Deg qz (F32.sqrt (F32.add (F32.mul qx qx) (F32.mul qy qy))))

/-- A shaded core in lamp beam space with its class (R109), edges in the internal format. -/
structure Core where
  left : Int
  right : Int
  bottom : Int
  top : Int
  cls : Nat
  deriving DecidableEq, Repr

/-- A difference of device times in seconds. -/
def secs (ns : Int) : Word32 := F32.ofRat ns 1000000000

/-- The vehicle state of the snapshot is no older than `0x3010:07` (R106). -/
def State.vehFresh (s : State) (v : Veh) : Bool :=
  decide (s.geo.snapAt ≤ v.tvs + s.get (K 0x3010 7) * 1000000)

/-- An object predicted to the emission time of a row: its shaded core, or none when it is dropped (R74, R106–R109). -/
def State.predict (s : State) (tlist tr : Nat) (o : ObjE) : Option Core :=
  let tj : Int := (tlist : Int) + sgn 32 o.tso
  let dt := secs ((tr : Int) - tj)
  let dte := F32.fmin dt (F32.ofRat (s.get (K 0x3200 4)) 1000)
  let half (a b : Nat) : Word32 := F32.ofScaled (sgn 16 a + sgn 16 b) (-10)
  let rates := bit o.flags 0
  let hro := if rates then F32.ofScaled (sgn 16 o.hrate) (-8) else 0
  let vro := if rates then F32.ofScaled (sgn 16 o.vrate) (-8) else 0
  let yaw := match s.geo.snapVeh with
    | some v => if s.vehFresh v && v.yawValid then F32.ofFx v.yaw else 0
    | none => 0
  let pr := match s.geo.snapVeh with
    | some v => if s.vehFresh v && v.pitchValid then F32.ofFx v.rate else 0
    | none => 0
  let hc := F32.add (half o.hl o.hr) (F32.mul (F32.sub hro yaw) dte)
  let vc := F32.add (half o.vb o.vt) (F32.mul (F32.add vro pr) dte)
  let range := F32.ofRat o.range 100
  let ranged := bit o.flags 1
  let rr := if bit o.flags 2 then F32.ofRat (sgn 16 o.rrate) 100 else 0
  let r := if ranged then F32.fmax (F32.add range (F32.mul rr dte)) 0x3F800000 else F32.ofFx (s.get (K 0x3000 5))
  let k := if ranged then F32.fmin (F32.div range r) 0x40800000 else 0x3F800000
  let wh := F32.mul (F32.ofScaled (sgn 16 o.hl - sgn 16 o.hr) (-10)) k
  let wv := F32.mul (F32.ofScaled (sgn 16 o.vt - sgn 16 o.vb) (-10)) k
  match s.toLamp (F32.add hc wh) vc r, s.toLamp (F32.sub hc wh) vc r, s.toLamp hc (F32.sub vc wv) r, s.toLamp hc (F32.add vc wv) r with
  | some le, some ri, some bo, some tp =>
    let c := K (0x3210 + o.cls) 0
    let grow := F32.mul (F32.ofFx (s.get (c + 5))) (F32.abs dt)
    let lim := F32.ofFx (s.get (c + 8))
    let mh := F32.fmin (F32.add (F32.ofFx (s.get (c + 3))) grow) lim
    let mv := F32.fmin (F32.add (F32.ofFx (s.get (c + 4))) grow) lim
    let p := s.get (c + 7)
    let bot := if p = 0xFFFF then bo.2 else F32.sub tp.2 (F32.mul (F32.ofRat p 65535) (F32.sub tp.2 bo.2))
    some ⟨toAng (F32.add le.1 mh), toAng (F32.sub ri.1 mh), toAng (F32.sub bot mv), toAng (F32.add tp.2 mv), o.cls⟩
  | _, _, _, _ => none

/-! ### Shading (R110, R111, R114–R117) -/

/-- Coverage g of a direction by a core (R110), as binary32. -/
def State.coverage (s : State) (c : Core) (h v : Int) : Word32 :=
  let dh := max (max (h - c.left) (c.right - h)) 0
  let dv := max (max (v - c.top) (c.bottom - v)) 0
  let d := max dh dv
  let w := F32.ofFx (s.get (K (0x3210 + c.cls) 6))
  if d = 0 then 0x3F800000
  else if F32.le w 0 then 0
  else F32.clamp 0 0x3F800000 (F32.sub 0x3F800000 (F32.div (degOf d) w))

/-- A value of 0 to 1 as U0.16 with 0xFFFF for 1.0. -/
def toU16 (x : Word32) : Nat := (clampI 0 65535 (F32.roundMul (F32.mul x (F32.ofInt 65535)) 0)).toNat

/-- Shade plane and mark plane of the objects at a direction (R110, R111). -/
def State.objPlanes (s : State) (cores : List Core) (h v : Int) : Nat × Nat :=
  cores.foldl (fun acc c =>
    let g := s.coverage c h v
    let l := F32.ofRat (s.get (K (0x3210 + c.cls) 2)) 65535
    match s.get (K (0x3210 + c.cls) 1) with
    | 1 => (min acc.1 (toU16 (F32.sub 0x3F800000 (F32.mul (F32.sub 0x3F800000 l) g))), acc.2)
    | 2 => (acc.1, max acc.2 (toU16 (F32.mul l g)))
    | _ => acc) (0xFFFF, 0)

/-- The default cut-off polyline of R117. -/
def cutoffDefault : List Byte :=
  [(45 * 65536 : Int), -37356, 0, -37356, -(45 * 65536), -37356].flatMap fun x => toBe 4 (unsgn 32 x)

/-- Points of a polyline, H then V, as FX32 numbers. -/
def polyPoints : List Byte → Nat → List (Int × Int)
  | _, 0 => []
  | b, n + 1 => (sgn 32 (beAt b 0 4), sgn 32 (beAt b 4 4)) :: polyPoints (b.drop 8) n

/-- H strictly decreasing over 2 to 8 points (R117), every angle within ±90.0° (R71). -/
def polyOk (b : List Byte) : Bool :=
  let n := b.length / 8
  let p := polyPoints b n
  b.length % 8 == 0 && decide (2 ≤ n ∧ n ≤ 8) && ((List.range (n - 1)).all fun k => decide ((nth (0, 0) p (k + 1)).1 < (nth (0, 0) p k).1))
    && p.all fun q => decide (q.1.natAbs ≤ 90 * 65536 ∧ q.2.natAbs ≤ 90 * 65536)

/-- V of the polyline at a horizontal angle, end segments held level (R117): degrees. -/
def polyV (p : List (Int × Int)) (h : Int) : Word32 :=
  let n := p.length
  let first := nth (0, 0) p 0
  let last := nth (0, 0) p (n - 1)
  let h16 := h * 16
  if first.1 ≤ h16 then F32.ofScaled first.2 (-16)
  else if h16 ≤ last.1 then F32.ofScaled last.2 (-16)
  else
    let k := ((List.range (n - 1)).find? fun k => decide ((nth (0, 0) p (k + 1)).1 ≤ h16 ∧ h16 < (nth (0, 0) p k).1)).getD 0
    let a := nth (0, 0) p k
    let b := nth (0, 0) p (k + 1)
    F32.add (F32.ofScaled a.2 (-16)) (F32.div (F32.mul (F32.ofScaled (b.2 - a.2) (-16)) (F32.ofScaled (a.1 - h16) (-16)))
      (F32.ofScaled (a.1 - b.1) (-16)))

/-- Cut-off mask at a levelled direction (R117), U0.16. -/
def State.cutoff (s : State) (h v : Int) : Nat :=
  let b := (mapGet s.activeDoms (K 0x3020 1)).getD cutoffDefault
  let d := F32.sub (degOf v) (polyV (polyPoints b (b.length / 8)) h)
  let band := F32.ofFx (s.get (K 0x3020 2))
  let lvl := s.get (K 0x3020 3)
  if F32.le d 0 then 0xFFFF
  else if F32.le band d then lvl
  else toU16 (F32.sub 0x3F800000 (F32.mul (F32.ofRat ((65535 : Int) - lvl) 65535) (F32.div d band)))

/-- Synchronisation state of the time base (R380): synchronised or in holdover. -/
def State.timeGood (s : State) : Bool := s.get (K 0x7180 0x0F) == 2 || s.get (K 0x7180 0x0F) == 3

/-- The snapshot's list is stale at an emission time (R99, R114). -/
def State.listStale (s : State) (tr : Nat) : Bool :=
  match s.geo.snap with
  | none => true
  | some l => decide (l.tlist + s.get (K 0x3200 3) * 1000000 < tr) || (s.get (K 0x3000 6) == 0 && !s.timeGood)

/-- List age in µs at an emission time, saturating; saturated with no list (R118). -/
def State.listAge (s : State) (tr : Nat) : Nat :=
  match s.geo.snap with
  | none => 0xFFFFFFFF
  | some l => satN 0xFFFFFFFF ((tr - l.tlist) / 1000)

/-- The shade and mark planes of a row at a direction and its levelled direction (R110–R117). -/
def State.planes (s : State) (cores : List Core) (tr : Nat) (h v hl vl : Int) : Nat × Nat :=
  match s.get (K 0x3200 0x0C) with
  | 0 => s.objPlanes cores h v
  | 2 =>
    let o := s.objPlanes cores h v
    let c := s.cutoff hl vl
    let ramp := s.get (K 0x3200 7) * 1000000
    let gone := tr - s.geo.rampStart.getD tr
    (min o.1 (if ramp = 0 then 65535 else c + roundDiv ((65535 - c) * min gone ramp) ramp), o.2)
  | _ => (s.cutoff hl vl, 0)

/-- A row composed for emission time `tr` moves the shading state (R114, R115) and the list age. Before the first snapshot of a ramp the
list of the row is still the one that FALL-BACK left behind: its age is no new stale condition. The ramp starts, f = 0, at the emission
time of the first row composed in it; a ramp of no length ends with that row. [DESIGN CHOICE, log entry 184] -/
def State.shadeRow (s : State) (tr : Nat) : State :=
  let st := s.get (K 0x3200 0x0C)
  let t := s.set (K 0x3200 0x0E) (s.listAge tr)
  let noTime := s.get (K 0x3000 6) == 0 && !s.timeGood
  if s.listStale tr && (st == 1 || s.geo.rampWait.isNone || noTime) then
    if st = 1 then t else
      let u := ((t.set (K 0x3200 0x0C) 1).event 3 5 (Config.argCode 5 0))
      { u with geo := { u.geo with fresh := 0, rampStart := none, rampWait := none } }
  else if st = 2 then
    match t.geo.rampStart with
    | none =>
      let u : State := { t with geo := { t.geo with rampStart := some tr } }
      if t.get (K 0x3200 7) = 0 then u.set (K 0x3200 0x0C) 0 else u
    | some a => if a + t.get (K 0x3200 7) * 1000000 ≤ tr then t.set (K 0x3200 0x0C) 0 else t
  else t

end Sys2Proof.Machine
end

