-- ==== Sys2Proof/Machine/DapCore.lean ====
section
/-! DEFINITION. The Dictionary Access Protocol up to the entry: PDUs (R39, R40), transports (R43), the order of checks (R562),
serving power domains (R498), repeats (R45). The effects of the entries come as arguments. -/

namespace Sys2Proof.Machine

/-- A result of a request: code of R48 and detail. -/
abbrev Code := Nat × Nat

/-- Success. -/
def ok : Code := (0, 0)

/-- The same client: transport and identity of R43; the port a datagram came in by and its source MAC are not part of it.
[DEDUCED, log entry 24] -/
def sameClient (a b : Client) : Bool :=
  match a, b with
  | .udp _ x p _, .udp _ y q _ => x == y && p == q
  | _, _ => a == b

/-- Segment payload of a client's transport (R43). -/
def payloadOf : Client → Nat
  | .can _ => 52 | .udp .. => 1024 | .hspi => 256 | .window _ => 4096

/-- Window W of a client's transport (R43). [DEDUCED, log entry 19] -/
def windowOf : Client → Nat
  | .can _ => 1 | .udp .. => 4 | .hspi => 1 | .window _ => 4

/-- The smallest CAN FD data length that holds n bytes, 0 when none does. -/
def canLength (n : Nat) : Nat :=
  (([0, 1, 2, 3, 4, 5, 6, 7, 8, 12, 16, 20, 24, 32, 48, 64].find? fun x => decide (n ≤ x)).getD 0)

/-- A protocol data unit (R39). -/
structure Pdu where
  cmd : Nat
  tag : Byte
  key : Nat
  flags : Nat
  len : Nat
  arg : Nat
  data : List Byte
  deriving DecidableEq, Repr

/-- The bytes of a PDU (R39). -/
def Pdu.bytes (p : Pdu) : List Byte :=
  [BitVec.ofNat 8 p.cmd, p.tag] ++ toBe 2 (p.key / 256) ++ toBe 1 (p.key % 256) ++ toBe 1 p.flags
    ++ toBe 2 p.data.length ++ toBe 4 p.arg ++ p.data

/-- The PDU that bytes hold; missing bytes read 0. -/
def parsePdu (b : List Byte) : Pdu :=
  { cmd := byteAt b 0, tag := BitVec.ofNat 8 (byteAt b 1), key := beAt b 2 2 * 256 + byteAt b 4, flags := byteAt b 5,
    len := beAt b 6 2, arg := beAt b 8 4, data := (b.drop 12).take (beAt b 6 2) }

/-- The form of a PDU agrees with R39 on a client's transport. [DEDUCED, log entry 17] -/
def formOk (c : Client) (b : List Byte) : Bool :=
  let p := parsePdu b
  let lenOk := match c with
    | .can _ => b.length == canLength (12 + p.len)
    | _ => b.length == 12 + p.len
  decide (12 ≤ b.length) && decide (p.len ≤ payloadOf c) && lenOk && p.flags % 128 == 0

/-- A request whose DATA or ARG column is empty carries none (R39, R40). [DEDUCED, log entry 17] -/
def emptyOk (p : Pdu) : Bool :=
  (!([1, 3, 4, 5].contains p.cmd) || p.len == 0) && (!([1, 2, 3].contains p.cmd) || p.arg == 0)

/-- A response PDU with a result code in ARG. -/
def codePdu (cmd : Nat) (tag : Byte) (key : Nat) (r : Code) : List Byte :=
  Pdu.bytes ⟨cmd, tag, key, 0, 0, r.1 * 65536 + r.2 % 65536, []⟩

/-- An abort (R40). -/
def abortPdu (tag : Byte) (key : Nat) (r : Code) : List Byte := codePdu 0x7F tag key r

/-- The Write request PDU of a value (R40). -/
def writePdu (tag : Byte) (key : Nat) (v : List Byte) : List Byte := Pdu.bytes ⟨2, tag, key, 0, v.length, 0, v⟩

/-! ### Responses -/

/-- A PDU goes to a client by its transport (R43, R553). [DESIGN CHOICE, log entry 101] -/
def State.deliver (s : State) (c : Client) (pdu : List Byte) : State :=
  let t := s.emit (.dap c pdu)
  match c with
  | .hspi => { t with pins := { t.pins with hspiHeld := t.pins.hspiHeld ++ [pdu], hspiBusy := false } }
  | .can _ =>
    let ctl := t.get (K 0x1200 1)
    let n := canLength pdu.length
    let fr : CanTx := ⟨false, t.get (K 0x1200 3), pdu ++ List.replicate (n - pdu.length) 0⟩
    { t with net := { t.net with canTx := modNth [] t.net.canTx ctl fun q => q ++ [fr] } }
  | .udp n a p m =>
    { t with net := { t.net with ethTx := modNth [] t.net.ethTx n fun q => q ++ [⟨3, 0, false, a, p, pdu, some m⟩] } }
  | .window _ => t

/-- The stored response goes out again; a request that still waits for its answer gets none yet (R45). [DEDUCED, log entry 20] -/
def State.again (s : State) (c : Client) (resp : List Byte) : State := if resp.isEmpty then s else s.deliver c resp

/-- The record of the last exchange with a client. -/
def State.clientRec (s : State) (c : Client) : Option ClientRec := s.sys.clients.find? fun r => sameClient r.client c

/-- The server answers a request and keeps the answer for 1 s (R45). -/
def State.answer (s : State) (c : Client) (req resp : List Byte) : State :=
  let t := s.deliver c resp
  let rest : List ClientRec := t.sys.clients.filter fun r => !sameClient r.client c
  let one : ClientRec := ⟨c, req, resp, t.now⟩
  ({ t with sys := { t.sys with clients := rest ++ [one] } }).count 9 4 1

/-- The stored response to a request that repeats the client's last one within 1 s (R45): empty while it waits for its answer.
[DEDUCED, log entry 20] -/
def State.repeated (s : State) (c : Client) (req : List Byte) : Option (List Byte) :=
  match s.clientRec c with
  | some r => if r.request = req ∧ s.now ≤ r.sentAt + 1000000000 then some r.response else none
  | none => none

/-- An APC pair runs, and BOOT is over or the recovery loader serves (R46, R54). -/
def State.serverUp (s : State) : Bool := s.sys.apc.any id && (s.mode != .boot || s.sys.recovery)

/-! ### Power domains that serve entries (R28, R498) -/

/-- State of a domain: 0 on, 1 retention, 2 off, 3 waking, 4 entering (R518). -/
def State.domState (s : State) (d : Nat) : Nat := field (s.get (K 0x2302 (d + 1))) 23 16

/-- What happens in a block while its power domains are on: in retention and off its clocks stand still (R28, R496). -/
def State.inDomains (s : State) (ds : List Nat) (f : State → State) : State := if ds.all fun d => s.domState d == 0 then f s else s

/-- A port is enabled and its link is up, from step 5 of R56, and the NET domain is on. -/
def State.netUp (s : State) (p : Nat) : Bool :=
  s.act (K (0x7100 + p) 1) == 1 && s.get (K (0x7100 + p) 0x0B) != 0 && s.domState 0x20 == 0 &&
    decide (5 ≤ s.sys.bootStep) && !s.pwr.inReset

/-- A controller takes part in traffic: enabled, not in bus-off, from step 5 of R56, and the IO domain on. -/
def State.canUp (s : State) (c : Nat) : Bool :=
  s.domState 0x24 == 0 && decide (5 ≤ s.sys.bootStep) &&
    s.act (K (0x7140 + c) 1) == 1 && s.get (K (0x7140 + c) 8) != 2 && !s.pwr.inReset

/-- The port or controller that a Guardrail frame comes by is up (R28). -/
def State.carries (s : State) (src : GcSrc) : Bool :=
  match src with
  | .udp net _ _ _ => s.netUp net
  | .can ctl _ => s.canUp ctl

/-- The state with the STATE field of a domain set. -/
def State.setDomain (s : State) (d st : Nat) : State :=
  let v := s.get (K 0x2302 (d + 1))
  s.set (K 0x2302 (d + 1)) (v - field v 23 16 * 65536 + st * 65536)

/-- The domain whose block serves an entry, by R28; none for the entries that the cores and the always-on domains serve.
[DEDUCED, log entry 26] -/
def domainOf (k : Nat) : Option Nat :=
  let i := k / 256
  if 0x3000 ≤ i ∧ i ≤ 0x42FF then some 0x02
  else if 0x4300 ≤ i ∧ i ≤ 0x45FF then some 0x17
  else if (0x5000 ≤ i ∧ i ≤ 0x51FF) ∨ (0x5300 ≤ i ∧ i ≤ 0x53FF) ∨ (0xA000 ≤ i ∧ i ≤ 0xA07F) then some 0x23
  else if 0x5200 ≤ i ∧ i ≤ 0x52FF then some 0x24
  else if 0x6000 ≤ i ∧ i ≤ 0x6FFF then some 0x22
  else if 0x7010 ≤ i ∧ i ≤ 0x701F then some (0x18 + 2 * ((i - 0x7010) / 4))
  else if 0x7020 ≤ i ∧ i ≤ 0x7023 then some (0x18 + 2 * (i - 0x7020))
  else if 0x7030 ≤ i ∧ i ≤ 0x7033 then some 0x25
  else if i = 0x8600 then some 0x25
  else if 0x7100 ≤ i ∧ i ≤ 0x712F then some 0x20
  else if 0x7140 ≤ i ∧ i ≤ 0x7143 then some 0x24
  else if 0x7180 ≤ i ∧ i ≤ 0x71A3 then some 0x21
  else if 0x9000 ≤ i ∧ i ≤ 0x9007 then some 0x02
  else if 0x9100 ≤ i ∧ i ≤ 0x910B then
    some (nth 0 [0x02, 0x02, 0x17, 0x17, 0x17, 0x22, 0x22, 0x20, 0x17, 0x02, 0x01, 0x24] (i - 0x9100))
  else if 0x9200 ≤ i ∧ i ≤ 0x921F then some 0x17
  else none

/-- The FSD domains that hold the content of a region (R28, R133). -/
def State.regionDomains (s : State) (n : Nat) : List Nat :=
  let a := s.get (K (0x3440 + n) 3)
  (List.range 16).filterMap fun f =>
    if decide (a < (f + 1) * 2097152) && decide (f * 2097152 < a + s.get (K (0x3440 + n) 4) * 65536) then some (7 + f) else none

/-- The domain that an access to an entry meets: of those that serve the entry, the first that is not on. -/
def State.servedBy (s : State) (k : Nat) : Option Nat :=
  let own := (domainOf k).toList
  let all := if 0x3440 ≤ k / 256 ∧ k / 256 ≤ 0x345F ∧ k % 256 = 6 then own ++ s.regionDomains (k / 256 - 0x3440) else own
  all.find? fun d => s.domState d != 0

/-- An access to a domain of this class answers WAKING at once (R495, R498). [DEDUCED, log entry 26] -/
def wakingClass (d from_ : Nat) : Bool :=
  decide (0x18 ≤ d ∧ d ≤ 0x1F) || decide (d = 0x25) || (decide (3 ≤ d ∧ d ≤ 6) && decide (from_ = 2))

/-- A domain that is in retention or off begins to wake (R498, R500). -/
def State.startWake (s : State) (d : Nat) : State :=
  let st := s.domState d
  if st = 1 ∨ st = 2 then
    let t := s.setDomain d 3
    { t with pwr := { t.pwr with wakeAt := mapPut t.pwr.wakeAt d t.now, wokeFrom := mapPut t.pwr.wokeFrom d st } }
  else if st = 4 ∧ s.pwr.rewake.contains d = false then { s with pwr := { s.pwr with rewake := s.pwr.rewake ++ [d] } }
  else s

/-- What an access to an entry meets at its power domain (R498, R499). -/
inductive Gate where
  | open_
  | stall (d : Nat)
  | refuse (r : Code)
  deriving DecidableEq, Repr

/-- The answer of the power domain of an entry. [DEDUCED, log entry 25] -/
def State.gateOf (s : State) (k : Nat) : Gate :=
  match s.servedBy k with
  | none => .open_
  | some d =>
    let st := s.domState d
    if st = 1 ∨ st = 2 then
      if s.get (K 0x2303 (d + 1)) = 0 then .refuse (0x0408, d)
      else if wakingClass d st then .refuse (0x0407, d) else .stall d
    else
      let from_ := (mapGet s.pwr.wokeFrom d).getD ((mapGet s.pwr.entering d).getD 2)
      if wakingClass d from_ then .refuse (0x0407, d) else .stall d

/-- What an access does to the power domain of an entry: it wakes it, or raises a protection record (R498). [DEDUCED, log entry 25] -/
def State.touch (s : State) (k : Nat) : State :=
  match s.servedBy k with
  | none => s
  | some d =>
    let st := s.domState d
    if (st = 1 ∨ st = 2) ∧ s.get (K 0x2303 (d + 1)) = 0 then s.event 0x16 0x02 (d * 2 ^ 24 + k % 2 ^ 24)
    else s.startWake d

/-! ### Checks of R562 -/

/-- What a request wants of an entry. -/
inductive Use where
  | read | write | upload | download
  deriving DecidableEq, Repr

/-- Entries whose write is a layer or geometry commit (R54): meshes, layers, groups, gain meshes, plane tables, colour tables. -/
def isGeoCommit (k : Nat) : Bool :=
  let i := k / 256
  let u := k % 256
  (decide (0x3100 ≤ i ∧ i ≤ 0x3103) && u == 2) || (decide (0x3400 ≤ i ∧ i ≤ 0x3406) && u == 0x14) || k == K 0x3410 1
    || (decide (0x4200 ≤ i ∧ i ≤ 0x4203) && u == 3) || (decide (0x4500 ≤ i ∧ i ≤ 0x4503) && u == 4)
    || (decide (0x4530 ≤ i ∧ i ≤ 0x4533) && u == 3)

/-- Entries whose write is a scan-out or stream commit (R54). -/
def isScanCommit (k : Nat) : Bool := k == K 0x4300 0x1C || k == K 0x7120 9 || k == K 0x7121 9

/-- Device states that accept a write to an entry, by its access class and its command (R36, R54). -/
def State.stateAllows (s : State) (k : Nat) (a : Acc) : Bool :=
  let light := decide (0x3000 ≤ k / 256 ∧ k / 256 ≤ 0x6FFF)
  if k = K 0x8100 3 then s.mode != .boot
  else if isScanCommit k then s.mode == .preop
  else if isGeoCommit k then s.mode == .preop || s.mode == .operate || s.mode == .safe
  else if k = K 0x2000 2 then s.mode == .preop || s.mode == .operate
  else match a with
    | .rwp => s.mode == .preop
    | _ => match s.mode with
      | .preop | .operate | .safe => true
      | .standby => !light
      | .boot | .hold => false

/-- A state change out of PREOP is pending, which freezes the configuration checked at acceptance (R52). -/
def State.leaving (s : State) : Bool :=
  s.mode == .preop && match s.sys.stateReq with | some r => r.target != 1 | none => false

/-- Checks 3 to 5 of R562: the entry exists, and its transfer type and access class allow the use. -/
def checkForm (k : Nat) (u : Use) : Except Code Ent :=
  match findObj (k / 256) with
  | none => .error (0x0201, 0)
  | some o =>
    if o.hi < k % 256 then .error (0x0202, 0) else
    match findEnt k with
    | none => .error (0x0202, 0)
    | some e =>
      let seg := u == .upload || u == .download
      let wr := u == .write || u == .download
      if e.ty.segmented != seg then .error (0x0106, 0)
      else if !wr then (if e.acc = .wo then .error (0x0203, 0) else .ok e)
      else if e.acc = .const ∨ e.acc = .ro then .error (0x0204, 0)
      else if e.acc = .sw then .error (0x0205, 0)
      else .ok e

/-- Checks 3 to 6 of R562: those of the form, and whether the device state accepts a write; the recovery loader asks for no state. -/
def State.checkUse (s : State) (k : Nat) (u : Use) : Except Code Ent :=
  match checkForm k u with
  | .error r => .error r
  | .ok e =>
    if u == .read || u == .upload || s.sys.recovery then .ok e
    else if !s.stateAllows k e.acc then .error (0x0401, s.mode.code)
    else if s.leaving && (e.acc == .rwp || isScanCommit k) then .error (0x0401, 1)
    else .ok e

/-- Requests that the recovery loader turns away: all but reads of a few entries and the update entries with commands 0x01 to 0x04
(R54, R469). [DEDUCED, log entry 23] -/
def State.outsideRecovery (s : State) (k : Nat) (u : Use) (v : Nat) : Bool :=
  s.sys.recovery && match u with
    | .read | .upload => !(k / 256 == 0x1018 || k == K 0x2000 1 || k / 256 == 0x2200 || k == K 0x2202 5)
    | .write => !(k / 256 == 0x2200) || (k == K 0x2200 1 && decide (4 < v))
    | .download => !(k / 256 == 0x2200)

/-- The Range column of an entry holds for a value, and the value is one of the type (R17, R35). -/
def rangeOk (e : Ent) (v : Nat) : Bool :=
  let typed := match e.ty with
    | .bool => decide (v ≤ 1)
    | .f32 => F32.finite (F32.ofNat v)
    | _ => true
  typed && match e.rng with
    | .any => true
    | .iv l => l.any fun p => decide (p.1 ≤ e.ty.value v ∧ e.ty.value v ≤ p.2)
    | .bits m => v &&& m == v
    | .fl lo hi => F32.le lo (F32.ofNat v) && F32.le (F32.ofNat v) hi
    | .len .. => true

/-- Ranges that depend on other entries or on fields of the value (R50, R112, R135, R248, R293, R326, R349, R350, R362,
R372, R386, R390, R430, R494, R512, R522, R527). -/
def State.rangeMore (s : State) (k v : Nat) : Bool :=
  let i := k / 256
  let u := k % 256
  let ident := if bit v 31 then field v 30 29 == 0 else decide (v ≤ 0x7FF)
  let services := [K 0x1210 1, K 0x3200 1, K 0x7110 5, K 0x7110 6]
  if k = K 0x1200 2 then ident && v != s.get (K 0x1200 3)
  else if k = K 0x1200 3 then ident && v != s.get (K 0x1200 2)
  else if 0x1400 ≤ i ∧ i ≤ 0x140F ∧ u = 4 then ident
  else if 0x1400 ≤ i ∧ i ≤ 0x140F ∧ u = 0x0B then v &&& 0x1FE == v
  else if services.contains k then services.all fun o => o == k || s.get o != v
  else if k = K 0x3420 1 then
    field v 27 16 == 0 && decide (field v 31 28 ≤ 7) && decide (1 ≤ field v 15 0 ∧ field v 15 0 ≤ 512)
  else if 0x5020 ≤ i ∧ i ≤ 0x5023 ∧ u = 5 then decide (s.get (K i 4) ≤ v)
  else if 0x6040 ≤ i ∧ i ≤ 0x6041 ∧ u = 7 then F32.lt (F32.ofNat v) (F32.ofNat (s.get (K i 6)))
  else if 0x4530 ≤ i ∧ i ≤ 0x4533 ∧ 0x0B ≤ u ∧ u ≤ 0x0D then
    decide (field v 31 24 ≤ 2) && decide (field v 23 16 ≤ 3)
  else if 0x4530 ≤ i ∧ i ≤ 0x4533 ∧ 0x0E ≤ u ∧ u ≤ 0x10 then
    decide (field (s.get (K i (u - 3))) 31 24 = 2) || F32.le (F32.ofNat v) 0x42C80000
  else if (0x7010 ≤ i ∧ i ≤ 0x701F ∨ 0x7032 ≤ i ∧ i ≤ 0x7033) ∧ u = 9 then
    decide (field v 7 4 ≤ 4) && field v 3 2 == 0
  else if (0x7010 ≤ i ∧ i ≤ 0x701F ∨ 0x7032 ≤ i ∧ i ≤ 0x7033) ∧ u = 0x0C then
    decide (-32 ≤ sgn 8 (field v 31 24) ∧ sgn 8 (field v 31 24) ≤ 31) &&
    decide (-127 ≤ sgn 8 (field v 23 16)) && field v 15 8 == 0 && decide (20 ≤ field v 7 0 ∧ field v 7 0 ≤ 40)
  else if 0x7120 ≤ i ∧ i ≤ 0x7121 ∧ u = 5 then v % 2 == 0
  else if 0x7100 ≤ i ∧ i ≤ 0x7101 ∧ u = 3 then decide (v < 2 ^ 48) && !bit v 40
  else if k = K 0x7110 2 then v == 0 || decide (224 ≤ field v 31 24 ∧ field v 31 24 ≤ 239)
  else if 0x7140 ≤ i ∧ i ≤ 0x7143 ∧ (u = 3 ∨ u = 4) then
    let brp := field v 31 24 + 1
    let t1 := field v 23 16
    let t2 := field v 15 8
    let sjw := field v 7 0
    let rate := 80000000 / (brp * (1 + t1 + t2))
    let fields := decide (brp ≤ 32) && decide (1 ≤ sjw ∧ sjw ≤ t2)
    if u = 3 then fields && decide (2 ≤ t1 ∧ t1 ≤ 255) && decide (2 ≤ t2 ∧ t2 ≤ 128) && decide (125000 ≤ rate ∧ rate ≤ 1000000)
    else fields && decide (1 ≤ t1 ∧ t1 ≤ 31) && decide (1 ≤ t2 ∧ t2 ≤ 16) && decide (rate ≤ 8000000)
  else if 0x71A0 ≤ i ∧ i ≤ 0x71A3 ∧ u = 4 then decide (v + 10 ≤ s.get (K i 3))
  else if 0x71A0 ≤ i ∧ i ≤ 0x71A3 ∧ u = 3 then decide (s.get (K i 4) + 10 ≤ v)
  else if 0x8120 = i then decide (field v 15 8 = 0)
  else if k = K 0x2200 0x0D then decide (v = 0 ∨ 1 ≤ v ∧ v ≤ 3600)
  else if k = K 0x2202 1 then v &&& 0x777 == v
  else if k = K 0x2300 5 then decide (v < 2 ^ 38)
  else if k = K 0x2500 1 then
    decide (60 * 65536 ≤ sgn 32 v ∧ sgn 32 v ≤ sgn 32 (s.get (K 0x2500 2)) - 5 * 65536)
  else if k = K 0x2500 2 then
    decide (70 * 65536 ≤ sgn 32 v ∧ sgn 32 v ≤ (if s.get (K 0x1018 5) = 2 then 135 else 150) * 65536)
  else if 0x9000 ≤ i ∧ i ≤ 0x9007 ∧ (u = 3 ∨ u = 4 ∨ u = 5 ∨ u = 0x0A) then decide (v < 2 ^ s.get (K i 2))
  else if 0x9100 ≤ i ∧ i ≤ 0x910B ∧ 0x0B ≤ u ∧ u ≤ 0x12 then
    decide (v ≤ nth 0 [5, 6, 4, 4, 4, 4, 4, 4, 4, 4, 4, 4] (i - 0x9100))
  else true

/-! ### Expedited requests -/

/-- The effect of a write that has passed checks 1 to 8 and 10: the new state and the result. -/
abbrev Effect := State → Nat → State × Code

/-- Codes of check 9 of R562, which comes before the range of a value. -/
def earlier (r : Nat) : Bool := r == 0x0402 || r == 0x040A

/-- The last request of a client, which waits for its answer (R45). [DEDUCED, log entry 20] -/
def State.asked (s : State) (c : Client) (req : List Byte) : State :=
  let rest : List ClientRec := s.sys.clients.filter fun r => !sameClient r.client c
  let one : ClientRec := ⟨c, req, [], s.now⟩
  { s with sys := { s.sys with clients := rest ++ [one] } }

/-- A request waits at a domain that wakes (R45, R498). -/
def State.stall (s : State) (c : Client) (req : List Byte) (k d : Nat) : State :=
  let t := (s.touch k).asked c req
  { t with pwr := { t.pwr with stalled := t.pwr.stalled ++ [⟨c, req, d, t.now⟩] } }

/-- A DAP write of an entry, as one step (R41, R44, R562): the checks in their order, then the effect, then the response; a request held
at a waking domain gives no response yet. An effect says itself what its chapter checks under orders 6 and 9. [DEDUCED, log entry 22] -/
def State.serveWrite (s : State) (c : Client) (req : List Byte) (tag : Byte) (k : Nat) (v : List Byte) (eff : Effect) : State :=
  if !s.serverUp then s.deliver c (abortPdu tag k (0x0409, 0)) else
  match s.repeated c req with
  | some resp => s.again c resp
  | none =>
  if s.outsideRecovery k .write (be v) then s.deliver c (abortPdu tag k (0x0409, 0)) else
  let reply (t : State) (r : Code) : State := t.answer c req (codePdu 0x82 tag k r)
  match s.checkUse k .write with
  | .error r => reply s r
  | .ok e =>
    let (t, r) := eff s (be v)
    let made : State :=
      let t1 := if r.1 = 0 ∨ r.1 = 0x0404 then t.probe 7 (fun _ => true) (k % 2 ^ 24) (be (slice v 0 4)) else t
      if t1.serverUp then reply t1 r else t1
    if r.1 = 0x0401 then made else
    match s.gateOf k with
    | .refuse r => reply (s.touch k) r
    | .stall d =>
      s.stall c req k d
    | .open_ =>
      if v.length ≠ e.ty.size then reply s (0x0107, 0)
      else if s.sys.xfers.any (fun x => !x.upload && x.key == k && !sameClient x.client c) then reply s (0x0402, 0)
      else if !(rangeOk e (be v) && s.rangeMore k (be v)) then reply s (if earlier r.1 then r else (0x0301, 0))
      else made

/-- A write command of the table: value `n` to entry k by a client. [DEDUCED, log entry 22] -/
def State.command (s : State) (rq : Rq) (k n : Nat) (eff : Effect) : State :=
  let v := toBe (widthOf k / 8) n
  s.serveWrite rq.client (writePdu rq.tag k v) rq.tag k v eff

end Sys2Proof.Machine
end

