-- ==== Sys2Proof/Machine/FrameOps.lean ====
section
/-! DEFINITION. The frame raster's units, landing frames (R173, R174), and the armed configurations they carry (05). -/

namespace Sys2Proof.Machine

/-- Length in ns of a time in 1/65,536 PIX cycle (2.5 ns), to nearest. -/
def nsOfU (u : Nat) : Nat := roundDiv (u * 5) 131072

/-- A time in ns as 1/65,536 PIX cycle. -/
def uOfNs (ns : Nat) : Nat := roundDiv (ns * 131072) 5

/-- T_row on its grid for a frame rate and a number of raster rows (R164). -/
def rowUOf (rate : Word32) (rows : Nat) : Nat :=
  match F32.val rate with
  | .fin _ m e =>
    if 0 ≤ e then roundDiv 26214400000000 (m * 2 ^ e.toNat * rows)
    else roundDiv (26214400000000 * 2 ^ (-e).toNat) (m * rows)
  | _ => 0

/-- A signed remainder of least magnitude. -/
def centred (x : Int) (m : Nat) : Int :=
  if m = 0 then x else let r := x % (m : Int); if 2 * r ≤ (m : Int) then r else r - (m : Int)

/-- Numerator and denominator of a positive binary32 number. -/
def ratOf (x : Word32) : Nat × Nat :=
  match F32.val x with
  | .fin _ m e => if 0 ≤ e then (m * 2 ^ e.toNat, 1) else (m, 2 ^ (-e).toNat)
  | _ => (0, 1)

/-- Nominal frame rate in force. -/
def State.rate4 (s : State) : Word32 := F32.ofNat (s.act (K 0x4300 2))

/-- Frame period in 1/65,536 PIX cycle for a row period. -/
def State.periodU (s : State) (rowU : Nat) : Nat := (s.fs.ra + s.fs.vb) * rowU

/-- Line-following mode is in force (R167). -/
def State.lineMode (s : State) : Bool := s.act (K 0x4300 1) == 1

/-- Frame-rate halving is on (R171). -/
def State.halved (s : State) : Bool := s.get (K 0x4300 0x15) == 1

/-- The composed frame that follows frame n: the next one, or the next even one while halving is on (R171). -/
def State.nextComposed (s : State) (n : Nat) : Nat :=
  if s.halved then (n + 2 - n % 2) % 2 ^ 32 else (n + 1) % 2 ^ 32

/-- Landing frame of a commit accepted now (R174). -/
def State.landingFrame (s : State) : Nat :=
  let n := s.nextComposed s.fs.compFrame
  if s.fs.cmTaken then s.nextComposed n else n

/-- A value of the committed scan-out configuration: of the accepted one before it takes effect (R175, R176). -/
def State.com (s : State) (k : Nat) : Nat :=
  match s.fs.accepted with
  | some c => (mapGet c.vals k).getD (s.act k)
  | none => s.act k

/-- A device state change that enters OPERATE or STANDBY waits for its entry milestone. [DEDUCED, log entry 68] -/
def State.entering (s : State) : Bool :=
  match s.sys.stateReq with | some r => r.target != 1 | none => false

/-- Frame n is the entry frame of the state change that waits, or follows it (R175). [DEDUCED, log entry 210] -/
def State.entered (s : State) (n : Nat) : Bool :=
  s.entering && match s.fs.entryFrame with | some f => !seqNewer f n | none => false

/-- The frame that lies d frames ahead of the present one. -/
def State.frameAt (s : State) (d : Nat) : Nat := (s.get (K 0x4300 0x11) + d) % 2 ^ 32

/-- A value of the configuration that frame n has: the accepted one from the entry frame on (R175). [DEDUCED, log entry 210] -/
def State.cfgFor (s : State) (n k : Nat) : Nat :=
  match s.fs.accepted with
  | some c => if s.entered n then (mapGet c.vals k).getD (s.act k) else s.act k
  | none => s.act k

/-- A value of the configuration that the next frame has. -/
def State.nextCfg (s : State) (k : Nat) : Nat := s.cfgFor (s.frameAt 1) k

/-- The layout of the fixed area changes with an entry frame that frame n is, or follows (R162, R175). -/
def State.layoutAhead (s : State) (n : Nat) : Bool :=
  match s.fs.accepted with | some c => c.relayout && s.entered n | none => false

/-- The next frame is the dark entry frame of a relayout (R175). -/
def State.nextDark (s : State) : Bool := s.layoutAhead (s.frameAt 1)

/-- How far frame n lies ahead of the present one: 0 for the present one and for one that is past. -/
def State.ahead (s : State) (n : Nat) : Nat :=
  let f := s.get (K 0x4300 0x11)
  if seqNewer n f then (n + 2 ^ 32 - f) % 2 ^ 32 else 0

/-- Row period of the frame that lies d frames ahead, as far as it is fixed (R166, R175). -/
def State.rowUAt (s : State) (d : Nat) : Nat :=
  let base := match d with
    | 0 => s.fs.rowU
    | 1 => s.fs.nextRowU
    | _ => s.fs.rowU2.getD s.fs.nextRowU
  match s.fs.entryU with
  | some u => if d ≠ 0 ∧ s.entered (s.frameAt d) = true ∧ (s.fs.entryFrame = some (s.frameAt d) ∨ s.fs.rowU2 = none) then u else base
  | none => base

/-- Length in 1/65,536 PIX cycle of the frame that lies d frames ahead (R164). -/
def State.lengthAt (s : State) (d : Nat) : Nat :=
  if d = 0 then s.periodU s.fs.rowU
  else (s.cfgFor (s.frameAt d) (K 0x4300 3) + s.cfgFor (s.frameAt d) (K 0x4300 4)) * s.rowUAt d

/-- Scheduled device time of the milestone of the frame that lies d frames ahead (R165). -/
def State.milestoneAt (s : State) (d : Nat) : Nat :=
  match d with
  | 0 => s.fs.fmTime
  | 1 => s.fs.fmTime + nsOfU (s.lengthAt 0)
  | n + 2 => s.fs.fmTime + nsOfU (s.lengthAt 0 + s.lengthAt 1 + n * s.lengthAt 2)

/-- Device time of the milestone of the frame being composed, and its row period (R165). -/
def State.compRaster (s : State) : Nat × Nat :=
  let d := s.ahead s.fs.compFrame
  (s.milestoneAt d, s.rowUAt d)

/-! ### Packets (R195, R448) -/

/-- The 8 bytes of a word. -/
def wordBytes (w : Nat) : List Byte := toBe 8 w

/-- CRC of a packet: header word and payload words, most significant byte first (R195). -/
def packetCrc (head : Nat) (words : List Nat) : Nat := crc32c ((head :: words).flatMap wordBytes)

/-- Header word of a packet (R195, R448). -/
def packetHead (typ e act seq len arg : Nat) : Nat :=
  typ * 2 ^ 60 + e * 2 ^ 57 + act * 2 ^ 56 + seq * 2 ^ 48 + len * 2 ^ 32 + arg % 2 ^ 32

/-- A packet leaves on the twin link while a lane of it is up; SEQ runs per type (R448). [DESIGN CHOICE, log entry 131] -/
def State.sendTwl (s : State) (typ arg : Nat) (words : List Nat) : State :=
  if s.get (K 0x7030 3) = 0 then s
  else
    let seq := (nth 0 s.tw.seqs typ + 1) % 256
    let h := packetHead typ 0 0 seq words.length arg
    { s with tw := { s.tw with seqs := putNth 0 s.tw.seqs typ seq } }.emit (.twl h words (packetCrc h words))

/-- The active device forwards an accepted commit with its landing frame; the layout of the payload is open (R451). -/
def State.forwardCommit (s : State) (landing : Nat) : State :=
  if s.get (K 0x8600 3) = 1 then
    let (v, t) := s.fresh
    t.sendTwl 3 landing [v]
  else s

/-- A commit-acting configuration becomes armed; it replaces an earlier armed one of the same item (R128, R174). -/
def State.arm (s : State) (item : Nat) (vals : List (Nat × Nat)) (doms : List (Nat × List Byte)) (landing : Nat) (entry : Bool) : State :=
  let rest : List Armed := s.armed.filter fun a => a.item != item
  let one : Armed := ⟨item, vals, doms, landing, entry⟩
  { s with armed := rest ++ [one] }.forwardCommit landing

/-- The armed configuration of an item. -/
def State.armedOf (s : State) (item : Nat) : Option Armed := s.armed.find? fun a => a.item == item

/-- Ports with BOOT entries: block of their records, and index. -/
def bootPorts : List (Nat × Nat) := [(1, 0x7100), (1, 0x7101), (0x1B, 0x7140), (0x1B, 0x7141), (0x1B, 0x7142), (0x1B, 0x7143)]

/-- BOOT entries of the ports, addresses and time (R358). -/
def bootKeys : List Nat := (bootPorts.flatMap fun p => keys p.2 1 5) ++ keys 0x7110 1 4 ++ [K 0x7110 7] ++ keys 0x7180 1 3

/-- A configuration comes into force. -/
def State.land (s : State) (vals : List (Nat × Nat)) (doms : List (Nat × List Byte)) : State :=
  let t := s.putAct vals
  { t with activeDoms := mapMerge t.activeDoms doms }

/-- The state as composition of frame n sees it: from an entry frame on whose fixed area stays as it is, under the accepted configuration
(R175). -/
def State.viewFor (s : State) (n : Nat) : State :=
  match s.fs.accepted with
  | some c =>
    if s.entered n && !c.relayout then
      let t := s.land c.vals c.doms
      { t with fs := { t.fs with ra := t.act (K 0x4300 3), vb := t.act (K 0x4300 4) } }
    else s
  | none => s

/-- Composition work on frame n, under the configuration that the frame has; the present frame keeps the one in force (R175). -/
def State.forFrame (s : State) (n : Nat) (f : State → State) : State :=
  match s.fs.accepted with
  | some c =>
    if s.entered n && !c.relayout then
      let v := s.viewFor n
      let t := f v
      let back {α : Type} (old new : List (Nat × α)) (k : Nat) : List (Nat × α) :=
        match mapGet old k with | some x => mapPut new k x | none => mapDel new k
      let active := if t.active = v.active then s.active else c.vals.foldl (fun m p => back s.active m p.1) t.active
      let doms := if t.activeDoms = v.activeDoms then s.activeDoms else c.doms.foldl (fun m p => back s.activeDoms m p.1) t.activeDoms
      { t with active := active, activeDoms := doms, fs := { t.fs with ra := s.fs.ra, vb := s.fs.vb } }
    else f s
  | none => f s

/-- Dimensions of a source are committed but not in force yet (R175): a configuration checked against them waits for the
entry frame. -/
def State.dimsPending (s : State) (i : Nat) : Bool :=
  match s.fs.accepted with
  | none => false
  | some c =>
    let k := 0x4330 + i
    let g (u : Nat) : Nat := (mapGet c.vals (K k u)).getD (s.act (K k u))
    g 3 != s.act (K k 3) || g 4 != s.act (K k 4) || g 1 != s.act (K k 1)

/-- A commit refused with a detail code: the last-result entry takes the detail (R563). -/
def State.refuse (s : State) (res detail : Nat) : State × Code := (s.set res detail, (0x0403, detail))

/-- Number of fields of a source in force, at least 1 (R244). -/
def State.fieldsOf (s : State) (i : Nat) : Nat :=
  if s.srcType i = 2 ∨ s.srcType i = 3 then max 1 (s.act (K (0x4530 + i) 1)) else 1

/-- Pixels that the enabled sources in force address (R12, R244). -/
def State.pixels (s : State) : Nat :=
  s.srcs.foldl (fun n i => n + s.fieldsOf i * s.act (K (0x4330 + i) 3) * s.act (K (0x4330 + i) 4)) 0

/-- Width and height in force of a source. -/
def State.actW (s : State) (i : Nat) : Nat := s.act (K (0x4330 + i) 3)

/-- Rows in force of a source. -/
def State.actH (s : State) (i : Nat) : Nat := s.act (K (0x4330 + i) 4)

/-- What the compositor holds for a source. -/
def State.src (s : State) (i : Nat) : Src := nth Src.init s.comp.src i

/-- The state with what the compositor holds for a source replaced. -/
def State.putSrc (s : State) (i : Nat) (x : Src) : State :=
  { s with comp := { s.comp with src := putNth Src.init s.comp.src i x } }

/-- The cell map of the region pool with a byte set; the byte 0 is not listed. -/
def memPut (m : List Host.Cell) (a : Nat) (b : Byte) : List Host.Cell := if b = 0 then mapDel m a else mapPut m a b

/-- A byte of a sparse memory: an unlisted byte reads 0 (DESIGN CHOICE, log entry 4). -/
def memGet (m : List Host.Cell) (a : Nat) : Byte := (mapGet m a).getD 0

/-- Bytes put from an address up. -/
def memPutAll : List Host.Cell → Nat → List Byte → List Host.Cell
  | m, _, [] => m
  | m, a, b :: r => memPutAll (memPut m a b) (a + 1) r

/-- Words of the frame store that a write touches are sound again (R160). -/
def State.rewritten (s : State) (a n : Nat) : State :=
  if s.fs.bad.isEmpty then s
  else { s with fs := { s.fs with bad := s.fs.bad.filter fun w => !decide (a < 8 * w + 8 ∧ 8 * w < a + n) } }

/-- Bytes filled with 0 from an address up. -/
def memZero (m : List Host.Cell) (a n : Nat) : List Host.Cell := m.filter fun p => decide (p.1 < a ∨ a + n ≤ p.1)

/-- The bytes of a stretch. -/
def memSlice (m : List Host.Cell) (a n : Nat) : List Byte := (List.range n).map fun k => memGet m (a + k)

/-- Canonical form of a sparse memory: addresses strictly rising, and no byte 0 listed. -/
def memWf : List Host.Cell → Bool
  | [] => true
  | [p] => p.2 != 0
  | p :: q :: r => p.2 != 0 && decide (p.1 < q.1) && memWf (q :: r)

/-! ### Fixed area of the frame store (R161) -/

/-- Sizes in bytes of the seven items of the fixed area, for pixels P, blocks, the gain flag, line-following and stream bytes. -/
def fixedSizes (p blocks : Nat) (gain line : Bool) (video : Nat) : List Nat :=
  [(if line then 2 else 4) * p, if gain then 2 * p else 0, 4 * blocks, 2 * blocks, 1048576, video, 65536]

/-- Units of a size. -/
def unitsOf (n : Nat) : Nat := ceilDiv n 65536

/-- First byte of item n of the fixed area. -/
def fixedBase (sizes : List Nat) (n : Nat) : Nat := ((sizes.take n).foldl (fun a x => a + unitsOf x) 0) * 65536

/-- End of the fixed area in units. -/
def fixedUnits (sizes : List Nat) : Nat := sizes.foldl (fun a x => a + unitsOf x) 0

/-- Some source has a uniformity mode that needs the gain map (R161). -/
def State.gainWanted (s : State) : Bool := (List.range 4).any fun i => s.get (K (0x4200 + i) 1) != 0

/-- The items of the fixed area for a choice of values of the scan-out configuration, with a gain map or without. -/
def fixedItems (gain : Bool) (g : Nat → Nat) : List Nat :=
  let on := (List.range 4).filter fun i => g (K (0x4330 + i) 1) == 1
  let w (i : Nat) : Nat := g (K (0x4330 + i) 3)
  let h (i : Nat) : Nat := g (K (0x4330 + i) 4)
  let ty (i : Nat) : Nat := g (K (0x4330 + i) 2)
  let f (i : Nat) : Nat := if ty i = 2 ∨ ty i = 3 then max 1 (g (K (0x4530 + i) 1)) else 1
  let p := on.foldl (fun a i => a + f i * w i * h i) 0
  let blocks := (on.filter fun i => ty i == 1 || ty i == 4).foldl (fun a i => a + (blocksDim (w i)) * blocksDim (h i)) 0
  let video := ((List.range 2).filter fun n => g (K (0x7120 + n) 1) == 1).foldl
    (fun a n => a + unitsOf (4 * g (K (0x7120 + n) 5) * g (K (0x7120 + n) 6)) * 65536) 0
  fixedSizes p blocks gain (g (K 0x4300 1) == 1) video
where
  /-- Blocks along one dimension. -/
  blocksDim (n : Nat) : Nat := (n + 1) / 2

/-- The items of the fixed area that a layout for a configuration holds. -/
def State.fixedOf (s : State) (g : Nat → Nat) : List Nat := fixedItems s.gainWanted g

/-- The items of the fixed area in force. -/
def State.fixedNow (s : State) : List Nat := fixedItems s.fs.gainArea s.act

/-- Pixels of the sources before source i, in the order of the fixed area. -/
def State.pixBefore (s : State) (i : Nat) : Nat :=
  (s.srcs.filter fun k => decide (k < i)).foldl (fun n k => n + s.fieldsOf k * s.actW k * s.actH k) 0

/-- A byte of the frame store lies in a word that reads as uncorrectable. -/
def State.badByte (s : State) (a : Nat) : Bool := !s.fs.bad.isEmpty && s.fs.bad.contains (a / 8)

/-- An uncorrectable word is reported (R158). -/
def State.badWord (s : State) (w : Nat) : State :=
  (((s.inc (K 0x4310 3)).set (K 0x4310 4) (8 * w)).set (K 0x4310 5) (s.get (K 0x4300 0x11))).event 0x0D 1 (8 * w)

/-- The uncorrectable words among some bytes that are read are reported, each once (R158). -/
def State.badRead (s : State) (as : List Nat) : State :=
  if s.fs.bad.isEmpty then s
  else ((as.filter s.badByte).map (· / 8)).eraseDups.foldl State.badWord s

/-- The uncorrectable words of a stretch that is read are reported (R158). -/
def State.badStretch (s : State) (a n : Nat) : State :=
  (s.fs.bad.filter fun w => decide (a < 8 * w + 8 ∧ 8 * w < a + n)).foldl State.badWord s

/-- Blocks of the tile and matrix sources before source i, in the order of the dose and ageing maps (R161). -/
def State.blocksBefore (s : State) (i : Nat) : Nat :=
  (s.srcs.filter fun k => decide (k < i) && (s.srcType k == 1 || s.srcType k == 4)).foldl
    (fun n k => n + (s.actW k + 1) / 2 * ((s.actH k + 1) / 2)) 0

/-- First byte of a pixel's gain in the uniformity gain map (R161). -/
def State.gainByte (s : State) (i n : Nat) : Nat := fixedBase s.fixedNow 1 + 2 * (s.pixBefore i + n)

/-- First byte of a block's counter in the dose map (R161). -/
def State.doseByte (s : State) (i b : Nat) : Nat := fixedBase s.fixedNow 2 + 4 * (s.blocksBefore i + b)

/-- First byte of a block's gain in the ageing map (R161). -/
def State.ageByte (s : State) (i b : Nat) : Nat := fixedBase s.fixedNow 3 + 2 * (s.blocksBefore i + b)

end Sys2Proof.Machine
end

