-- ==== Sys2Proof/Machine/LayerOps.lean ====
section
/-! DEFINITION. Layer configurations and their checks (R93, R126–R130, R33), regions of the frame store (R133–R136, R163). -/

namespace Sys2Proof.Machine

/-! ### Layer configurations -/

/-- Entries of a layer that only its commit brings into force (R126). -/
def layerKeys (l : Nat) : List Nat := keys (0x3400 + l) 1 0x11 ++ [K (0x3400 + l) 0x18] ++ keys (0x3300 + l) 1 0x13

/-- The shadow configuration of a layer. -/
def State.shadow (s : State) (l : Nat) : LCfg := ⟨s.snap (layerKeys l), s.dom (K (0x3400 + l) 0x19)⟩

/-- The active configuration of a layer. -/
def State.activeCfg (s : State) (l : Nat) : LCfg :=
  ⟨(layerKeys l).map fun k => (k, s.act k), mapGet s.activeDoms (K (0x3400 + l) 0x19)⟩

/-- The armed configuration of a layer. -/
def State.armedCfg (s : State) (l : Nat) : Option LCfg :=
  (s.armedOf (K (0x3400 + l) 0x14)).map fun a => ⟨a.vals, mapGet a.doms (K (0x3400 + l) 0x19)⟩

/-- The configuration of a layer in the landing set: taken at the commit milestone, and not in force yet (R174). -/
def State.landingCfg (s : State) (l : Nat) : Option LCfg :=
  (s.fs.landing.find? fun x => x.1 == K (0x3400 + l) 0x14).map fun x => ⟨x.2.1, mapGet x.2.2 (K (0x3400 + l) 0x19)⟩

/-- Field of a layer configuration by its sub-index at 0x340k. -/
def LCfg.at_ (c : LCfg) (l u : Nat) : Nat := c.get (K (0x3400 + l) u)

/-- Field of the geometry of a layer configuration by its sub-index at 0x330k. -/
def LCfg.geo (c : LCfg) (l u : Nat) : Nat := c.get (K (0x3300 + l) u)

/-- A layer configuration reads a region of the frame store (R133). -/
def LCfg.readsRegion (c : LCfg) (l n : Nat) : Bool :=
  c.at_ l 1 == 1 && (c.at_ l 2 == 2 || c.at_ l 2 == 3) && c.at_ l 3 == n

/-- The active, armed or REPEAT configuration of some layer reads a region; a landing one was armed and becomes active (R133, R134). -/
def State.regionRead (s : State) (n : Nat) : Bool :=
  (List.range 7).any fun l =>
    (s.activeCfg l).readsRegion l n
      || (match s.armedCfg l with | some c => c.readsRegion l n | none => false)
      || (match s.landingCfg l with | some c => c.readsRegion l n | none => false)
      || (match (nth ⟨.off, none, none⟩ s.comp.layers l).last with | some c => c.readsRegion l n | none => false)

/-- A source is committed as enabled (R176). -/
def State.comOn (s : State) (i : Nat) : Bool := s.get (K (0x4330 + i) 5) != 0

/-- The sources that a layer configuration feeds. -/
def State.feeds (s : State) (c : LCfg) (l : Nat) : List Nat :=
  (List.range 4).filter fun i => bit (c.at_ l 9) i && s.comOn i

/-! ### Footprint (R93) -/

/-- A node direction in the internal format. -/
def nodeAng (n : Int) : Int := clampI (-524288) 524287 ((n + 8) / 16)

/-- Span of t, in 1/64 line, over the nodes of node rows j and j + 1 and the centres of cell row j: of every point that the mapping
gives a t, inside the crop window or not. [DESIGN CHOICE, log entry 185] -/
def State.rowSpan (s : State) (c : LCfg) (l : Nat) (mesh : Option (List Byte)) (theta : Option Word32) (j : Nat) : Nat :=
  let tOf (h v : Int) : Option Int := (s.layerMap c l h v).map (·.2)
  let nodes := (List.range 65).flatMap fun i =>
    [levNode mesh theta i j, levNode mesh theta i (j + 1)].map fun n => tOf (nodeAng n.1) (nodeAng n.2)
  let mids := (List.range 64).map fun i =>
    let a := levNode mesh theta i j
    let b := levNode mesh theta (i + 1) j
    let d := levNode mesh theta i (j + 1)
    let e := levNode mesh theta (i + 1) (j + 1)
    tOf (nodeAng ((a.1 + b.1 + d.1 + e.1 + 2) / 4)) (nodeAng ((a.2 + b.2 + d.2 + e.2 + 2) / 4))
  let ts := (nodes ++ mids).filterMap id
  match ts with
  | [] => 0
  | t :: r => (r.foldl max t - r.foldl min t).toNat

/-- The bound F of R93 for a layer configuration. -/
def State.footprint (s : State) (c : LCfg) (l : Nat) : Nat :=
  let th := F32.ofFx (s.get (K 0x3010 2))
  let lim := F32.ofFx (s.get (K 0x3010 3))
  let thetas : List (Option Word32) :=
    if c.levelled l then [some (F32.sub th lim), some th, some (F32.add th lim)] else [none]
  let spans := (s.feeds c l).flatMap fun i =>
    let mesh := mapGet s.activeDoms (K (0x3100 + i) 1)
    thetas.flatMap fun t => (List.range 32).map fun j => s.rowSpan c l mesh t j
  ceilDiv (spans.foldl max 0) 64 + 2

/-! ### Capacity (R33) -/

/-- Fields of a source of the committed configuration, at least 1 (R244). -/
def State.comFields (s : State) (i : Nat) : Nat :=
  if s.com (K (0x4330 + i) 2) = 2 ∨ s.com (K (0x4330 + i) 2) = 3 then max 1 (s.com (K (0x4530 + i) 1)) else 1

/-- Pixels of the committed configuration that a list of sources addresses. -/
def State.comPixels (s : State) (l : List Nat) : Nat :=
  l.foldl (fun n i => n + s.comFields i * s.srcW i * s.srcH i) 0

/-- A pixel count times the nominal frame rate exceeds a rate. -/
def overRate (px : Nat) (rate : Word32) (cap : Nat) : Bool := decide (((cap * 2 ^ 24 : Nat) : Int) < px * F32.floorMul rate 24)

/-- Capacity check over the seven configurations that would be in force: warp, then compositor (R33). -/
def State.capacity (s : State) (cfg : Nat → LCfg) (warp : Bool) : Nat :=
  let on := (List.range 7).filter fun l => (cfg l).at_ l 1 == 1
  let warped := (on.filter fun l => (cfg l).geo l 1 != 3).foldl (fun n l => n + s.comPixels (s.feeds (cfg l) l)) 0
  let blended := on.foldl (fun n l => n + s.comPixels (s.feeds (cfg l) l)) (s.comPixels ((List.range 4).filter s.comOn))
  let rate := F32.ofNat (s.com (K 0x4300 2))
  if warp && overRate warped rate 3200000000 then 0x3007
  else if overRate blended rate 6400000000 then 0x4005 else 0

/-- The configuration of a layer that will be in force: its armed one, else its landing one, else its active one. -/
def State.comingCfg (s : State) (l : Nat) : LCfg := (s.armedCfg l).getD ((s.landingCfg l).getD (s.activeCfg l))

/-- Details 0x4001, 0x4002 and 0x4004 of R130. [DESIGN CHOICE, log entry 218] -/
def State.layerSource (s : State) (c : LCfg) (l : Nat) : Nat :=
  let ty := c.at_ l 2
  let n := c.at_ l 3
  let bw := c.at_ l 5
  let bh := c.at_ l 6
  let cls := c.geo l 1
  let region := ty == 2 || ty == 3
  let cropOut (w h : Nat) : Bool := decide (w < c.geo l 3 + c.geo l 5) || decide (h < c.geo l 4 + c.geo l 6)
  let exists_ : Bool := match ty with
    | 1 => decide (n ≤ 1) && s.act (K (0x7120 + n) 1) == 1
    | 2 | 3 => decide (n ≤ 31) && s.get (K (0x3440 + n) 1) == 1
    | 4 => decide (n ≤ 1)
    | 5 => decide (n ≤ 3)
    | _ => false
  if (ty == 4) != (cls == 3) || !exists_ then 0x4001
  else if region && (decide (s.get (K (0x3440 + n) 4) * 65536 < bw * bh * 2) || cropOut bw bh) then 0x4002
  else if ty == 1 && cropOut (s.act (K (0x7120 + n) 5)) (s.act (K (0x7120 + n) 6)) then 0x4002
  else if (s.feeds c l).isEmpty then 0x4004
  else 0

/-- Memory charged to a layer (R135): its regions in ALLOCATED or RELEASING state. -/
def State.charged (s : State) (l : Nat) : Nat :=
  ((List.range 32).filter fun n =>
    (s.get (K (0x3440 + n) 1) == 1 || s.get (K (0x3440 + n) 1) == 2) && s.get (K (0x3440 + n) 2) == l).foldl
    (fun a n => a + s.get (K (0x3440 + n) 4)) 0

/-- Check of a layer commit in the order of R130, and the footprint where the check found one. -/
def State.layerCheck (s : State) (l : Nat) (cfg : Nat → LCfg) : Nat × Option Nat :=
  let c := cfg l
  if c.at_ l 1 = 0 then (s.capacity cfg false, none) else
  let d1 := s.layerSource c l
  let cls := c.geo l 1
  let singular : Bool := match cls with
    | 0 | 2 => matrixSingular (matrixOf c l)
    | 1 => decide (sgn 32 (c.geo l 0x11) ≤ sgn 32 (c.geo l 0x10)) || decide (sgn 32 (c.geo l 0x12) ≤ sgn 32 (c.geo l 0x13))
    | _ => false
  if d1 ≠ 0 then (d1, none)
  else if 4096 < c.geo l 5 then (0x3001, none)
  else if singular then (0x3006, none)
  else
    let f := if cls = 3 then 0 else s.footprint c l
    if 64 < f then (0x3002, some f)
    else
      let d2 := s.capacity cfg true
      if d2 ≠ 0 then (d2, some f)
      else if s.get (K (0x3400 + l) 0x12) < s.charged l then (0x4006, some f) else (0, some f)

/-- The footprint that a commit found is reported, whether the commit is accepted or not (R93); one above 255 shows as 255.
[DESIGN CHOICE, log entry 215] -/
def State.showFoot (s : State) (l : Nat) (f : Option Nat) : State :=
  match f with
  | some n => s.set (K (0x3300 + l) 0x14) (min n 255)
  | none => s

/-- The identity tone LUT (R126). -/
def lutDefault : List Byte := (List.range 1024).flatMap fun i => toBe 2 (roundDiv (i * 65535) 1023)

/-- The shadow of a layer becomes armed with its tone LUT (R128). -/
def State.armLayer (s : State) (l landing : Nat) : State :=
  let c := s.shadow l
  (s.arm (K (0x3400 + l) 0x14) c.vals [(K (0x3400 + l) 0x19, c.lut.getD lutDefault)] landing false).set (K (0x3400 + l) 0x15) landing

/-- Layer commit (R128, R130): the shadow is checked and armed, or nothing is applied. -/
def State.layerCommit (s : State) (l : Nat) : State × Code :=
  let (d, f) := s.layerCheck l fun k => if k = l then s.shadow k else s.comingCfg k
  let t := s.showFoot l f
  if d ≠ 0 then t.refuse (K (0x3400 + l) 0x16) d
  else ((t.armLayer l s.landingFrame).set (K (0x3400 + l) 0x16) 0, ok)

/-- Group commit (R129): the layers of the mask are checked in ascending order as a whole and armed together. An accepted group sets the last
commit result of each of its layers to 0, a refused one leaves them. [DESIGN CHOICE, log entry 209] -/
def State.groupCommit (s : State) (mask : Nat) : State × Code :=
  let ls := (List.range 7).filter fun l => bit mask l
  let cfg (k : Nat) : LCfg := if bit mask k then s.shadow k else s.comingCfg k
  let res := ls.map fun l => (l, s.layerCheck l cfg)
  let shown := res.foldl (fun t r => t.showFoot r.1 r.2.2) s
  match res.find? fun r => r.2.1 != 0 with
  | some (l, d, _) => (shown.set (K 0x3410 2) (l * 4096 + d % 4096), (0x0403, d))
  | none =>
    let n := s.landingFrame
    let t := res.foldl (fun t r => (t.armLayer r.1 n).set (K (0x3400 + r.1) 0x16) 0) shown
    ((t.set (K 0x3410 2) 0).set (K 0x3410 3) n, ok)

/-! ### Regions -/

/-- First unit that regions may use (R163). -/
def State.poolStart (s : State) : Nat :=
  match s.fs.accepted with | some c => max s.fs.fixedEnd c.fixedEnd | none => s.fs.fixedEnd

/-- No region holds a unit of 64 KiB. -/
def State.unitUnheld (s : State) (u : Nat) : Bool :=
  !((List.range 32).any fun n =>
    let b := s.get (K (0x3440 + n) 3) / 65536
    s.get (K (0x3440 + n) 1) != 0 && decide (b ≤ u ∧ u < b + s.get (K (0x3440 + n) 4)))

/-- A unit of 64 KiB of the pool is free for a region: no region holds it, and no claim of its bank by trace (R163, R66). -/
def State.unitFree (s : State) (u : Nat) : Bool :=
  decide (s.poolStart ≤ u ∧ u < 496) && s.owner (0x9B + u / 8) == 0 && s.unitUnheld u

/-- Contiguous runs of the units below 496 that meet a test, lowest first: start and length. -/
def runsOf (p : Nat → Bool) : List (Nat × Nat) :=
  (List.range 496).foldl (fun acc u =>
    if p u then
      match acc.getLast? with
      | some (a, n) => if a + n = u then acc.dropLast ++ [(a, n + 1)] else acc ++ [(u, 1)]
      | none => [(u, 1)]
    else acc) []

/-- Base unit for a region of a size in some runs, by first fit from the highest downward. -/
def fitRuns (runs : List (Nat × Nat)) (size : Nat) : Option Nat :=
  (runs.reverse.find? fun r => decide (size ≤ r.2)).map fun r => r.1 + r.2 - size

/-- Free units of the pool as contiguous runs. -/
def State.freeRuns (s : State) : List (Nat × Nat) := runsOf s.unitFree

/-- First unit of the remainder of the geometry area, of 12 units, behind the meshes and the cut-off mask (R161).
[DESIGN CHOICE, log entry 213] -/
def geoRest (sizes : List Nat) : Nat := fixedBase sizes 4 / 65536 + 4

/-- Free units of the remainder of the geometry area, which beam-table regions take first (R161). -/
def State.geoRuns (s : State) : List (Nat × Nat) :=
  if s.fs.fixedEnd = 0 then []
  else
    let a := geoRest s.fixedNow
    runsOf fun u => decide (a ≤ u ∧ u < a + 12) && s.unitUnheld u

/-- The owner of a region holds its source type at 0x03: the region is one for a beam table (R122, R161). -/
def State.beamOwner (s : State) (own : Nat) : Bool := decide (own < 7) && s.get (K (0x3400 + own) 2) == 3

/-- Base unit of a region of an owner and a size: a beam-table region goes to the remainder of the geometry area where it fits there, every other
to the pool, by first fit from unit 495 downward (R161, R163). [DESIGN CHOICE, log entry 213] -/
def State.firstFit (s : State) (own size : Nat) : Option Nat :=
  match (if s.beamOwner own then fitRuns s.geoRuns size else none) with
  | some u => some u
  | none => fitRuns s.freeRuns size

/-- Free units and the largest free area (0x4310:06, 0x4310:07). -/
def State.freeUnits (s : State) : Nat := s.freeRuns.foldl (fun n r => n + r.2) 0

/-- Largest free area. -/
def State.largestFree (s : State) : Nat := s.freeRuns.foldl (fun n r => max n r.2) 0

/-- A refused region request: its result code is the last region result. -/
def State.regionRefuse (s : State) (r : Code) : State × Code := (s.set (K 0x3420 4) r.1, r)

/-- Allocate request (R135, R163). A domain that the region needs and that sleeps is neither woken nor a ground for refusal here: the first access to
the content wakes it (R29, R498). [DESIGN CHOICE, log entry 207] -/
def State.allocate (s : State) (v : Nat) : State × Code :=
  let own := field v 31 28
  let size := field v 15 0
  if own < 7 ∧ s.get (K (0x3400 + own) 0x12) < s.charged own + size then s.regionRefuse (0x0403, 0x4006) else
  match (List.range 32).find? fun n => s.get (K (0x3440 + n) 1) == 0 with
  | none => s.regionRefuse (0x0402, 0)
  | some n =>
    match s.firstFit own size with
    | none => s.regionRefuse (0x0405, 0)
    | some u =>
      let r := 0x3440 + n
      let t := ((((s.set (K r 1) 1).set (K r 2) own).set (K r 3) (u * 65536)).set (K r 4) size).set (K r 5) 0
      let t1 := (t.set (K r 7) 0).set (K 0x3420 3) n
      ((if own < 7 then t1.set (K (0x3400 + own) 0x13) (t1.charged own) else t1).set (K 0x3420 4) 0, ok)

/-- A region becomes FREE: its record is empty again. -/
def State.regionFree (s : State) (n : Nat) : State :=
  let r := 0x3440 + n
  let own := s.get (K r 2)
  let t := (((((s.set (K r 1) 0).set (K r 2) 7).set (K r 3) 0).set (K r 4) 0).set (K r 5) 0).set (K r 7) 0
  let u : State := { t with fs := { t.fs with lastUse := mapDel t.fs.lastUse n } }
  if own < 7 then u.set (K (0x3400 + own) 0x13) (u.charged own) else u

/-- LOST bits of a bank clear when no LOST region lies in it any more (R518). -/
def State.clearLost (s : State) : State :=
  (List.range 16).foldl (fun t f =>
    let v := t.get (K 0x2302 (8 + f))
    let still := (List.range 4).foldl (fun m b =>
      let bank := 4 * f + b
      let held := (List.range 32).any fun n =>
        let a := t.get (K (0x3440 + n) 3) / 524288
        let e := (t.get (K (0x3440 + n) 3) + t.get (K (0x3440 + n) 4) * 65536 + 524287) / 524288
        t.get (K (0x3440 + n) 1) == 3 && decide (a ≤ bank ∧ bank < e)
      if bit v (24 + b) && held then m + 2 ^ b else m) 0
    if field v 27 24 = 0 then t else t.set (K 0x2302 (8 + f)) (v - field v 27 24 * 2 ^ 24 + still * 2 ^ 24)) s

/-- Free request (R134). -/
def State.freeRequest (s : State) (n : Nat) : State × Code :=
  let r := 0x3440 + n
  let st := s.get (K r 1)
  if st = 0 then s.regionRefuse (0x0301, 0)
  else if st = 2 then (s.set (K 0x3420 4) 0, ok)
  else if s.regionRead n then s.regionRefuse (0x0402, 0)
  else if st = 3 then ((s.regionFree n).clearLost.set (K 0x3420 4) 0, ok)
  else
    match mapGet s.fs.lastUse n with
    | none => ((s.regionFree n).set (K 0x3420 4) 0, ok)
    | some f =>
      let release := if s.halved then (f + 2) % 2 ^ 32 else (f + 1) % 2 ^ 32
      (((s.set (K r 1) 2).set (K r 7) release).set (K 0x3420 4) 0, ok)

/-- Write of the content-ready flag (R133). -/
def State.contentReady (s : State) (n v : Nat) : State × Code :=
  let st := s.get (K (0x3440 + n) 1)
  if v = 0 ∧ st ≠ 0 ∧ s.regionRead n then (s, (0x0402, 0))
  else if st = 0 then (s, (0x0301, 0))
  else if st = 2 ∨ st = 3 then (s, (0x0406, 0))
  else (s.set (K (0x3440 + n) 5) v, ok)

/-- Write of a layer's memory quota (R135). -/
def State.memoryQuota (s : State) (l v : Nat) : State × Code :=
  let on := (s.activeCfg l).at_ l 1 == 1 || (match s.armedCfg l with | some c => c.at_ l 1 == 1 | none => false)
    || (match s.landingCfg l with | some c => c.at_ l 1 == 1 | none => false)
  if v < s.charged l ∧ on then (s, (0x0402, 0)) else (s.set (K (0x3400 + l) 0x12) v, ok)

end Sys2Proof.Machine
end

