-- ==== Sys2Proof/Machine/LinkOps.lean ====
section
/-! DEFINITION. Tile Link: endpoint records in force, link load (R207), packets (R195–R203), register traffic (R215–R224),
lanes of a port, blanking, and re-striping (R183, R225). -/

namespace Sys2Proof.Machine

/-! ### Endpoints -/

/-- A value in force of the record of endpoint e (R230). -/
def State.ep (s : State) (e u : Nat) : Nat := s.act (K (0x4400 + e) u)

/-- Endpoint e is enabled, and its source too. -/
def State.epOn (s : State) (e : Nat) : Bool := s.ep e 1 == 1 && s.srcOn (s.ep e 2)

/-- The enabled endpoints of a source. -/
def State.epsOf (s : State) (i : Nat) : List Nat := (List.range 8).filter fun e => s.epOn e && s.ep e 2 == i

/-- The enabled endpoints of a lane group. -/
def State.epsOfGroup (s : State) (g : Nat) : List Nat := (List.range 8).filter fun e => s.epOn e && s.ep e 4 == g

/-- The port of an endpoint. -/
def State.port (s : State) (e : Nat) : Port := nth Port.init s.tl.ports e

/-- The state with a port replaced. -/
def State.putPort (s : State) (e : Nat) (p : Port) : State := { s with tl := { s.tl with ports := putNth Port.init s.tl.ports e p } }

/-- Lanes within the group of a 4-bit mask. -/
def laneList (mask : Nat) : List Nat := (List.range 4).filter fun l => bit mask l

/-- Lanes of the stripe map of a port: those of its record before a map is set (R190). -/
def State.stripeOf (s : State) (e : Nat) : List Nat :=
  let p := s.port e
  if p.stripe.isEmpty then laneList (s.ep e 5) else p.stripe

/-- Index of the record of a lane: SL0–SL15, then T0 and T1 (R354). -/
def laneIdx (l : Nat) : Nat := if l < 16 then 0x7010 + l else 0x7022 + l

/-! ### Link load (R207), in quarter ps -/

/-- Block time of a rate code in quarter ps (R329). -/
def blockQ (rate : Nat) : Nat := 165000 / 2 ^ rate

/-- Largest packet P of a port in blocks. [DEDUCED, log entry 90] -/
def packetBlocks (k rate : Nat) : Nat := 6000000 * k / blockQ rate

/-- Pixel words, segments and blocks of a row of w pixels at grey depth g (R207). -/
def rowBlocks (w g k rate : Nat) : Nat × Nat × Nat :=
  let wd := ceilDiv (w * g) 64
  let sg := ceilDiv wd (packetBlocks k rate - 4)
  (wd, sg, wd + 4 * sg)

/-- Link load of a tile row at row repeat n, as a numerator and denominator: (B / k + 8n) · 66 / c over n · T_row,s, with
T_row,s = RA · T_row / Hs. -/
def rowLoad (w g k rate n ra rowU hs : Nat) : Nat × Nat :=
  let b := (rowBlocks w g k rate).2.2
  ((b + 8 * n * k) * blockQ rate * 65536 * hs, k * n * ra * rowU * 10000)

/-- Blocks of one whole plane of W × H mirrors, and the time to deliver it in quarter ps with every ALIGN slot (R236). -/
def planeTimeQ (w h k rate : Nat) : Nat :=
  let wd := ceilDiv w 64
  let rows := max 1 (min 16 ((packetBlocks k rate - 4) / wd))
  let blocks := h * wd + 4 * ceilDiv h rows
  let slots := ceilDiv blocks k
  (slots + ceilDiv slots 255) * blockQ rate

/-- Minimum dwell T_dmin in ns: T_load plus 0.5 µs, rounded up to 0.1 µs (R236). -/
def minDwell (w h k rate : Nat) : Nat := ceilDiv (planeTimeQ w h k rate + 2000000) 400000 * 100

/-! ### Block slots (R191–R193) -/

/-- Sync header and bytes of a block (R191). -/
def Block.bytes : Block → Nat × List Byte
  | .fill => (2, toBe 1 0x1E ++ toBe 7 0)
  | .align p k n => (2, toBe 1 0x2D ++ toBe 1 (p * 16 + k) ++ toBe 1 n ++ toBe 5 0)
  | .start => (2, toBe 1 0x33 ++ toBe 7 0)
  | .data w => (1, toBe 8 w)
  | .stop c => (2, toBe 1 0x4B ++ toBe 3 0 ++ toBe 4 c)

/-- Blocks of a packet: START, header, payload, END (R195). -/
def packetBody (head : Nat) (words : List Nat) : List Block :=
  .start :: (head :: words).map .data ++ [.stop (packetCrc head words)]

/-- Blocks laid out over the stripe positions of `n` slots of width k, with FILL after the last one. -/
def slotsOf (k : Nat) : Nat → List Block → List (List Block)
  | 0, _ => []
  | n + 1, bs => (bs.take k ++ List.replicate (k - bs.length) .fill) :: slotsOf k n (bs.drop k)

/-- An ALIGN slot of width k. -/
def alignSlot (k count : Nat) : List Block := (List.range k).map fun p => .align p k count

/-- Slots with the ALIGN slots that fall among them, every 256th: `since` slots have gone since the last one, whose count is `no`; then
both as they stand at the end (R192). -/
def weave (k : Nat) : List (List Block) → Nat → Nat → List (List Block) × Nat × Nat
  | [], since, no => ([], since, no)
  | x :: r, since, no =>
    if 255 ≤ since then
      let c := (no + 1) % 256
      let t := weave k r 1 c
      (alignSlot k c :: x :: t.1, t.2)
    else
      let t := weave k r (since + 1) no
      (x :: t.1, t.2)

/-! ### Packets -/

/-- Precedence of a packet by its type (R201). -/
def txRank (typ : Nat) : Nat :=
  match typ with
  | 5 | 6 => 0
  | 4 => 1
  | 1 | 2 => 2
  | _ => 4

/-- Packets that are answered (R196). -/
def wantsAnswer (typ : Nat) : Bool := typ == 4 || typ == 5 || typ == 6 || typ == 7 || typ == 8

/-- A packet may leave a port: a mute port sends nothing, the standby side nothing but IDLE and REG_RD (R200, R226). -/
def State.txAllowed (s : State) (e typ : Nat) : Bool :=
  !(s.port e).mute && (s.outputsOn || typ == 0 || typ == 8)

/-- A packet that may not leave is dropped: an access of the register window gets no answer (R231). -/
def State.txLost (s : State) (x : Tx) : State :=
  if x.op.any fun o => o.why == .window then s.set (K 0x4410 5) 3 else s

/-- Time between the END blocks of valid packets, 2 µs, in quarters of a ps (R201). -/
def endGap : Nat := 8000000

/-- The IDLE packets that a port has sent before a packet that begins at `start` and ends at `stop`: one for every 2 µs without END, and one
ahead of a packet that would end late (R201). [DESIGN CHOICE, log entry 188] -/
def State.idlesTo (s : State) (e start stop : Nat) : State :=
  let p := s.port e
  let n := (start - p.lastEnd) / endGap
  let late := decide (p.lastEnd + (n + 1) * endGap < stop)
  let m := n + b2n late
  if m = 0 ∨ s.txAllowed e 0 = false then s
  else
    let h := packetHead 0 e (b2n s.outputsOn) p.seq 0 0
    let at_ := if late then start else p.lastEnd + n * endGap
    (((s.putPort e { p with lastEnd := at_ }).emit (.idles e at_ h (packetCrc h []) m)).count 3 1 m).count 3 3 m

/-- Block slots of a packet on a port, for a first slot that begins at `start`: ahead of a MILESTONE and of a single-lane form stands an
ALIGN slot, which restarts the count (R192, R193); then the count of slots and of ALIGN. -/
def State.packetSlots (s : State) (e typ lanes head : Nat) (words : List Nat) (start : Nat) : List (List Block) × Nat × Nat :=
  let p := s.port e
  let k := if lanes = 0 then max 1 (s.stripeOf e).length else 1
  let gone := p.since + (start - p.slotAt) / blockQ p.rate
  let no := (p.alignNo + gone / 256) % 256
  let body := packetBody head words
  let slots := slotsOf k (ceilDiv body.length k) body
  if typ = 4 ∨ lanes ≠ 0 then
    let c := (no + 1) % 256
    let t := weave k slots 0 c
    (alignSlot k c :: t.1, t.2)
  else weave k slots (gone % 256) no

/-- A packet leaves at the slot that begins at `start`: it takes the next SEQ, unless it is sent again, and one that is answered is held until
its answer (R195, R198, R200). -/
def State.depart (s : State) (e : Nat) (x : Tx) (start : Nat) : State :=
  let q := s.port e
  let seq := match x.again with | some n => n | none => (q.seq + 1) % 256
  let h := packetHead x.typ e (b2n s.outputsOn) seq x.words.length x.arg
  let (slots, since, no) := s.packetSlots e x.typ x.lanes h x.words start
  let stop := start + slots.length * blockQ q.rate
  let t := s.idlesTo e start stop
  let p := t.port e
  let rest := p.unans.filter fun u => !(u.typ == x.typ || (u.op.isSome && x.op.isSome))
  let held : List Unans :=
    if wantsAnswer x.typ && x.again.isNone then rest ++ [⟨seq, x.typ, x.arg, x.words, x.lanes, 1, x.op⟩] else p.unans
  let y : Port := { p with seq := if x.again.isNone then seq else p.seq, unans := held, slotAt := stop, since := since, alignNo := no,
                           lastEnd := stop }
  ((t.putPort e y).emit (.tl e start x.lanes h x.words (packetCrc h x.words) slots)).count 3 1 1

/-- First slot of a port that begins at or after a time. -/
def Port.slotFrom (p : Port) (t : Nat) : Nat := p.slotAt + ceilDiv (t - p.slotAt) (blockQ p.rate) * blockQ p.rate

/-- Slot of the next MILESTONE, by the clock in quarters of a ps (R212). -/
def State.milestoneSlot (s : State) : Nat := 4000 * (s.fs.fmAt + (s.milestoneAt 1 - s.fs.fmTime) - s.get (K 0x4410 1))

/-- Longest time that a packet takes on a port (R201). -/
def State.txTime (s : State) (e : Nat) (x : Tx) : Nat :=
  (ceilDiv (x.words.length + 3) (if x.lanes = 0 then max 1 (s.stripeOf e).length else 1) + 2) * blockQ (s.port e).rate

/-- The packet that leaves first of those that wait at a time. -/
def pickTx (q : List Tx) (now : Nat) : Option Tx :=
  (q.filter fun x => decide (x.at_ ≤ now)).foldl (fun a x =>
    match a with
    | some y => if txRank x.typ < txRank y.typ then some x else some y
    | none => some x) none

/-- When the port can next take a packet that waits, in quarters of a ps: none while nothing waits. -/
def Port.turn (p : Port) : Option Nat :=
  match p.txq with
  | [] => none
  | x :: r => some (max p.slotAt (4000 * r.foldl (fun a y => min a y.at_) x.at_))

/-- A port switches its rate: from the countdown to the end of training no packet crosses it (R338). -/
def State.portPaused (s : State) (e : Nat) : Bool :=
  match (nth Train.init s.ln.trains e).switch with | some w => decide (2 ≤ w.step ∧ w.step < 6) | none => false

/-- The packets that wait at a port leave, as far as their turn has come: by precedence, and none across the slot of a MILESTONE (R201).
The first argument bounds their number. -/
def State.drainTx : Nat → State → Nat → State
  | 0, s, _ => s
  | n + 1, s, e =>
    let p := s.port e
    match p.turn with
    | none => s
    | some t =>
      if 4000 * s.now < t ∨ p.trained = false ∨ s.portPaused e = true then s
      else match pickTx p.txq (t / 4000) with
        | none => s
        | some x =>
          let start := p.slotFrom t
          let m := s.milestoneSlot
          let across := s.fs.running && s.outputsOn && p.ready && decide (start < m ∧ m < start + s.txTime e x)
          if across ∧ 4000 * s.now ≤ m then s
          else
            let u := s.putPort e { p with txq := p.txq.erase x }
            State.drainTx n (if u.txAllowed e x.typ then u.depart e x (if across then p.slotFrom (m + 1) else start) else u.txLost x) e

/-- What waits at a port leaves. -/
def State.drain (s : State) (e : Nat) : State := s.drainTx (s.port e).txq.length e

/-- A packet is asked for: it waits for its turn, a MILESTONE leaves in its slot (R201). A packet that may not leave is dropped and takes no
SEQ. [DEDUCED, log entry 90] -/
def State.putTx (s : State) (e : Nat) (x : Tx) : State :=
  let p := s.port e
  if !p.trained || !s.txAllowed e x.typ then s.txLost x
  else if x.typ = 4 then
    let t := s.drain e
    if t.portPaused e then t
    else t.depart e x ((t.port e).slotFrom (4000 * s.now))
  else
    let t := s.putPort e { p with txq := p.txq ++ [x] }
    t.drain e

/-- A packet is asked for now. [DEDUCED, log entry 90] -/
def State.sendPacket (s : State) (e typ arg : Nat) (words : List Nat) (lanes : Nat) (op : Option RegOp) : State :=
  s.putTx e ⟨s.now, typ, arg, words, lanes, none, op⟩

/-- A packet of a type is unanswered at a port, or waits to leave. -/
def Port.open_ (p : Port) (typ : Nat) : Bool := p.unans.any (fun u => u.typ == typ) || p.txq.any fun x => x.typ == typ

/-- A register packet is unanswered at a port, or waits to leave. -/
def Port.regOpen (p : Port) : Bool := p.unans.any (fun u => u.op.isSome) || p.txq.any fun x => x.op.isSome

/-- Register values as payload words, the first register in bits [63:32] (R215). -/
def regWords : List Nat → List Nat
  | [] => []
  | [a] => [a % 2 ^ 32 * 2 ^ 32]
  | a :: b :: r => (a % 2 ^ 32 * 2 ^ 32 + b % 2 ^ 32) :: regWords r

/-- Register values in payload words. -/
def wordRegs (words : List Nat) : List Nat := words.flatMap fun w => [w / 2 ^ 32 % 2 ^ 32, w % 2 ^ 32]

/-- The next register packet of a port leaves when none is unanswered (R200). -/
def State.pumpRegs (s : State) (e : Nat) : State :=
  let p := s.port e
  if p.regOpen then s else
  match p.regq with
  | [] => s
  | op :: rest =>
    (s.putPort e { p with regq := rest }).sendPacket e (if op.write then 7 else 8) (op.first * 65536 + op.count)
      (if op.write then regWords op.vals else []) 0 (some op)

/-- A register packet is asked for. -/
def State.regOp (s : State) (e : Nat) (op : RegOp) : State :=
  let p := s.port e
  (s.putPort e { p with regq := p.regq ++ [op] }).pumpRegs e

/-! ### Blanking (R214) -/

/-- BLANK with the HOLD bit to an endpoint. -/
def State.blankPort (s : State) (e : Nat) (hold : Bool) (lanes : Nat) : State :=
  let p := s.port e
  (s.putPort e { p with hold := hold }).sendPacket e 5 (b2n hold) [] lanes none

/-- A Roadblock acts on a source by path 1 or path 2. -/
def State.roadblocked (s : State) (i : Nat) : Bool := bit s.safe.path1 i || bit s.safe.path2 i || bit s.latched i

/-- Path 1 ends for a source at the first MILESTONE, or frame milestone, after its endpoints have passed READY (R397). -/
def State.endPath1 (s : State) (i : Nat) : State :=
  if bit s.safe.path1Ending i && (s.epsOf i).all fun e => (s.port e).ready then
    { s with safe := { s.safe with path1 := setBit s.safe.path1 i false, path1Ending := setBit s.safe.path1Ending i false } }
  else s

/-- The device is in SAFE, or is about to enter it (R52). -/
def State.safeNow (s : State) : Bool := s.mode == .safe || (s.mode != .boot && s.allBlocked)

/-- TSEg follows R228: asserted while the group carries an enabled endpoint, no path 2 acts on its source, and the state
is BOOT from step 7, PREOP, OPERATE or HOLD, and to the end of an endpoint's last frame; in STANDBY it follows the partner. -/
def State.tseWanted (s : State) (g : Nat) : Bool :=
  let carries := ((s.epsOfGroup g).any fun e => !bit s.safe.path2 (s.ep e 2))
    || s.tl.leaving.any fun p => p.2 == g && !bit s.safe.path2 (s.ep p.1 2)
  !s.safeNow && match s.mode with
  | .boot => carries && decide (7 ≤ s.sys.bootStep)
  | .preop | .operate | .hold => carries
  | .standby => bit (s.tw.tse) g
  | .safe => false

/-- A window access is open at a port (R231). -/
def Port.windowOpen (p : Port) : Bool :=
  let mine (o : RegOp) : Bool := o.why == .window
  p.regq.any mine || p.unans.any (fun u => u.op.any mine) || p.txq.any fun x => x.op.any mine

/-- The port of an endpoint starts from nothing: no lane trained, nothing unanswered, and no rate switch (R340); a window access open at it
gets no answer. -/
def State.dropPort (s : State) (e : Nat) : State :=
  let p := s.port e
  let s1 : State := { s with ln := { s.ln with trains := putNth Train.init s.ln.trains e Train.init } }
  let t := if p.windowOpen then s1.set (K 0x4410 5) 3 else s1
  (t.putPort e { Port.init with seq := p.seq, gaps := p.gaps }).set (K (0x4400 + e) 0x0A) 0

/-- The lanes of an endpoint whose supply goes off are off, but for those that have failed (R354). -/
def State.lanesOff (s : State) (e : Nat) : State :=
  (laneList (s.ep e 5)).foldl (fun t l =>
    let k := laneIdx (4 * s.ep e 4 + l)
    let x := nth Lane.init t.ln.lanes (4 * s.ep e 4 + l)
    let u : State := { t with ln := { t.ln with lanes := putNth Lane.init t.ln.lanes (4 * s.ep e 4 + l) { x with fwd := false, locked := false } } }
    if t.get (K k 1) = 5 ∨ t.get (K k 1) = 7 then u else u.set (K k 1) 0) s

/-- TSE outputs brought to what R228 asks: an assertion starts the settle time, a deassertion ends the link. -/
def State.setTse (s : State) : State :=
  (List.range 4).foldl (fun t g =>
    let want := t.tseWanted g
    if want == bit t.tl.tse g then t
    else if want then
      { t with tl := { t.tl with tse := setBit t.tl.tse g true, settling := mapPut t.tl.settling g t.now } }
    else
      let u := (t.epsOfGroup g).foldl (fun u e => (u.dropPort e).lanesOff e) t
      { u with tl := { u.tl with tse := setBit u.tl.tse g false, settling := mapDel u.tl.settling g } }) s

/-! ### Row repeat (R208) -/

/-- Smallest row repeat whose load stays at or below 90 % at the rate in force; none when even 8 exceeds it. -/
def State.rowRepeat (s : State) (e : Nat) : Option Nat :=
  let i := s.ep e 2
  let k := (s.stripeOf e).length
  [1, 2, 4, 8].find? fun n =>
    let (a, b) := rowLoad (s.ep e 0x18) (s.ep e 8) k (s.port e).rate n s.fs.ra s.fs.rowU (s.actH i)
    decide (a * 10 ≤ 9 * b)

/-- The link state entry follows the port: up, up with rows repeated, or blank for want of capacity, with BLANK HOLD = 1 and a record; the
hold ends as the capacity is there again (R208, R230). A group that is blank by re-striping stays so (R183). [DEDUCED, log entry 205] -/
def State.refreshLink (s : State) (e : Nat) : State :=
  let p := s.port e
  let k := 0x4400 + e
  let held := s.get (K k 0x0A) == 4 || (s.get (K k 0x0A) == 5 && !p.noCap)
  if !p.trained || held then s
  else if s.ep e 3 = 2 then s.set (K k 0x0A) 2
  else match s.rowRepeat e with
    | some n =>
      let t := if p.noCap then (s.putPort e { p with noCap := false }).blankPort e false 0 else s
      (t.set (K k 0x0E) n).set (K k 0x0A) (if n = 1 then 2 else 3)
    | none =>
      let t := (s.set (K k 0x0E) 8).set (K k 0x0A) 5
      if p.noCap then t else ((t.putPort e { p with noCap := true }).blankPort e true 0).event 6 0x0B (K k 0x0E)

/-! ### Re-striping (R183, R225) -/

/-- The STRIPE payload for lanes at the stripe positions and a return lane (R225). -/
def stripeWord (lanes : List Nat) (ret : Nat) : Nat :=
  let at_ (n : Nat) : Nat := nth 0xFF lanes n
  at_ 0 * 2 ^ 56 + at_ 1 * 2 ^ 48 + at_ 2 * 2 ^ 40 + at_ 3 * 2 ^ 32 + ret * 2 ^ 24

/-- Mask of a list of lanes. -/
def laneMask (l : List Nat) : Nat := l.foldl (fun m n => setBit m n true) 0

/-- Lanes of an endpoint's stripe map that have not failed: a repaired lane is not among them (R183, R348). [DEDUCED, log entry 91] -/
def State.goodLanes (s : State) (e : Nat) : List Nat :=
  (s.stripeOf e).filter fun l => s.get (K (laneIdx (4 * s.ep e 4 + l)) 1) != 5

/-- The remaining lanes of a group carry it (R183): for tiles the load at row repeat 1 is at most 90 %, for a mirror array every
plane of the schedule in force fits. `slots` are the slot lengths and `delay` the start delay, in ns. -/
def State.groupFits (s : State) (g : Nat) (slots : List Nat) (delay period : Nat) : Bool :=
  (s.epsOfGroup g).all fun e =>
    let i := s.ep e 2
    let rate := s.act (K (0x7020 + g) 1)
    let k := (s.goodLanes e).length
    if k = 0 then false
    else if s.ep e 3 = 2 then
      let t := planeTimeQ (s.actW i) (s.actH i) k rate
      (delay :: slots).all (fun d => decide (t + 2000000 ≤ d * 4000)) && decide (slots.length * t * 10 ≤ 9 * period * 4000)
    else
      let (a, b) := rowLoad (s.ep e 0x18) (s.ep e 8) k rate 1 s.fs.ra s.fs.rowU (s.actH i)
      decide (a * 10 ≤ 9 * b)

/-- A source's re-stripe status. -/
def State.stripeStatus (s : State) (g v : Nat) : State :=
  ((s.epsOfGroup g).map fun e => s.ep e 2).foldl (fun t i => t.set (K (0x4320 + i) 8) v) s

/-- A group stays blank without capacity: status 0x03 and a safety record (R183). -/
def State.groupBlank (s : State) (g : Nat) : State :=
  let t := (s.epsOfGroup g).foldl (fun t e => t.set (K (0x4400 + e) 0x0A) 5) (s.stripeStatus g 3)
  let u : State := { t with fs := { t.fs with restripe := t.fs.restripe.filter fun r => r.1 != g } }
  u.stand 5 7 g

/-- The stripe map of a port for some lanes is set and sent, in single-lane form on each of them; the receiver of the return lane it names leaves
lane idle and searches its block boundary anew (R225, R334, R343). -/
def State.sendStripe (s : State) (e : Nat) (lanes : List Nat) : State :=
  let ret := nth 0 lanes 0
  let l := 4 * s.ep e 4 + ret
  let x := nth Lane.init s.ln.lanes l
  let (v, t) := s.fresh
  let up : Lane := if x.idle then { x with idle := false, slips := v % 66, locked := s.get (K (laneIdx l) 3) == 0 } else x
  let awake : State := if x.idle then { t with ln := { t.ln with lanes := putNth Lane.init t.ln.lanes l up } } else s
  (awake.putPort e { s.port e with stripe := lanes, ret := ret }).sendPacket e 6 0 [stripeWord lanes ret] (laneMask lanes) none

/-- The illumination and the pulses of a source end at once (R242). -/
def State.cutLight (s : State) (i : Nat) : State :=
  { s with prj := { s.prj with src := putNth PtuSrc.init s.prj.src i { nth PtuSrc.init s.prj.src i with drive := [], pulses := [] } } }

/-- Steps 2 and 3 of R183 on a group after a lane fault: blank, and the new stripe map on the lanes that remain. -/
def State.restripe (s : State) (g : Nat) (fits : Bool) : State :=
  let eps := s.epsOfGroup g
  let t := eps.foldl (fun t e =>
    let good := t.goodLanes e
    ((t.cutLight (t.ep e 2)).blankPort e true (if good = t.stripeOf e then 0 else laneMask good)).set (K (0x4400 + e) 0x0A) 4) (s.stripeStatus g 1)
  if !fits then t.groupBlank g
  else
    let start := match t.fs.restripe.find? fun r => r.1 == g with | some r => r.2.1 | none => t.now
    let u := eps.foldl (fun t e => if t.goodLanes e = t.stripeOf e then t else t.sendStripe e (t.goodLanes e)) t
    { u with fs := { u.fs with restripe := (u.fs.restripe.filter fun r => r.1 != g) ++ [(g, start, 0)] } }

/-- A STRIPE of the group was refused, or given up: the map is not acknowledged (R183, R199, R225). -/
def State.restripeFailed (s : State) (g : Nat) : State :=
  { s with fs := { s.fs with restripe := s.fs.restripe.map fun r => if r.1 = g then (r.1, r.2.1, 1) else r } }

/-- Step 5 of R183: every STRIPE of the group is acknowledged, so rows resume. -/
def State.restripeDone (s : State) (g : Nat) : State :=
  if (s.fs.restripe.any fun r => r.1 == g && r.2.2 == 0) && (s.epsOfGroup g).all (fun e => !(s.port e).open_ 6) then
    let t := (s.epsOfGroup g).foldl (fun t e => ((if (t.port e).noCap then t else t.blankPort e false 0).set (K (0x4400 + e) 0x0A) 2).refreshLink e) (s.stripeStatus g 2)
    let u := ((t.epsOfGroup g).map fun e => t.ep e 2).eraseDups.foldl (fun u i => u.inc (K (0x4320 + i) 7)) t
    { u with fs := { u.fs with restripe := u.fs.restripe.filter fun r => r.1 != g } }
  else s

/-- A scan-out commit returns the repaired lanes of a port to its stripe map, with no blanking; a port that was blank for want of lanes shows
rows again (R183, R348). [DEDUCED, log entry 189] -/
def State.returnLanes (s : State) (e : Nat) : State :=
  let g := s.ep e 4
  let lane (l : Nat) : Nat := K (laneIdx (4 * g + l)) 1
  let all := (laneList (s.ep e 5)).filter fun l => s.get (lane l) == 3 || s.get (lane l) == 4 || s.get (lane l) == 1
  if !(s.port e).trained || all.isEmpty || all == s.stripeOf e then s
  else
    let t := (all.foldl (fun t l => t.set (lane l) 3) s).sendStripe e all
    let whole := (t.epsOf (s.ep e 2)).all fun f => (t.stripeOf f).length == (laneList (t.ep f 5)).length
    let u := if whole then t.set (K (0x4320 + s.ep e 2) 8) 0 else t
    if s.get (K (0x4400 + e) 0x0A) = 5 ∧ (s.port e).noCap = false then ((u.blankPort e false 0).set (K (0x4400 + e) 0x0A) 2).refreshLink e
    else u.refreshLink e

/-! ### Laser enables -/

/-- Source and emitter of a LAS port: an emitter channel of an enabled source (R240). -/
def State.lasUse (s : State) (p : Nat) : Option (Nat × Nat) :=
  (s.srcs.flatMap fun i => (List.range 3).map fun e => (i, e)).find? fun x =>
    let v := s.act (K (0x4530 + x.1) (0x0B + x.2))
    (s.srcType x.1 == 2 || s.srcType x.1 == 3) && field v 31 24 == 2 && field v 23 16 == p

/-- LASp_EN: asserted while the port serves a source that may emit, and its Scan Guard is enabled where it has one (R240, R256,
R395). -/
def State.lasWanted (s : State) (p : Nat) : Bool :=
  match s.lasUse p with
  | some (i, _) =>
    s.srcOn i && s.outputsOn && s.fs.firstLight && !bit s.safe.path2 i && !s.safeNow && s.mode != .standby
      && (s.srcType i != 3 || s.get (K (0x4540 + s.act (K (0x4520 + i) 0x0A)) 7) == 2)
  | none => false

/-- The laser enables brought to what is asked. -/
def State.setLas (s : State) : State :=
  (List.range 4).foldl (fun t p =>
    let want := t.lasWanted p
    if want == bit t.pins.las p then t
    else { t with pins := { t.pins with las := setBit t.pins.las p want } }.emit (.pin (lasName p) want)) s

end Sys2Proof.Machine
end

