-- ==== Sys2Proof/Machine/ProjOps.lean ====
section
/-! DEFINITION. Plane tables and schedules (R233–R237), colour tables (R244, R245), and the emission times of rows (R105). -/

namespace Sys2Proof.Machine

/-! ### Plane tables -/

/-- A plane: field, bit, current fraction U0.16, light time in PIX cycles (R234). -/
structure Plane where
  fld : Nat
  bitNo : Nat
  cur : Nat
  light : Nat
  deriving DecidableEq, Repr

/-- Planes of a table in its layout (R235). -/
def planesOf : List Byte → Nat → List Plane
  | _, 0 => []
  | b, n + 1 => ⟨beAt b 0 1, beAt b 1 1, beAt b 2 2, beAt b 4 4⟩ :: planesOf (b.drop 8) n

/-- The table of the worked example of R243, which is the default. -/
def planeDefault : List Plane :=
  ((List.range 6).map fun n => ⟨0, n, 0x400 * 2 ^ n, 1024⟩) ++ ((List.range 5).map fun n => ⟨0, n + 6, 0xFFFF, 1024 * 2 ^ n⟩)
    ++ [⟨0, 11, 0xFFFF, 32768⟩] ++ List.replicate 2 ⟨0, 12, 0xFFFF, 32768⟩ ++ List.replicate 2 ⟨0, 13, 0xFFFF, 65536⟩
    ++ List.replicate 4 ⟨0, 14, 0xFFFF, 65536⟩ ++ List.replicate 4 ⟨0, 15, 0xFFFF, 131072⟩

/-- A plane table as bytes (R235). -/
def planeBytes (p : List Plane) : List Byte :=
  let body := toBe 4 0x5A504C54 ++ toBe 2 0x0100 ++ toBe 1 p.length ++ toBe 1 0
    ++ p.flatMap fun x => toBe 1 x.fld ++ toBe 1 x.bitNo ++ toBe 2 x.cur ++ toBe 4 x.light
  body ++ toBe 4 (crc32c body)

/-- The planes that a table of bytes holds. -/
def tablePlanes (b : List Byte) : List Plane := planesOf (b.drop 8) (byteAt b 6)

/-- Form of a plane table and its fields (0x4501). -/
def planeForm (b : List Byte) (fields depth : Nat) : Bool :=
  let n := byteAt b 6
  let body := b.take (b.length - 4)
  beAt b 0 4 == 0x5A504C54 && beAt b 4 2 == 0x0100 && byteAt b 7 == 0 && decide (1 ≤ n ∧ n ≤ 32) && b.length == 12 + 8 * n
    && beAt b (b.length - 4) 4 == crc32c body
    && (tablePlanes b).all fun p => decide (p.fld < fields ∧ p.bitNo < depth ∧ 400 ≤ p.light ∧ p.light ≤ 4000000)

/-- Sum of the weights of the planes of a field and bit, times 65,535. -/
def planeWeight (ps : List Plane) (f b : Nat) : Nat :=
  (ps.filter fun p => p.fld == f && p.bitNo == b).foldl (fun n p => n + p.light * p.cur) 0

/-- The rule of R234 on bits and weights (0x4502). -/
def weightsOk (ps : List Plane) (fields depth : Nat) : Bool :=
  (List.range fields).all fun f => (List.range depth).all fun b =>
    let w := planeWeight ps f b
    let goal := 2 ^ b * planeWeight ps f 0
    (ps.any fun p => p.fld == f && p.bitNo == b) && decide (1000 * ((w : Int) - goal).natAbs ≤ 5 * goal)

/-- Slot lengths in ps: gap plus dwell (R236). -/
def slotsPs (ps : List Plane) (gapNs dminNs : Nat) : List Nat :=
  ps.map fun p => gapNs * 1000 + max (p.light * 2500) (dminNs * 1000)

/-- Minimum dwell of a source's port in a configuration (R236). -/
def dwellIn (g : Nat → Nat) (i : Nat) : Nat :=
  let ep (e u : Nat) : Nat := g (K (0x4400 + e) u)
  match (List.range 8).find? fun e => ep e 1 == 1 && ep e 2 == i with
  | some e => minDwell (g (K (0x4330 + i) 3)) (g (K (0x4330 + i) 4)) (laneList (ep e 5)).length (g (K (0x7020 + ep e 4) 1))
  | none => 0

/-- Minimum dwell of a source's port in force. -/
def State.dwellOf (s : State) (i : Nat) : Nat := dwellIn s.act i

/-- Start delay Δ_S in ns for a row period (R237). -/
def State.startDelay (s : State) (i rowU : Nat) : Nat := max (nsOfU (s.fs.vb * rowU)) (s.dwellOf i)

/-- The schedule fits a frame 5 % shorter than nominal (R237). -/
def scheduleFits (slots : List Nat) (dminNs vb rows rowU : Nat) : Bool :=
  let period := nsOfU (rows * rowU) * 950
  let delay := max (nsOfU (vb * rowU) * 950) (dminNs * 1000)
  decide (delay + slots.foldl (· + ·) 0 ≤ period)

/-- The plane table in force of a source. -/
def State.planes4 (s : State) (i : Nat) : List Plane :=
  match mapGet s.activeDoms (K (0x4500 + i) 3) with
  | some b => tablePlanes b
  | none => planeDefault

/-- Slots of some planes of a source, in ps. -/
def State.slotsFor (s : State) (i : Nat) (ps : List Plane) : List Nat := slotsPs ps (s.act (K (0x4500 + i) 2)) (s.dwellOf i)

/-- Slots in force of a source, in ps. -/
def State.slots4 (s : State) (i : Nat) : List Nat := s.slotsFor i (s.planes4 i)

/-- Plane table of a source for the frame being composed: the one that lands with it, or the one in force (R242). -/
def State.comPlanes (s : State) (i : Nat) : List Plane :=
  match (s.fs.ptuLand.filter fun x => x.1 == K (0x4500 + i) 4).getLast? with
  | some x => match mapGet x.2.2 (K (0x4500 + i) 3) with | some b => tablePlanes b | none => s.planes4 i
  | none => s.planes4 i

/-- First light-on and last light-off of the schedule, in ps from its start (R237). -/
def lightSpan (ps : List Plane) (slots : List Nat) (gapNs : Nat) : Nat × Nat :=
  let before := (slots.take (slots.length - 1)).foldl (· + ·) 0
  let last := match ps.getLast? with | some p => p.light * 2500 | none => 0
  (gapNs * 1000, before + gapNs * 1000 + last)

/-- Offset of the illumination interval's midpoint from the frame milestone, in ns, for some planes (R237). -/
def State.emissionFor (s : State) (i rowU : Nat) (ps : List Plane) : Nat :=
  let sp := lightSpan ps (s.slotsFor i ps) (s.act (K (0x4500 + i) 2))
  s.startDelay i rowU + (sp.1 + sp.2) / 2000

/-- That offset for the planes in force. -/
def State.emissionOffset (s : State) (i rowU : Nat) : Nat := s.emissionFor i rowU (s.planes4 i)

/-- The schedule entries of a mirror-array source follow the table and the raster in force (R243). -/
def State.refreshPlanes (s : State) (i : Nat) : State :=
  if s.srcType i = 2 then
    let k := 0x4500 + i
    (((s.set (K k 7) (s.dwellOf i)).set (K k 8) ((s.slots4 i).foldl (· + ·) 0 / 1000)).set (K k 9) (s.startDelay i s.fs.rowU)).set
      (K k 0x0C) (s.emissionOffset i s.fs.rowU)
  else s

/-! ### Colour tables -/

/-- The default colour table of R248: P0 with a = (1, 0, 0), e = 1.0, factors 1.0. -/
def colourDefault : List Byte :=
  let one : List Byte := toBe 4 0x3F800000
  let zero : List Byte := toBe 4 0
  let p0 := one ++ zero ++ zero ++ (one ++ zero ++ zero) ++ List.replicate 24 0 ++ one
  let emit := ((List.range 8).flatMap fun n => toBe 2 (16 * n) ++ toBe 2 0x8000) ++ one
  let body := toBe 4 0x5A434F4C ++ toBe 2 0x0100 ++ [1, 1] ++ p0 ++ List.replicate 156 0 ++ emit ++ emit ++ emit
  body ++ toBe 4 (crc32c body)

/-- The colour table in force of a source. -/
def State.colour (s : State) (i : Nat) : List Byte := (mapGet s.activeDoms (K (0x4530 + i) 2)).getD colourDefault

/-- A binary32 field of a table. -/
def f32At (b : List Byte) (o : Nat) : Word32 := F32.ofNat (beAt b o 4)

/-- Component e of the drive vector a_p = C_p × t_p (R245). -/
def driveVec (b : List Byte) (p e : Nat) : Word32 :=
  let o := 8 + 52 * p
  dot3 (f32At b (o + 12 + 12 * e)) (f32At b (o + 16 + 12 * e)) (f32At b (o + 20 + 12 * e)) (f32At b o) (f32At b (o + 4)) (f32At b (o + 8))

/-- Draw weight e_p of a primary. -/
def drawWeight (b : List Byte) (p : Nat) : Word32 := f32At b (8 + 52 * p + 48)

/-! ### Plane schedule registers (R239) -/

/-- The 64 schedule registers of a mirror-array endpoint: SLOT_START in ticks of 2.5 ns at 0x0100 + 2k, and USED in bit 31 at
0x0101 + 2k. -/
def planeRegs (slots : List Nat) : List Nat :=
  (List.range 32).flatMap fun k => if k < slots.length then [(slots.take k).foldl (· + ·) 0 / 2500, 2 ^ 31] else [0, 0]

/-- A plane schedule goes to the endpoint; its MILESTONE stays blank until it is acknowledged (R239). -/
def State.sendPlanes (s : State) (i : Nat) (ps : List Plane) : State :=
  match (s.epsOf i).head? with
  | some e =>
    if s.outputsOn then
      (s.putPort e { s.port e with planesWait := true }).regOp e
        { why := .planes, write := true, first := 0x0100, count := 64, vals := planeRegs (s.slotsFor i ps) }
    else s
  | none => s

/-! ### Emission times -/

/-- Bidirectional offset of a scanner in taps of 78.125 ps (R250, R254). -/
def State.biTaps (s : State) (i : Nat) : Int :=
  let v := sgn 32 (s.act (K (0x4520 + i) 7))
  if v < 0 then -(roundDiv (v.natAbs * 1000) 78125 : Nat) else (roundDiv (v.natAbs * 1000) 78125 : Nat)

/-- Device time, in ns, at which a row of a source emits in the frame being composed: the midpoint of its light interval (R105), for a frame
with its milestone at `tfm` and row period `rowU`. -/
def State.rowMid (s : State) (i r tfm rowU : Nat) : Nat :=
  let hs := s.actH i
  match s.srcType i with
  | 2 => tfm + s.emissionFor i rowU (s.comPlanes i)
  | 3 =>
    let h := s.act (K (0x4520 + i) 1)
    let half := s.act (K (0x4520 + i) 2) + r
    (((tfm + s.act (K (0x4520 + i) 5) + roundDiv (s.periodU rowU * 5 * (2 * half + 1)) (131072 * 4 * h) : Nat) : Int)
      + (s.biTaps i * 78125 + 500000) / 1000000).toNat
  | 4 =>
    let m := s.act (K 0x5300 3)
    tfm + nsOfU (s.fs.vb * rowU) + roundDiv (s.fs.ra * rowU * 5 * (2 * r + 1)) (131072 * 2 * m * hs)
  | _ => tfm + nsOfU (s.fs.vb * rowU) + roundDiv (s.fs.ra * rowU * 5 * (2 * r + 1)) (131072 * 2 * hs)

/-- Source row period in ps (R165, R186): for a tile source RA · T_row / Hs; the line, slot or frame share of the others. -/
def State.rowPeriodPs (s : State) (i : Nat) : Nat :=
  match s.srcType i with
  | 3 => roundDiv (s.periodU s.fs.rowU * 2500) (65536 * 2 * s.act (K (0x4520 + i) 1))
  | _ => roundDiv (s.fs.ra * s.fs.rowU * 2500) (65536 * max 1 (s.actH i))

end Sys2Proof.Machine
end

