-- ==== Sys2Proof/Machine/Compose.lean ====
section
/-! DEFINITION. The pixel path of the compositor (R119–R127, R132, R139, R142, R145, R148, R153–R155). -/

namespace Sys2Proof.Machine

/-! ### Arithmetic of R120 -/

/-- x × f / 65,535, to nearest, ties up. -/
def mulFrac (x f : Nat) : Nat := roundDiv (x * f) 65535

/-- x × g / 32,768, to nearest, ties up, saturated. -/
def mulGain (x g : Nat) : Nat := satN 0xFFFF (roundDiv (x * g) 32768)

/-- c + a × (y − c), the difference exact, rounded to nearest, ties up (R120, R125). -/
def blend (c y a : Nat) : Nat :=
  let d : Int := (a : Int) * ((y : Int) - c)
  (clampI 0 65535 ((c : Int) + (2 * d + 65535) / 131070)).toNat

/-- op(c, y) of R125. -/
def blendOp (op c y : Nat) : Nat :=
  match op with
  | 1 => mulFrac c y
  | 2 => max c y
  | 3 => min c y
  | 4 => satN 0xFFFF (c + y)
  | _ => y

/-! ### Tone mapping (R123, R127) -/

/-- The greatest number of `n` bits that meets a test that holds for 0 and is downward closed. -/
def greatest (p : Nat → Bool) : Nat → Nat → Nat
  | 0, a => a
  | n + 1, a => greatest p n (if p (a + 2 ^ n) then a + 2 ^ n else a)

/-- (x / 2^80) ^ (a / b) · 2^80, rounded down, for x up to 2^80. -/
def powQ (x a b : Nat) : Nat := greatest (fun q => decide (q ^ b * 2 ^ (80 * a) ≤ x ^ a * 2 ^ (80 * b))) 81 0

/-- The SMPTE ST 2084 EOTF of a 12-bit code as LL16 for a reference luminance in FX32 (R123). -/
def pqDecode (n lref : Nat) : Nat :=
  let e := powQ (n * 2 ^ 80 / 4095) 32 2523
  let num := 128 * e - 107 * 2 ^ 80
  let den := 2413 * 2 ^ 80 - 2392 * e
  let q := powQ (num * 2 ^ 80 / den) 8192 1305
  satN 0xFFFF (roundDiv (10000 * q * 65535 * 65536) (2 ^ 80 * lref))

/-- The tone LUT of R127; the identity where none is held. -/
def lutEntry (b : Option (List Byte)) (i : Nat) : Nat :=
  match b with | some l => beAt l (2 * i) 2 | none => roundDiv (i * 65535) 1023

/-- Tone LUT applied to a value (R127). -/
def lutApply (b : Option (List Byte)) (x : Nat) : Nat :=
  let p := x * 1023
  let i := p / 65536
  let f := p % 65536
  let e : Int := lutEntry b i
  (clampI 0 65535 (e + ((lutEntry b (i + 1) - e) * f + 32768) / 65536)).toNat

/-! ### Layer samples (R90, R122, R124) -/

/-- First byte of a pixel of a layer's buffer, its column and line counted in the buffer (R161, R367). -/
def State.layerByte (s : State) (c : LCfg) (l px py : Nat) : Nat :=
  let n := c.at_ l 3
  match c.at_ l 2 with
  | 1 =>
    let w := s.act (K (0x7120 + n) 5)
    let base := fixedBase s.fixedNow 5 + (if n = 1 ∧ s.act (K 0x7120 1) = 1
      then unitsOf (4 * s.act (K 0x7120 5) * s.act (K 0x7120 6)) * 65536 else 0)
    base + 2 * ((nth Stream.init s.net.streams n).reading.getD 0 * w * s.act (K (0x7120 + n) 6) + py * w + px)
  | _ => s.get (K (0x3440 + n) 3) + 2 * (py * c.at_ l 5 + px)

/-- A raw 16-bit sample as value and alpha, by format: 0 Y16, 1 YA8, 2 Y12P, 3 PQ12P (R122). [DEDUCED, log entry 61] -/
def decodeSample (fmt raw lref : Nat) : Nat × Nat :=
  match fmt with
  | 1 => (raw / 256 * 257, raw % 256 * 257)
  | 2 => (((raw % 4096) <<< 4) ||| ((raw % 4096) >>> 8), 0xFFFF)
  | 3 => (pqDecode (raw % 4096) lref, 0xFFFF)
  | _ => (raw, 0xFFFF)

/-- A pixel of a layer's buffer, relative to the crop window; transparent outside it (R90), and in a word that reads
as uncorrectable (R160). -/
def State.layerPix (s : State) (c : LCfg) (l : Nat) (x y : Int) : Nat × Nat :=
  if x < 0 ∨ y < 0 ∨ (c.geo l 5 : Int) ≤ x ∨ (c.geo l 6 : Int) ≤ y then (0, 0) else
  let px := c.geo l 3 + x.toNat
  let py := c.geo l 4 + y.toNat
  let n := c.at_ l 3
  let a := s.layerByte c l px py
  if s.badByte a then (0, 0) else
  match c.at_ l 2 with
  | 1 =>
    let st := nth Stream.init s.net.streams n
    let idx := py * s.act (K (0x7120 + n) 5) + px
    let buf := st.reading.getD 0
    let fmt := s.act (K (0x7120 + n) 7)
    decodeSample (if fmt = 1 then 2 else if fmt = 2 then 3 else if fmt = 3 then 0 else 1)
      ((mapGet (nth [] st.bufs buf) idx).getD 0) (c.at_ l 0x10)
  | _ => decodeSample (if c.at_ l 2 = 2 ∧ c.at_ l 4 = 1 then 1 else 0) (be [memGet s.fs.mem a, memGet s.fs.mem (a + 1)]) 0

/-- A line is one that a limited row reads: the first of its 64, or every line (R94). -/
def inWin (win : Option Int) (y : Int) : Bool :=
  match win with | some lo => decide (lo ≤ y ∧ y < lo + 64) | none => true

/-- Bilinear sample at a position in 1/64 pixel, weights in 1/64 (R90); lines that a limited row does not read are transparent (R94).
[DEDUCED, log entry 61] -/
def State.bilinear (s : State) (c : LCfg) (l : Nat) (win : Option Int) (p q : Int) : Nat × Nat :=
  let x := (p - 32) / 64
  let y := (q - 32) / 64
  let wx := ((p - 32) % 64).toNat
  let wy := ((q - 32) % 64).toNat
  let at_ (x y : Int) : Nat × Nat := if inWin win y then s.layerPix c l x y else (0, 0)
  let a := at_ x y
  let b := at_ (x + 1) y
  let d := at_ x (y + 1)
  let e := at_ (x + 1) (y + 1)
  let mix (f : Nat × Nat → Nat) : Nat :=
    roundDiv (f a * (64 - wx) * (64 - wy) + f b * wx * (64 - wy) + f d * (64 - wx) * wy + f e * wx * wy) 4096
  (mix (·.1), mix (·.2))

/-- The bytes that a bilinear sample reads, inside the crop window and the lines of a limited row. -/
def State.sampleBytes (s : State) (c : LCfg) (l : Nat) (win : Option Int) (p q : Int) : List Nat :=
  let x := (p - 32) / 64
  let y := (q - 32) / 64
  [(x, y), (x + 1, y), (x, y + 1), (x + 1, y + 1)].filterMap fun z =>
    if z.1 < 0 ∨ z.2 < 0 ∨ (c.geo l 5 : Int) ≤ z.1 ∨ (c.geo l 6 : Int) ≤ z.2 ∨ inWin win z.2 = false then none
    else some (s.layerByte c l (c.geo l 3 + z.1.toNat) (c.geo l 4 + z.2.toNat))

/-- A procedural pattern at a position in 1/64 pixel (R124). [DEDUCED, log entry 62; DESIGN CHOICE, log entry 219] -/
def pattern (c : LCfg) (l : Nat) (p q : Int) : Nat :=
  let a := c.at_ l 0x0D
  let b := c.at_ l 0x0E
  let per : Int := 64 * (c.at_ l 0x0F : Int)
  let ramp (n : Int) (size : Nat) : Nat :=
    let v : Int := (a : Int) + (2 * ((b : Int) - a) * n + 64 * size) / (128 * size)
    (clampI (min a b : Nat) (max a b : Nat) v).toNat
  match c.at_ l 3 with
  | 0 => a
  | 1 => ramp p (c.geo l 5)
  | 2 => ramp q (c.geo l 6)
  | _ => if (p / per + q / per) % 2 = 0 then a else b

/-- What a row of a source needs of a layer: its configuration, whether it stands as its background value, whether the row is limited,
and the first of the 64 lines that it then reads, if its middle has one (R94). -/
structure RowLayer where
  l : Nat
  cfg : LCfg
  bg : Bool
  limited : Bool
  win : Option Int
  deriving DecidableEq, Repr

/-- Directions of a grid point: unlevelled, and levelled by the pitch of the frame. -/
structure Dirs where
  plain : Int × Int
  lev : Int × Int
  deriving DecidableEq, Repr

/-- The directions of a grid point of a source, in eighths of a pixel. -/
def State.dirsAt (s : State) (i u8 v8 : Nat) : Dirs :=
  let m := mapGet s.activeDoms (K (0x3100 + i) 1)
  let w := s.actW i
  let h := s.actH i
  ⟨dirAt m none w h u8 v8, dirAt m (some (nth 0 s.geo.theta i)) w h u8 v8⟩

/-- The position of a layer at a grid point. -/
def State.posAt (s : State) (c : LCfg) (l : Nat) (d : Dirs) : Option (Int × Int) :=
  let a := if c.levelled l then d.lev else d.plain
  s.layerPos c l a.1 a.2

/-- One sample of a layer at a grid point: value and alpha before tone mapping (R121). [DEDUCED, log entry 62] -/
def State.sampleOne (s : State) (rl : RowLayer) (cores : List Core) (tr : Nat) (d : Dirs) : Nat × Nat :=
  let c := rl.cfg
  let l := rl.l
  if c.geo l 1 = 3 then
    if rl.bg then (c.at_ l 0x0B, 0xFFFF) else
    let p := s.planes cores tr d.plain.1 d.plain.2 d.lev.1 d.lev.2
    (if c.at_ l 3 = 0 then p.1 else p.2, 0xFFFF)
  else match s.posAt c l d with
    | none => (0, 0)
    | some (p, q) =>
      if rl.bg then (c.at_ l 0x0B, 0xFFFF)
      else if c.at_ l 2 = 5 then (pattern c l p q, 0xFFFF)
      else if rl.limited && rl.win.isNone then (0, 0)
      else s.bilinear c l rl.win p q

/-- A layer's sample at a pixel; a direct-matrix segment takes the mean of 4 × 4 samples (R90). -/
def State.sample (s : State) (rl : RowLayer) (cores : List Core) (tr i c r : Nat) : Nat × Nat :=
  if s.srcType i = 4 then
    let pts := (List.range 16).map fun n =>
      s.sampleOne rl cores tr (s.dirsAt i (8 * c + 2 * (n % 4) + 1) (8 * r + 2 * (n / 4) + 1))
    (roundDiv (pts.foldl (fun a p => a + p.1) 0) 16, roundDiv (pts.foldl (fun a p => a + p.2) 0) 16)
  else s.sampleOne rl cores tr (s.dirsAt i (8 * c + 4) (8 * r + 4))

/-- A layer's contribution to a pixel: tone, alpha, blend (R121). The background value of R132 passes no tone LUT, and its alpha of 1.0 is
multiplied by the layer alpha. [DESIGN CHOICE, log entry 187] -/
def State.blendLayer (s : State) (rl : RowLayer) (cores : List Core) (tr i c r comp : Nat) : Nat :=
  let (y0, a0) := s.sample rl cores tr i c r
  let y := if !rl.bg && rl.cfg.at_ rl.l 0x18 == 1 then lutApply rl.cfg.lut y0 else y0
  let a := mulFrac a0 (rl.cfg.at_ rl.l 8)
  blend comp (blendOp (rl.cfg.at_ rl.l 7) comp y) a

/-! ### Kerb maps (R139, R142) -/

/-- The light value of a Kerb code (R139). -/
def kerbLight (k : Nat) : Nat := roundDiv (65535 * k * k) 65025

/-- Floor and ceiling codes of a map entry: the primary; where its word is uncorrectable, the complement inverted; where
that is too, 0 for both (R142). -/
def State.kerbCode (s : State) (i e : Nat) : Nat × Nat :=
  let bk := nth ⟨KerbImg.zero, []⟩ s.comp.kerb.banks s.comp.kerb.active
  let (mw, mh, off) := nth (0, 0, 0) bk.img.desc i
  let fo := off - 0x30 + e
  let base := (62 + s.comp.kerb.active) * 524288
  let code (o : Nat) : Option Nat :=
    if !s.badByte (base + o) then some (byteAt bk.img.maps o)
    else if !s.badByte (base + 262144 + o) then some (255 - byteAt bk.compl o)
    else none
  match code fo, code (fo + mw * mh) with
  | some f, some u => (f, u)
  | _, _ => (0, 0)

/-- The bytes of the active Kerb bank that a map entry is read from: the primary, and the complement where that is uncorrectable. -/
def State.kerbBytes (s : State) (i e : Nat) : List Nat :=
  let bk := nth ⟨KerbImg.zero, []⟩ s.comp.kerb.banks s.comp.kerb.active
  let (mw, mh, off) := nth (0, 0, 0) bk.img.desc i
  let base := (62 + s.comp.kerb.active) * 524288
  [off - 0x30 + e, off - 0x30 + e + mw * mh].flatMap fun o =>
    if s.badByte (base + o) then [base + o, base + 262144 + o] else [base + o]

/-- The bytes of the active Kerb bank that a row reads (R139). -/
def State.kerbRowBytes (s : State) (i r : Nat) : List Nat :=
  let bk := nth ⟨KerbImg.zero, []⟩ s.comp.kerb.banks s.comp.kerb.active
  let (mw, mh, _) := nth (0, 0, 0) bk.img.desc i
  if mw = 0 ∨ mh = 0 then [] else
  let y := min (2 * r - 3) (8 * (mh - 1)) / 8
  [y, min (y + 1) (mh - 1)].flatMap fun q => (List.range mw).flatMap fun x => s.kerbBytes i (q * mw + x)

/-- Floor and ceiling of a pixel, interpolated between the codes of a map of the given size (R139). -/
def kerbMix (d : Nat × Nat × Nat) (code : Nat → Nat × Nat) (c r : Nat) : Nat × Nat :=
  let (mw, mh, _) := d
  if mw = 0 ∨ mh = 0 then (0, 0) else
  let a := min (2 * c - 3) (8 * (mw - 1))
  let b := min (2 * r - 3) (8 * (mh - 1))
  let x := a / 8
  let y := b / 8
  let wx := a % 8
  let wy := b % 8
  let x1 := min (x + 1) (mw - 1)
  let y1 := min (y + 1) (mh - 1)
  let n00 := code (y * mw + x)
  let n10 := code (y * mw + x1)
  let n01 := code (y1 * mw + x)
  let n11 := code (y1 * mw + x1)
  let mix (f : Nat × Nat → Nat) : Nat :=
    roundDiv (kerbLight (f n00) * (8 - wx) * (8 - wy) + kerbLight (f n10) * wx * (8 - wy)
      + kerbLight (f n01) * (8 - wx) * wy + kerbLight (f n11) * wx * wy) 64
  (mix (·.1), mix (·.2))

/-- Floor and ceiling of a pixel as the PXC reads them from the active bank (R139). [DESIGN CHOICE, log entry 220] -/
def State.kerbAt (s : State) (i c r : Nat) : Nat × Nat :=
  kerbMix (nth (0, 0, 0) (nth ⟨KerbImg.zero, []⟩ s.comp.kerb.banks s.comp.kerb.active).img.desc i) (s.kerbCode i) c r

/-- Floor and ceiling codes of an entry of a source's map in an image. -/
def KerbImg.codeAt (k : KerbImg) (i e : Nat) : Nat × Nat :=
  let (mw, mh, off) := nth (0, 0, 0) k.desc i
  (byteAt k.maps (off - 0x30 + e), byteAt k.maps (off - 0x30 + e + mw * mh))

/-! ### Drive value (R121, R145, R148, R151) -/

/-- Uniformity gain of a pixel, U1.15 (R145); unity where the stage is off, for a word of the gain map that reads as uncorrectable, and in
mode 0x03 while no full map has been written. [DESIGN CHOICE, log entry 187] -/
def State.uGain (s : State) (i c r : Nat) : Nat :=
  let w := s.actW i
  let n := r * w + c
  let x := s.src i
  if bit (s.get (K (0x4000 + i) 2)) 0 = false then 0x8000
  else match s.get (K (0x4200 + i) 1) with
    | 1 => if x.gmapReady && !s.badByte (s.gainByte i n) then (mapGet x.gmap n).getD 0x8000 else 0x8000
    | 2 =>
      match x.gmesh with
      | none => 0x8000
      | some b =>
        let (ci, fa) := cellOf 64 w (8 * c + 4)
        let (cj, fb) := cellOf 32 (s.actH i) (8 * r + 4)
        let g (p q : Nat) : Nat := beAt b (2 * (65 * q + p)) 2
        roundDiv (g ci cj * (1024 - fa) * (1024 - fb) + g (ci + 1) cj * fa * (1024 - fb)
          + g ci (cj + 1) * (1024 - fa) * fb + g (ci + 1) (cj + 1) * fa * fb) 1048576
    | 3 => match s.dom (K (0x4200 + i) 4) with | some b => if s.badByte (s.gainByte i n) then 0x8000 else beAt b (2 * n) 2 | none => 0x8000
    | _ => 0x8000

/-- Ageing gain of a pixel's block, U1.15 (R151). -/
def State.aGain (s : State) (i c r : Nat) : Nat :=
  let x := s.src i
  let b := (r / 2) * ((s.actW i + 1) / 2) + c / 2
  if (s.srcType i = 1 ∨ s.srcType i = 4) ∧ bit (s.get (K (0x4000 + i) 2)) 2 = true then
    if s.badByte (s.ageByte i b) then 0x8000 else (mapGet x.again b).getD 0x8000
  else 0x8000

/-- The dead-pixel stage acts on the source. -/
def State.deadStage (s : State) (i : Nat) : Bool :=
  (s.srcType i == 1 || s.srcType i == 4) && bit (s.get (K (0x4000 + i) 2)) 1

/-- The 4-connected neighbours of a pixel in the grid. -/
def neighbours (w h c r : Nat) : List (Nat × Nat) :=
  (if 0 < c then [(c - 1, r)] else []) ++ (if c + 1 < w then [(c + 1, r)] else [])
    ++ (if 0 < r then [(c, r - 1)] else []) ++ (if r + 1 < h then [(c, r + 1)] else [])

/-- A row of clamped values kept for the dead-pixel stage. -/
def Src.pAt (x : Src) (field r c : Nat) : Nat := nth 0 ((mapGet x.pRows (field * 2048 + r)).getD []) c

/-- The bytes of the gain and ageing maps that the light-value chain of a row reads. -/
def State.chainBytes (s : State) (i r : Nat) : List Nat :=
  let w := s.actW i
  let mode := s.get (K (0x4200 + i) 1)
  let gain := bit (s.get (K (0x4000 + i) 2)) 0 && ((mode == 1 && (s.src i).gmapReady) || (mode == 3 && (s.dom (K (0x4200 + i) 4)).isSome))
  let age := (s.srcType i == 1 || s.srcType i == 4) && bit (s.get (K (0x4000 + i) 2)) 2
  (if gain then (List.range w).map fun c => s.gainByte i (r * w + c) else [])
    ++ (if age then (List.range w).map fun c => s.ageByte i (r / 2 * ((w + 1) / 2) + c / 2) else [])

/-- The light value of a live pixel with the shares of its dead neighbours, up to its ceiling; the shares are summed exactly and rounded
once to nearest (R148). [DESIGN CHOICE, log entry 187] -/
def State.withShares (s : State) (i field c r ceil : Nat) : Nat :=
  let x := s.src i
  let w := s.actW i
  let h := s.actH i
  let p := x.pAt field r c
  if !s.deadStage i || x.dead.isEmpty then p
  else
    let sum := ((neighbours w h c r).filter fun q => x.dead.contains (q.2 * w + q.1)).foldl (fun a q =>
      let live := ((neighbours w h q.1 q.2).filter fun z => !x.dead.contains (z.2 * w + z.1)).length
      if live = 0 then a else a + x.pAt field q.2 q.1 * (12 / live)) 0
    max p (min ceil (p + roundDiv (s.get (K (0x4210 + i) 1) * sum) (65535 * 12)))

/-- A pixel after the light-value chain: d, fd and out (R121, R154); the quotient fd / s of a mirror is rounded to nearest.
[DESIGN CHOICE, log entry 187] -/
def State.chainPix (s : State) (i field c r : Nat) : Nat × Nat × Nat :=
  let (f0, u) := s.kerbAt i c r
  let f := if field = 0 then f0 else 0
  let q := s.withShares i field c r u
  let g := s.uGain i c r
  let a := s.aGain i c r
  let gone := s.deadStage i && (s.src i).dead.contains (r * s.actW i + c)
  let d := if gone then 0 else mulGain (mulGain q g) a
  let fd := if gone then 0 else mulGain (mulGain f g) a
  let sc := s.get (K (0x4240 + i) 0x0C)
  let out :=
    if s.srcType i = 2 then (if sc = 0 then 0 else satN 0xFFFF (max d (roundDiv (fd * 65535) sc)))
    else max (mulFrac d sc) fd
  (d, fd, out)

/-! ### Budget (R153–R155) -/

/-- A mean value in 1.0 units: a sum over pixels of 65,535. -/
def meanOf (sum px : Nat) : Word32 := if px = 0 then 0 else F32.ofRat sum (65535 * px)

/-- Weighted mean over the fields of a source: Σ e_p × mean_p (R244). -/
def State.fieldMean (s : State) (i : Nat) (f : Sums → Nat) : Word32 :=
  let px := s.actW i * s.actH i
  let x := s.src i
  let coloured := s.srcType i == 2 || s.srcType i == 3
  (List.range (s.fieldsOf i)).foldl (fun a p =>
    let m := meanOf (f (nth Sums.zero x.lastSums p)) px
    F32.add a (if coloured then F32.mul (drawWeight (s.colour i) p) m else m)) 0

/-- The limiter of a source for one frame of a period in ns (R154, R155). A cut starts at min(b_eff, draw), a change during a ramp from the
present b_eff, and a floor requirement above b_eff ends the ramp. In the first frame b_eff and s stand at their targets at once.
[DEDUCED, log entry 14; DESIGN CHOICE, log entries 64, 187] -/
def State.budgetSrc (s : State) (i periodNs : Nat) : State :=
  let k := 0x4240 + i
  let x := s.src i
  let b := x.budget
  let kk := F32.ofNat (s.get (K k 4))
  let d0 := F32.ofNat (s.get (K k 5))
  let mirror := s.srcType i == 2
  let maxFd := F32.ofRat ((x.lastSums.map Sums.maxFd).foldl max 0) 65535
  let md := s.fieldMean i Sums.d
  let mf := s.fieldMean i Sums.fd
  let floorReq := F32.add d0 (F32.mul kk (if mirror then maxFd else mf))
  let draw := F32.add d0 (F32.mul kk (if mirror then b.scale else s.fieldMean i Sums.out))
  let thermal := s.get (K 0x2500 0x0A)
  let want := F32.mul (F32.fmin (F32.ofNat (s.get (K k 1))) (F32.ofNat (s.get (K k 2)))) (F32.ofRat thermal 65535)
  let t := F32.fmax want floorReq
  let start : Option (Word32 × Nat) :=
    if b.fresh then none
    else match b.ramp with
      | some r => if t = b.target then some r else if t = b.bEff then none else some (b.bEff, 0)
      | none =>
        if F32.lt t b.bEff then some (F32.fmin b.bEff draw, 0)
        else if F32.lt b.bEff t then some (b.bEff, 0)
        else none
  let cut : Bool := if b.ramp.isSome && t == b.target then b.cut else F32.lt t b.bEff
  let len : Nat := 1000000 * (if cut then s.get (K k 6) else s.get (K k 7))
  let (b1, ramp1) : Word32 × Option (Word32 × Nat) := match start with
    | none => (t, none)
    | some (a, n) =>
      let m := n + periodNs
      if len ≤ m then (t, none)
      else (F32.add a (F32.mul (F32.sub t a) (F32.ofRat m len)), some (a, m))
  let under := F32.lt b1 floorReq
  let b2 := if under then floorReq else b1
  let ramp2 := if under then none else ramp1
  let one : Word32 := 0x3F800000
  let kmd := F32.mul kk md
  let st :=
    if mirror then
      (if F32.le kk 0 then one else F32.clamp maxFd one (F32.div (F32.sub b2 d0) kk))
    else if F32.le kmd 0 then one
    else F32.clamp 0 one (F32.div (F32.sub b2 floorReq) kmd)
  let rise := s.get (K k 8)
  let lim := if rise = 0 then one else F32.add b.scale (F32.ofRat periodNs (rise * 1000000))
  let s1 := if b.fresh then st else if F32.lt st b.scale then st else F32.fmin st lim
  let s2 := if mirror then F32.fmax s1 maxFd else s1
  let code := toU16 s2
  let status := b2n (decide (code < 0xFFFF)) + 2 * b2n ramp2.isSome + 4 * b2n (F32.le b2 floorReq) + 8 * b2n (decide (thermal < 0xFFFF))
  let y := s.putSrc i { x with budget := { fresh := false, bEff := b2, target := t, ramp := ramp2, cut := cut, scale := s2, before := b.scale } }
  (((((y.set (K k 9) b2.toNat).set (K k 0x0A) floorReq.toNat).set (K k 0x0B) draw.toNat).set (K k 0x0C) code).set (K k 0x0D) status)

/-- The limiter of every enabled source, once for each frame number (R154). -/
def State.budgetFrame (s : State) (frame periodNs : Nat) : State :=
  if s.comp.budgetFor = some frame then s
  else
    let t : State := { s with comp := { s.comp with budgetFor := some frame } }
    t.srcs.foldl (fun t i => t.budgetSrc i periodNs) t

/-! ### A row (R121) -/

/-- Layers L0–L6 contribute to a source: not in BOOT or PREOP (R51), not in thermal step 3 (R511), not in beam mode
FLOOR (R418). -/
def State.contributes (s : State) (i : Nat) : Bool :=
  let st : Bool := match s.mode with
    | .boot | .preop => false
    | .hold => s.sys.before != 1
    | _ => true
  st && decide (s.get (K 0x2500 9) < 4) && (nth Mask.clear s.safe.masks i).beam != 3

/-- The grid points, in eighths of a pixel, at which row r of a source samples its layers (R90). -/
def State.rowPoints (s : State) (i r : Nat) : List (Nat × Nat) :=
  if s.srcType i = 4 then
    (List.range (s.actW i)).flatMap fun c => (List.range 16).map fun n => (8 * c + 2 * (n % 4) + 1, 8 * r + 2 * (n / 4) + 1)
  else (List.range (s.actW i)).map fun c => (8 * c + 4, 8 * r + 4)

/-- The layers that contribute to a row of a field, in order (R121, R244), with their limits of R94; a limited row whose middle has no
t reads no line. [DESIGN CHOICE, log entries 185, 216] -/
def State.rowLayers (s : State) (i field r : Nat) : List RowLayer :=
  if !s.contributes i then [] else
  let w := s.actW i
  (List.range 7).filterMap fun l =>
    let mk (c : LCfg) (bg : Bool) : Option RowLayer :=
      let coloured := s.srcType i == 2 || s.srcType i == 3
      let inField := !coloured || bit (s.act (K (0x4530 + i) (4 + l))) field
      if !(bit (c.at_ l 9) i && inField) then none
      else
        let line := !bg && c.geo l 1 != 3 && c.at_ l 2 != 5
        let pos (p : Nat × Nat) : Option Int := (s.posAt c l (s.dirsAt i p.1 p.2)).map (·.2)
        let ts := if line then (s.rowPoints i r).filterMap pos else []
        let span : Nat := match ts with | [] => 0 | t :: z => (z.foldl max t - z.foldl min t).toNat
        let mid := s.dirsAt i (8 * (w / 2) + 4) (8 * r + 4)
        let m := if c.levelled l then mid.lev else mid.plain
        let limited := decide (64 < ceilDiv span 64 + 2)
        some ⟨l, c, bg, limited, if limited then (s.layerMap c l m.1 m.2).map fun p => (p.2 + 32) / 64 - 32 else none⟩
    match (nth ⟨.off, none, none⟩ s.comp.layers l).use with
    | .off => none
    | .live c => mk c false
    | .background c => mk c true

/-- Predicted objects of a row, and how many lie beside the lamp (R74, R106). -/
def State.rowCores (s : State) (tr : Nat) : List Core × Nat :=
  match s.geo.snap with
  | none => ([], 0)
  | some l =>
    let p := l.objs.map fun o => s.predict l.tlist tr o
    (p.filterMap id, (p.filter Option.isNone).length)

/-- First byte of a row of the output buffer that the PXC writes (R161, R167). -/
def State.outByte (s : State) (i field r : Nat) : Nat :=
  let b := if s.lineMode then 0 else if s.fs.readyOf.isSome then s.fs.frontBuf else 1 - s.fs.frontBuf
  2 * (b * s.pixels + s.pixBefore i + (field * s.actH i + r) * s.actW i)

/-- The light-value chain of a row whose neighbours are composed: its drive values go to the buffer (R121, R148). A row that was
abandoned, kept as an empty one, is not written again (R169). -/
def State.finishRow (s : State) (i field r : Nat) : State :=
  if ((mapGet (s.src i).pRows (field * 2048 + r)).getD []).isEmpty then s else
  let w := s.actW i
  let px := (List.range w).map fun c => s.chainPix i field c r
  let x := s.src i
  let old := nth Sums.zero x.sums field
  let full := (px.filter fun p => p.1 == 0xFFFF).length
  let fullF := (px.filter fun p => p.2.1 == 0xFFFF).length
  let new : Sums := {
    d := old.d + px.foldl (fun a p => a + p.1) 0, fd := old.fd + px.foldl (fun a p => a + p.2.1) 0,
    maxFd := px.foldl (fun a p => max a p.2.1) old.maxFd, out := old.out + px.foldl (fun a p => a + p.2.2) 0,
    satD := old.satD + full, satF := old.satF + fullF }
  let key := field * 2048 + r
  let y : Src := { x with
    back := mapPut x.back key (px.map fun p => p.2.2),
    sums := putNth Sums.zero x.sums field new }
  let floors := (List.range w).filter fun c => (s.src i).pAt field r c == (s.kerbAt i c r).1
  let ceils := (List.range w).filter fun c => (s.src i).pAt field r c == (s.kerbAt i c r).2
  let t := (((s.putSrc i y).count 1 4 floors.length).count 1 5 ceils.length).count 1 6 full
  (t.rewritten (s.outByte i field r) (2 * w)).badRead (s.chainBytes i r)

/-- The bytes that the layers and Kerb maps of a row are read from. -/
def State.rowBytes (s : State) (layers : List RowLayer) (i r : Nat) : List Nat :=
  if s.fs.bad.isEmpty then [] else
  s.kerbRowBytes i r ++ (layers.filter fun rl => !rl.bg && rl.cfg.geo rl.l 1 != 3 && rl.cfg.at_ rl.l 2 != 5).flatMap fun rl =>
    (s.rowPoints i r).flatMap fun p =>
      match s.posAt rl.cfg rl.l (s.dirsAt i p.1 p.2) with
      | none => []
      | some (a, b) => if rl.limited && rl.win.isNone then [] else s.sampleBytes rl.cfg rl.l rl.win a b

/-- A row of a source and field is composed, for a milestone and a row period of its frame; the row above, whose neighbours are then known,
passes its light-value chain, and with the last row that row too (R121, R148). -/
def State.composeRowAt (s : State) (tfm rowU i field r : Nat) : State :=
  let x := s.src i
  let w := s.actW i
  let h := s.actH i
  let ready := s.fs.composing && s.domState 2 == 0 && s.srcOn i && decide (field < s.fieldsOf i) && decide (r < h) && (mapGet x.pRows (field * 2048 + r)).isNone
    && ((mapGet x.back (field * 2048 + r)).getD []).length != w
  if !ready then s else
  let tr := s.rowMid i r tfm rowU
  let s1 := s.shadeRow tr
  let (cores, beside) := s1.rowCores tr
  let layers := s1.rowLayers i field r
  let bgv := s1.get (K (0x4000 + i) 1)
  let vals := (List.range w).map fun c =>
    let v := layers.foldl (fun acc rl => s1.blendLayer rl cores tr i c r acc) bgv
    let (f0, u) := s1.kerbAt i c r
    let f := if field = 0 then f0 else 0
    min (max v f) u
  let limited := (layers.filter RowLayer.limited).map RowLayer.l
  let s2 := limited.foldl (fun t l => t.inc (K (0x3300 + l) 0x15)) s1
  let s3 := s2.addTo (K 0x3200 0x0F) beside
  let warps := (layers.filter fun rl => rl.cfg.geo rl.l 1 != 3).length
  let s4 := ((((((s3.count 0 1 1).count 0 3 (cores.length + beside)).count 0 4 beside).count 0 5 limited.length).count 1 1 w).count 1 2
    (layers.length * w)).count 1 3 (warps * w)
  let y := s4.src i
  let s5 := (s4.putSrc i { y with pRows := mapPut y.pRows (field * 2048 + r) vals }).badRead (s1.rowBytes layers i r)
  let s6 := if 0 < r then s5.finishRow i field (r - 1) else s5
  if r + 1 = h then s6.finishRow i field r else s6

/-- A row of a source and field of the frame in composition is composed, under the configuration that the frame has (R121, R175). -/
def State.composeRow (s : State) (i field r : Nat) : State :=
  s.forFrame s.fs.compFrame fun t => t.composeRowAt s.compRaster.1 s.compRaster.2 i field r

/-- Every row of every enabled source is composed for the frame in composition. -/
def State.composed (s : State) : Bool :=
  s.srcs.all fun i => (s.src i).back.length == s.fieldsOf i * s.actH i && (s.src i).back.all fun p => p.2.length == s.actW i

end Sys2Proof.Machine
end

