-- ==== Sys2Proof/Machine/SafeOps.lean ====
section
/-! DEFINITION. Shared operations of chapter 12: Roadblock (R394–R397), what the SSV decides for a source (R400–R402, R418–R421),
and the Beam Limit Checker (R403–R408). -/

namespace Sys2Proof.Machine

/-! ### Roadblock -/

/-- The SSV cores run: from step 4 of R56. -/
def State.ssvOn (s : State) : Bool := decide (4 ≤ s.sys.bootStep) && !s.pwr.inReset

/-- What the two paths do to a source when a Roadblock latches (R395): BLANK with HOLD = 1 and a mute port for every
endpoint, then the output enables fall. -/
def State.actPaths (s : State) (i : Nat) : State :=
  let t := (s.epsOf i).foldl (fun t e =>
    let u := t.blankPort e true 0
    u.putPort e { u.port e with mute := true }) s
  t

/-- A sink channel belongs to a string with the Roadblock member flag (R288). -/
def State.memberSink (s : State) (c : Nat) : Bool :=
  let f := s.get (K (0xA000 + c) 1)
  let h := if f = 2 then s.get (K (0xA000 + c) 2) else c
  f != 0 && s.get (K (0xA000 + h) 5) == 1

/-- Level of a row gate, asserted or not, by the polarity in force (0x5300:06). -/
def State.gateLevel (s : State) (on : Bool) : Bool := on != (s.act (K 0x5300 6) == 1)

/-- The row gate that is asserted is deasserted (R286, R288). -/
def State.dropGate (s : State) : State :=
  match s.skb.gate with
  | some r => { s with skb := { s.skb with gate := none } }.emit (.gate r 0 (s.gateLevel false))
  | none => s

/-- What path 2 does on the power die (R288, R395): the light of the sources stops, and with every enabled source that of the
member strings, and the row gates of a matrix are deasserted. -/
def State.darkSinks (s : State) (mask : Nat) : State :=
  let src := (List.range s.prj.src.length).map fun i =>
    let x := nth PtuSrc.init s.prj.src i
    if bit mask i then { x with drive := [], pulses := [] } else x
  let mx := s.srcs.any fun i => bit mask i && s.srcType i == 4
  let chans := (List.range s.skb.chans.length).map fun c =>
    let x := nth Chan.init s.skb.chans c
    if s.allBlocked && s.memberSink c then { x with amp := 0, on := 0 } else x
  let t : State := { s with prj := { s.prj with src := src }, skb := { s.skb with chans := chans, show_ := if mx then none else s.skb.show_ } }
  if mx then t.dropGate else t

/-- An engine. -/
def State.engine (s : State) (e : Nat) : Engine := nth Engine.init s.skb.engines e

/-- The state with an engine replaced; the engine value shows. -/
def State.putEngine (s : State) (e : Nat) (x : Engine) : State :=
  { s with skb := { s.skb with engines := putNth Engine.init s.skb.engines e x } }.set (K (0x5100 + e) 9) x.value

/-- State code of an engine. -/
def State.engState (s : State) (e : Nat) : Nat := s.get (K (0x5100 + e) 7)

/-- The engine value at this instant: a ramp moves linearly, to nearest (R274). -/
def State.engValue (s : State) (e : Nat) : Nat :=
  let x := s.engine e
  match x.wait with
  | .ramp a v start len =>
    if len ≤ s.now - start then v
    else
      let d : Int := ((v : Int) - a) * (s.now - start : Nat)
      ((a : Int) + (2 * d + len) / (2 * len)).toNat
  | _ => x.value

/-- An engine stops: its value stays where it is. [DESIGN CHOICE, log entry 226] -/
def State.engineStop (s : State) (e : Nat) : State :=
  (s.putEngine e { s.engine e with value := s.engValue e, wait := .none }).set (K (0x5100 + e) 7) 0

/-- Pattern engines stop (R288). -/
def State.stopEngines (s : State) : State :=
  (List.range 8).foldl (fun t e => if t.engState e = 0 then t else t.engineStop e) s

/-- The checker of a source. -/
def State.blcOf (s : State) (i : Nat) : Blc := nth Blc.init s.safe.blc i

/-- The state with the checker of a source replaced. -/
def State.putBlc (s : State) (i : Nat) (b : Blc) : State := { s with safe := { s.safe with blc := putNth Blc.init s.safe.blc i b } }

/-- Number of zones set in a bitmap. -/
def zoneCount (m : Nat) : Nat := popcount m 2048

/-- Escalation step and blanked zones as the entries show them (R438). -/
def State.blcShow (s : State) (i : Nat) : State :=
  let b := s.blcOf i
  let step := if b.blocked then 3 else if b.fallBack then 2 else if b.blank ≠ 0 then 1 else 0
  (s.set (K (0x8200 + i) 0x0C) step).set (K (0x8200 + i) 0x0D) (zoneCount b.blank)

/-- A Roadblock latches for the sources of a mask: `cause` is the code of 0x8010:05, and an SSV decision raises kind 0x13
(R394, R395, R429). [DEDUCED, log entries 125, 128] -/
def State.roadblock (s : State) (mask cause : Nat) : State :=
  let ssv := decide (3 ≤ cause)
  let f := { s.safe with path1 := s.safe.path1 ||| mask, path2 := s.safe.path2 ||| mask,
                         path1Ending := (List.range 4).foldl (fun m i => if bit mask i then setBit m i false else m) s.safe.path1Ending }
  let t : State := { s with safe := f }
  let t1 := ((t.set (K 0x8010 1) (t.latched ||| mask)).set (K 0x8010 5) cause).inc (K 0x8010 8)
  let t2 := ((List.range 4).filter fun i => bit mask i && s.srcOn i).foldl (fun u i => u.actPaths i) t1
  let t3 := t2.setTse.setLas.darkSinks mask
  if ssv then
    let recs := ((List.range 4).filter fun i => bit mask i).map fun i => (i, 0x12, 0x13, cause)
    let t4 := if cause = 3 then ((List.range 4).filter fun i => bit mask i).foldl (fun u i => (u.putBlc i { u.blcOf i with blocked := true }).blcShow i) t3
      else t3
    let u : State := { t4 with safe := { t4.safe with
      rbSsv := t4.safe.rbSsv ||| (mask * (if cause = 3 then 1 else if cause = 4 then 16 else 256)),
      rbRecs := t4.safe.rbRecs ++ recs.filter fun r => !t4.safe.rbRecs.contains r } }
    u.stand 0x12 0x13 cause
  else t3.event 0x12 0x0E t3.latched

/-- An SSV-decision cause of a source is no longer present; with its last source the record's cause is gone. -/
def State.ssvCauseGone (s : State) (cause i : Nat) : State :=
  let b := i + (if cause = 3 then 0 else if cause = 4 then 4 else 8)
  if bit s.safe.rbSsv b then
    let t : State := { s with safe := { s.safe with rbSsv := setBit s.safe.rbSsv b false } }
    let base := b - i
    if field t.safe.rbSsv (base + 3) base = 0 then t.causeGone 0x12 0x13 cause else t
  else s

/-- A log entry of a record is latched. -/
def State.logLatched (s : State) (src kind arg : Nat) : Bool :=
  s.safe.log.any fun e => match e with | some x => x.src == src && x.kind == kind && x.arg == arg && x.latched | none => false

/-- An active record of a source, kind and argument. -/
def State.logActive (s : State) (src kind arg : Nat) : Bool :=
  s.safe.log.any fun e => match e with | some x => x.src == src && x.kind == kind && x.arg == arg && x.active | none => false

/-- ROADBLOCK_N is asserted at one ball at least (R394, R557). -/
def State.rbPin (s : State) : Bool := s.pins.rbBalls.any id

/-- The conditions of R397 on the release of source i. -/
def State.mayRelease (s : State) (i : Nat) : Bool :=
  let pin := !bit (s.get (K 0x8010 2)) i || (!s.rbPin && decide (s.safe.rbHighSince + 1000000 ≤ s.now))
  let ssv := !bit s.safe.rbSsv i && !bit s.safe.rbSsv (4 + i) && !bit s.safe.rbSsv (8 + i)
  let recs := s.safe.rbRecs.all fun r => r.1 != i || !s.logLatched r.2.1 r.2.2.1 r.2.2.2
  pin && ssv && recs

/-- A release of the sources of a mask: each that meets its conditions is released; the answer says whether one of the mask
stays latched (R397, R564). [DEDUCED, log entry 129] -/
def State.rbRelease (s : State) (mask : Nat) : State × Bool :=
  let held := (List.range 4).filter fun i => bit mask i && bit s.latched i
  let free := held.filter s.mayRelease
  if free.isEmpty then (s, !held.isEmpty) else
  let clear (m : Nat) : Nat := free.foldl (fun m i => setBit m i false) m
  let t : State := { s with safe := { s.safe with
    path2 := clear s.safe.path2, path1Ending := free.foldl (fun m i => setBit m i true) s.safe.path1Ending,
    rbRecs := s.safe.rbRecs.filter fun r => !free.contains r.1 } }
  let t0 := free.foldl (fun u i => if (u.blcOf i).blocked then (u.putBlc i { u.blcOf i with blocked := false }).blcShow i else u) t
  let t1 := ((t0.set (K 0x8010 1) (clear t0.latched)).setTse).event 0x12 0x0E (clear t0.latched)
  let t2 := if t1.mode = .safe ∧ t1.srcs.all (fun i => !bit t1.latched i) = true then (t1.enter .preop 9).stopEngines else t1
  (t2, decide (free.length < held.length))

/-! ### What the SSV combines from Guardrail (R419, R420) -/

/-- Connection n consumes frames and is in operation. -/
def State.consumer (s : State) (n : Nat) : Bool := s.get (K (0x1400 + n) 0x12) != 0 && s.act (K (0x1400 + n) 2) == 0

/-- Connection n is VALID. -/
def State.connValid (s : State) (n : Nat) : Bool := s.get (K (0x1400 + n) 0x12) == 2

/-- Connection n permits a frame type. -/
def State.permits (s : State) (n t : Nat) : Bool := bit (s.act (K (0x1400 + n) 0x0B)) t

/-- A GLARE connection that covers source i is not VALID (R401, R420). -/
def State.glareLost (s : State) (i : Nat) : Bool :=
  (List.range 16).any fun n => s.consumer n && s.permits n 2 && bit (s.act (K (0x1400 + n) 0x11)) i && !s.connValid n

/-- Restriction rank of a beam mode: FLOOR before LOW before ADAPTIVE (R419). -/
def beamRank (m : Nat) : Nat := if m = 3 then 3 else if m = 1 then 2 else if m = 2 then 1 else 0

/-- Beam mode of a source: the most restrictive request of the VALID connections, LOW for one that is not VALID; with no
connection that permits BEAM_MODE, the entry (R419, R420, R437). -/
def State.beamWanted (s : State) (i : Nat) : Nat :=
  let ms := (List.range 16).filterMap fun n =>
    if s.consumer n && s.permits n 3 then
      if s.connValid n then
        let b := nth 0 (nth Conn.init s.safe.conns n).beam i
        if b = 0 then none else some b
      else if bit (s.act (K (0x1400 + n) 0x11)) i then some 1 else none
    else none
  match ms with
  | [] => s.get (K 0x8020 (4 + i))
  | m :: r => r.foldl (fun a b => if beamRank a < beamRank b then b else a) m

/-- Glare regions that apply to source i: all regions of all VALID connections (R419). -/
def State.regionsOf (s : State) (i : Nat) : List Region :=
  (List.range 16).flatMap fun n =>
    let c := nth Conn.init s.safe.conns n
    if s.consumer n && s.permits n 2 && s.connValid n && bit c.glareMask i then c.regions else []

/-- What the SSV decides for source i from its inputs (R400, R401, R419). -/
def State.decision (s : State) (i : Nat) : Mask :=
  let beam := s.beamWanted i
  let b := nth Blc.init s.safe.blc i
  { blank := b.blank, limit := decide (beam = 1) || s.glareLost i || b.fallBack, low := [], beam := beam, regions := s.regionsOf i }

/-- The SSV revises its decisions: each that changes is written as a pending one, complete `delay` ns from now (R402, R421). -/
def State.revise (s : State) (delay : Nat) : State :=
  (List.range 4).foldl (fun t i =>
    let d := t.decision i
    let b := nth Blc.init t.safe.blc i
    let u := (t.set (K 0x8020 (4 + i)) d.beam).set (K (0x8200 + i) 0x10)
      (b2n (d.beam == 1) + 2 * b2n (t.glareLost i) + 4 * b2n b.fallBack)
    if d = nth Mask.clear u.safe.pendMasks i then u
    else { u with safe := { u.safe with pendMasks := putNth Mask.clear u.safe.pendMasks i d,
                                        maskQueue := modNth [] u.safe.maskQueue i fun q => q ++ [(u.now + delay, d)] } }) s

/-- The SSV's decision on a Guardrail input is voted within 1 ms: when, the spec leaves open (R421). -/
def State.reviseSoon (s : State) : State :=
  let (v, t) := s.fresh
  t.revise (v % 1000001)

/-- The low-beam map of a source: the cut-off mask at every mesh node, levelled by the pitch of the frame that is shown (R401). -/
def State.lowMap (s : State) (i : Nat) : List Nat :=
  let l := nth ⟨0, none⟩ s.geo.lev i
  (List.range 33).flatMap fun y => (List.range 65).map fun x =>
    let n := levNode l.mesh (some l.theta) x y
    s.cutoff (nodeAng n.1) (nodeAng n.2)

/-- The entries of a connection that are taken at BOOT and on leaving PREOP (R436). -/
def connKeys (n : Nat) : List Nat := keys (0x1400 + n) 1 0x11

/-- Connections whose time mode checks as mode 0x02 while the time is neither synchronised nor in holdover: the bits of 0x1410:03, and one
record of each while it lasts (R415). -/
def State.guardTime (s : State) : State :=
  (List.range 16).foldl (fun t n =>
    let un := decide (t.get (K (0x1400 + n) 0x12) ≠ 0) && decide (t.act (K (0x1400 + n) 0x0C) ≠ 2) && !t.timeGood
    if un == bit (t.get (K 0x1410 3)) n then t
    else
      let u := t.setFlag (K 0x1410 3) n un
      if un then u.stand 0x11 5 n else u.causeGone 0x11 5 n) s

/-- The connections VALID, as 0x1410:01 shows them. -/
def State.showValid (s : State) : State :=
  s.set (K 0x1410 1) ((List.range 16).foldl (fun m n => if s.connValid n then m + 2 ^ n else m) 0)

/-- Vehicle inputs from the lowest-numbered VALID connection that allows VEHICLE; the fail-safe values while connections allow it and
none is VALID. [DEDUCED, log entry 119] -/
def State.combineVehicle (s : State) : State :=
  let allow := (List.range 16).filter fun n => s.consumer n && s.permits n 1
  let give := (allow.filter s.connValid).filterMap fun n => (nth Conn.init s.safe.conns n).vehicle
  let put (v : Nat × Nat × Nat) : State := ((s.set (K 0x8020 1) v.1).set (K 0x8020 2) v.2.1).set (K 0x8020 3) v.2.2
  match give with
  | v :: _ => put v
  | [] => if allow.isEmpty then s else put (0xFFFF, 1, 1)

/-- The connections are taken (R436): one whose entries changed starts anew, waiting when it is enabled. [DEDUCED, log entry 121] -/
def State.takeConns (s : State) : State :=
  let t := (List.range 16).foldl (fun t n =>
    let k := 0x1400 + n
    let same := (connKeys n).all fun e => t.get e == t.act e
    let on := decide (t.get (K k 1) = 1)
    if same && (on == decide (t.get (K k 0x12) ≠ 0)) then t
    else
      let u := (t.putAct (t.snap (connKeys n))).causeGone 0x11 4 n
      let c : Conn := { Conn.init with since := u.now }
      let v : State := { u with safe := { u.safe with conns := putNth Conn.init u.safe.conns n c } }
      v.set (K k 0x12) (b2n on)) s
  t.guardTime.showValid.combineVehicle.reviseSoon

/-- The low-beam maps of the masks in force, by the pitch and the mesh of the frame that is shown (R401). -/
def State.levelMasks (s : State) : State :=
  (List.range 4).foldl (fun t i =>
    let m := nth Mask.clear t.safe.masks i
    { t with safe := { t.safe with masks := putNth Mask.clear t.safe.masks i { m with low := if m.limit && t.srcOn i then t.lowMap i else [] } } }) s

/-- Of the decisions that wait, oldest first, the newest that was complete 1 µs ago, and those that go on waiting; `m` when none was (R402). -/
def landed (now : Nat) (m : Mask) (q : List (Nat × Mask)) : Mask × List (Nat × Mask) :=
  q.foldl (fun a x => if x.1 + 1000 ≤ now then (x.2, []) else (a.1, a.2 ++ [x])) (m, [])

/-- Masks land at a frame milestone when they were complete 1 µs before it; a low-beam limit follows the pitch of each
frame (R401, R402). -/
def State.landMasks (s : State) : State :=
  ((List.range 4).foldl (fun t i =>
    let r := landed t.now (nth Mask.clear t.safe.masks i) (nth [] t.safe.maskQueue i)
    { t with safe := { t.safe with masks := putNth Mask.clear t.safe.masks i r.1, maskQueue := putNth [] t.safe.maskQueue i r.2 } }) s).levelMasks

/-! ### Zones (R403, R405) -/

/-- First column, or row, of a zone: floor(i × size / n). -/
def zoneEdge (i size n : Nat) : Nat := i * size / n

/-- Zone of a column or row among n over a size. -/
def zoneIdx (x size n : Nat) : Nat :=
  ((List.range n).find? fun i => decide (zoneEdge i size n ≤ x ∧ x < zoneEdge (i + 1) size n)).getD 0

/-- Floor and ceiling of a pixel from the SSV's own voted copy of the Kerb maps (R405). -/
def State.kerbOwn (s : State) (i c r : Nat) : Nat × Nat :=
  let img := s.comp.kerb.ram.getD KerbImg.zero
  kerbMix (nth (0, 0, 0) img.desc i) (img.codeAt i) c r

/-- Limits of a zone from the SSV's Kerb maps and the mesh in force (R405); none for an empty zone. -/
def State.zoneLim (s : State) (i z : Nat) : Option ZoneLim :=
  let w := s.actW i
  let h := s.actH i
  let zi := z % 64
  let zj := z / 64
  let c0 := zoneEdge zi w 64
  let c1 := zoneEdge (zi + 1) w 64
  let r0 := zoneEdge zj h 32
  let r1 := zoneEdge (zj + 1) h 32
  let n := (c1 - c0) * (r1 - r0)
  if n = 0 then none else
  let px := (List.range (r1 - r0)).flatMap fun r => (List.range (c1 - c0)).map fun c => s.kerbOwn i (c0 + c) (r0 + r)
  let sumC := px.foldl (fun a p => a + p.2) 0
  let sumF := px.foldl (fun a p => a + p.1) 0
  let k := 0x8200 + i
  let t := s.get (K k 3)
  let m := mapGet s.activeDoms (K (0x3100 + i) 1)
  let node (a b : Nat) : Int × Int := meshNode m a b
  let hs := [(node zi zj).1, (node (zi + 1) zj).1, (node zi (zj + 1)).1, (node (zi + 1) (zj + 1)).1]
  let vs := [(node zi zj).2, (node (zi + 1) zj).2, (node zi (zj + 1)).2, (node (zi + 1) (zj + 1)).2]
  some { zone := z, n := n, k := satN 0xFFFFFF (sumC * s.get (K k 1) / 131072), f := sumF * s.get (K k 2) / 131072 - t,
         hLo := hs.foldl min (nth 0 hs 0), hHi := hs.foldl max (nth 0 hs 0), vLo := vs.foldl min (nth 0 vs 0), vHi := vs.foldl max (nth 0 vs 0) }

/-- The limits of every zone of every enabled source for the frame being composed (R405). -/
def State.zoneLimits (s : State) : State :=
  s.srcs.foldl (fun t i =>
    { t with safe := { t.safe with limNext := putNth [] t.safe.limNext i ((List.range 2048).filterMap fun z => t.zoneLim i z) } }) s

/-- A glare region overlaps the direction box of a zone. -/
def Region.overlaps (g : Region) (l : ZoneLim) : Bool :=
  let hl := sgn 16 g.hl * 128
  let hr := sgn 16 g.hr * 128
  let vb := sgn 16 g.vb * 128
  let vt := sgn 16 g.vt * 128
  decide (hr ≤ l.hHi ∧ l.hLo ≤ hl ∧ vb ≤ l.vHi ∧ l.vLo ≤ vt)

/-- min(K, L) of a zone under the glare regions in force (R405). -/
def State.zoneTop (s : State) (i : Nat) (l : ZoneLim) : Nat :=
  let g := s.get (K (0x8200 + i) 1)
  ((nth Mask.clear s.safe.masks i).regions.filter fun r => r.overlaps l).foldl (fun a r => min a (l.n * r.level * g / 131072)) l.k

/-! ### The output mask (R400) -/

/-- A node factor of a source's low-beam map. -/
def Mask.node (m : Mask) (x y : Nat) : Nat := nth 0xFFFF m.low (65 * y + x)

/-- A value of a pixel after the mask (R400). -/
def State.maskPix (s : State) (i c r v : Nat) : Nat :=
  let m := nth Mask.clear s.safe.masks i
  let w := s.actW i
  let h := s.actH i
  if bit m.blank (zoneIdx r h 32 * 64 + zoneIdx c w 64) then 0
  else if m.low.isEmpty then v
  else
    let (ci, fa) := cellOf 64 w (8 * c + 4)
    let (cj, fb) := cellOf 32 h (8 * r + 4)
    let f := roundDiv (m.node ci cj * (1024 - fa) * (1024 - fb) + m.node (ci + 1) cj * fa * (1024 - fb)
      + m.node ci (cj + 1) * (1024 - fa) * fb + m.node (ci + 1) (cj + 1) * fa * fb) 1048576
    v * f / 65535

/-! ### Comparison (R404, R406, R407) -/

/-- Record of an escalation step, with the ARG of R406. [DEDUCED, log entry 130] -/
def blcArg (step fld i z : Nat) : Nat := step * 2 ^ 28 + fld * 2 ^ 24 + i * 65536 + (z / 64) * 256 + z % 64

/-- The sums of a zone over the fields (R404); `scale` is the illumination scale of a mirror array. -/
def State.zoneSum (s : State) (i : Nat) (xs : List Nat) (scale : Option Nat) : Nat :=
  let z := (List.range xs.length).foldl (fun a p => a + nth 0 xs p * s.get (K (0x8200 + i) (4 + p)) / 32768) 0
  match scale with
  | some c => satN 0xFFFFFF z * c / 65535
  | none => satN 0xFFFFFF z

/-- A run of frames of a zone in a list. -/
def runOf (l : List (Nat × Nat)) (z : Nat) : Nat := (mapGet l z).getD 0

/-- The demand of a zone is compared with its ceiling: zone blank and low-beam fall-back (R406). -/
def State.compareDemand (s : State) (i z d c : Nat) : State :=
  let b := s.blcOf i
  let k := 0x8200 + i
  if c < d then
    let first := !b.aboveNow
    let b1 : Blc := { b with
      aboveZones := if b.aboveZones.contains z then b.aboveZones else b.aboveZones ++ [z],
      aboveNow := true, aboveRun := if first then b.aboveRun + 1 else b.aboveRun, okRun := mapDel b.okRun z, calmSince := none }
    let t := if first then s.inc (K k 0x0E) else s
    let t1 := if bit b1.blank z then t.putBlc i b1
      else (((t.putBlc i { b1 with blank := setBit b1.blank z true }).stand 0x0F 0x10 (blcArg 1 0 i z)).set (K k 0x11) (blcArg 1 0 i z))
    let b2 := t1.blcOf i
    if !b2.fallBack && decide (3 ≤ b2.aboveRun) then
      ((t1.putBlc i { b2 with fallBack := true, calmSince := none }).stand 0x0F 0x10 (blcArg 2 0 i z)).set (K k 0x11) (blcArg 2 0 i z)
    else t1
  else
    let zs := b.aboveZones.filter (· != z)
    let n := runOf b.okRun z + 1
    let calm := if b.fallBack && zs.isEmpty && b.calmSince.isNone then some s.now else b.calmSince
    if bit b.blank z then
      if s.get (K k 8) ≤ n then
        (s.putBlc i { b with aboveZones := zs, okRun := mapDel b.okRun z, blank := setBit b.blank z false, calmSince := calm }).causeGone
          0x0F 0x10 (blcArg 1 0 i z)
      else s.putBlc i { b with aboveZones := zs, okRun := mapPut b.okRun z n, calmSince := calm }
    else s.putBlc i { b with aboveZones := zs, calmSince := calm }

/-- The emitted sum of a zone is compared with its ceiling: after some frames in a row with one above, a record, and Roadblock of the source; a
standby only reports (R406, R408). -/
def State.compareEmitted (s : State) (i z e ce : Nat) : State :=
  let b := s.blcOf i
  let k := 0x8200 + i
  if ce < e then
    let n := if b.ceNow then b.ceRun else b.ceRun + 1
    let hit := decide (s.get (K k 0x0A) ≤ n)
    let new := hit && b.ceArg.isNone
    let t := s.putBlc i { b with ceNow := true, ceRun := n, ceArg := if new then some (blcArg 3 0 i z) else b.ceArg }
    let t1 := if new then (t.stand 0x0F 0x10 (blcArg 3 0 i z)).set (K k 0x11) (blcArg 3 0 i z) else t
    if hit && t.mode != .standby && !bit s.safe.rbSsv i then t1.roadblock (2 ^ i) 3 else t1
  else s

/-- The emitted sum of field P0 of a zone is compared with its floor (R407). -/
def State.compareFloor (s : State) (i z e f : Nat) : State :=
  let b := s.blcOf i
  let k := 0x8200 + i
  if e < f then
    let n := runOf b.flRun z + 1
    let b1 : Blc := { b with flRun := mapPut b.flRun z n }
    if s.get (K k 0x0B) ≤ n then
      let t := if b.floorHit then s else s.inc (K k 0x0F)
      let u := t.putBlc i { b1 with floorHit := true }
      if n = s.get (K k 0x0B) then (u.stand 0x0F 0x11 (blcArg 0 0 i z)).set (K k 0x11) (blcArg 0 0 i z) else u
    else s.putBlc i b1
  else
    let t := s.putBlc i { b with flRun := mapDel b.flRun z }
    if s.get (K k 0x0B) ≤ runOf b.flRun z then t.causeGone 0x0F 0x11 (blcArg 0 0 i z) else t

/-- The frame that is read is not judged against floors: before first light, and the entry frame of a relayout (R175, R565).
[DEDUCED, log entry 130] -/
def State.noFloor (s : State) (i : Nat) : Bool :=
  !s.fs.firstLight || s.fs.dark || s.mode == .standby || s.roadblocked i

/-- A zone whose last row has passed the tap is compared, and its sums restart (R403–R408). -/
def State.compareZone (s : State) (i z : Nat) (scale : Option Nat) : State :=
  let b := s.blcOf i
  match (nth [] s.safe.limits i).find? fun l => l.zone == z with
  | none => s
  | some l =>
    let sums := (b.sums.find? fun x => x.zone == z).getD ⟨z, [], []⟩
    let t := s.get (K (0x8200 + i) 3)
    let top := s.zoneTop i l
    let m := nth Mask.clear s.safe.masks i
    let zi := z % 64
    let zj := z / 64
    let mx := max (max (m.node zi zj) (m.node (zi + 1) zj)) (max (m.node zi (zj + 1)) (m.node (zi + 1) (zj + 1)))
    let mn := min (min (m.node zi zj) (m.node (zi + 1) zj)) (min (m.node zi (zj + 1)) (m.node (zi + 1) (zj + 1)))
    let blanked := bit m.blank z
    let ce := if blanked then t else top * mx / 65535 + t
    let skip := b.skip.contains z || blanked || decide (mn < 0xFFFF) || s.noFloor i
    let s1 := s.putBlc i { b with sums := b.sums.filter (fun x => x.zone != z), skip := b.skip.filter (· != z) }
    let s2 := s1.count 10 3 1
    let s3 := s2.compareDemand i z (s.zoneSum i sums.d scale) (top + t)
    let s4 := s3.compareEmitted i z (s.zoneSum i sums.e scale) ce
    let s5 := if skip then s4.putBlc i { s4.blcOf i with flRun := mapDel (s4.blcOf i).flRun z }
      else s4.compareFloor i z (s.zoneSum i (sums.e.take 1) scale) l.f
    s5.blcShow i

/-- A row passes the tap: values before and after the mask, by field (R403). `skip` says that the row is blanked by re-striping
or a rate switch. -/
def State.tapRow (s : State) (i r : Nat) (before after : List (List Nat)) (skip : Bool) (scale : Option Nat) : State :=
  let w := s.actW i
  let h := s.actH i
  let zj := zoneIdx r h 32
  let fields := List.range before.length
  let part (rows : List (List Nat)) (p zi : Nat) : Nat :=
    (((nth [] rows p).drop (zoneEdge zi w 64)).take (zoneEdge (zi + 1) w 64 - zoneEdge zi w 64)).foldl (fun a v => a + v / 4) 0
  let zones := (List.range 64).filter fun zi => decide (zoneEdge zi w 64 < zoneEdge (zi + 1) w 64)
  let b := s.blcOf i
  let addTo (old new : List Nat) : List Nat := fields.map fun p => satN 0xFFFFFF (nth 0 old p + nth 0 new p)
  let sums := zones.foldl (fun l zi =>
    let z := zj * 64 + zi
    let old := (l.find? fun x => x.zone == z).getD ⟨z, [], []⟩
    let new : ZoneSum := ⟨z, addTo old.d (fields.map fun p => part before p zi), addTo old.e (fields.map fun p => part after p zi)⟩
    (l.filter fun x => x.zone != z) ++ [new]) b.sums
  let skips := if skip then b.skip ++ (zones.map fun zi => zj * 64 + zi).filter fun z => !b.skip.contains z else b.skip
  let t := s.putBlc i { b with sums := sums, skip := skips }
  let t1 := if r + 1 = zoneEdge (zj + 1) h 32 then zones.foldl (fun t zi => t.compareZone i (zj * 64 + zi) scale) t else t
  t1.revise 0

/-- At a frame milestone the runs of frames above a ceiling end if the frame had none; with that of the emitted sums the cause of step 3 is gone
(R406). -/
def State.blcFrame (s : State) : State :=
  (List.range 4).foldl (fun t i =>
    let b := t.blcOf i
    let u := t.putBlc i { b with aboveNow := false, aboveRun := if b.aboveNow then b.aboveRun else 0, floorHit := false,
                                 ceNow := false, ceRun := if b.ceNow then b.ceRun else 0, ceArg := if b.ceNow then b.ceArg else none }
    if b.ceNow then u
    else (match b.ceArg with | some a => u.causeGone 0x0F 0x10 a | none => u).ssvCauseGone 3 i) s

/-- Low-beam fall-back of a source ends after `0x820s:09` with every zone within its ceiling (R406). -/
def State.fallBackRelease (s : State) (i : Nat) : State :=
  let b := s.blcOf i
  match b.fallBack, b.calmSince with
  | true, some a =>
    if a + s.get (K (0x8200 + i) 9) * 1000000 ≤ s.now then
      let arg (e : Option LogE) : Option Nat := match e with
        | some x => if x.src = 0x0F ∧ x.kind = 0x10 ∧ field x.arg 31 28 = 2 ∧ field x.arg 23 16 = i then some x.arg else none
        | none => none
      let t := (s.putBlc i { b with fallBack := false, calmSince := none, aboveRun := 0 })
      let u := (s.safe.log.filterMap arg).foldl (fun u a => u.causeGone 0x0F 0x10 a) t
      (u.revise 0).blcShow i
    else s
  | _, _ => s

end Sys2Proof.Machine
end

