-- ==== Sys2Proof/Machine/ScanOps.lean ====
section
/-! DEFINITION. What the Scan-Out Unit reads and forms: rows with their substitutes (R160, R169), row repeat (R208), ROW and PLANE
packets (R202–R204). -/

namespace Sys2Proof.Machine

/-- FRAME# (0x4300:11). -/
def State.frameNo (s : State) : Nat := s.get (K 0x4300 0x11)

/-- The present frame repeats the one before it: an odd one while halving is on (R171). -/
def State.repeating (s : State) : Bool := s.halved && s.frameNo % 2 == 1

/-- In line-following mode, composition of the present frame has not begun though the frame is a composed one (R169). -/
def State.notBegun (s : State) : Bool :=
  s.lineMode && s.fs.running && !s.fs.dark && !s.repeating && seqNewer s.frameNo s.fs.compFrame

/-- The row of a buffer that the SOU reads for the present frame; none while it is not there (R167, R169). -/
def State.bufRow (s : State) (i field r : Nat) : Option (List Nat) :=
  let x := s.src i
  let key := field * 2048 + r
  if s.notBegun then none
  else if s.lineMode && !seqNewer s.fs.compFrame s.frameNo then mapGet x.back key else mapGet x.front key

/-- Byte offset of a value of the output buffer that is read (R161). -/
def State.bufByte (s : State) (i field r c : Nat) : Nat :=
  let p := s.pixels
  let b := if s.lineMode then 0 else s.fs.frontBuf
  2 * (b * p + s.pixBefore i + (field * s.actH i + r) * s.actW i + c)

/-- A row filled up with the background value: of a late row, the PXC has completed the first pixels alone (R169). -/
def padRow (w bg : Nat) (l : List Nat) : List Nat := l ++ List.replicate (w - l.length) bg

/-- A row as read: the background value for the pixels of a word that reads as uncorrectable, and for the part of a row that is not
there (R160, R169). -/
def State.readRow (s : State) (i field r : Nat) : List Nat :=
  let bg := s.get (K (0x4000 + i) 1)
  let w := s.actW i
  match s.bufRow i field r with
  | none => List.replicate w bg
  | some m =>
    let l := padRow w bg m
    if s.fs.bad.isEmpty then l else (List.range w).map fun c => if s.badByte (s.bufByte i field r c) then bg else nth 0 l c

/-- A word of the row that is read is uncorrectable. -/
def State.rowBad (s : State) (i field r : Nat) : Bool :=
  !s.fs.bad.isEmpty && (List.range (s.actW i)).any fun c => s.badByte (s.bufByte i field r c)

/-- The endpoint of a tile source that covers a pixel. -/
def State.epAt (s : State) (i c r : Nat) : Option Nat :=
  (s.epsOf i).find? fun e =>
    decide (s.ep e 6 ≤ c ∧ c < s.ep e 6 + s.ep e 0x18 ∧ s.ep e 7 ≤ r ∧ r < s.ep e 7 + s.ep e 0x19)

/-- Source rows that go with row r at an endpoint whose rows are repeated (R208). -/
def State.repRows (s : State) (e r : Nat) : List Nat :=
  let n := max 1 (s.get (K (0x4400 + e) 0x0E))
  let k := r - s.ep e 7
  let k0 := k / n * n
  (List.range n).filterMap fun j => if k0 + j < s.ep e 0x19 then some (s.ep e 7 + k0 + j) else none

/-- The largest, column by column, of some rows. -/
def maxRows : List (List Nat) → List Nat
  | [] => []
  | [a] => a
  | a :: r => List.zipWith max a (maxRows r)

/-- The endpoints of the source repeat rows. -/
def State.repeats (s : State) (i : Nat) : Bool := s.srcType i == 1 && (s.epsOf i).any fun e => decide (1 < s.get (K (0x4400 + e) 0x0E))

/-- A row as it passes the tap, before and after the mask (R182, R208, R400). -/
def State.sentRow (s : State) (i field r : Nat) : List Nat × List Nat :=
  let w := s.actW i
  let raw (q : Nat) : List Nat := s.readRow i field q
  let masked (q : Nat) (l : List Nat) : List Nat :=
    let m := nth Mask.clear s.safe.masks i
    if m.blank = 0 ∧ m.low.isEmpty = true then l else (List.range w).map fun c => s.maskPix i c q (nth 0 l c)
  if s.repeats i then
    let eps := s.epsOf i
    let sets := eps.map fun e =>
      let rows := if s.ep e 7 ≤ r ∧ r < s.ep e 7 + s.ep e 0x19 then s.repRows e r else []
      (e, maxRows (rows.map raw), maxRows (rows.map fun q => masked q (raw q)))
    let pick (f : Nat × List Nat × List Nat → List Nat) : List Nat := (List.range w).map fun c =>
      match s.epAt i c r with
      | some e => (match sets.find? fun x => x.1 == e with | some x => nth 0 (f x) c | none => 0)
      | none => 0
    (pick (·.2.1), pick (·.2.2))
  else
    let a := raw r
    (a, masked r a)

/-- An endpoint's rows are dark for a while: its group is blanked by re-striping (R183), or its port switches its rate in this frame (R337). -/
def State.linkBlank (s : State) (e : Nat) : Bool :=
  s.get (K (0x4400 + e) 0x0A) == 4 || s.get (K (0x4400 + e) 0x0A) == 5 ||
    match (nth Train.init s.ln.trains e).switch with | some w => decide (1 ≤ w.step) && !seqNewer w.frame s.frameNo | none => false

/-- Some endpoint that covers row r of the source is dark for a while. -/
def State.rowSkipped (s : State) (i r : Nat) : Bool :=
  (s.epsOf i).any fun e => s.linkBlank e && (s.srcType i == 2 || decide (s.ep e 7 ≤ r ∧ r < s.ep e 7 + s.ep e 0x19))

/-! ### ROW packets (R202, R203) -/

/-- Grey code of a drive value at depth G (R203). -/
def greyCode (g out : Nat) : Nat := (out * (2 ^ g - 1) + 32767) / 65535

/-- A number of `n` words as payload words, the most significant first. -/
def toWords : Nat → Nat → List Nat
  | 0, _ => []
  | n + 1, v => v / 2 ^ (64 * n) % 2 ^ 64 :: toWords n v

/-- Codes of g bits each, the first in the most significant bits of the first word; zeros pad the last word. -/
def packBits (g : Nat) (codes : List Nat) : List Nat :=
  let n := ceilDiv (codes.length * g) 64
  let v := codes.foldl (fun a c => a * 2 ^ g + c) 0
  toWords n (v * 2 ^ (64 * n - codes.length * g))

/-- REP field of a row repeat. -/
def repCode (n : Nat) : Nat := Nat.log2 (max 1 n)

/-- The ROW packets of an endpoint row: its segments, even in width and of multiples of 16 pixels, as few as keep a packet within the largest
one (R201, R202). [DESIGN CHOICE, log entry 192] -/
def State.sendRow (s : State) (e k rep : Nat) (vals : List Nat) : State :=
  let w := s.ep e 0x18
  let g := s.ep e 8
  let most := max 16 ((packetBlocks (s.stripeOf e).length (s.port e).rate - 4) * 64 / g / 16 * 16)
  let cols := ceilDiv (ceilDiv w (ceilDiv w most)) 16 * 16
  (List.range (ceilDiv w (max 16 cols))).foldl (fun t n =>
    let seg := (vals.drop (n * cols)).take cols
    let desc := k * 2 ^ 48 + (n * cols) * 2 ^ 32 + seg.length * 65536 + repCode rep * 4096
    t.sendPacket e 1 t.frameNo (desc :: packBits g (seg.map fun v => greyCode g v)) 0 none) s

/-- A port shows the rows that it receives: ready, not mute and not held, in a frame that emits (R175, R565). -/
def State.portShows (s : State) (e : Nat) : Bool :=
  let p := s.port e
  p.ready && !p.mute && s.fs.firstLight && !s.fs.dark

/-- Emission of a row of a tile source starts this long after the frame milestone, in ns (R105). -/
def State.rowStart (s : State) (i y : Nat) : Nat :=
  nsOfU (s.fs.vb * s.fs.rowU) + roundDiv (y * s.fs.ra * s.fs.rowU * 5) (131072 * max 1 (s.actH i))

/-- After a takeover rows go out from the first one whose emission starts at least 4 µs after the execution of JOIN (R457, R460). -/
def State.rowJoined (s : State) (i y : Nat) : Bool :=
  match s.tw.joinAt with | some a => decide (a + 4000 ≤ s.fs.fmAt + s.rowStart i y) | none => true

/-- Row r of a tile source, after the mask, leaves for its endpoints; rows of a blanked group leave as 0x0000 (R183). -/
def State.sendTileRow (s : State) (i r : Nat) (vals : List Nat) : State :=
  (s.epsOf i).foldl (fun t e =>
    let y0 := t.ep e 7
    if y0 ≤ r ∧ r < y0 + t.ep e 0x19 ∧ t.portShows e = true then
      let n := max 1 (t.get (K (0x4400 + e) 0x0E))
      let k := r - y0
      if (k % n = n - 1 ∨ k + 1 = t.ep e 0x19) ∧ t.rowJoined i (y0 + k / n * n) = true then
        let seg := (vals.drop (t.ep e 6)).take (t.ep e 0x18)
        t.sendRow e (k / n * n) n (if t.linkBlank e then seg.map fun _ => 0 else seg)
      else t
    else t) s

/-! ### PLANE packets (R204, R233, R238) -/

/-- Words of a mirror row of one bit plane: bit 63 of the first word is mirror 0 (R204). -/
def planeWords (d b : Nat) (vals : List Nat) : List Nat := packBits 1 (vals.map fun m => b2n (bit (greyCode d m) b))

/-- The PLANE packets of plane k of a mirror-array source, from `delay` ns on: all mirrors off while its group is blanked (R183, R238). -/
def State.sendPlane (s : State) (i k delay : Nat) : State :=
  match (s.epsOf i).head?, (s.planes4 i)[k]? with
  | some e, some pl =>
    if s.portShows e = false then s else
    let w := s.actW i
    let h := s.actH i
    let d := s.act (K (0x4500 + i) 1)
    let wd := ceilDiv w 64
    let per := max 1 (min 16 ((packetBlocks (s.stripeOf e).length (s.port e).rate - 4) / max 1 wd))
    let off := s.linkBlank e || s.roadblocked i
    (List.range (ceilDiv h per)).foldl (fun t n =>
      let rows := (List.range per).filterMap fun j => if n * per + j < h then some (n * per + j) else none
      let words := rows.flatMap fun r =>
        if off then List.replicate wd 0 else planeWords d pl.bitNo (s.sentRow i pl.fld r).2
      let desc := k * 2 ^ 56 + (n * per) * 2 ^ 40 + rows.length * 2 ^ 32
      t.putTx e ⟨t.now + delay, 2, t.frameNo, desc :: words, 0, none, none⟩) s
  | _, _ => s

end Sys2Proof.Machine
end

