-- ==== Sys2Proof/Machine/LpeOps.lean ====
section
/-! DEFINITION. Loop slots (R296–R322): configuration checks, feedback checks, the controller, Detour mode, handover, torque off.
The arithmetic is binary32 (R300). -/

namespace Sys2Proof.Machine

/-- Index of a slot record, a mirror-drive record, an actuator record. -/
abbrev LS (n : Nat) : Nat := 0x6010 + n

/-- An F32 entry as a number. -/
def State.f (s : State) (k : Nat) : Word32 := F32.ofNat (s.get k)

/-- The slot n. -/
def State.slot (s : State) (n : Nat) : Slot := nth Slot.init s.lpe.slots n

/-- The state with a slot replaced. -/
def State.putSlot (s : State) (n : Nat) (x : Slot) : State := { s with lpe := { s.lpe with slots := putNth Slot.init s.lpe.slots n x } }

/-- The actuator port a. -/
def State.actr (s : State) (a : Nat) : Act := nth Act.init s.lpe.acts a

/-- The state with an actuator replaced. -/
def State.putAct_ (s : State) (a : Nat) (x : Act) : State := { s with lpe := { s.lpe with acts := putNth Act.init s.lpe.acts a x } }

/-- Kind, port and state code of a slot. -/
def State.kind (s : State) (n : Nat) : Nat := s.get (K (LS n) 2)

/-- Port of a slot. -/
def State.lsPort (s : State) (n : Nat) : Nat := s.get (K (LS n) 3)

/-- State code of a slot (0x601n:28). -/
def State.slotState (s : State) (n : Nat) : Nat := s.get (K (LS n) 0x28)

/-- The enabled laser-scanner source on a mirror-drive port. -/
def State.scanner (s : State) (m : Nat) : Option Nat :=
  s.srcs.find? fun i => s.srcType i == 3 && s.act (K (0x4520 + i) 0x0A) == m

/-- The source that a slot serves. -/
def State.slotSrc (s : State) (n : Nat) : Option Nat :=
  match s.kind n with
  | 1 | 2 => s.scanner (s.lsPort n)
  | 3 => (s.lasUse (s.lsPort n)).map (·.1)
  | _ => none

/-- Horizontal periods per frame of the scanner of a slot. -/
def State.slotH (s : State) (n : Nat) : Nat :=
  match s.slotSrc n with | some i => s.act (K (0x4520 + i) 1) | none => 0

/-- Sample period in seconds: that of the present frame for an event-timed slot, half the nominal horizontal period for the
notches of kind 0x01 (R297, R302). -/
def State.slotTs (s : State) (n : Nat) : Word32 :=
  match s.kind n with
  | 1 => F32.ofRat (nsOfU (s.periodU s.fs.rowU)) (2 * s.slotH n * 1000000000)
  | 3 => F32.ofRat (nsOfU (s.periodU s.fs.rowU)) (s.slotH n * 1000000000)
  | _ => F32.ofRat (s.get (K (LS n) 4) * 5) 1000000000

/-- Sample period in ns. -/
def State.slotNs (s : State) (n : Nat) : Nat :=
  match s.kind n with
  | 1 => roundDiv (nsOfU (s.periodU s.fs.rowU)) (2 * s.slotH n)
  | 3 => roundDiv (nsOfU (s.periodU s.fs.rowU)) (s.slotH n)
  | _ => s.get (K (LS n) 4) * 5

/-- A shadowed gain in force (R303). -/
def State.gain (s : State) (n u : Nat) : Word32 :=
  F32.ofNat ((mapGet (s.slot n).gains u).getD (s.get (K (LS n) u)))

/-- Sub-indices of the shadowed gains (R325). -/
def gainSubs : List Nat := [7, 8, 9, 0x0A, 0x0D, 0x0E, 0x0F, 0x10, 0x11, 0x12, 0x13, 0x14, 0x15, 0x16]

/-! ### The table (R304, R305) -/

/-- The default table: zeros over −1.0 to +1.0, clamped. -/
def tableDefault : List Byte :=
  let body := toBe 4 0x5A465254 ++ toBe 2 0x0100 ++ [0, 0] ++ toBe 4 0xBF800000 ++ toBe 4 0x3F800000 ++ List.replicate 1024 0
  body ++ toBe 4 (crc32c body)

/-- The check of a table (detail 0x6005). -/
def tableOk (b : List Byte) : Bool :=
  b.length == 1044 && beAt b 0 4 == 0x5A465254 && beAt b 4 2 == 0x0100 && decide (byteAt b 6 ≤ 1) && byteAt b 7 == 0
    && beAt b 0x410 4 == crc32c (b.take 0x410)
    && (List.range 258).all (fun k => F32.finite (f32At b (8 + 4 * k))) && F32.lt (f32At b 8) (f32At b 0x0C)

/-- Table value at an index (R305). -/
def tableAt (t : Option (List Byte)) (q : Word32) : Word32 :=
  match t with
  | none => 0
  | some b =>
    let lo := f32At b 8
    let x0 := F32.div (F32.sub q lo) (F32.sub (f32At b 0x0C) lo)
    let wrap := byteAt b 6 == 1
    let fl (x : Word32) : Int := F32.floorMul x 0
    let x := if wrap then F32.mul (F32.sub x0 (F32.ofInt (fl x0))) (F32.ofInt 256)
      else F32.clamp 0 (F32.ofInt 255) (F32.mul x0 (F32.ofInt 255))
    let i : Nat := min 255 (fl x).toNat
    let v (k : Nat) : Word32 := f32At b (0x10 + 4 * (if wrap then k % 256 else min 255 k))
    F32.add (v i) (F32.mul (F32.sub x (F32.ofInt i)) (F32.sub (v (i + 1)) (v i)))

/-! ### Checks of a configuration (R299, R324) -/

/-- Cost of a sample in LOOP cycles (R299). -/
def slotCost : Nat → Nat
  | 1 => 160 | 2 => 96 | 3 => 48 | 4 => 128 | _ => 0

/-- Cycles per second of a slot, times 2^24, at the nominal frame rate (R299). -/
def State.slotLoad (s : State) (n : Nat) : Nat :=
  let rate := (F32.floorMul s.rate4 24).toNat
  match s.kind n with
  | 1 => slotCost 1 * 2 * s.slotH n * rate
  | 3 => slotCost 3 * s.slotH n * rate
  | 2 | 4 => slotCost (s.kind n) * (200000000 * 2 ^ 24 / s.get (K (LS n) 4))
  | _ => 0

/-- A slot runs: any state but off and FAULT. -/
def State.slotRuns (s : State) (n : Nat) : Bool := s.slotState n != 0 && s.slotState n != 6

/-- Cycles per second of some slots, times 2^24 (R299). -/
def State.lpeLoad (s : State) (on : Nat → Bool) : Nat := ((List.range 8).filter on).foldl (fun a n => a + s.slotLoad n) 0

/-- Load entry brought up to date. -/
def State.showLoad (s : State) : State := s.set (K 0x6000 1) (s.lpeLoad s.slotRuns * 1000 / (160000000 * 2 ^ 24))

/-- Sample period of the notches, of which that of kind 0x01 is half the nominal horizontal period (R302); likewise the nominal one of
kind 0x03. [DEDUCED, log entry 193] -/
def State.notchTs (s : State) (n : Nat) : Word32 :=
  match s.kind n with
  | 1 => F32.div 0x3F800000 (F32.mul (F32.ofInt (2 * s.slotH n)) s.rate4)
  | 3 => F32.div 0x3F800000 (F32.mul (F32.ofInt (s.slotH n)) s.rate4)
  | _ => s.slotTs n

/-- A notch centre at or above 0.45 / T_s (R302). -/
def State.notchBad (s : State) (n : Nat) : Bool :=
  let lim := F32.div 0x3EE66666 (s.notchTs n)
  !(F32.lt (s.f (K (LS n) 0x0F)) lim) || !(F32.lt (s.f (K (LS n) 0x12)) lim)

/-- The checks of R324 on the working configuration of a slot beside some others: 0, or the detail. -/
def State.slotCheckWith (s : State) (others : Nat → Bool) (n : Nat) : Nat :=
  let kd := s.kind n
  let p := s.lsPort n
  let tbl := s.dom (K (LS n) 0x18)
  let portOk : Bool := match kd with
    | 1 | 2 => decide (p ≤ 1) && (s.scanner p).isSome
    | 3 => (match s.lasUse p with | some x => s.srcType x.1 == 3 | none => false)
    | 4 => true
    | _ => false
  let rate2 := 2 * s.slotH n * (F32.floorMul s.rate4 24).toNat
  let q := s.f (K (LS n) 0x22)
  let lo := match tbl with | some b => f32At b 8 | none => 0xBF800000
  let hi := match tbl with | some b => f32At b 0x0C | none => 0x3F800000
  let twin := (List.range 8).any fun k => k != n && others k && s.kind k == kd && s.lsPort k == p
  let a := 0x6030 + p
  if !portOk then 0x6001
  else if kd = 1 ∧ (rate2 < 20000 * 2 ^ 24 ∨ 100000 * 2 ^ 24 < rate2) then 0x6002
  else if 160000000 * 2 ^ 24 < s.lpeLoad (fun k => others k || k == n) then 0x6003
  else if s.notchBad n then 0x6004
  else if (match tbl with | some b => !tableOk b | none => false) = true then 0x6005
  else if !(F32.lt (s.f (K (LS n) 0x0B)) (s.f (K (LS n) 0x0C))) || F32.lt q lo || F32.lt hi q then 0x6006
  else if twin || (s.get (K 0x3010 0x0A) == n && kd != 4) then 0x6007
  else if kd = 4 ∧ (!(F32.lt (s.f (K a 7)) (s.f (K a 8))) || F32.lt (s.f (K a 0x0E)) (s.f (K a 6))
      || decide (s.get (K a 0x0B) * s.get (K (LS n) 4) < 2 * 200000000)) = true then 0x6008
  else 0

/-- The checks of R324 on the working configuration of a slot beside those that run. -/
def State.slotCheckCfg (s : State) (n : Nat) : Nat := s.slotCheckWith s.slotRuns n

/-! ### Trajectories and setpoints (R298, R312, R314, R318) -/

/-- Time from the frame milestone of the present frame, in ns, of an instant `now + ahead`. -/
def State.inFrame (s : State) (ahead : Nat) : Nat := s.now + ahead - s.fs.fmAt

/-- The frame whose trajectory holds at a time in ns from the frame milestone, as the time from its own flyback and its period: the frame before
until the phase offset has passed, and the next one after this frame's active part (R314). Ahead of the first frame the flyback has not
begun. [DEDUCED, log entry 194] -/
def State.flybackTime (s : State) (ph t : Nat) : Int × Nat :=
  let period := nsOfU (s.periodU s.fs.rowU)
  if t < ph then
    match s.fs.prevFm with
    | some a => ((t : Int) - ph + (s.fs.fmAt - a : Nat), s.fs.fmAt - a)
    | none => ((t : Int) - ph, period)
  else if period ≤ t - ph then ((t : Int) - ph - period, nsOfU (s.lengthAt 1))
  else ((t : Int) - ph, period)

/-- Vertical trajectory of a scanner at a time in ns from the frame milestone (R314). -/
def State.trajectory (s : State) (i m t : Nat) : Word32 :=
  let h := s.act (K (0x4520 + i) 1)
  let nfb := s.act (K (0x4520 + i) 2)
  let top := s.f (K (0x6040 + m) 6)
  let bot := s.f (K (0x6040 + m) 7)
  let (u, period) := s.flybackTime (s.act (K (0x4520 + i) 5)) t
  let fly := nfb * period
  let x : Int := u * (2 * h : Nat)
  if x < fly then
    let c := F32.cosDeg (F32.mul (F32.ofInt 180) (F32.clamp 0 0x3F800000 (F32.ofRat x fly)))
    F32.add bot (F32.mul (F32.sub top bot) (F32.mul (F32.sub 0x3F800000 c) 0x3F000000))
  else F32.add top (F32.mul (F32.sub bot top) (F32.ofRat (x - fly) (2 * h * period - fly)))

/-- Half-period of a scanner at a time in ns from the frame milestone, and the time from its nominal zero crossing as a
fraction of a half-period, in degrees of 180; before half-period 0 the last one of the frame before goes on (R249). -/
def State.halfPeriod (s : State) (i t : Nat) : Nat × Word32 :=
  let period := nsOfU (s.periodU s.fs.rowU)
  let h := s.act (K (0x4520 + i) 1)
  let lag := s.act (K (0x4520 + i) 5)
  let u := if t < lag then t + period - lag else t - lag
  let k := min (2 * h - 1) (u * (2 * h) / max 1 period)
  let num : Int := 2 * (u * (2 * h) : Nat) - (2 * k + 1) * period
  (k, F32.mul (F32.ofInt 90) (F32.ofRat num period))

/-- The host setpoint of a slot, which before any write is 1.0 for kind 0x03 and else 0.0 (R325). -/
def State.hostSetpoint (s : State) (n : Nat) : Word32 :=
  if s.kind n = 3 ∧ bit s.lpe.hostSet n = false then 0x3F800000 else s.f (K (LS n) 6)

/-- The state code that a slot shows: in STANDBY a slot in CLOSED is a shadow (R321, R325). -/
def State.shownSlot (s : State) (n : Nat) : Nat := if s.mode = .standby ∧ s.slotState n = 2 then 7 else s.slotState n

/-- The setpoint of a slot at a time, but for shaping (R298). [DESIGN CHOICE, log entry 83] -/
def State.setpoint (s : State) (n ahead : Nat) : Word32 :=
  let host := s.hostSetpoint n
  match s.kind n with
  | 1 => s.f (K (0x6040 + s.lsPort n) 5)
  | 2 => if s.get (K (LS n) 5) = 1 then
      match s.scanner (s.lsPort n) with
      | some i => s.trajectory i (s.lsPort n) (s.inFrame ahead)
      | none => host
    else host
  | 4 => if s.get (K (LS n) 5) = 2 then (s.slot n).target else host
  | _ => host

/-! ### Feedback checks (R306) -/

/-- Electrical angle of an actuator in degrees: with Hall sensors 60° for each count, with the part of the present sector gone by at the speed of
the one before; from quadrature counts with the pole pairs, since the place where the rotor was aligned (R316, R317).
[DESIGN CHOICE, log entry 84] -/
def State.elecAngle (s : State) (a : Nat) : Word32 :=
  let x := s.actr a
  if s.get (K (0x6030 + a) 1) = 0 then
    let b := F32.add (Config.hallOffset a) (F32.ofInt (60 * (x.count % 6)))
    let part := F32.fmin 0x3F800000 (F32.mul (F32.abs x.speed) (F32.ofRat (s.now - x.countAt) 1000000000))
    let d := F32.mul (F32.ofInt 60) part
    if F32.lt x.speed 0 then F32.sub b d else F32.add b d
  else F32.ofRat (360 * (s.get (K (0x6030 + a) 2) : Nat) * (x.count - x.aligned)) (max 1 (Config.countsPerTurn a))

/-- N check samples, newest first, lie within the tolerance of the first of them while the applied output changes by more than the
threshold over them: between its least and its largest value. [DEDUCED, log entry 195] -/
def stuckOver (w : List Check) (n : Nat) (tol change : Word32) : Bool :=
  match w.getLast? with
  | none => false
  | some c =>
    let us := w.map (·.u)
    w.length == n && w.all (fun x => F32.le (F32.abs (F32.sub x.y c.y)) tol)
      && F32.lt change (F32.sub (us.foldl (fun a b => if F32.lt a b then b else a) c.u) (us.foldl F32.fmin c.u))

/-- The checks of R306 on the samples of a slot, newest first: the cause, of which the first that holds counts, and how many samples its
condition takes in. -/
def State.checks (s : State) (n : Nat) (h : List Check) (limit fault : Bool) : Nat × Nat :=
  let ns := s.get (K (LS n) 0x19)
  match h with
  | [] => (0, 0)
  | c :: past =>
    let grad := match past with
      | a :: _ => F32.lt (s.f (K (LS n) 0x1E)) (F32.abs (F32.sub c.y a.y))
      | [] => false
    if stuckOver (h.take ns) ns (s.f (K (LS n) 0x1A)) (s.f (K (LS n) 0x1B)) then (1, ns)
    else if limit || F32.lt c.y (s.f (K (LS n) 0x1C)) || F32.lt (s.f (K (LS n) 0x1D)) c.y then (2, 1)
    else if fault then (3, 1)
    else if grad then (4, 2) else (0, 0)

/-- The last valid sample of a slot is the newest of a list of samples; its rate is that from the sample before (R307). -/
def Slot.validFrom (x : Slot) : List Check → Slot
  | c :: a :: _ =>
    { x with valid := c.val, elec := c.elec, validAt := c.at_,
             rate := if c.at_ = a.at_ then x.rate else F32.mul (F32.sub c.val a.val) (F32.ofRat 1000000000 (c.at_ - a.at_)) }
  | c :: _ => { x with valid := c.val, elec := c.elec, validAt := c.at_ }
  | [] => x

/-- A slot is in CLOSED, DETOUR or PARKED: its feedback is checked, to enter DETOUR or to leave it (R306, R308). -/
def State.slotChecks (s : State) (n : Nat) : Bool := decide (2 ≤ s.slotState n) && decide (s.slotState n ≤ 4)

/-- A check sample of a slot (R306). In CLOSED the first condition that holds is taken at the next boundary, and the last valid sample
is the one before the first sample of that condition; in DETOUR and PARKED the last valid sample stays (R307). Stuck feedback fails until a sample
lies beyond the tolerance of the value at which it is stuck, from which the checks begin anew (R308). [DEDUCED, log entry 227] -/
def State.checkSample (s : State) (n : Nat) (y : Word32) (limit fault : Bool) : State :=
  let x := s.slot n
  let val := if s.kind n = 1 then s.f (K (0x6040 + s.lsPort n) 9) else y
  let elec := if s.kind n = 4 then s.elecAngle (s.lsPort n) else 0
  let away := match x.stuckAt with | some v => F32.lt (s.f (K (LS n) 0x1A)) (F32.abs (F32.sub y v)) | none => false
  let h := (⟨y, x.u, val, elec, s.now⟩ :: (if away then [] else x.hist)).take (s.get (K (LS n) 0x19) + 2)
  let stuck := if away then none else x.stuckAt
  let x1 : Slot := { x with hist := h, stuckAt := none }
  if !s.slotChecks n then s.putSlot n (x1.validFrom h)
  else
    let ns := s.get (K (LS n) 0x19)
    let (cause, len) := if stuck.isSome then (1, ns) else s.checks n h limit fault
    let x1 : Slot := { x1 with stuckAt := if cause = 1 then stuck.orElse fun _ => ((h.take ns).getLast?).map (·.y) else none }
    let x2 : Slot := if s.slotState n = 2 ∧ x.failed = 0 then x1.validFrom (h.drop len) else x1
    s.putSlot n { x2 with failed := if x.failed = 0 then cause else x.failed }

/-! ### Detour (R307) -/

/-- Time at which the extrapolation of a slot's Detour index ends. -/
def State.extrapEnd (s : State) (n : Nat) : Nat := (s.slot n).validAt + s.get (K (LS n) 0x21) * 1000

/-- Emitter temperature in °C of a power slot's table, from the sensor named by its emitter channel (R305). [DEDUCED, log entry 86] -/
def State.emitterTemp (s : State) (n : Nat) : Word32 :=
  match s.lasUse (s.lsPort n) with
  | some (i, e) =>
    let d := s.get (K (0x4530 + i) (0x14 + e))
    if d = 0xFF then 0 else F32.ofScaled (nth 0 s.pwr.temps (16 + d)) (-16)
  | none => 0

/-- Detour index of a slot at an instant (R307), and whether it has reached the park position. -/
def State.detourIndex (s : State) (n at_ : Nat) : Word32 × Bool :=
  let x := s.slot n
  let e := s.extrapEnd n
  let park := s.f (K (LS n) 0x22)
  match s.kind n with
  | 3 => (s.emitterTemp n, false)
  | 4 => (x.valid, false)
  | kd =>
    let ext (t : Nat) : Word32 := if kd = 2 then F32.add x.valid (F32.mul x.rate (F32.ofRat (t - x.validAt) 1000000000)) else x.valid
    if at_ ≤ e then (ext at_, false)
    else
      let q0 := ext e
      let moved := F32.mul (s.f (K (LS n) 0x23)) (F32.ofRat (at_ - e) 1000000)
      let d := F32.sub park q0
      if F32.le (F32.abs d) moved then (park, true)
      else ((if F32.lt 0 d then F32.add q0 moved else F32.sub q0 moved), false)

/-- Output of a slot in DETOUR for an instant. -/
def State.detourOut (s : State) (n at_ : Nat) : Word32 := tableAt (s.slot n).table (s.detourIndex n at_).1

/-- A slot hands over: the offset from the outgoing to the incoming output (R309). -/
def State.handover (s : State) (n : Nat) (uOut uIn : Word32) : State :=
  let x := s.slot n
  let d := F32.sub uOut uIn
  let t := (s.putSlot n { x with hand := d, handJ := 0, handN := ceilDiv (s.get (K (LS n) 0x24) * 1000) (max 1 (s.slotNs n)) }).count 6 4 1
  if F32.lt (s.f (K (LS n) 0x25)) (F32.abs d) then (t.inc (K (LS n) 0x2D)).event 0x0A 0x0B (K (LS n) 0x25) else t

/-- Remaining handover offset of a slot. -/
def Slot.offset (x : Slot) : Word32 :=
  if x.handJ < x.handN then F32.mul x.hand (F32.sub 0x3F800000 (F32.ofRat x.handJ x.handN)) else 0

/-- Axis status bits of a mirror-drive port (0x604m:0A). -/
def State.showAxis (s : State) (n : Nat) : State :=
  let m := 0x6040 + s.lsPort n
  match s.kind n with
  | 1 => s.setFlag (K m 0x0A) 0 (s.slotState n == 2)
  | 2 => s.setFlag (K m 0x0A) 1 (s.slotState n == 2)
  | _ => s

/-- The state code of a slot changes. -/
def State.setSlotState (s : State) (n st : Nat) : State := (s.set (K (LS n) 0x28) st).showAxis n

/-! ### The controller (R300–R302, R305) -/

/-- One step of a notch filter (R302). -/
def notchStep (c q depth ts : Word32) (b : Notch) (x : Word32) : Word32 × Notch :=
  if F32.le c 0 then (x, b) else
  let om := F32.tanDeg (F32.mul (F32.ofInt 180) (F32.mul c ts))
  let zp := F32.div 0x3F000000 q
  let zz := F32.mul zp (F32.exp10 (F32.div (F32.neg depth) (F32.ofInt 20)))
  let two := F32.ofInt 2
  let one : Word32 := 0x3F800000
  let o2 := F32.mul om om
  let d := F32.add (F32.add one (F32.mul two (F32.mul zp om))) o2
  let b0 := F32.div (F32.add (F32.add one (F32.mul two (F32.mul zz om))) o2) d
  let b1 := F32.div (F32.mul two (F32.sub o2 one)) d
  let b2 := F32.div (F32.add (F32.sub one (F32.mul two (F32.mul zz om))) o2) d
  let a2 := F32.div (F32.add (F32.sub one (F32.mul two (F32.mul zp om))) o2) d
  let y := F32.sub (F32.sub (F32.add (F32.add (F32.mul b0 x) (F32.mul b1 b.x1)) (F32.mul b2 b.x2)) (F32.mul b1 b.y1)) (F32.mul a2 b.y2)
  (y, ⟨x, b.x1, y, b.y1⟩)

/-- A binary32 number is negative. -/
def isNeg (x : Word32) : Bool := F32.lt x 0

/-- Values of a sample that trace can pick (R323). -/
structure Nodes where
  r : Word32
  e0 : Word32
  e1 : Word32
  e2 : Word32
  p : Word32
  ff : Word32
  tab : Word32
  raw : Word32
  out : Word32
  off : Word32
  deriving DecidableEq, Repr

/-- The nodes of a sample that computes nothing. -/
def Nodes.still (r : Word32) : Nodes := ⟨r, 0, 0, 0, 0, 0, 0, 0, 0, 0⟩

/-- The limits of R301 on the output of a slot: clamp, then rate limit from the output before. -/
def State.limitOut (s : State) (n : Nat) (raw : Word32) : Word32 :=
  let x := s.slot n
  let c := F32.clamp (s.f (K (LS n) 0x0B)) (s.f (K (LS n) 0x0C)) raw
  let lim := F32.mul (s.gain n 0x0D) (F32.mul (s.slotTs n) (F32.ofInt 1000))
  if F32.le (s.gain n 0x0D) 0 then c else F32.clamp (F32.sub x.next lim) (F32.add x.next lim) c

/-- The closed-loop computation of a sample (R300): the slot after it, with its output, and the nodes. -/
def State.control (s : State) (n : Nat) (y r : Word32) : Slot × Nodes :=
  let x := s.slot n
  let ts := s.slotTs n
  let g := s.gain n
  let e0 := F32.sub r y
  let (e1, n1) := notchStep (g 0x0F) (g 0x10) (g 0x11) x.ts x.n1 e0
  let (e, n2) := notchStep (g 0x12) (g 0x13) (g 0x14) x.ts x.n2 e1
  let p := F32.mul (g 7) e
  let tab := if (mapGet x.gains 0x0A).getD (s.get (K (LS n) 0x0A)) = 1 then
      tableAt x.table (if s.kind n = 3 then s.emitterTemp n else r) else 0
  let ff := F32.add (F32.mul (g 9) r) tab
  let raw := F32.add (F32.add (F32.add p x.i) ff) x.offset
  let u := s.limitOut n raw
  let windup := u != raw && isNeg e == isNeg (F32.sub raw u)
  let il := g 0x0E
  let i := if windup then x.i else F32.clamp (F32.neg il) il (F32.add x.i (F32.mul (F32.mul (g 8) ts) e))
  ({ x with n1 := n1, n2 := n2, e := e, p := p, i := i, next := u, handJ := x.handJ + 1 }, ⟨r, e0, e1, e, p, ff, tab, raw, u, x.offset⟩)

/-- The phase loop of a resonant slot: a second PI brings the crossing error to 0, from CLOSED entry on within ±45° of the phase there, with the
conditional integration of R301 at that limit (R301, R312). [DEDUCED, log entry 196] -/
def State.phaseLoop (s : State) (n : Nat) (eh : Word32) : State :=
  let x := s.slot n
  let e := F32.neg eh
  let raw := F32.add (F32.mul (s.gain n 0x15) e) x.iPhase
  let w : Word32 := F32.ofInt 45
  let v := if s.slotState n = 1 then raw else F32.clamp (F32.sub x.phase0 w) (F32.add x.phase0 w) raw
  let windup := v != raw && isNeg e == isNeg (F32.sub raw v)
  let i := if windup then x.iPhase else F32.add x.iPhase (F32.mul (F32.mul (s.gain n 0x16) (s.slotTs n)) e)
  s.putSlot n { x with iPhase := i, ePhase := e, nextPhase := v }

/-- A resonant slot returns to CLOSED: the drive phase goes on from the one held, about which its limit lies from now on (R301, R309).
[DEDUCED, log entry 196] -/
def State.matchPhase (s : State) (n : Nat) (eh : Word32) : State :=
  let x := s.slot n
  s.putSlot n { x with phase0 := x.nextPhase, ePhase := F32.neg eh, iPhase := F32.add x.nextPhase (F32.mul (s.gain n 0x15) eh) }

/-- What the horizontal DAC of a resonant slot carries at this instant, A_d × sin(2π f_h (t − t_FM) − φ_d) with f_h of the present frame
(R312). -/
def State.dacH (s : State) (n : Nat) : Word32 :=
  let x := s.slot n
  let period := nsOfU (s.periodU s.fs.rowU)
  let turns := F32.ofRat (360 * (s.slotH n * s.inFrame 0 % max 1 period) : Nat) (max 1 period)
  F32.mul x.u (F32.sinDeg (F32.sub turns x.phase))

/-- A gain commit is applied at a boundary: neither the output nor the drive phase steps, and what the integrator limit cuts off is handed over (R303). Under
torque off the integrator stays frozen (R310). -/
def State.applyGains (s : State) (n : Nat) : State :=
  let x := s.slot n
  match x.newGains with
  | none => s
  | some g =>
    let t := s.putSlot n { x with gains := g, ts := x.newTs, newGains := none }
    if s.slotState n = 5 then t
    else
      let p1 := F32.mul (t.gain n 7) x.e
      let want := F32.sub (F32.add x.p x.i) p1
      let il := t.gain n 0x0E
      let i := F32.clamp (F32.neg il) il want
      let ph := F32.sub (F32.add (F32.mul (s.gain n 0x15) x.ePhase) x.iPhase) (F32.mul (t.gain n 0x15) x.ePhase)
      let u := t.putSlot n { t.slot n with i := i, p := p1, iPhase := ph }
      if i = want then u else u.handover n (F32.add want x.offset) i

/-! ### Torque off (R319, R320, R398) -/

/-- Ports whose torque-off member bit is set. -/
def State.members (s : State) : List Nat := (List.range 4).filter fun a => s.get (K (0x6030 + a) 0x11) == 1

/-- Torque off acts on member ports for a cause: 0 pin, 1 Guardrail, 2 SSV (R319). -/
def State.torqueOff (s : State) (ports : List Nat) (cause : Nat) : State :=
  (ports.filter fun a => s.members.contains a).foldl (fun t a =>
    let x := t.actr a
    let u := t.putAct_ a { x with causes := setBit x.causes cause true, freeAt := none, duty := [0, 0, 0] }
    let v := (u.set (K 0x6000 5) (setBit (u.get (K 0x6000 5)) a true)).set (K (0x6030 + a) 0x14)
      (setBit (setBit (u.get (K (0x6030 + a) 0x14)) 4 true) 3 false)
    (List.range 8).foldl (fun w n =>
      if w.kind n = 4 ∧ w.lsPort n = a ∧ w.slotRuns n = true then
        let y := w.slot n
        (w.putSlot n { y with u := 0, next := 0, handN := 0 }).setSlotState n 5
      else w) v) s

/-- A record of block 0x0B and kind 0x09 is active (R398). [DEDUCED, log entry 87] -/
def State.stoMismatch (s : State) : Bool :=
  s.safe.log.any fun e => match e with | some x => x.src == 0x0B && x.kind == 9 && x.active | none => false

/-- The conditions of R398 for a port. -/
def State.torqueMayRelease (s : State) (a : Nat) : Bool :=
  !s.lpe.sto && decide (s.lpe.stoHighSince + 1000000 ≤ s.now) && !s.stoMismatch && !bit (s.actr a).causes 2

/-- An actuator without homing takes its home position where it stands (R317). -/
def State.homeHere (s : State) (n : Nat) : State :=
  let p := s.lsPort n
  let a := 0x6030 + p
  let y := s.actr p
  let c := F32.roundMul (F32.mul (s.f (K a 4)) (s.f (K a 3))) 0
  ((s.putAct_ p { y with count := c, aligned := y.aligned + (c - y.count) }).set (K a 0x12) (s.f (K a 4)).toNat).setFlag (K a 0x14) 0 true

/-- A slot goes on after torque off: to CLOSED with a handover from 0, after a new homing where its sensor was lost (R309, R317, R320). -/
def State.slotFreed (s : State) (n : Nat) : State :=
  let y := s.slot n
  let a := 0x6030 + s.lsPort n
  let x : Slot := { y with u := 0, next := 0, outgoing := some 0, lost := false }
  if y.lost && s.get (K a 5) == 0 then
    let h := s.f (K a 4)
    ((s.putSlot n { x with r := h, vel := 0, valid := h, validAt := s.now }).homeHere n).setSlotState n 2
  else if y.lost then (s.putSlot n { x with startAt := s.now, t0 := s.now - s.now % 5, k := 0, stallAt := none }).setSlotState n 1
  else (s.putSlot n x).setSlotState n 2

/-- A release of torque off of the ports of a mask: path 1 is on at once, and path 2 after 100 µs; the answer says whether a port stays latched.
Every request bit that no trigger holds is cleared (R398, R320). -/
def State.torqueRelease (s : State) (mask : Nat) : State × Bool :=
  let held := (List.range 4).filter fun a => bit mask a && bit (s.get (K 0x6000 5)) a
  let free := held.filter s.torqueMayRelease
  let asked := (List.range 4).foldl (fun v a => if bit mask a && (free.contains a || !held.contains a) then setBit v a false else v) (s.get (K 0x6000 3))
  let t := free.foldl (fun t a =>
    let u := t.putAct_ a { t.actr a with causes := 0, freeAt := some (t.now + 100000) }
    let v := (u.set (K 0x6000 5) (setBit (u.get (K 0x6000 5)) a false)).setFlag (K (0x6030 + a) 0x14) 4 false
    (List.range 8).foldl (fun w n =>
      if w.kind n = 4 ∧ w.lsPort n = a ∧ w.slotState n = 5 then
        (w.slotFreed n).setFlag (K (0x6030 + a) 0x14) 3 (w.outputsOn && w.mode != .standby)
      else w) v) (s.set (K 0x6000 3) asked)
  (t, decide (free.length < held.length))

/-- Some slot of the scanner's port is in DETOUR or PARKED (condition 5 of R255). -/
def State.axisDetour (s : State) (m : Nat) : Bool :=
  (List.range 8).any fun n => (s.kind n == 1 || s.kind n == 2) && s.lsPort n == m && (s.slotState n == 3 || s.slotState n == 4)

end Sys2Proof.Machine
end

