-- ==== Sys2Proof/Machine/Projection.lean ====
section
/-! DEFINITION. Commands of chapter 07: plane and colour commits, plane slots, scan lines, Scan Guard. -/

namespace Sys2Proof.Machine

/-- Nominal row period for committed values. -/
def State.comRowU (s : State) : Nat := rowUOf (F32.ofNat (s.com (K 0x4300 2))) (s.com (K 0x4300 3) + s.com (K 0x4300 4))

/-- The check of a plane table for a choice of values: 0, or the detail of R260. -/
def planeCheck (g : Nat → Nat) (i : Nat) (b : List Byte) : Nat :=
  let ty := g (K (0x4330 + i) 2)
  let fields := if ty = 2 ∨ ty = 3 then max 1 (g (K (0x4530 + i) 1)) else 1
  let depth := g (K (0x4500 + i) 1)
  let ps := tablePlanes b
  let d := dwellIn g i
  let rows := g (K 0x4300 3) + g (K 0x4300 4)
  let rowU := rowUOf (F32.ofNat (g (K 0x4300 2))) rows
  if !planeForm b fields depth then 0x4501
  else if !weightsOk ps fields depth then 0x4502
  else if !scheduleFits (slotsPs ps (g (K (0x4500 + i) 2)) d) d (g (K 0x4300 4)) rows rowU then 0x4503
  else 0

/-- Plane table commit of a source (R234, R235, R237, R174). -/
def State.planeCommit (s : State) (i : Nat) : State × Code :=
  let k := 0x4500 + i
  let b := (s.dom (K k 3)).getD (planeBytes planeDefault)
  let d := planeCheck s.com i b
  if d ≠ 0 then s.refuse (K k 6) d
  else
    let n := s.landingFrame
    (((s.arm (K k 4) [] [(K k 3, b)] n (s.dimsPending i)).set (K k 5) n).set (K k 6) 0, ok)

/-- Effect of a write to a plane table commit entry. -/
def effPlaneCommit (i : Nat) : Effect := fun s _ => s.planeCommit i

/-- A plane-table commit checks the pending table and arms it (R234). -/
def execPlaneTableCommit (dt : Nat) (rq : Rq) (i : Fin 4) (s : State) : Res :=
  done ((s.tick dt).command rq (K (0x4500 + i) 4) 1 (effPlaneCommit i))

/-- The check of a colour table and its field masks for a choice of values: 0, or the detail of R260. -/
def colourCheck (g : Nat → Nat) (i : Nat) (b : List Byte) (masks : List Nat) : Nat :=
  let f := max 1 (g (K (0x4530 + i) 1))
  let one : Word32 := 0x3F800000
  let formOk := b.length == 328 && beAt b 0 4 == 0x5A434F4C && beAt b 4 2 == 0x0100 && byteAt b 6 == f
    && decide (1 ≤ byteAt b 7 ∧ byteAt b 7 ≤ 3) && beAt b 0x144 4 == crc32c (b.take 0x144)
  let exists_ (e : Nat) : Bool := field (g (K (0x4530 + i) (0x0B + e))) 31 24 != 0
  let driveOk := (List.range f).all fun p =>
    F32.lt 0 (drawWeight b p) && (List.range 3).all fun e =>
      let a := driveVec b p e
      F32.le 0 a && F32.le a one && (exists_ e || F32.le (F32.abs a) 0)
  if !formOk then 0x4501
  else if !driveOk then 0x4505
  else if masks.any fun m => decide (2 ^ f ≤ m) then 0x4507
  else 0

/-- Colour commit of a source: table and field masks land together (R244, R245, R248). -/
def State.colourCommit (s : State) (i : Nat) : State × Code :=
  let k := 0x4530 + i
  let b := (s.dom (K k 2)).getD colourDefault
  let masks := s.snap (keys k 4 0x0A)
  let d := colourCheck s.com i b (masks.map (·.2))
  if d ≠ 0 then s.refuse (K k 0x1C) d
  else ((s.arm (K k 3) masks [(K k 2, b)] s.landingFrame (s.dimsPending i)).set (K k 0x1C) 0, ok)

/-- Effect of a write to a colour commit entry. -/
def effColourCommit (i : Nat) : Effect := fun s _ => s.colourCommit i

/-- A colour commit checks the colour table and field masks and arms them together (R245). -/
def execColourCommit (dt : Nat) (rq : Rq) (i : Fin 4) (s : State) : Res :=
  done ((s.tick dt).command rq (K (0x4530 + i) 3) 1 (effColourCommit i))

/-! ### Light of a source -/

/-- What the PTU holds for a source. -/
def State.ptu (s : State) (i : Nat) : PtuSrc := nth PtuSrc.init s.prj.src i

/-- The state with it replaced. -/
def State.putPtu (s : State) (i : Nat) (x : PtuSrc) : State := { s with prj := { s.prj with src := putNth PtuSrc.init s.prj.src i x } }

/-- Light may leave the source in the present frame: outputs enabled, first light past, the frame not dark, no Roadblock (R51,
R175, R395, R565). -/
def State.emits (s : State) (i : Nat) : Bool :=
  s.srcOn i && s.outputsOn && s.fs.firstLight && !s.fs.dark && !s.roadblocked i && s.mode != .safe && s.mode != .standby

/-- White-point gain of an emitter (R246). -/
def State.white (s : State) (i e : Nat) : Word32 := F32.ofScaled (s.get (K (0x4530 + i) (0x18 + e))) (-15)

/-! ### Sinks -/

/-- Index of a channel record. -/
abbrev SK (c : Nat) : Nat := 0xA000 + c

/-- A channel. -/
def State.chan (s : State) (c : Nat) : Chan := nth Chan.init s.skb.chans c

/-- The state with a channel replaced. -/
def State.putChan (s : State) (c : Nat) (x : Chan) : State := { s with skb := { s.skb with chans := putNth Chan.init s.skb.chans c x } }

/-- Range of a group in mA (R264). -/
def State.rangeMa (s : State) (g : Nat) : Nat := match s.get (K (0x5010 + g) 1) with | 0 => 25 | 1 => 50 | _ => 100

/-- Source and emitter of an illumination sink (R240). -/
def State.sinkUse (s : State) (c : Nat) : Option (Nat × Nat) :=
  (s.srcs.flatMap fun i => (List.range 3).map fun e => (i, e)).find? fun x =>
    let v := s.act (K (0x4530 + x.1) (0x0B + x.2))
    s.srcType x.1 == 2 && field v 31 24 == 1 && bit (field v 15 0) (c / 8)

/-- Sinks of an emitter channel that is a set of sink groups (R240). -/
def State.illumSinks (s : State) (i e : Nat) : List Nat :=
  let v := s.act (K (0x4530 + i) (0x0B + e))
  if s.srcType i = 2 ∧ field v 31 24 = 1 then (List.range 128).filter fun c => bit (field v 15 0) (c / 8) else []

/-- Charge of a sink in this frame, in mA × LOOP cycles × 1,023, by which its mean current is known (R271). -/
def State.addCharge (s : State) (c n : Nat) : State := s.putChan c { s.chan c with charge := (s.chan c).charge + n }

/-- A plane's light in the sinks of its emitters: a sink switched off by a fault takes none, and a slot is a new period for the measurements
(R269–R271). -/
def State.lightSinks (s : State) (i : Nat) (ds : List Drive) : State :=
  ds.foldl (fun t d => (t.illumSinks i d.emitter).foldl (fun u c =>
    let f := K (SK c) 0x0D
    let v := if bit (u.get f) 4 then u.setFlag f 4 false else u
    if bit (v.get f) 5 then v else v.addCharge c ((F32.roundMul (F32.mul d.level (F32.ofInt (1023 * d.len))) 0).toNat / 2)) t) s

/-! ### Planes -/

/-- A level as the 12-bit setpoint code of a LAS port (R240). -/
def lasCode (v : Word32) : Nat := min 4095 (F32.roundMul v 0).toNat

/-- The loop slot that regulates a LAS port, if one runs (R248, R296). -/
def State.powerSlot (s : State) (p : Nat) : Option Nat :=
  (List.range 8).find? fun n => s.kind n == 3 && s.lsPort n == p && s.slotRuns n

/-- Setpoint code of an emitter of a scanner: the output of the power loop on its port, or its full level (R240, R248, R315). -/
def State.setpointCode (s : State) (i e : Nat) : Nat :=
  match s.powerSlot (field (s.act (K (0x4530 + i) (0x0B + e))) 23 16) with
  | some n => lasCode (s.slot n).next
  | none => lasCode (F32.ofNat (s.act (K (0x4530 + i) (0x0E + e))))

/-- After a takeover a slot shows its plane when that could be complete 0.5 µs before it (R457, R460). -/
def State.planeLoaded (s : State) (i : Nat) : Bool :=
  match s.tw.joinAt with | some a => decide (a + s.dwellOf i ≤ s.now) | none => true

/-- A plane slot of a mirror-array source starts: the illumination of its emitters, and the next plane on the link (R236, R238,
R240–R242, R247). [DEDUCED, log entry 73] -/
def State.planeSlot (s : State) (i k : Nat) : State :=
  match (s.planes4 i)[k]? with
  | none => s
  | some pl =>
    let kk := 0x4530 + i
    let x := s.ptu i
    let shows := s.emits i && s.planeLoaded i && (s.epsOf i).all fun e => s.portShows e && !s.linkBlank e && s.get (K (0x4400 + e) 0x0B) == 3 && !(s.port e).dark
    let one : Word32 := 0x3F800000
    let gap := s.act (K (0x4500 + i) 2) * 2 / 5
    let mn := F32.ofRat (s.get (K (0x4500 + i) 0x0A)) 65535
    let base := F32.mul (F32.ofRat pl.cur 65535) (F32.ofRat x.scale 65535)
    let ems := (List.range 3).filter fun e => field (s.act (K kk (0x0B + e))) 31 24 != 0
    let lam (e : Nat) : Word32 := F32.mul (F32.mul base (driveVec (s.colour i) pl.fld e)) (s.white i e)
    let level (e : Nat) (l : Word32) : Word32 :=
      let v := F32.mul l (F32.ofNat (s.act (K kk (0x0E + e))))
      if field (s.act (K kk (0x0B + e))) 31 24 = 2 then F32.ofInt (lasCode v) else v
    let drive (e : Nat) : Drive :=
      let l := lam e
      if F32.lt l mn then ⟨e, level e mn, gap, (F32.roundMul (F32.mul (F32.ofInt pl.light) (F32.div l mn)) 0).toNat⟩
      else ⟨e, level e (F32.fmin one l), gap, pl.light⟩
    let short := ems.any fun e => F32.lt (lam e) mn
    let sat := ems.any fun e => F32.lt one (lam e)
    let ds := if shows then (ems.map drive).filter fun d => d.len != 0 else []
    let longest := (s.planes4 i).all fun q => q.fld != pl.fld || decide (q.light ≤ pl.light)
    let lit := if longest then ds.foldl (fun m d => mapPut m (3 * pl.fld + d.emitter) d.level) x.lit else x.lit
    let t := (s.putPtu i { x with slot := some k, drive := ds, pulses := [], lit := lit }).lightSinks i ds
    let t1 := if shows && short then (t.inc (K (0x4500 + i) 0x0B)).count 4 3 1 else t
    let t2 := if shows && sat then t1.inc (K kk 0x1B) else t1
    (t2.count 4 1 1).sendPlane i (k + 1) (s.act (K (0x4500 + i) 2))

/-- A plane slot starts (R236, R240). -/
def execPlaneSlot (dt : Nat) (i : Fin 4) (k : Fin 32) (s : State) : Res :=
  let t := s.tick dt
  done (t.inDomains [0x17] fun t => if t.srcOn i && t.srcType i == 2 && t.fs.running then t.planeSlot i k else t)

/-! ### Scan lines (R249–R253) -/

/-- A binary32 approximation of π. -/
def piF : Word32 := 0x40490FDB

/-- Horizontal period of the present frame in ps. -/
def State.thPs (s : State) (i : Nat) : Nat := roundDiv (s.periodU s.fs.rowU * 2500) (65536 * max 1 (s.act (K (0x4520 + i) 1)))

/-- Sine of the active phase. -/
def State.sinA (s : State) (i : Nat) : Word32 := F32.sinDeg (F32.ofFx (s.act (K (0x4520 + i) 3)))

/-- Centre dwell τ_c in ps (R251) for a horizontal period in ps. -/
def State.centreDwell (s : State) (i thPs : Nat) : Word32 :=
  F32.div (F32.mul (s.sinA i) (F32.ofInt thPs)) (F32.mul piF (F32.ofInt (s.actW i)))

/-- Full pulse width W_F in taps of 78.125 ps (R252). -/
def State.fullWidth (s : State) (i : Nat) : Nat :=
  (F32.floorMul (F32.div (F32.mul (F32.ofRat (s.act (K (0x4520 + i) 6)) 65536) (s.centreDwell i (s.thPs i))) (F32.ofRat 78125 1000)) 0).toNat

/-- A time in ps as taps, to nearest. -/
def tapsOf (ps : Word32) : Int := F32.roundMul (F32.div ps (F32.ofRat 78125 1000)) 0

/-- The pulses of an emitter on a line: columns in emission order with the remainder carried along, and how many saturate (R252). -/
def linePulses (e wf : Nat) (drive : Nat → Word32) (at_ : Nat → Int) (cols : List Nat) : List Pulse × Nat :=
  let r := cols.foldl (fun (acc : List Pulse × Nat × Word32) j =>
    let (ps, sat, v0) := acc
    let v := F32.add v0 (F32.div (F32.mul (drive j) (F32.ofInt wf)) (F32.ofInt 65535))
    let w : Nat := (F32.floorMul v 0).toNat
    let full := decide (wf < w)
    let width := if full then wf else w
    let rest : Word32 := if full then 0 else F32.sub v (F32.ofInt w)
    let p : Pulse := ⟨e, j, at_ j - (width / 2 : Nat), width⟩
    (if width = 0 then ps else ps ++ [p], if full then sat + 1 else sat, rest)) ([], 0, 0)
  (r.1, r.2.1)

/-- Reference pulses of a forward half-period: n_ref pulses spread evenly over the window from θa to θr (R253), as column 0xFFFF.
[DEDUCED, log entry 74] -/
def State.refPulses (s : State) (i e : Nat) : List Pulse :=
  let k := 0x4520 + i
  let n := s.act (K k 8)
  let th := F32.ofInt (s.thPs i)
  let ph (x : Word32) : Word32 := F32.mul th (F32.div x (F32.ofInt 360))
  let a := ph (F32.ofFx (s.act (K k 3)))
  let b := ph (F32.ofFx (s.act (K k 4)))
  (List.range n).map fun j =>
    let c := F32.add a (F32.mul (F32.sub b a) (F32.ofRat (2 * j + 1) (2 * n)))
    ⟨e, 0xFFFF, tapsOf c - (s.act (K k 9) / 2 : Nat), s.act (K k 9)⟩

/-- Half-period h of a scanner: the pulses of its line, and its reference pulses; with the reference window of a forward half-period the
setpoint codes of its LAS ports change (R240, R249–R253, R258, R315). -/
def State.laserLine (s : State) (i h : Nat) : State :=
  let k := 0x4520 + i
  let kk := 0x4530 + i
  let nfb := s.act (K k 2)
  let w := s.actW i
  let m := s.act (K k 0x0A)
  let fwd := h % 2 == 0
  let wf := s.fullWidth i
  let th := s.thPs i
  let ems := (List.range 3).filter fun e => field (s.act (K kk (0x0B + e))) 31 24 == 2
  let fields := List.range (s.fieldsOf i)
  let line := decide (nfb ≤ h) && decide (h - nfb < s.actH i)
  let rows := if line then fields.map fun p => (s.sentRow i p (h - nfb)).2 else []
  let drive (e j : Nat) : Word32 := fields.foldl (fun a p =>
    F32.add a (F32.mul (F32.mul (F32.ofInt ((nth 0 (nth [] rows p) j : Nat) : Int)) (driveVec (s.colour i) p e)) (s.white i e))) 0
  let db := s.biTaps i
  let at_ (j : Nat) : Int :=
    let x := F32.ofRat (2 * (j : Int) + 1 - w) (max 1 w)
    let psi := F32.asinDeg (F32.mul x (s.sinA i))
    let tau := F32.mul (F32.div psi (F32.ofInt 360)) (F32.ofInt th)
    tapsOf (if fwd then tau else F32.neg tau) + db
  let cols := if fwd then List.range w else (List.range w).reverse
  let res := ems.map fun e => if line then linePulses e wf (drive e) at_ cols else ([], 0)
  let refs := if fwd then ems.flatMap fun e => s.refPulses i e else []
  let pulses := res.flatMap (·.1) ++ refs
  let sat := res.foldl (fun a r => a + r.2) 0
  let on := s.emits i && s.get (K (0x4540 + m) 7) == 2
  let codes := if fwd then ems.map fun e => (e, s.setpointCode i e) else (s.ptu i).power
  let t := s.putPtu i { s.ptu i with slot := some h, drive := [], pulses := if on then pulses else [], power := codes }
  let t1 := ((t.addTo (K k 0x0E) sat).addTo (K kk 0x1B) sat)
  let t2 := ((t1.set (K k 0x0B) wf).set (K k 0x0C) (F32.floorMul (F32.div (F32.ofInt 1000000000) (s.centreDwell i th)) 0).toNat)
  if on then t2.count 4 2 pulses.length else t2.count 4 4 pulses.length

/-- The PTU places the pulses of one half-period of a scanner (R252). -/
def execLaserLine (dt : Nat) (i : Fin 4) (h : Nat) (s : State) : Res :=
  let t := s.tick dt
  done (t.inDomains [0x17] fun t => if t.srcOn i && t.srcType i == 3 && t.fs.running && decide (h < 2 * t.act (K (0x4520 + i) 1)) then t.laserLine i h else t)

/-! ### Scan Guard (R255–R257) -/

/-- Scan Guard of a mirror-drive port. -/
def State.guard (s : State) (m : Nat) : Guard := nth Guard.init s.prj.guards m

/-- The state with it replaced. -/
def State.putGuard (s : State) (m : Nat) (g : Guard) : State := { s with prj := { s.prj with guards := putNth Guard.init s.prj.guards m g } }

/-- A condition of R255 fails: an enabled guard trips on both paths, a stabilising one starts again; the third trip within 10 s
latches it off (R256, R257, R399). [DEDUCED, log entry 75] -/
def State.guardFail (s : State) (m cause : Nat) : State :=
  let k := 0x4540 + m
  let st := s.get (K k 7)
  let g := s.guard m
  let t := s.putGuard m { g with okSince := none }
  if st = 2 then
    let trips := (g.trips.filter fun a => decide (t.now < a + 10000000000)) ++ [t.now]
    let latched := decide (3 ≤ trips.length)
    let u := (t.putGuard m { g with okSince := none, trips := if latched then [] else trips, failH := 0, failV := 0 })
    let u1 := (((u.set (K k 7) (if latched then 3 else 0)).inc (K k 8)).set (K k 9) cause).set (K k 0x0A) u.timeNs
    let dark := match u1.scanner m with | some i => u1.putPtu i { u1.ptu i with pulses := [], drive := [] } | none => u1
    let u2 := dark.setLas.event 8 0x13 (m * 256 + cause)
    if latched then u2.event 8 0x12 3 else u2
  else if st = 1 then t.set (K k 7) 0
  else t

/-- Every condition holds: an idle guard begins to stabilise (R257). -/
def State.guardPass (s : State) (m : Nat) : State :=
  let k := 0x4540 + m
  let g := s.guard m
  let t := if g.okSince.isNone then s.putGuard m { g with okSince := some s.now } else s
  if t.get (K k 7) = 0 then t.set (K k 7) 1 else t

/-- A sense sample of a scanner's mirror: codes of both axes, which inputs are at a limit or faulty (bit 0 horizontal), whether the horizontal axis
is at a turnaround, and whether the delay line is locked (R251, R255, R306). The horizontal DAC takes its next value at the same 4 MS/s (R312).
[DEDUCED, log entry 75] -/
def State.senseSample (s : State) (m : Nat) (hCode vCode : Int) (turn : Bool) (limit fault : Fin 4) (dll : Bool) : State :=
  let r := 0x6040 + m
  let hDeg := F32.add (F32.mul (F32.ofInt hCode) (s.f (K r 1))) (s.f (K r 2))
  let vDeg := F32.add (F32.mul (F32.ofInt vCode) (s.f (K r 3))) (s.f (K r 4))
  let axis (kd : Nat) : Option Nat := (List.range 8).find? fun n => s.kind n == kd && s.lsPort n == m && s.slotRuns n
  let t := match axis 1 with
    | some n => let u := s.checkSample n hDeg (bit limit 0) (bit fault 0); u.putSlot n { u.slot n with dac := u.dacH n }
    | none => s
  let t := match axis 2 with | some n => t.checkSample n vDeg (bit limit 1) (bit fault 1) | none => t
  match t.scanner m with
  | none => t
  | some i =>
    let k := 0x4540 + m
    let t := t.set (K (0x4520 + i) 0x0F) (b2n dll)
    let amp := t.f (K r 9)
    let goal := t.f (K r 5)
    let pct (u : Nat) : Word32 := F32.ofRat (t.get (K k u)) 1000
    let now := t.inFrame 0
    let (h, ang) := t.halfPeriod i now
    let late := F32.mul (F32.ofInt 180) (F32.ofRat ((t.ptu i).crossing * (2 * t.act (K (0x4520 + i) 1) : Nat)) (nsOfU (t.periodU t.fs.rowU) * 1000))
    let sinv := F32.sinDeg (F32.sub ang late)
    let pred := F32.mul amp (if h % 2 = 0 then sinv else F32.neg sinv)
    let badH := F32.lt (F32.mul (pct 3) amp) (F32.abs (F32.sub hDeg pred))
    let badV := F32.lt (F32.ofFx (t.get (K k 4))) (F32.abs (F32.sub vDeg (t.trajectory i m now)))
    let g := t.guard m
    let fH := if badH then g.failH + 1 else 0
    let fV := if badV then g.failV + 1 else 0
    let t := t.putGuard m { g with failH := fH, failV := fV, lastH := hDeg, lastV := vDeg }
    let ng := t.get (K k 5)
    let cause :=
      if turn && F32.lt (F32.abs hDeg) (F32.mul (pct 1) goal) then 1
      else if turn && F32.lt (F32.mul (pct 2) goal) (F32.abs hDeg) then 2
      else if limit != 0 || fault != 0 then 5
      else if t.axisDetour m then 6
      else if !dll then 7
      else if t.roadblocked i then 8
      else if ng ≤ fH then 3
      else if ng ≤ fV then 4 else 0
    if cause ≠ 0 then t.guardFail m cause
    else if badH || badV then (if t.get (K k 7) = 2 then t else t.guardFail m (if badH then 3 else 4))
    else t.guardPass m

/-- A 4 MS/s mirror sense sample is checked against the Scan Guard windows (R255). -/
def execSenseSample (dt : Nat) (m : Fin 2) (hCode vCode : Int) (turn : Bool) (limit fault : Fin 4) (dll : Bool) (s : State) : Res :=
  done ((s.tick dt).inDomains [0x17, 0x22] fun t => t.senseSample m hCode vCode turn limit fault dll)

/-- The delay line of a scanner loses its lock: Scan Guard trips with cause 0x07 (R251, R255). -/
def execDelayLineUnlock (dt : Nat) (i : Fin 4) (s : State) : Res :=
  let t := s.tick dt
  done (t.inDomains [0x17] fun t => if t.srcOn i && t.srcType i == 3 then (t.set (K (0x4520 + i) 0x0F) 0).guardFail (t.act (K (0x4520 + i) 0x0A)) 7 else t)

/-- After T_stab with every condition met the guard is enabled; a latched one also needs its fault acknowledged (R257). -/
def State.guardStable (s : State) (m : Nat) : State :=
  let k := 0x4540 + m
  let st := s.get (K k 7)
  match (s.guard m).okSince with
  | some a =>
    if a + s.get (K k 6) * 1000000 ≤ s.now ∧ (st = 1 ∨ (st = 3 ∧ s.logLatched 8 0x12 3 = false)) then (s.set (K k 7) 2).setLas else s
  | none => s

/-- Every condition has held for T_stab: the laser emits again from the next line (R257). -/
def execScanGuardStabilised (dt : Nat) (m : Fin 2) (s : State) : Res := done ((s.tick dt).inDomains [0x17] fun t => t.guardStable m)

end Sys2Proof.Machine
end

