-- ==== Sys2Proof/Machine/Loops.lean ====
section
/-! DEFINITION. Commands of chapter 09: slot samples, gain commits, tables, starts and stops, Detour, actuators, Safe Torque Off. -/

namespace Sys2Proof.Machine

/-- Owner of a loop slot in the claim table (R66). -/
def slotOwner (n : Nat) : Nat := 0x0B * 256 + n

/-- Claim records of a slot: its own, and the ACT port of an actuator slot (R296). -/
def State.slotRecs (s : State) (n : Nat) : List Nat := (0x85 + n) :: (if s.kind n = 4 then [0x93 + s.lsPort n] else [])

/-- A slot starts with the working gains and table (R303, R313, R314, R317). -/
def State.startSlot (s : State) (n : Nat) : State :=
  let r := LS n
  let kd := s.kind n
  let g := gainSubs.map fun u => (u, s.get (K r u))
  let tbl := (s.dom (K r 0x18)).getD tableDefault
  let full := match s.lasUse (s.lsPort n) with | some (i, e) => F32.ofNat (s.act (K (0x4530 + i) (0x0E + e))) | none => 0
  let home := if kd = 4 ∧ s.get (K (0x6030 + s.lsPort n) 5) = 0 then s.f (K (0x6030 + s.lsPort n) 4) else 0
  let x0 : Slot := { Slot.init with startAt := s.now, t0 := s.now - s.now % 5, gains := g, ts := s.notchTs n, table := some tbl,
                                    validAt := s.now, valid := home, r := home }
  let x : Slot := if kd = 3 then { x0 with u := full, next := full } else x0
  let t := (s.claim (s.slotRecs n) (slotOwner n)).putSlot n x
  let a := 0x6030 + t.lsPort n
  let t1 := if kd = 4 ∧ t.get (K a 5) = 0 then t.homeHere n else t
  let moving := kd = 1 ∨ (kd = 2 ∧ t.get (K r 5) = 1) ∨ (kd = 4 ∧ t.get (K a 5) ≠ 0)
  let off := kd = 4 ∧ bit (t.get (K 0x6000 5)) (t.lsPort n) = true
  let t2 := if kd = 4 then (t1.setFlag (K a 0x14) 2 false).setFlag (K a 0x14) 3 (!bit (t1.get (K 0x6000 5)) (t1.lsPort n) && t1.outputsOn && t1.mode != .standby) else t1
  (t2.setSlotState n (if off then 5 else if moving then 1 else 2)).showLoad

/-- Slot command 0x01 (R322, R324). -/
def State.slotStart (s : State) (n : Nat) : State × Code :=
  if s.mode ≠ .preop ∧ s.mode ≠ .operate ∧ s.mode ≠ .safe then (s, (0x0401, s.mode.code))
  else if s.slotRuns n then (s, (0x0402, 0))
  else
    let d := s.slotCheckCfg n
    match s.claimBlock (s.slotRecs n) (slotOwner n) with
    | some r => (s, (0x0402, r))
    | none => if d ≠ 0 then (s, (0x0403, d)) else (s.startSlot n, ok)

/-- Slot command 0x02: refused while the slot serves an enabled scanner or is the levelling slot in use (R322). -/
def State.slotStop (s : State) (n : Nat) : State × Code :=
  let lev := s.get (K 0x3010 0x0A) == n && (s.get (K 0x3010 1) == 2 || s.get (K 0x3010 1) == 3)
  if (s.slotSrc n).isSome || lev then (s, (0x0402, 0))
  else if s.slotState n = 6 then (((s.setSlotState n 0).unclaim (s.slotRecs n)).showLoad, ok)
  else if s.slotState n = 0 then (s, ok)
  else (s.putSlot n { s.slot n with stop := true }, ok)

/-- Slot command 0x03 (R306). -/
def State.slotDetour (s : State) (n : Nat) : State × Code :=
  if s.slotState n = 2 then (s.putSlot n { s.slot n with detour := some 5 }, ok) else (s, (0x0402, 0))

/-- Slot command 0x04: refused while the cause persists (R308). -/
def State.slotLeave (s : State) (n : Nat) : State × Code :=
  let x := s.slot n
  if (s.slotState n = 3 ∨ s.slotState n = 4) ∧ x.failed = 0 ∧ x.persists = false then (s.putSlot n { x with leave := true }, ok)
  else (s, (0x0402, 0))

/-- Effect of a write to a slot command entry. -/
def effSlotCommand (n : Nat) : Effect := fun s v =>
  match v with
  | 1 => s.slotStart n
  | 2 => s.slotStop n
  | 3 => s.slotDetour n
  | 4 => s.slotLeave n
  | _ => (s, ok)

/-- Slot command 0x01 checks a slot's configuration and starts it (R322). -/
def execSlotStart (dt : Nat) (rq : Rq) (n : Fin 8) (s : State) : Res :=
  done ((s.tick dt).command rq (K (LS n) 0x27) 1 (effSlotCommand n))

/-- Slot command 0x02 sets the output to 0 at the next boundary (R322). -/
def execSlotStop (dt : Nat) (rq : Rq) (n : Fin 8) (s : State) : Res :=
  done ((s.tick dt).command rq (K (LS n) 0x27) 2 (effSlotCommand n))

/-- Slot command 0x03 enters DETOUR with cause 0x05 (R306). -/
def execEnterDetour (dt : Nat) (rq : Rq) (n : Fin 8) (s : State) : Res :=
  done ((s.tick dt).command rq (K (LS n) 0x27) 3 (effSlotCommand n))

/-- Slot command 0x04 returns to CLOSED when the feedback passes (R308). -/
def execLeaveDetour (dt : Nat) (rq : Rq) (n : Fin 8) (s : State) : Res :=
  done ((s.tick dt).command rq (K (LS n) 0x27) 4 (effSlotCommand n))

/-- Gain commit of a slot: checked under R324, then stored for the next boundary (R303, R310). -/
def State.gainCommitSlot (s : State) (n : Nat) : State × Code :=
  let d := s.slotCheckCfg n
  if d ≠ 0 then (s, (0x0403, d))
  else
    let g := gainSubs.map fun u => (u, s.get (K (LS n) u))
    if s.slotRuns n then (s.putSlot n { s.slot n with newGains := some g, newTs := s.notchTs n }, ok)
    else (s.putSlot n { s.slot n with gains := g, ts := s.notchTs n }, ok)

/-- Effect of a write to a gain commit entry. -/
def effGainCommit (n : Nat) : Effect := fun s _ => s.gainCommitSlot n

/-- A gain commit checks the shadow gains of a slot and applies them at the next boundary (R303). -/
def execGainCommit (dt : Nat) (rq : Rq) (n : Fin 8) (s : State) : Res :=
  done ((s.tick dt).command rq (K (LS n) 0x17) 1 (effGainCommit n))

/-- Effect of a write of a host setpoint, which from then on has no default of its kind (R325). -/
def effHostSetpoint (n : Nat) : Effect := fun s v =>
  ({ s with lpe := { s.lpe with hostSet := setBit s.lpe.hostSet n true } }.set (K (LS n) 6) v, ok)

/-- A downloaded table is checked; it acts at the next boundary (R304). -/
def State.tableWrite (s : State) (n : Nat) (b : List Byte) : State × Code :=
  if byteAt b 7 ≠ 0 then (s, (0x0301, 0))
  else if tableOk b then ((s.setDom (K (LS n) 0x18) b).putSlot n { s.slot n with table := some b }, ok) else (s, (0x0403, 0x6005))

/-! ### Slot samples -/

/-- A slot in CLOSED enters DETOUR at this boundary, from the output `uOut` it would apply at the next one; a mirror slot trips Scan Guard at
once (R306, R307, R309). -/
def State.intoDetour (s : State) (n cause : Nat) (uOut : Word32) : State :=
  let mirror := s.kind n == 1 || s.kind n == 2
  let t := s.putSlot n { s.slot n with detourAt := s.now, detour := none, good := 0, failed := 0, persists := cause != 5 }
  let t1 := t.handover n uOut (t.detourOut n (t.now + t.slotNs n))
  let t2 := ((t1.setSlotState n 3).inc (K (LS n) 0x2C)).set (K (LS n) 0x29) cause
  let kind := if cause = 5 then 0x0E else 0x08
  let t3 := t2.event 0x0A kind (if cause = 5 then 3 else n)
  if mirror then (t3.setFlag (K (0x6040 + s.lsPort n) 0x0A) 3 (cause != 5)).guardFail (s.lsPort n) 6 else t3

/-- The output of a slot in DETOUR or PARKED for the next boundary (R307), with its nodes: those that the Detour drive replaces are 0 (R300). -/
def State.driveDetour (s : State) (n : Nat) (r : Word32) : State × Nodes :=
  let (q, parked) := s.detourIndex n (s.now + s.slotNs n)
  let x := s.slot n
  let tab := tableAt x.table q
  let raw := F32.add tab x.offset
  let u := s.limitOut n raw
  let t := (s.putSlot n { x with q := q, next := u, handJ := x.handJ + 1 }).set (K (LS n) 0x2A) q.toNat
  (if parked && s.slotState n == 3 then t.setSlotState n 4 else t, { Nodes.still r with tab := tab, raw := raw, out := u, off := x.offset })

/-- Closed-loop sample; where the source of the output has just changed, the slot hands over from what the outgoing one would apply to the sum
of its own terms without an offset (R300, R309). -/
def State.driveClosed (s : State) (n : Nat) (y r : Word32) : State × Nodes :=
  let x := s.slot n
  let t : State := match x.outgoing with
    | none => s
    | some uOut =>
      let bare := s.putSlot n { x with outgoing := none, hand := 0, handJ := 0, handN := 0 }
      bare.handover n uOut (bare.control n y r).2.raw
  let (z, nd) := t.control n y r
  (t.putSlot n z, nd)

/-- The shaped setpoint of an actuator for the next boundary: within the travel range, and with velocity and acceleration inside
their limits; where in those limits, the spec leaves open (R318). [DESIGN CHOICE, log entry 83] -/
def State.shape (s : State) (n : Nat) (want : Word32) : State × Word32 :=
  let a := 0x6030 + s.lsPort n
  let x := s.slot n
  let ts := s.slotTs n
  let r0 := F32.clamp (s.f (K a 7)) (s.f (K a 8)) want
  let (w, t) := s.fresh
  let dv := F32.mul (s.f (K a 0x0A)) ts
  let vl := s.f (K a 9)
  let d := F32.sub r0 x.r
  let need := F32.div d ts
  let free := F32.clamp (F32.sub x.vel dv) (F32.add x.vel dv) (BitVec.ofNat 32 w)
  let v := F32.clamp (F32.neg vl) vl free
  if F32.le (F32.abs need) vl && F32.le (F32.abs (F32.sub need x.vel)) dv then
    (t.putSlot n { t.slot n with r := r0, vel := need }, r0)
  else
    let r := F32.clamp (s.f (K a 7)) (s.f (K a 8)) (F32.add x.r (F32.mul v ts))
    (t.putSlot n { t.slot n with r := r, vel := v }, r)

/-- A homing slot with a quadrature sensor is in its first 100 ms (R316). -/
def State.aligning (s : State) (n : Nat) : Bool :=
  s.slotState n == 1 && s.get (K (0x6030 + s.lsPort n) 1) != 0 && decide (s.now < (s.slot n).startAt + 100000000)

/-- Homing of an actuator slot (R317): drive at the homing current below a tenth of the velocity limit; a stall of 200 ms ends
modes 0x01 and 0x02, and the index ends mode 0x03 under POSITION_COUNT. A quadrature sensor is first aligned by 100 ms of d-axis current
(R316). -/
def State.homing (s : State) (n : Nat) : State :=
  let p := s.lsPort n
  let a := 0x6030 + p
  let x := s.slot n
  let y := s.actr p
  if s.aligning n then (s.putAct_ p { y with aligned := y.count, countAt := s.now }).putSlot n { x with next := 0 } else
  let mode := s.get (K a 5)
  let slow := F32.le (F32.abs (F32.div y.speed (s.f (K a 3)))) (F32.div (s.f (K a 9)) (F32.ofInt 10))
  let i := if slow then s.f (K a 6) else 0
  let u := if mode = 1 then F32.neg i else i
  let t := s.putSlot n { x with next := u }
  let still := max y.countAt x.startAt
  if (mode = 1 ∨ mode = 2) ∧ still + 200000000 ≤ s.now then
    let at_ := if mode = 1 then s.f (K a 7) else s.f (K a 8)
    let c := F32.roundMul (F32.mul at_ (s.f (K a 3))) 0
    ((((t.putSlot n { t.slot n with r := at_, vel := 0 }).putAct_ p { y with count := c, aligned := y.aligned + (c - y.count) }).set
      (K a 0x12) at_.toNat).setFlag (K a 0x14) 0 true).setSlotState n 2
  else t

/-- A starting resonant slot: the drive ramps, the loops close at half the target amplitude, and CLOSED comes after 64
half-periods within the limits (R313). -/
def State.startResonant (s : State) (n : Nat) (y eh : Word32) : State × Nodes :=
  let m := 0x6040 + s.lsPort n
  let x := s.slot n
  let goal := s.f (K m 5)
  let gone := F32.fmin 0x3F800000 (F32.ofRat (s.now - x.startAt) (s.get (K m 8) * 1000000))
  let loops := x.loops || F32.le (F32.mul goal 0x3F000000) y
  if !loops then
    let tab := tableAt x.table goal
    let u := F32.mul tab gone
    (s.putSlot n { x with next := u }, { Nodes.still goal with tab := tab, raw := u, out := u })
  else
    let (t, nd) := (s.putSlot n { x with loops := true }).driveClosed n y goal
    let t1 := t.phaseLoop n eh
    let th := F32.mul (F32.ofRat (2 * s.slotNs n) 1) (F32.ofRat 1 100)
    let near := F32.le (F32.abs (F32.sub y goal)) (F32.mul goal (F32.ofRat 2 100)) && F32.le (F32.abs eh) th
    let z := t1.slot n
    let k := if near then z.settled + 1 else 0
    (if 64 ≤ k then (t1.putSlot n { z with settled := 0, phase0 := z.nextPhase }).setSlotState n 2
     else t1.putSlot n { z with settled := k }, nd)

/-- A starting quasi-static slot: it moves to V_bot at the park rate, and follows the trajectory from the first flyback after
its start (R314). -/
def State.startStatic (s : State) (n : Nat) (y : Word32) : State × Nodes :=
  let m := s.lsPort n
  let x := s.slot n
  let fly := match s.scanner m with
    | some i =>
      let ph := s.act (K (0x4520 + i) 5)
      decide (ph ≤ s.inFrame 0) && decide ((s.halfPeriod i (s.inFrame 0)).1 < s.act (K (0x4520 + i) 2)) && decide (x.startAt ≤ s.fs.fmAt + ph)
    | none => false
  let bot := s.f (K (0x6040 + m) 7)
  let step := F32.mul (s.f (K (LS n) 0x23)) (F32.mul (s.slotTs n) (F32.ofInt 1000))
  let from_ := if x.k ≤ 1 then y else x.r
  let r := F32.clamp (F32.sub from_ step) (F32.add from_ step) bot
  if fly then ((s.putSlot n { x with following := true }).setSlotState n 2).driveClosed n y (s.setpoint n (s.slotNs n))
  else (s.putSlot n { x with r := r }).driveClosed n y r

/-- The nodes of sample k that probes may pick (R323). -/
def State.probeNodes (s : State) (n k : Nat) (raw y : Word32) (nd : Nodes) : State :=
  let x := s.slot n
  let a := s.actr (s.lsPort n)
  let vals : List Word32 := [raw, y, nd.r, nd.e0, nd.e1, nd.e2, nd.p, x.i, nd.ff, nd.tab, nd.raw, x.u, nd.off,
    F32.ofInt (s.shownSlot n), F32.ofRat (match s.slotSrc n with | some i => (nth PtuSrc.init s.prj.src i).crossing | none => 0) 1000,
    a.iq, a.idc, x.q, F32.ofInt (s.get (K (LS n) 0x29))]
  (List.range 19).foldl (fun t j =>
    t.probe 1 (fun sel => sel / 2 ^ 24 % 256 == n && sel / 65536 % 256 == j + 1) (n * 2 ^ 24 + k % 2 ^ 24) (nth 0 vals j).toNat) s

/-- A power sample is invalid: Scan Guard held the laser off, or the integrator reached its limit (R253). -/
def State.guardHolds (s : State) (n : Nat) : Bool :=
  match s.slotSrc n with
  | some i => s.get (K (0x4540 + s.act (K (0x4520 + i) 0x0A)) 7) != 2 || (nth PtuSrc.init s.prj.src i).tested
  | none => true

/-- Feedback of a slot from what its inputs give (R296): `code` is the sense code of a mirror axis, of largest size in the half-period
for the horizontal one, or the reference integral of a power slot; `aux` the crossing error in ps, or the dark integral.
[DESIGN CHOICE, log entry 176] -/
def State.feedback (s : State) (n : Nat) (code aux : Int) : Word32 :=
  let m := 0x6040 + s.lsPort n
  match s.kind n with
  | 1 => F32.abs (F32.add (F32.mul (F32.ofInt code) (s.f (K m 1))) (s.f (K m 2)))
  | 2 => F32.add (F32.mul (F32.ofInt code) (s.f (K m 3))) (s.f (K m 4))
  | 3 => match s.lasUse (s.lsPort n) with
    | some (i, e) => F32.div (F32.ofInt (code - aux)) (f32At (s.colour i) (0xD8 + 36 * e + 32))
    | none => 0
  | _ => F32.div (F32.ofInt (s.actr (s.lsPort n)).count) (s.f (K (0x6030 + s.lsPort n) 3))

/-- Number of the boundary of a periodic slot in whose LOOP cycle the block now is, or that has last passed (R297). -/
def State.boundary (s : State) (n : Nat) : Nat := (s.now - (s.slot n).t0) / (5 * max 1 (s.get (K (LS n) 4)))

/-- A slot is at a boundary at which it has not sampled yet: an event-timed slot at each of its sample instants, a periodic one in the LOOP
cycle t_0 + k × N_s (R297). -/
def State.atBoundary (s : State) (n : Nat) : Bool :=
  s.kind n == 1 || s.kind n == 3 ||
    (decide ((s.now - (s.slot n).t0) % (5 * max 1 (s.get (K (LS n) 4))) < 5) && decide ((s.slot n).k ≤ s.boundary n))

/-- The computations of the slots need more cycles than the LOOP clock has, so that one has not completed at its boundary: the slot holds its last
output and enters FAULT (R299). [DEDUCED, log entry 228] -/
def State.overrun (s : State) (n : Nat) : State :=
  (((s.putSlot n { s.slot n with next := (s.slot n).u }).setSlotState n 6).showLoad).event 0x0A 0x0C s.frameNo

/-- A sample of a running slot (R297–R310). [DEDUCED, log entry 206] -/
def State.sampleSlot (s : State) (n : Nat) (code aux : Int) (fault : Bool) : State :=
  let x := s.slot n
  let r := LS n
  let kd := s.kind n
  let k := if kd = 1 ∨ kd = 3 then x.k else s.boundary n
  let s1 := (s.putSlot n { x with u := x.next, phase := x.nextPhase, k := k + 1 }).set (K r 0x2B) x.next.toNat
  if x.stop then
    (((s1.putSlot n { s1.slot n with u := 0, next := 0, dac := 0, stop := false }).set (K r 0x2B) 0).setSlotState n 0 |>.unclaim (s.slotRecs n)).showLoad
  else
  let y := s1.feedback n code aux
  let held := s1.guardHolds n
  let invalid := kd = 3 ∧ (fault = true ∨ held = true)
  let s2 : State :=
    if kd = 1 then
      let u := s1.set (K (0x6040 + s.lsPort n) 9) y.toNat
      match s.slotSrc n with
      | some i =>
        let z := nth PtuSrc.init u.prj.src i
        let w := u.set (K (0x4520 + i) 0x0D) (unsgn 32 (aux - z.crossing))
        { w with prj := { w.prj with src := putNth PtuSrc.init w.prj.src i { z with crossing := aux } } }
      | none => u
    else if invalid then
      match s.slotSrc n with
      | some i =>
        let u := s1.inc (K (0x4520 + i) 0x10)
        { u with prj := { u.prj with src := modNth PtuSrc.init u.prj.src i fun z => { z with tested := false } } }
      | none => s1
    else if kd = 2 then s1
    else s1.checkSample n y false fault
  let eh := F32.ofRat aux 1000
  let want := s2.setpoint n (s2.slotNs n)
  let st := s2.slotState n
  let zero := Nodes.still want
  let s2 := if st = 3 ∨ st = 4 then s2 else s2.set (K r 0x2A) y.toNat
  let (s3, nd) : State × Nodes :=
    if invalid then
      let z := s2.slot n
      let k := if held then z.invalid else z.invalid + 1
      let t := s2.putSlot n { z with invalid := k, next := z.u, good := 0, persists := true, leave := false }
      if st = 2 ∧ s2.get (K r 0x19) ≤ k then (t.intoDetour n 6 z.u).driveDetour n want
      else if st = 3 ∨ st = 4 then t.driveDetour n want else (t.applyGains n, zero)
    else
    let s2 := s2.putSlot n { s2.slot n with invalid := 0 }
    match st with
    | 1 =>
      let s2 := s2.applyGains n
      if kd = 1 then s2.startResonant n y eh
      else if kd = 2 then s2.startStatic n y
      else (s2.homing n, zero)
    | 2 =>
      let z := s2.slot n
      let cause := if z.failed ≠ 0 then some z.failed else z.detour
      match cause with
      | some c =>
        let (sa, sp) := if kd = 4 then s2.shape n want else (s2, want)
        (sa.intoDetour n c (sa.control n y sp).1.next).driveDetour n sp
      | none =>
        let t := s2.applyGains n
        let (t1, sp) := if kd = 4 then t.shape n want else (t, want)
        let (t2, nd) := t1.driveClosed n y sp
        let t3 := if kd = 1 then t2.phaseLoop n eh else t2
        (if nd.raw != nd.out then t3.count 6 3 1 else t3, nd)
    | 3 | 4 =>
      let z := s2.slot n
      let pass := z.failed == 0
      let g := if pass then z.good + 1 else 0
      let t := (s2.putSlot n { z with good := g, failed := 0, persists := !pass, leave := false }).count 6 2 1
      if (s2.get (K r 0x20) == 1 && decide (s2.get (K r 0x1F) ≤ g)) || (z.leave && pass) then
        let uOut := ((t.driveDetour n want).1.slot n).next
        let t1 := (t.putSlot n { t.slot n with good := 0, r := y, vel := 0 }).setSlotState n 2
        let t2 := t1.applyGains n
        let (t3, sp) := if kd = 4 then t2.shape n want else (t2, want)
        let (t4, nd) := (t3.putSlot n { t3.slot n with outgoing := some uOut }).driveClosed n y sp
        let t5 := if kd = 1 then t4.matchPhase n eh else t4
        (if kd = 1 ∨ kd = 2 then t5.setFlag (K (0x6040 + s.lsPort n) 0x0A) 3 false else t5, nd)
      else t.driveDetour n want
    | _ =>
      let t := s2.applyGains n
      (t.putSlot n { t.slot n with next := 0 }, zero)
  let s4 := s3.count 6 1 1
  s4.probeNodes n k (F32.ofInt (if kd = 4 then (s.actr (s.lsPort n)).count else code)) y nd

/-- At its boundary a loop slot samples its feedback, applies the previous output and computes the next (R297–R300); between boundaries nothing
is sampled. -/
def execLoopSample (dt : Nat) (n : Fin 8) (code aux : Int) (fault : Bool) (s : State) : Res :=
  let t := s.tick dt
  done (t.inDomains [0x22] fun t =>
    if t.slotRuns n && t.atBoundary n then
      if 200000000 * 2 ^ 24 < t.lpeLoad t.slotRuns then t.overrun n else t.sampleSlot n code aux fault
    else t)

/-- A slot that has not reached CLOSED within its start timeout enters FAULT (R313, R317). -/
def State.startTimeout (s : State) (n : Nat) : State :=
  let x := s.slot n
  if s.slotState n = 1 ∧ x.startAt + s.get (K (LS n) 0x26) * 1000000 ≤ s.now then
    let t := (s.putSlot n { x with u := 0, next := 0, dac := 0 }).setSlotState n 6
    let t1 := if s.kind n = 1 then t.setFlag (K (0x6040 + s.lsPort n) 0x0A) 2 true else t
    (t1.showLoad).event 0x0A 4 n
  else s

/-- The start timeout of a slot passes (R313, R317). -/
def execStartTimeout (dt : Nat) (n : Fin 8) (s : State) : Res := done ((s.tick dt).inDomains [0x22] fun t => t.startTimeout n)

/-! ### Actuators -/

/-- The actuator slot that runs on a port. -/
def State.actSlot (s : State) (a : Nat) : Option Nat :=
  (List.range 8).find? fun n => s.kind n == 4 && s.lsPort n == a && s.slotRuns n

/-- A PI current controller step in duty, from an error in mA. -/
def currentPi (kp ki ts i e : Word32) : Word32 × Word32 :=
  let ea := F32.div e (F32.ofInt 1000)
  let i1 := F32.add i (F32.mul (F32.mul ki ts) ea)
  (F32.add (F32.mul kp ea) i1, i1)

/-- A PWM period of an actuator port: phase currents, overcurrent, and the field-oriented current loop (R316). Without the claim the gates and enables stay
low (R441, R444). [DEDUCED, log entry 14] -/
def State.currentLoop (s : State) (a : Nat) (ia ib ic : Int) : State :=
  let r := 0x6030 + a
  match s.actSlot a with
  | none => s
  | some n =>
    let x := s.actr a
    let gain := s.f (K r 0x0D)
    let amp (c : Int) : Word32 := F32.mul (F32.ofInt c) gain
    let lim := F32.mul (s.f (K r 0x0E)) 0x3FC00000
    let over_ := [ia, ib, ic].any fun c => F32.lt lim (F32.abs (amp c))
    let run := if over_ then x.overRun + 1 else 0
    if 2 ≤ run then
      ((((s.putAct_ a { x with overRun := 0, duty := [0, 0, 0] }).setFlag (K r 0x14) 2 true).setFlag (K r 0x14) 3 false).setSlotState n 6
        |>.putSlot n { s.slot n with u := 0, next := 0 } |>.showLoad).event 0x0A 0x0B (K r 0x0E)
    else
      let align := s.aligning n
      let th := if s.slotState n = 3 ∨ s.slotState n = 4 then (s.slot n).elec else if align then 0 else s.elecAngle a
      let c0 := F32.cosDeg th
      let s0 := F32.sinDeg th
      let third := F32.ofRat 1 3
      let inv3 := F32.div 0x3F800000 (F32.sqrt (F32.ofInt 3))
      let al := F32.mul third (F32.sub (F32.sub (F32.mul (F32.ofInt 2) (amp ia)) (amp ib)) (amp ic))
      let be_ := F32.mul inv3 (F32.sub (amp ib) (amp ic))
      let idv := F32.add (F32.mul al c0) (F32.mul be_ s0)
      let iqv := F32.sub (F32.mul be_ c0) (F32.mul al s0)
      let ts := F32.ofRat 1 (s.get (K r 0x0B))
      let kp := s.f (K r 0x0F)
      let ki := s.f (K r 0x10)
      let dis := bit (s.get (K 0x6000 5)) a || !s.outputsOn || s.mode == .standby
      let off := dis || (match x.freeAt with | some t => decide (s.now < t) | none => false)
      let (vd, di) := currentPi kp ki ts x.dInt (F32.sub (if align then s.f (K r 6) else 0) idv)
      let (vq, qi) := currentPi kp ki ts x.qInt (F32.sub (s.slot n).u iqv)
      let va := F32.sub (F32.mul vd c0) (F32.mul vq s0)
      let vb := F32.add (F32.mul vd s0) (F32.mul vq c0)
      let h := F32.mul vb (F32.div (F32.sqrt (F32.ofInt 3)) (F32.ofInt 2))
      let half := F32.mul va 0x3F000000
      let duty := if off then [0, 0, 0] else [va, F32.sub h half, F32.sub (F32.neg h) half]
      let y : Act := { x with overRun := run, iq := iqv, idc := idv, duty := duty, dead := s.get (K r 0x0C),
                              qInt := if off then x.qInt else qi, dInt := if off then x.dInt else di }
      ((s.putAct_ a y).set (K r 0x13) iqv.toNat).setFlag (K r 0x14) 3 (!dis)

/-- At each actuator PWM period the phase currents are sampled and the current loop runs (R316). -/
def execCurrentLoopPeriod (dt : Nat) (a : Fin 4) (ia ib ic : Int) (s : State) : Res := done ((s.tick dt).inDomains [0x22] fun t => t.currentLoop a ia ib ic)

/-- Position in the Hall sequence 1, 3, 2, 6, 4, 5 (the family's order). [PRESUMED, log entry 85] -/
def hallPos : Nat → Nat
  | 1 => 0 | 3 => 1 | 2 => 2 | 6 => 3 | 4 => 4 | _ => 5

/-- Position in the quadrature sequence 00, 01, 11, 10. -/
def quadPos : Nat → Nat
  | 0 => 0 | 1 => 1 | 3 => 2 | _ => 3

/-- The sensor lines of an actuator change (R306 cause 0x03, R317): Hall lines in bits 2–0, or quadrature channels in bits 1–0 with
the index in bit 2. -/
def State.positionCount (s : State) (a lines : Nat) : State :=
  let r := 0x6030 + a
  let x := s.actr a
  let hall := s.get (K r 1) == 0
  let old := x.lines
  let both := !hall && old % 4 != lines % 4 && (old % 4).xor (lines % 4) == 3
  let badHall := hall && (lines % 8 == 0 || lines % 8 == 7)
  let step : Int :=
    if badHall || both then 0
    else if hall then
      let d := (hallPos (lines % 8) + 6 - hallPos (old % 8)) % 6
      if old % 8 = 0 ∨ old % 8 = 7 then 0 else if d ≤ 3 then d else (d : Int) - 6
    else
      let d := (quadPos (lines % 4) + 4 - quadPos (old % 4)) % 4
      if d = 1 then 1 else if d = 3 then -1 else 0
  let idx := s.get (K r 1) == 2 && lines.testBit 2 && !old.testBit 2
  let count0 := x.count + step
  let dt := s.now - x.countAt
  let speed := if step = 0 then x.speed else if dt = 0 then x.speed else F32.mul (F32.ofInt step) (F32.ofRat 1000000000 dt)
  let badIdx := idx && (match x.index with | some c => decide (2 < (count0 - c).natAbs) | none => false)
  let homeNow := idx && s.get (K r 5) == 3 && (match s.actSlot a with | some n => s.slotState n == 1 | none => false)
  let count := if homeNow then F32.roundMul (F32.mul (s.f (K r 4)) (s.f (K r 3))) 0 else count0
  let pos := F32.div (F32.ofInt count) (s.f (K r 3))
  let lim := s.f (K 0x8300 5)
  let beyond := F32.lt (F32.add (s.f (K r 8)) lim) pos || F32.lt pos (F32.sub (s.f (K r 7)) lim)
  let y : Act := { x with count := count, aligned := x.aligned + (count - count0), lines := lines, speed := speed, countAt := if step = 0 then x.countAt else s.now,
                          index := if idx then some count else x.index,
                          excessSince := if beyond then some (x.excessSince.getD s.now) else none,
                          causes := if beyond then x.causes else setBit x.causes 2 false }
  let fail := badHall || both || badIdx
  let t := ((s.putAct_ a y).set (K r 0x12) pos.toNat).setFlag (K r 0x14) 1 fail
  match s.actSlot a with
  | none => t
  | some n =>
    let z := t.slot n
    let t1 := if homeNow then ((t.putSlot n { z with r := pos, vel := 0 }).setFlag (K r 0x14) 0 true).setSlotState n 2 else t
    if fail then
      let z := t1.slot n
      t1.putSlot n { z with failed := if t1.slotChecks n && z.failed == 0 then 3 else z.failed, lost := z.lost || t1.slotState n == 5 }
    else t1

/-- A Hall or quadrature input change updates the position count (R317). -/
def execPositionCount (dt : Nat) (a : Fin 4) (lines : Nat) (s : State) : Res := done ((s.tick dt).inDomains [0x22] fun t => t.positionCount a lines)

/-! ### Safe Torque Off -/

/-- STO_N is accepted low: torque off on every member port (R319). -/
def execStoNAssert (dt : Nat) (s : State) : Res :=
  let t := s.tick dt
  let u : State := { t with lpe := { t.lpe with sto := true } }
  done ((u.set (K 0x6000 2) 1).torqueOff (List.range 4) 0)

/-- STO_N returns high after its filter (R398). -/
def execStoNRelease (dt : Nat) (s : State) : Res :=
  let t := s.tick dt
  let u : State := { t with lpe := { t.lpe with sto := false, stoHighSince := t.now } }
  done (u.set (K 0x6000 2) 0)

/-- A torque-off path whose pins disagree with its command raises a safety fault, and the other path keeps acting (R319). The ARG
names the port in [15:8] and the path in [7:0]. -/
def execStoPathMismatch (dt : Nat) (a : Fin 4) (path : Fin 2) (s : State) : Res :=
  let t := s.tick dt
  done (if t.members.contains a then (t.inc (K 0x6000 6)).stand 0x0B 9 (a * 256 + path + 1) else t)

/-- An actuator beyond its travel by the excess limit for 10 ms: the SSV requests torque off (R398). -/
def execTravelExcess (dt : Nat) (a : Fin 4) (s : State) : Res :=
  let t := s.tick dt
  done (match (t.actr a).excessSince with
    | some b => if b + 10000000 ≤ t.now ∧ t.ssvOn = true then t.torqueOff [a] 2 else t
    | none => t)

end Sys2Proof.Machine
end

