-- ==== Sys2Proof/Machine/Layers.lean ====
section
/-! DEFINITION. Commands of chapter 04 that software gives: layer and group commits, regions, quotas, gain mesh, dead pixels,
dose, ageing, budget, and the SSV's Kerb check. -/

namespace Sys2Proof.Machine

/-- Effect of a write to a layer commit entry. -/
def effLayerCommit (l : Nat) : Effect := fun s _ => s.layerCommit l

/-- Effect of a write to the group commit mask; a mask without a layer is out of range (R129). -/
def effGroupCommit : Effect := fun s m => if m = 0 then (s, (0x0301, 0)) else s.groupCommit m

/-- Effect of an allocate request. -/
def effAllocate : Effect := fun s v => s.allocate v

/-- Effect of a free request. -/
def effFree : Effect := fun s n => s.freeRequest n

/-- Effect of a write to a content-ready flag. -/
def effContentReady (n : Nat) : Effect := fun s v => s.contentReady n v

/-- Effect of a write to a memory quota. -/
def effMemoryQuota (l : Nat) : Effect := fun s v => s.memoryQuota l v

/-- A layer commit checks the shadow configuration of a layer and arms it (R128, R130). -/
def execLayerCommit (dt : Nat) (rq : Rq) (l : Fin 7) (s : State) : Res :=
  done ((s.tick dt).command rq (K (0x3400 + l) 0x14) 1 (effLayerCommit l))

/-- A group commit arms all the layers of a mask or none (R129). -/
def execGroupCommit (dt : Nat) (rq : Rq) (mask : Nat) (s : State) : Res :=
  done ((s.tick dt).command rq (K 0x3410 1) mask effGroupCommit)

/-- An allocate request places a region (R135, R163). -/
def execAllocateRequest (dt : Nat) (rq : Rq) (word : Nat) (s : State) : Res :=
  done ((s.tick dt).command rq (K 0x3420 1) word effAllocate)

/-- A free request releases a region (R134). -/
def execFreeRequest (dt : Nat) (rq : Rq) (n : Nat) (s : State) : Res :=
  done ((s.tick dt).command rq (K 0x3420 2) n effFree)

/-- A write to the content-ready flag of a region (R133). -/
def execContentReady (dt : Nat) (rq : Rq) (n : Fin 32) (v : Nat) (s : State) : Res :=
  done ((s.tick dt).command rq (K (0x3440 + n) 5) v (effContentReady n))

/-- A write to a layer's memory quota (R135). -/
def execMemoryQuota (dt : Nat) (rq : Rq) (l : Fin 7) (v : Nat) (s : State) : Res :=
  done ((s.tick dt).command rq (K (0x3400 + l) 0x12) v (effMemoryQuota l))

/-! ### Meshes -/

/-- Mesh commit of a source (R80, R81, R95). -/
def State.meshCommit (s : State) (i : Nat) : State × Code :=
  let k := 0x3100 + i
  let b := (s.dom (K k 1)).getD (identityMesh (s.srcW i) (s.srcH i))
  let d := meshCheck b (s.srcW i) (s.srcH i)
  if d ≠ 0 then s.refuse (K k 5) d
  else
    let n := s.landingFrame
    (((s.arm (K k 2) [] [(K k 1, b)] n (s.dimsPending i)).set (K k 4) n).set (K k 5) 0, ok)

/-- Effect of a write to a mesh commit entry. -/
def effMeshCommit (i : Nat) : Effect := fun s _ => s.meshCommit i

/-- A mesh commit checks the pending mesh of a source and arms it (R80, R81). -/
def execMeshCommit (dt : Nat) (rq : Rq) (i : Fin 4) (s : State) : Res :=
  done ((s.tick dt).command rq (K (0x3100 + i) 2) 1 (effMeshCommit i))

/-- The default gain mesh of R146: 2,145 nodes of 1.0, then the check value. -/
def gainMeshDefault : List Byte :=
  let body := (List.range 2145).flatMap fun _ => toBe 2 0x8000
  body ++ toBe 4 (crc32c body)

/-- Gain mesh commit of a source (R145). -/
def State.gainCommit (s : State) (i : Nat) : State × Code :=
  let k := 0x4200 + i
  let b := (s.dom (K k 2)).getD gainMeshDefault
  if b.length ≠ 4294 ∨ beAt b 4290 4 ≠ crc32c (b.take 4290) then (s, (0x0403, 0x4007))
  else (s.arm (K k 3) [] [(K k 2, b)] s.landingFrame (s.dimsPending i), ok)

/-- Effect of a write to a gain mesh commit entry. -/
def effGainMesh (i : Nat) : Effect := fun s _ => s.gainCommit i

/-- A gain mesh commit checks the pending gain mesh and arms it (R145). -/
def execGainMeshCommit (dt : Nat) (rq : Rq) (i : Fin 4) (s : State) : Res :=
  done ((s.tick dt).command rq (K (0x4200 + i) 3) 1 (effGainMesh i))

/-! ### Dead pixels, dose and ageing -/

/-- Effect of a write to a clear-reported entry: every reported bit clears (R147). -/
def effClearReported (i : Nat) : Effect := fun s _ =>
  let x := s.src i
  (s.putSrc i { x with reported := [] }, ok)

/-- A write of 0x01 clears every reported dead-pixel bit of a source (R147). -/
def execClearReported (dt : Nat) (rq : Rq) (i : Fin 4) (s : State) : Res :=
  done ((s.tick dt).command rq (K (0x4210 + i) 5) 1 (effClearReported i))

/-- Effect of a write to a dose reset entry: 0x01 clears the dose and sets the ageing gain to 1.0 (R152). -/
def effDoseReset (i : Nat) : Effect := fun s v =>
  if v = 1 then
    let x := s.src i
    let n := (s.actW i + 1) / 2 * ((s.actH i + 1) / 2)
    (((s.putSrc i { x with dose := [], again := [] }).rewritten (s.doseByte i 0) (4 * n)).rewritten (s.ageByte i 0) (2 * n), ok)
  else (s, ok)

/-- A dose reset clears the dose of a source and sets its ageing gain to 1.0 (R152). -/
def execDoseReset (dt : Nat) (rq : Rq) (i : Fin 4) (s : State) : Res :=
  done ((s.tick dt).command rq (K (0x4220 + i) 7) 1 (effDoseReset i))

/-- Points of an ageing curve: dose and efficiency (R151, R152); 1.0 throughout where none is held. -/
def curvePoints (b : Option (List Byte)) : List (Nat × Nat) :=
  match b with
  | none => [(0, 0xFFFF)]
  | some l => (List.range 32).map fun n => (beAt l (6 * n) 4, beAt l (6 * n + 4) 2)

/-- An ageing curve has 32 points with D strictly increasing from 0, and the right check value (R151). -/
def curveOk (l : List Byte) : Bool :=
  let p := curvePoints (some l)
  l.length == 196 && beAt l 192 4 == crc32c (l.take 192) && (nth (0, 0) p 0).1 == 0
    && (List.range 31).all fun n => decide ((nth (0, 0) p n).1 < (nth (0, 0) p (n + 1)).1)

/-- Relative efficiency at a dose as a fraction of 0xFFFF: numerator and denominator (R151). -/
def efficiency (p : List (Nat × Nat)) (d : Nat) : Nat × Nat :=
  let lower := p.filter fun x => decide (x.1 ≤ d)
  let a := lower.getLast?.getD (nth (0, 0xFFFF) p 0)
  match p.find? fun x => decide (d < x.1) with
  | none => (a.2, 1)
  | some b => (a.2 * (b.1 - d) + b.2 * (d - a.1), b.1 - a.1)

/-- Blocks of a source of W × H pixels: columns and rows of 2 × 2 blocks (R150). -/
def blocksOf (w h : Nat) : Nat × Nat := ((w + 1) / 2, (h + 1) / 2)

/-- A pixel number is dead: reported, or in the host mask (R147). -/
def State.deadNow (s : State) (i n : Nat) : Bool :=
  (s.src i).reported.contains n ||
    (match s.dom (K (0x4210 + i) 4) with | some b => bit (byteAt b (n / 8)) (7 - n % 8) | none => false)

/-- A sparse map with one value set; a default is not listed. -/
def putDef (m : List (Nat × Nat)) (d k v : Nat) : List (Nat × Nat) := if v = d then mapDel m k else mapPut m k v

/-- The fold of the ageing curve of a source into its map (R151); `limited` applies the step limit. -/
def State.foldSource (s : State) (i : Nat) (limited : Bool) : State :=
  let k := 0x4220 + i
  let w := s.actW i
  let (bw, bh) := blocksOf w (s.actH i)
  let p := curvePoints (s.dom (K k 1))
  let x := s.src i
  let mode := s.get (K k 2)
  let blocks := List.range (bw * bh)
  let alive (b : Nat) : Bool := [(0, 0), (1, 0), (0, 1), (1, 1)].all fun q =>
    let c := 2 * (b % bw) + q.1
    let r := 2 * (b / bw) + q.2
    !(decide (c < w ∧ r < s.actH i) && s.deadNow i (r * w + c))
  let eff (b : Nat) : Nat × Nat := efficiency p ((mapGet x.dose b).getD 0)
  let least := (blocks.filter alive).foldl (fun (m : Nat × Nat) b =>
    let e := eff b
    if e.1 * m.2 < m.1 * e.2 then e else m) (0xFFFF, 1)
  let goal (b : Nat) : Nat :=
    let e := eff b
    match mode with
    | 1 => if e.1 = 0 then s.get (K k 3) else min (roundDiv (32768 * 65535 * e.2) e.1) (s.get (K k 3))
    | 2 => if e.1 = 0 then 0x8000 else min 0xFFFF (roundDiv (32768 * least.1 * e.2) (e.1 * least.2))
    | _ => 0x8000
  let step := s.get (K k 4)
  let new (b : Nat) : Nat :=
    let a := if s.badByte (s.ageByte i b) then 0x8000 else (mapGet x.again b).getD 0x8000
    let g := goal b
    if !limited then g else if a ≤ g then min g (a + step) else max g (a - step)
  let again := blocks.foldl (fun m b => putDef m 0x8000 b (new b)) x.again
  let top := (blocks.filter fun b => mode == 1 && (mapGet again b).getD 0x8000 == s.get (K k 3)).length
  let read := (s.badStretch (s.doseByte i 0) (4 * bw * bh)).badStretch (s.ageByte i 0) (2 * bw * bh)
  ((((read.putSrc i { x with again := again }).rewritten (s.ageByte i 0) (2 * bw * bh)).set (K k 5) s.timeNs).set (K k 6) top)

/-- The fold over every tile and matrix source; without an APC pair the gains stay (R25, R151). -/
def State.ageingFold (s : State) (limited : Bool) : State :=
  if s.sys.apc.any id then
    (s.srcs.filter fun i => s.srcType i == 1 || s.srcType i == 4).foldl (fun t i => t.foldSource i limited) s
  else s

/-- Once an hour the firmware folds the ageing curve into the ageing map with the step limit (R151). -/
def execAgeingFold (dt : Nat) (s : State) : Res := done ((s.tick dt).inDomains [2] fun t => t.ageingFold true)

/-! ### Budget -/

/-- Effect of a write to a host budget: a value below the floor requirement of the last frame stores that
requirement (R156). -/
def effHostBudget (i : Nat) : Effect := fun s v =>
  let fl := F32.ofNat (s.get (K (0x4240 + i) 0x0A))
  if F32.lt (F32.ofNat v) fl then (s.set (K (0x4240 + i) 1) fl.toNat, (0x0404, 0))
  else (s.set (K (0x4240 + i) 1) v, ok)

/-- A write of the host budget is stored, clamped to the floor requirement (R156). -/
def execHostBudget (dt : Nat) (rq : Rq) (i : Fin 4) (v : Nat) (s : State) : Res :=
  done ((s.tick dt).command rq (K (0x4240 + i) 1) v (effHostBudget i))

/-! ### Kerb -/

/-- The SSV compares primary and complement of the active bank; where a word differs, or either copy reads as
uncorrectable, it is rewritten from the voted copy (R142). `differ` says that some word read differs. -/
def State.kerbRepair (s : State) (differ : Bool) : State :=
  let kb := s.comp.kerb
  let base := (62 + kb.active) * 65536
  let hit := s.fs.bad.any fun w => decide (base ≤ w ∧ w < base + 65536)
  match kb.ram with
  | none => s
  | some img =>
    if differ || hit then
      let bank : KerbBank := ⟨img, img.maps.map fun b => ~~~b⟩
      let t := s.badStretch (8 * base) 524288
      { t with
        comp := { t.comp with kerb := { kb with banks := putNth ⟨KerbImg.zero, []⟩ kb.banks kb.active bank } },
        fs := { t.fs with bad := t.fs.bad.filter fun w => !decide (base ≤ w ∧ w < base + 65536) } }
    else s

/-- The SSV compares primary and complement of the active Kerb bank and rewrites differing words (R142). -/
def execKerbComplementCheck (dt : Nat) (differ : Bool) (s : State) : Res := done ((s.tick dt).kerbRepair differ)

end Sys2Proof.Machine
end

