-- ==== Sys2Proof/Machine/LaneOps.lean ====
section
/-! DEFINITION. Ports and lanes (R329–R348): training, completion, lane faults, rate switches, identity check. Ports 0 to 7 are those
of the endpoints, port 8 is the twin link. -/

namespace Sys2Proof.Machine

/-- A lane. -/
def State.lane (s : State) (l : Nat) : Lane := nth Lane.init s.ln.lanes l

/-- The state with a lane replaced. -/
def State.putLane (s : State) (l : Nat) (x : Lane) : State := { s with ln := { s.ln with lanes := putNth Lane.init s.ln.lanes l x } }

/-- Training of a port. -/
def State.train (s : State) (p : Nat) : Train := nth Train.init s.ln.trains p

/-- The state with the training of a port replaced. -/
def State.putTrain (s : State) (p : Nat) (x : Train) : State := { s with ln := { s.ln with trains := putNth Train.init s.ln.trains p x } }

/-- State of a lane (R354). -/
def State.laneState (s : State) (l : Nat) : Nat := s.get (K (laneIdx l) 1)

/-- The lanes of a port. -/
def State.portLanes (s : State) (p : Nat) : List Nat :=
  if p < 8 then (laneList (s.ep p 5)).map (4 * s.ep p 4 + ·) else [16, 17]

/-- The twin link is enabled (R355). -/
def State.twinLink (s : State) : Bool := s.get (K 0x7030 1) == 1

/-- The port of a lane. -/
def State.portOfLane (s : State) (l : Nat) : Option Nat :=
  if 16 ≤ l then (if s.twinLink then some 8 else none)
  else (List.range 8).find? fun e => s.epOn e && (s.portLanes e).contains l

/-- A port is trained. -/
def State.portUp (s : State) (p : Nat) : Bool := if p < 8 then (s.port p).trained else s.get (K 0x7030 3) != 0

/-- Rate in force of a port. -/
def State.portRate (s : State) (p : Nat) : Nat := if p < 8 then (s.port p).rate else s.get (K (laneIdx 16) 2)

/-- Target rate of a port: the highest at or below the configured rate that the endpoint names (R330); 6.4 Gb/s on the twin link
(R351). -/
def State.targetRate (s : State) (p : Nat) : Nat :=
  if p < 8 then
    let caps := field (s.get (K (0x4400 + p) 0x16)) 19 16
    let cfg := s.act (K (0x7020 + s.ep p 4) 1)
    ([3, 2, 1].find? fun r => decide (r ≤ cfg) && bit caps r).getD 0
  else 2

/-- Bytes 1 to 7 of a TRAIN block of the device (R333). -/
def State.trainBytes (s : State) (p l : Nat) (locked ready : Bool) : List Byte :=
  let mask := if p < 8 then s.ep p 5 else 3
  let req := if p < 8 then s.get (K (0x7020 + s.ep p 4) 3) else 2
  let n (v : Nat) : Byte := BitVec.ofNat 8 v
  [n (l % 4 * 16 + mask), n 15, n (s.portRate p), n req, n (b2n locked + 2 * b2n ready), 0, 0]

/-- The eight transmit presets: taps c−1, c0, c+1 in 1/32 of full swing (R341). -/
def ffeTaps : Nat → Int × Int × Int
  | 0 => (0, 32, 0) | 1 => (0, 28, -4) | 2 => (0, 26, -6) | 3 => (0, 24, -8)
  | 4 => (-2, 26, -4) | 5 => (-2, 24, -6) | 6 => (-3, 21, -8) | _ => (-4, 18, -10)

/-- Taps of a lane's transmitter: the preset of its group or of the twin link, or the one that the far end asks for (R341). -/
def State.txTaps (s : State) (l asked : Nat) : Int × Int × Int :=
  let v := if l < 16 then s.get (K (0x7020 + l / 4) 2) else s.get (K 0x7030 2)
  ffeTaps (if v = 0xFF then asked else v)

/-- The taps that a lane's transmitter uses (R341). -/
def State.laneTaps (s : State) (l : Nat) : Int × Int × Int := s.txTaps l (s.lane l).preset

/-- The receiver of a lane is without block lock: in host mode the headers that its last window of 64 blocks shows as valid are what the channel
makes them (R334, R354). [DEDUCED, log entry 198; DESIGN CHOICE, log entry 221] -/
def State.unlocked (s : State) (l : Nat) : State :=
  let (v, t) := s.fresh
  t.set (K (laneIdx l) 5) (if s.get (K (laneIdx l) 3) = 1 then v % 65 else v % 64)

/-- A lane begins to train at the rate of its port. -/
def State.laneTrains (s : State) (p l : Nat) : State :=
  let x := s.lane l
  let t := (s.putLane l { x with run := 0, slips := 0, locked := false, idle := false, alone := false, fwd := false }).unlocked l
  ((t.set (K (laneIdx l) 1) 2).set (K (laneIdx l) 2) (t.portRate p)).emit (.block l 1 (t.trainBytes p l false false))

/-- A port starts to train at a rate: TRAIN on every forward lane (R335 step 1). -/
def State.startTrain (s : State) (p rate : Nat) : State :=
  let t1 :=
    if p < 8 then
      let u := (s.dropPort p).putTrain p { Train.init with since := some s.now }
      (u.putPort p { u.port p with rate := rate }).set (K (0x4400 + p) 0x0A) 1
    else (((s.putTrain p { Train.init with since := some s.now }).set (K 0x7030 3) 0).set (K 0x7030 4) 0).set (K (laneIdx 16) 2) rate
  (t1.portLanes p).foldl (fun t l => t.laneTrains p l) t1

/-- The lane has completed step 5 of R335: 16 TRAIN blocks in a row with LOCKED and READY, and its own adaptation of 500 µs. -/
def State.laneDone (s : State) (l : Nat) : Bool :=
  let x := s.lane l
  x.locked && decide (16 ≤ x.run) && decide (x.lockAt + 500000 ≤ s.now)

/-- The CTLE setting and DFE taps after adaptation: a fixed CTLE setting as configured, the rest as the channel makes it (R342). -/
def State.adapt (s : State) (l : Nat) : State :=
  let cfg := if l < 16 then s.get (K (0x7020 + l / 4) 5) else 0
  let (v, t) := s.fresh
  let ctle := if cfg < 0x10 then v / 2 ^ 40 % 16 else cfg - 0x10
  (t.putLane l { t.lane l with eqAt := t.now }).set (K (laneIdx l) 0x0E) (ctle * 2 ^ 56 + v % 2 ^ 40)

/-- DFE taps after up to n steps of one tap each, in bytes from tap 5 up: where in that bound they go, the channel decides; a tap moves no
further than the byte `w` names, and stays an I8. -/
def driftTaps : List Nat → Nat → Nat → Nat
  | [], _, _ => 0
  | a :: rest, n, w =>
    let have_ := sgn 8 a
    let goal := sgn 8 (w % 256)
    let d := min n (goal - have_).natAbs
    let b := if have_ ≤ goal then have_ + d else have_ - d
    unsgn 8 b + 256 * driftTaps rest (n - d) (w / 256)

/-- The entry of the receive equaliser of a lane in traffic as it is read: since it was last brought up to date, the DFE has made at most one step
of one tap per 2^16 bits, of its own choosing; a fixed CTLE setting holds the CTLE (R342). [DESIGN CHOICE, log entry 197] -/
def State.eqRead (s : State) (l : Nat) : State :=
  let x := s.lane l
  let cfg := if l < 16 then s.get (K (0x7020 + l / 4) 5) else 0
  let old := s.get (K (laneIdx l) 0x0E)
  let v := if cfg < 0x10 then old else (cfg - 0x10) * 2 ^ 56 + old % 2 ^ 56
  if s.laneState l = 3 ∨ s.laneState l = 4 then
    let steps := (s.now - x.eqAt) * (2 ^ s.get (K (laneIdx l) 2) * 16) / (10 * 65536)
    let (w, t) := s.fresh
    let taps := (List.range 5).map fun j => v / 256 ^ j % 256
    (t.putLane l { x with eqAt := if steps = 0 then x.eqAt else s.now }).set (K (laneIdx l) 0x0E) (v / 2 ^ 40 * 2 ^ 40 + driftTaps taps steps w)
  else s

/-- The sync headers of a receiver in block lock as they are read: fewer than 16 of the last 64 are invalid, and the count of invalid ones has
gone on, as the channel makes it; the count saturates (R331, R354). [DESIGN CHOICE, log entry 221] -/
def State.headersRead (s : State) (l : Nat) : State :=
  if (s.lane l).locked && s.laneState l != 6 then
    let (v, t) := s.fresh
    (t.set (K (laneIdx l) 5) (64 - v % 16)).set (K (laneIdx l) 6) (satN 0xFFFFFFFF (s.get (K (laneIdx l) 6) + v / 16))
  else s

/-- The twin link's entries for the lanes that are up (R351, R355). -/
def State.showTwinLink (s : State) : State :=
  let up (l : Nat) : Bool := s.laneState l == 3
  let n := b2n (up 16) + b2n (up 17)
  let t : State := if n = 0 then { s with tw := { s.tw with agreed := 0 } } else s
  (t.set (K 0x7030 3) n).set (K 0x7030 4)
    (b2n (up 16) + 2 * b2n (up 17) + 4 * b2n (decide (0 < n) && s.get (K (laneIdx 16) 2) == 2))

/-- The forward pair of a lane is trained. -/
def State.laneRuns (s : State) (l : Nat) : State := s.putLane l { s.lane l with fwd := true }

/-- A port comes up on some of its lanes: the others have failed; the Tile Link starts with the identity check, or resumes after a
rate switch (R224, R225, R335, R338). -/
def State.portComesUp (s : State) (p : Nat) (good : List Nat) : State :=
  let lanes := s.portLanes p
  let t := lanes.foldl (fun t l => if good.contains l then ((t.set (K (laneIdx l) 1) 3).adapt l).laneRuns l else t.set (K (laneIdx l) 1) 5) s
  let tr := t.train p
  if 8 ≤ p then
    (t.putTrain p { tr with since := none, retryAt := none, switch := none }).showTwinLink
  else
    let pos := good.map (· % 4)
    let x := t.port p
    match tr.switch with
    | some sw =>
      let u := t.putTrain p { tr with since := none, switch := if t.outputsOn then some { sw with step := 6 } else none }
      (u.putPort p { x with stripe := pos, ret := nth 0 pos 0, lastRet := u.now, slotAt := 4000 * u.now, lastEnd := 4000 * u.now, since := 0,
                            alignNo := 0 }).refreshLink p
    | none =>
      let u := t.putTrain p { tr with since := none, retryAt := none }
      let u1 := u.putPort p { x with trained := true, ready := false, stripe := pos, ret := nth 0 pos 0, lastRet := u.now,
                                     slotAt := 4000 * u.now, lastEnd := 4000 * u.now }
      let u2 := if good.length < lanes.length then u1.sendStripe p pos else u1
      (u2.refreshLink p).regOp p { why := .ident, write := false, first := 0, count := 4, vals := [] }

/-- The remaining lanes of a group carry it at their configured rate (R183). -/
def State.fitsNow (s : State) (g : Nat) : Bool :=
  match (s.epsOfGroup g).head? with
  | none => false
  | some e =>
    let i := s.ep e 2
    s.groupFits g ((s.slots4 i).map (· / 1000)) (s.startDelay i s.fs.rowU) (nsOfU (s.periodU s.fs.rowU))

/-- A rate switch is in progress on a port, from step 2 to step 6 of R338. -/
def State.switching (s : State) (p : Nat) : Bool :=
  match (s.train p).switch with | some w => decide (2 ≤ w.step ∧ w.step < 6) | none => false

/-- A lane is declared failed (R345): recorded, counted, and reported to the SOU, which re-stripes its group where the lane is in its map (R183);
a port that switches its rate, from the BLANK MILESTONE to the end of training, or that has no lane left, trains again (R223, R335, R340). -/
def State.laneFault (s : State) (l cause : Nat) : State :=
  match s.portOfLane l with
  | none => s
  | some p =>
    if s.laneState l = 5 then s else
    let t := (((s.set (K (laneIdx l) 1) 5).set (K (laneIdx l) 8) cause).inc (K 0x7000 4)).stand 0x0C 7 l
    let left := (t.portLanes p).any fun k => t.laneState k != 5
    let inMap := decide (p < 8) && (t.stripeOf p).contains (l % 4)
    let plain : State :=
      if !left then t.startTrain p 0
      else if 8 ≤ p then t.showTwinLink
      else if inMap then t.restripe (t.ep p 4) (t.fitsNow (t.ep p 4)) else t
    match (t.train p).switch with
    | some w => if 1 ≤ w.step ∧ w.step < 6 then t.startTrain p w.before else plain
    | none => if !left && inMap then (t.restripe (t.ep p 4) (t.fitsNow (t.ep p 4))).startTrain p 0 else plain

/-- A rate check has failed: the switch runs again to the next lower rate, or the port trains again from 1.6 Gb/s (R339). `step` is the
step from which the new switch starts. -/
def State.fallBackRate (s : State) (p rate step frame : Nat) : State :=
  let tr := s.train p
  if rate = 0 then s.startTrain p 0
  else
    (s.putTrain p { tr with switch := some ⟨step, rate - 1, s.portRate p, frame⟩, check := none, checkBad := false,
                            noStepUp := true }).inc (K 0x7000 5)

/-- A port wants to step up: its identity check is passed and its target lies above its rate (R337, R339). -/
def State.wantsStep (s : State) (p : Nat) : Bool :=
  let tr := s.train p
  (if p < 8 then (s.port p).ready else s.portUp 8) && tr.switch.isNone && tr.check.isNone && !tr.noStepUp
    && decide (s.portRate p < s.targetRate p)

/-- The RATE blocks of a countdown on each lane, then the new rate and TRAIN (R332, R338 steps 2 and 3). On the twin link only the device strapped
0 steps the lanes up; at its partner, in the endpoint role, this is the end of the countdown that it receives (R351). A failed lane has the rate of
its port too (R329). [DEDUCED, log entry 222] -/
def State.switchRate (s : State) (p : Nat) (w : Switch) : State :=
  let n (v : Nat) : Byte := BitVec.ofNat 8 v
  let lanes := (s.portLanes p).filter fun l => s.laneState l != 5
  let t := if p = 8 ∧ s.tw.ident ≠ 0 then s
    else lanes.foldl (fun t l => (List.range 16).foldl (fun u c => u.emit (.block l 2 [n w.target, n (15 - c), 0, 0, 0, 0, 0])) t) s
  let t1 := t.putTrain p { t.train p with switch := some { w with step := 3 }, since := some t.now }
  let t2 := if p < 8 then t1.putPort p { t1.port p with rate := w.target } else t1.set (K (laneIdx 16) 2) w.target
  let t3 := (s.portLanes p).foldl (fun t l => t.set (K (laneIdx l) 2) w.target) t2
  lanes.foldl (fun t l => t.laneTrains p l) t3

end Sys2Proof.Machine
end

