-- ==== Sys2Proof/Machine/Links.lean ====
section
/-! DEFINITION. Commands of chapter 06: MILESTONE, return packets, retransmission, register window, tile supplies. -/

namespace Sys2Proof.Machine

/-! ### MILESTONE (R209, R212) -/

/-- The three payload words of a MILESTONE (R209): times in 1/16 tick, 2^-16 tick, rows and flags. -/
def milestoneWords (exec first rowPeriod framePeriod rows flags : Nat) : List Nat :=
  [exec % 2 ^ 32 * 2 ^ 32 + first % 2 ^ 32, rowPeriod % 2 ^ 32 * 2 ^ 32 + framePeriod % 2 ^ 32, rows * 2 ^ 48 + flags * 2 ^ 40]

/-- The rate switch of a port as MILESTONE N sees it: the port's frame is dark while it switches; where only some of its lanes have completed, the
others count as lane faults (R337–R340). [DEDUCED, log entry 199] -/
def State.milestoneSwitch (s : State) (e n : Nat) : State :=
  let tr := s.train e
  match tr.switch with
  | some w =>
    if w.step = 6 then
      (s.putTrain e { tr with switch := none, check := some (s.now + s.get (K 0x4410 1)), checkBad := false, checkOver := false }).refreshLink e
    else if w.step = 0 then s.putTrain e { tr with switch := some { w with step := 1, frame := n } }
    else
      let done := (s.portLanes e).filter fun l => s.laneState l == 2 && s.laneDone l
      let late := (s.portLanes e).filter fun l => s.laneState l == 2 && !s.laneDone l
      if done.isEmpty then s.fallBackRate e w.target 1 n
      else (late.foldl (fun t l => (t.inc (K 0x7000 4)).stand 0x0C 7 l) s).startTrain e w.before
  | none =>
    if s.fs.firstLight && s.wantsStep e then
      s.putTrain e { tr with switch := some ⟨1, s.targetRate e, s.portRate e, n⟩ }
    else s

/-- The next frame is planned as that of first light: step 8 is due, and the frame is composed or in composition, or line-following mode
composes its rows (R565). [DEDUCED, log entry 212] -/
def State.lightPlan (s : State) : State :=
  let n := s.frameAt 1
  if s.fs.lightDue && s.fs.running && (s.lineMode || s.fs.readyOf == some n || (s.fs.composing && s.fs.compFrame == n)) then
    { s with fs := { s.fs with lightFrame := some n } }
  else s

/-- The MILESTONE of the next frame leaves for an endpoint (R212, R213, R237, R239, R338). -/
def State.milestone (s : State) (e : Nat) : State :=
  let n := (s.get (K 0x4300 0x11) + 1) % 2 ^ 32
  let s1 := s.milestoneSwitch e n
  let p := s1.port e
  if !p.ready then s1 else
  let i := s.ep e 2
  let rowU := s.rowUAt 1
  let ra := s.nextCfg (K 0x4300 3)
  let vb := s.nextCfg (K 0x4300 4)
  let hs := max 1 (s.nextCfg (K (0x4330 + i) 4))
  let mirror := s.ep e 3 == 2
  let y0 := s.nextCfg (K (0x4400 + e) 7)
  let exec := roundDiv ((s.get (K 0x4410 1) * 1000 - s.nextCfg (K (0x4400 + e) 9)) * 4) 625
  let first := if mirror then roundDiv (max (nsOfU (vb * rowU)) (dwellIn s.nextCfg i) * 32) 5 else roundDiv (vb * rowU * hs + y0 * ra * rowU) (4096 * hs)
  let blank := !(s.fs.firstLight || s.fs.lightFrame == some n) || bit s.safe.path1 i || s.nextDark || (s1.train e).switch.isSome || p.planesWait
  let last := s.nextCfg (K (0x4330 + i) 1) == 0 || s.nextCfg (K (0x4400 + e) 1) == 0
  let flags := b2n blank + 4 * b2n last
  let missing := if p.due && !p.gotStatus then p.missing + 1 else 0
  let s2 := s1.putPort e { p with due := true, gotStatus := false, missing := missing, darkNext := blank, planesHeld := p.planesWait }
  s2.sendPacket e 4 n (milestoneWords exec first (if mirror then 0 else roundDiv (ra * rowU) hs) (roundDiv ((ra + vb) * rowU) 4096)
    (if mirror then 0 else s.nextCfg (K (0x4400 + e) 0x19)) flags) 0 none

/-- The MILESTONEs leave on every port of an enabled endpoint, Milestone lead ahead of the frame milestone; the standby side sends
none (R212, R226). With them path 1 ends for a source whose endpoints have passed READY (R397). -/
def execMilestone (dt : Nat) (s : State) : Res :=
  let t := (s.tick dt).lightPlan
  done (if t.fs.running && t.outputsOn then
      let u := (List.range 4).foldl (fun u i => u.endPath1 i) t
      ((List.range 8).filter u.epOn).foldl (fun u e => u.milestone e) u
    else t)

/-! ### Answers -/

/-- A register value went unanswered, or was refused: what it was for does not happen (R222, R224, R231). -/
def State.regFailed (s : State) (e : Nat) (why : Why) (res : Option Nat) : State :=
  let i := s.ep e 2
  match why with
  | .ident | .config => s.event 6 6 (K (0x4400 + e) 0x16)
  | .gainInfo | .gainAsk => (s.set (K (0x4200 + i) 5) 3).event 4 3 (K (0x4200 + i) 5)
  | .window => s.set (K 0x4410 5) (match res with | some r => 0x10 + r % 16 | none => 3)
  | .maps | .planes => s

/-- No answer came within 4 µs of a packet's END: it is sent again, up to the limit; a MILESTONE is not (R200). -/
def State.retransmit (s : State) (e seq : Nat) : State :=
  let p := s.port e
  match p.unans.find? fun u => u.seq == seq with
  | none => s
  | some u =>
    let rest := p.unans.filter fun v => v.seq != seq
    let g := s.ep e 4
    if u.typ = 4 then ((s.putPort e { p with unans := rest }).inc (K (0x4400 + e) 0x10)).event 6 4 e
    else if u.sends ≤ s.get (K 0x4410 2) then
      let again : Unans := { u with sends := u.sends + 1 }
      (((s.putPort e { p with unans := rest ++ [again] }).putTx e ⟨s.now, u.typ, u.arg, u.words, u.lanes, some seq, u.op⟩).inc
        (K (0x4400 + e) 0x11)).count 3 2 1
    else
      let quiet := u.typ == 5
      let t0 := if quiet && p.windowOpen then s.set (K 0x4410 5) 3 else s
      let t := t0.putPort e (if quiet then { p with unans := [], txq := [], regq := [], mute := true } else { p with unans := rest })
      match u.op with
      | some op =>
        if op.why = .planes then t.regOp e op else (t.regFailed e op.why none).pumpRegs e
      | none => if u.typ = 6 then t.restripeFailed g else t

/-- The retransmission timeout of a packet of an endpoint's port. -/
def execRetransmitTimeout (dt : Nat) (e : Fin 8) (seq : Nat) (s : State) : Res := done (((s.tick dt).drain e).retransmit e seq)

/-- The fields of a return packet that must be 0, beside its header's: the low half of an ACK's ARG, the ARG of an IDLE, and bits 31 to 16 of
the first word of a STATUS (R196, R197, R220). -/
def returnZero (typ head : Nat) (words : List Nat) : Bool :=
  match typ with
  | 0 => field head 31 0 == 0
  | 0xA => field head 15 0 == 0
  | 0xC => field (nth 0 words 0) 31 16 == 0
  | _ => true

/-- A return packet is accepted by the checks of R197: CRC, type, length, reserved fields, ACT, and the endpoint of the port. -/
def State.returnOk (s : State) (e typ head : Nat) (words : List Nat) (crc lo hi : Nat) : Bool :=
  (s.port e).trained && crc == packetCrc head words && field head 63 60 == typ && field head 59 57 == e && field head 56 56 == 0
    && field head 47 45 == 0 && returnZero typ head words && field head 44 32 == words.length && decide (lo ≤ words.length ∧ words.length ≤ hi)

/-- A return packet is discarded and counted (R197). -/
def State.discard (s : State) (e : Nat) : State := (s.inc (K (0x4400 + e) 0x12)).count 3 4 1

/-- A return packet keeps the return lane live (R220); a SEQ that jumps by more than 1 counts a sequence gap (R198).
[DEDUCED, log entry 204] -/
def State.alive (s : State) (e head : Nat) : State :=
  let p := s.port e
  let q := field head 55 48
  let gap := match p.retSeq with | some r => decide (1 < (q + 256 - r) % 256) | none => false
  s.putPort e { p with lastRet := s.now, retSeq := some q, gaps := p.gaps + b2n gap }

/-- An endpoint has passed its identity check and holds its configuration: it may be shown (R224); its gain map is asked for (R222), and a
mirror array gets the plane schedule in force (R239). [DEDUCED, log entries 92, 204] -/
def State.portReady (s : State) (e : Nat) : State :=
  let i := s.ep e 2
  let t := s.putPort e { s.port e with ready := true, planesWait := false }
  let t0 := if t.ep e 3 = 2 then t.sendPlanes i (t.planes4 i) else t
  let t1 := if t0.targetRate e < t0.act (K (0x7020 + t0.ep e 4) 1) then t0.event 0x0C 0x0B (K (0x7020 + t0.ep e 4) 1) else t0
  if t1.get (K (0x4200 + i) 1) = 1 ∧ t1.get (K (0x4200 + i) 5) = 1 ∧ !(t1.port e).gainDone ∧ t1.outputsOn = true then
    t1.regOp e { why := .gainInfo, write := false, first := 0x21, count := 2, vals := [] }
  else t1

/-- What an ACK of a REG_WR does. -/
def State.ackReg (s : State) (e res : Nat) (op : RegOp) : State :=
  let good := res == 0 || res == 6
  match op.why with
  | .config => if good then s.portReady e else s.regFailed e .config (some res)
  | .gainAsk =>
    if good then s.putPort e { s.port e with gainAsked := some s.now, gainMap := MapRx.empty } else s.regFailed e .gainAsk (some res)
  | .planes => if good then s.putPort e { s.port e with planesWait := false } else s
  | .window => if res = 0 then s.set (K 0x4410 5) 2 else s.regFailed e .window (some res)
  | .ident | .maps | .gainInfo => s

/-- The BLANK MILESTONE of a rate switch is acknowledged: the countdown is due (R338). -/
def State.switchAcked (s : State) (e n : Nat) : State :=
  match (s.train e).switch with
  | some w => if w.step = 1 ∧ w.frame = n then s.putTrain e { s.train e with switch := some { w with step := 2 } } else s
  | none => s

/-- An ACK answers a MILESTONE, BLANK, STRIPE or REG_WR (R199). -/
def State.ack (s : State) (e head : Nat) : State :=
  let t := s.alive e head
  let p := t.port e
  let seq := field head 31 24
  let res := field head 23 16
  match p.unans.find? fun u => u.seq == seq && u.typ != 8 with
  | none => t
  | some u =>
    let t1 := t.putPort e { p with unans := p.unans.filter fun v => v.seq != seq }
    match u.op with
    | some op => (t1.ackReg e res op).pumpRegs e
    | none =>
      let g := t1.ep e 4
      if u.typ = 6 then (if res = 0 ∨ res = 6 then t1.restripeDone g else t1.restripeFailed g)
      else if u.typ = 4 then t1.switchAcked e u.arg else t1

/-- An ACK arrives: header word and CRC of its END block. -/
def execAck (dt : Nat) (e : Fin 8) (head crc : Nat) (s : State) : Res :=
  let t := s.tick dt
  done (if t.returnOk e 0xA head [] crc 0 0 then (t.drain e).ack e head else t.discard e)

/-- A return IDLE arrives: it keeps the return lane live (R220). -/
def execIdle (dt : Nat) (e : Fin 8) (head crc : Nat) (s : State) : Res :=
  let t := s.tick dt
  done (if t.returnOk e 0 head [] crc 0 0 then t.alive e head else t.discard e)

/-- The code of a grey depth in TCONFIG and its bit in DEPTHS (R217, R218). -/
def depthCode : Nat → Nat
  | 8 => 0 | 10 => 1 | 12 => 2 | _ => 3

/-- The identity check of R224 on TID, TCAPS, TSIZE and TLVER: none, or the entry at fault. -/
def State.identBad (s : State) (e caps size ver : Nat) : Option Nat :=
  let kind := field caps 31 28
  if kind ≠ s.ep e 3 ∨ (kind = 1 ∧ bit (field caps 27 24) (depthCode (s.ep e 8)) = false)
      ∨ field caps 23 20 < (laneList (s.ep e 5)).length then some (K (0x4400 + e) 0x16)
  else if size ≠ s.ep e 0x18 * 65536 + s.ep e 0x19 then some (K (0x4400 + e) 0x17)
  else if field ver 15 8 ≠ 1 then some (K 0x4410 6)
  else none

/-- What a REG_RSP delivers (R215, R222, R224, R231). The standby side writes no TCONFIG, since it sends REG_RD only (R226). -/
def State.regValues (s : State) (e : Nat) (op : RegOp) (vals : List Nat) : State :=
  let at_ (n : Nat) : Nat := nth 0 vals n
  match op.why with
  | .ident =>
    let k := 0x4400 + e
    let t := ((s.set (K k 0x15) (at_ 0)).set (K k 0x16) (at_ 1)).set (K k 0x17) (at_ 2)
    let t1 := t.putPort e { t.port e with tlver := at_ 3 }
    let t2 := if t1.tw.single = false ∧ bit (at_ 1) 15 = false then t1.event 0x1A 6 (K k 0x16) else t1
    match t2.identBad e (at_ 1) (at_ 2) (at_ 3) with
    | some arg => t2.event 6 6 arg
    | none =>
      if !t2.outputsOn then t2.portReady e else
      t2.regOp e { why := .config, write := true, first := 0x10, count := 1, vals := [e * 2 ^ 21 + depthCode (t2.ep e 8) * 2 ^ 18] }
  | .gainInfo =>
    let caps := s.get (K (0x4400 + e) 0x16)
    if bit caps 14 && at_ 1 == s.ep e 0x18 * s.ep e 0x19 * 2 then
      (s.putPort e { s.port e with gainCrc := at_ 0, gainLen := at_ 1 }).regOp e
        { why := .gainAsk, write := true, first := 0x20, count := 1, vals := [2] }
    else s.regFailed e .gainInfo none
  | .window => (s.set (K 0x4410 4) (at_ 0)).set (K 0x4410 5) 2
  | .config | .maps | .gainAsk | .planes => s

/-- A REG_RSP answers a REG_RD; one with a result other than 0 carries no values (R215). Values of the identity check or of a gain map that
were lost with a first answer are asked for again. [DEDUCED, log entry 190] -/
def State.regRsp (s : State) (e head : Nat) (words : List Nat) : State :=
  let t := s.alive e head
  let p := t.port e
  let seq := field head 31 24
  let res := field head 23 16
  match p.unans.find? fun u => u.seq == seq && u.typ == 8 with
  | none => t
  | some u =>
    let t1 := t.putPort e { p with unans := p.unans.filter fun v => v.seq != seq }
    match u.op with
    | none => t1
    | some op =>
      let good := res == 0 && words.length == ceilDiv op.count 2
      let again := res == 6 && (op.why == .ident || op.why == .gainInfo)
      (if good then t1.regValues e op ((wordRegs words).take op.count)
        else if again then t1.regOp e op else t1.regFailed e op.why (some res)).pumpRegs e

/-- A REG_RSP arrives. -/
def execRegRsp (dt : Nat) (e : Fin 8) (head : Nat) (words : List Nat) (crc : Nat) (s : State) : Res :=
  let t := s.tick dt
  let some_ := field head 23 16 == 0
  done (if t.returnOk e 0xB head words crc (b2n some_) (32 * b2n some_) then (t.drain e).regRsp e head words else t.discard e)

/-! ### STATUS and maps (R220–R222) -/

/-- A STATUS in a rate check: its interval runs from the STATUS before it, and one that overlaps the window fails the check with a discard or a gap;
the first whose interval reaches past the window passes it without, once the window is over with no error on the return lane (R339). -/
def State.statusCheck (s : State) (e : Nat) (bad : Bool) : State :=
  let tr := s.train e
  let w := s.get (K 0x7000 1) * 1000
  let at_ (x : Train) : State := s.putTrain e { x with statusAt := s.now }
  match tr.check with
  | none => at_ tr
  | some a =>
    let inside := decide (a < s.now ∧ tr.statusAt < a + w)
    if inside && bad then
      if tr.checkOver then (at_ tr).fallBackRate e (s.portRate e) 0 (s.get (K 0x4300 0x11)) else at_ { tr with checkBad := true }
    else if tr.checkOver && decide (a + w ≤ s.now) then at_ { tr with check := none }
    else at_ tr

/-- A STATUS delivers an endpoint's state, temperature and counts; a discard or gap during a rate check fails it, and in a state other
than DISPLAY the illumination of its source is off (R220, R242, R339). -/
def State.status (s : State) (e head : Nat) (words : List Nat) : State :=
  let t := s.alive e head
  let w (n : Nat) : Nat := nth 0 words n
  let k := 0x4400 + e
  let bad := field (w 1) 31 16 != 0 || field (w 1) 15 0 != 0
  let t1 := t.statusCheck e bad
  let t1 := if field (w 0) 63 56 = 3 then t1 else t1.cutLight (t1.ep e 2)
  let t2 := t1.putPort e { t1.port e with gotStatus := true, missing := 0 }
  ((((t2.set (K k 0x0B) (field (w 0) 63 56)).set (K k 0x0C) (field (w 0) 15 0)).addTo (K k 0x0F) (field (w 1) 63 48)).set (K k 0x13)
    (field (w 2) 63 32)).set (K k 0x14) (field (w 2) 31 0)

/-- A STATUS arrives. -/
def execStatus (dt : Nat) (e : Fin 8) (head : Nat) (words : List Nat) (crc : Nat) (s : State) : Res :=
  let t := s.tick dt
  done (if t.returnOk e 0xC head words crc 3 3 then t.status e head words else t.discard e)

/-- Two STATUS packets in a row are missing from an endpoint: a fault record (R220). [DEDUCED, log entry 93] -/
def State.statusMissing (s : State) (e : Nat) : State :=
  let p := s.port e
  if 2 ≤ p.missing then (s.putPort e { p with missing := 0 }).event 6 4 e else s

/-- The second STATUS in a row has not come. -/
def execStatusMissing (dt : Nat) (e : Fin 8) (s : State) : Res := done ((s.tick dt).statusMissing e)

/-- The bytes of a map received without a gap from offset 0. -/
def mapJoin (m : List (Nat × List Byte)) : List Byte :=
  m.foldl (fun acc p => if p.1 ≤ acc.length then acc.take p.1 ++ p.2 else acc) []

/-- Pixels set in a map of w × h bits, row by row (R149). -/
def mapBits (b : List Byte) (n : Nat) : List Nat := (List.range n).filter fun k => bit (byteAt b (k / 8)) (7 - k % 8)

/-- A whole fault map is taken: a tile's bits are set in the source's dead-pixel map through its origin; a mirror array's are
counted (R221). -/
def State.takeMap (s : State) (e map : Nat) (b : List Byte) : State :=
  let w := s.ep e 0x18
  let px := mapBits b (w * s.ep e 0x19)
  let i := s.ep e 2
  if s.ep e 3 = 2 then (s.set (K (0x4400 + e) (if map = 1 then 0x13 else 0x14)) px.length).event 6 8 e
  else
    let x := s.src i
    let new := px.map fun k => (s.ep e 7 + k / w) * s.actW i + s.ep e 6 + k % w
    s.putSrc i { x with reported := x.reported ++ new.filter fun n => !x.reported.contains n }

/-- An FMAP packet: the map is taken once it is whole; one that ends incomplete is asked for again, up to three times (R221). -/
def State.fmap (s : State) (e head : Nat) (words : List Nat) : State :=
  let t := s.alive e head
  let map := field head 31 30
  let p := t.port e
  let rx := if map = 1 then p.openMap else p.shortMap
  let rx1 : MapRx := { rx with bytes := mapPut rx.bytes (field head 28 0) (words.flatMap wordBytes) }
  let put (r : MapRx) : State := t.putPort e (if map = 1 then { p with openMap := r } else { p with shortMap := r })
  if bit head 29 then
    let b := mapJoin rx1.bytes
    if ceilDiv (t.ep e 0x18 * t.ep e 0x19) 8 ≤ b.length then (put MapRx.empty).takeMap e map b
    else if rx.tries < 3 then
      (put { bytes := [], tries := rx.tries + 1 }).regOp e { why := .maps, write := true, first := 0x20, count := 1, vals := [1] }
    else put MapRx.empty
  else put rx1

/-- An FMAP packet arrives. -/
def execFmap (dt : Nat) (e : Fin 8) (head : Nat) (words : List Nat) (crc : Nat) (s : State) : Res :=
  let t := s.tick dt
  let m := field head 31 30
  done (if t.returnOk e 0xD head words crc 1 32 && (m == 1 || m == 2) then t.fmap e head words else t.discard e)

/-- A whole gain map that matches its CRC is placed at the endpoint's origin; the source's map is ready when every endpoint's is
(R145, R222). -/
def State.takeGain (s : State) (e : Nat) (b : List Byte) : State :=
  let w := s.ep e 0x18
  let i := s.ep e 2
  let x := s.src i
  let put (m : List (Nat × Nat)) (k : Nat) : List (Nat × Nat) :=
    let n := (s.ep e 7 + k / w) * s.actW i + s.ep e 6 + k % w
    let g := beAt b (2 * k) 2
    if g = 0x8000 then mapDel m n else mapPut m n g
  let t := s.putSrc i { x with gmap := (List.range (w * s.ep e 0x19)).foldl put x.gmap }
  let u := (List.range (s.ep e 0x19)).foldl (fun u r => u.rewritten (u.gainByte i ((s.ep e 7 + r) * s.actW i + s.ep e 6)) (2 * w)) t
  u.putPort e { u.port e with gainDone := true, gainAsked := none, gainMap := MapRx.empty }

/-- A GMAP packet (R222). -/
def State.gmap (s : State) (e head : Nat) (words : List Nat) : State :=
  let t := s.alive e head
  let p := t.port e
  if p.gainAsked.isNone then t else
  let rx : MapRx := { p.gainMap with bytes := mapPut p.gainMap.bytes (field head 28 0) (words.flatMap wordBytes) }
  if bit head 29 then
    let b := (mapJoin rx.bytes).take p.gainLen
    if b.length = p.gainLen ∧ crc32c b = p.gainCrc then t.takeGain e b
    else (t.putPort e { p with gainAsked := none, gainMap := MapRx.empty }).regFailed e .gainAsk none
  else t.putPort e { p with gainMap := rx }

/-- A GMAP packet arrives. -/
def execGmap (dt : Nat) (e : Fin 8) (head : Nat) (words : List Nat) (crc : Nat) (s : State) : Res :=
  let t := s.tick dt
  done (if t.returnOk e 0xE head words crc 1 32 && field head 31 30 == 0 then t.gmap e head words else t.discard e)

/-- A gain map that was asked for has not come within 50 ms: a load failure (R222). -/
def State.gainTimeout (s : State) (e : Nat) : State :=
  let p := s.port e
  match p.gainAsked with
  | some a =>
    if a + 50000000 ≤ s.now then (s.putPort e { p with gainAsked := none, gainMap := MapRx.empty }).regFailed e .gainAsk none else s
  | none => s

/-- The time for a gain map is over. -/
def execGainMapTimeout (dt : Nat) (e : Fin 8) (s : State) : Res := done ((s.tick dt).gainTimeout e)

/-! ### Register window (R231) -/

/-- A window access leaves for its endpoint; a port that is not trained, or that it may not leave, gives no answer. -/
def State.windowOp (s : State) (write : Bool) (v : Nat) : State :=
  let a := s.get (K 0x4410 3)
  let e := field a 18 16
  if (s.port e).trained ∧ s.txAllowed e (if write then 7 else 8) = true then
    (s.set (K 0x4410 5) 1).regOp e { why := .window, write := write, first := field a 15 0, count := 1, vals := [v] }
  else s.set (K 0x4410 5) 3

/-- Effect of a write to the window address: with READ set it sends a REG_RD. -/
def effWindowAddr : Effect := fun s v =>
  if s.get (K 0x4410 5) = 1 then (s, (0x0402, 0))
  else
    let t := s.set (K 0x4410 3) v
    (if bit v 31 then t.windowOp false 0 else t, ok)

/-- Effect of a write to the window data: a REG_WR, which an enabled endpoint's registers 0x0000 to 0x01FF refuse. -/
def effWindowData : Effect := fun s v =>
  let a := s.get (K 0x4410 3)
  if s.get (K 0x4410 5) = 1 ∨ (s.epOn (field a 18 16) = true ∧ field a 15 0 ≤ 0x1FF) then (s, (0x0402, 0))
  else ((s.set (K 0x4410 4) v).windowOp true v, ok)

/-- A write with READ set to the register window address. -/
def execRegisterWindowRead (dt : Nat) (rq : Rq) (ep : Fin 8) (reg : Nat) (s : State) : Res :=
  done ((s.tick dt).command rq (K 0x4410 3) (2 ^ 31 + ep * 65536 + reg % 65536) effWindowAddr)

/-- A write to the register window data. -/
def execRegisterWindowWrite (dt : Nat) (rq : Rq) (v : Nat) (s : State) : Res :=
  done ((s.tick dt).command rq (K 0x4410 4) v effWindowData)

/-! ### Supplies (R228) -/

/-- The settle time of a tile supply ends: the group's ports start to train. -/
def State.tseSettled (s : State) (g : Nat) : State :=
  match mapGet s.tl.settling g with
  | some a =>
    if a + s.get (K 0x4410 7) * 1000000 ≤ s.now then
      let t : State := { s with tl := { s.tl with settling := mapDel s.tl.settling g } }
      (t.epsOfGroup g).foldl (fun u e => u.startTrain e 0) t
    else s
  | none => s

/-- The settle time of TSEg ends. -/
def execTseSettleExpiry (dt : Nat) (g : Fin 4) (s : State) : Res := done ((s.tick dt).tseSettled g)

end Sys2Proof.Machine
end

