-- ==== Sys2Proof/Machine/SinkOps.lean ====
section
/-! DEFINITION. Sinks, rails, pattern engines, chains and matrix: shared operations of chapter 08 (R261–R288). -/

namespace Sys2Proof.Machine

/-! ### Channels and strings (R261–R268) -/

/-- Function of a channel (R261). -/
def State.chanFn (s : State) (c : Nat) : Nat := s.get (K (SK c) 1)

/-- The head of a channel's string. -/
def State.headOf (s : State) (c : Nat) : Nat := if s.chanFn c = 2 then s.get (K (SK c) 2) else c

/-- The sinks of the string of a head: the head and its members (R262). -/
def State.string (s : State) (h : Nat) : List Nat :=
  (List.range 128).filter fun c => (c == h && (s.chanFn c == 1 || s.chanFn c == 3)) || (s.chanFn c == 2 && s.get (K (SK c) 2) == h)

/-- The direct-matrix source in force (R285). -/
def State.matrixSrc (s : State) : Option Nat := s.srcs.find? fun i => s.srcType i == 4

/-- Columns and rows of the matrix in force. -/
def State.matCols (s : State) : Nat := s.act (K 0x5300 1)

/-- Rows of the matrix in force. -/
def State.matRows (s : State) : Nat := s.act (K 0x5300 2)

/-- The light window of a channel in LOOP cycles in its present period, slot or plane, and, for a matrix column, its row; a sink switched off by a fault has none (R240, R265, R270, R287). -/
def State.lightWindow (s : State) (c : Nat) : Nat × Option Nat :=
  let off := bit (s.get (K (SK c) 0x0D)) 5
  match s.sinkUse c with
  | some (i, e) =>
    if off then (0, none) else ((((nth PtuSrc.init s.prj.src i).drive.filter fun d => d.emitter == e).foldl (fun a d => max a d.len) 0) / 2, none)
  | none =>
    match s.matrixSrc, s.skb.show_ with
    | some _, some m => if c < m.cols.length then ((nth (0, 0, 0) m.cols c).2.1, some m.row) else ((s.chan c).on, none)
    | _, _ => ((s.chan c).on, none)

/-- LOOP cycles of a bank PWM period (R266). -/
def State.bankCycles (s : State) : Nat := s.periodU s.fs.rowU / (131072 * s.get (K 0x5000 3))

/-- LOOP cycles of the present frame. -/
def State.frameCycles (s : State) : Nat := s.periodU s.fs.rowU / 131072

/-- The 7-bit bit reversal. -/
def rev7 (c : Nat) : Nat := (List.range 7).foldl (fun a k => a + b2n (bit c k) * 2 ^ (6 - k)) 0

/-- Offset o_c of a channel's own periods in LOOP cycles; a member takes its head's (R267). -/
def State.offsetOf (s : State) (c : Nat) : Nat :=
  let h := s.headOf c
  let k := match s.get (K 0x5000 4) with
    | 0 => 0
    | 1 => rev7 h
    | _ => match s.dom (K 0x5000 5) with | some b => byteAt b h | none => h
  k * s.bankCycles / 128

/-- Amplitude code and D16 of the hybrid rule of R265: for a level and the code at full level as a ratio. -/
def hybrid (l xc num den : Nat) : Nat × Nat :=
  if l = 0 then (0, 0)
  else if xc ≤ l then (min 1023 (roundDiv (l * num) (65535 * den)), 0xFFFF)
  else (min 1023 (roundDiv (xc * num) (65535 * den)), roundDiv (l * 65535) xc)

/-- Amplitude code and D16 of the string of a head at a level: I_ch / I_LSB = I_FS · GREF · 1,023 / (255 · range) (R264, R265).
[DESIGN CHOICE, log entry 16] -/
def State.stringDrive (s : State) (h l : Nat) : Nat × Nat :=
  let ifs := (F32.floorMul (F32.ofNat (s.get (K (SK h) 3))) 40).toNat
  hybrid l (s.get (K 0x5000 2)) (ifs * s.get (K 0x5000 1) * 1023) (255 * s.rangeMa (h / 8) * 2 ^ 40)

/-- Strings run: from step 9 of BOOT, in OPERATE and HOLD, and without the Roadblock members in SAFE; never in PREOP, nor in a
HOLD that came from it, and not on the standby side (R51, R288). [DEDUCED, log entry 82] -/
def State.stringsOn (s : State) (c : Nat) : Bool :=
  s.outputsOn && match s.mode with
  | .boot => decide (9 ≤ s.sys.bootStep)
  | .preop | .standby => false
  | .operate => true
  | .hold => s.sys.before != 1
  | .safe => !s.memberSink c

/-! ### Pattern engines (R274–R279) -/

/-- Program of an engine as bytes: HOLD 0 where none is held. -/
def State.program (s : State) (e : Nat) : List Byte := (mapGet s.activeDoms (K (0x5100 + e) 1)).getD (toBe 4 0x30000000)

/-- Instruction at the program counter of an engine. -/
def State.instrAt (s : State) (e : Nat) : Nat := beAt (s.program e) (4 * s.get (K (0x5100 + e) 8)) 4

/-- A target of R277. -/
structure Target where
  kind : Nat
  out : Nat
  shape : Nat
  res : Nat
  start : Nat
  span : Nat
  level : Nat
  deriving DecidableEq, Repr

/-- The targets of a table. -/
def targetsOf : List Byte → Nat → List Target
  | _, 0 => []
  | b, n + 1 =>
    ⟨beAt b 0 2 / 4096, beAt b 0 2 % 4096, byteAt b 2, byteAt b 3, beAt b 4 2, beAt b 6 2, beAt b 8 2⟩ :: targetsOf (b.drop 10) n

/-- The targets of an engine. -/
def State.targets (s : State) (e : Nat) : List Target :=
  let b := (mapGet s.activeDoms (K (0x5100 + e) 2)).getD []
  targetsOf b (b.length / 10)

/-- The level of a target at an engine value, to nearest (R277). [DEDUCED, log entry 79] -/
def Target.levelAt (t : Target) (e : Nat) : Nat :=
  if t.shape = 0 then
    if e < t.start then 0
    else if t.span = 0 then t.level
    else roundDiv (t.level * min (e - t.start) t.span) t.span
  else
    let d := if e < t.start then t.start - e else e - t.start
    if t.span = 0 then (if d = 0 then t.level else 0)
    else roundDiv (t.level * (t.span - d)) t.span

/-- The levels of an engine's targets at this instant: those of its value while it runs or is halted, the fault level in FAULT, 0
when stopped (R274, R275, R279). -/
def State.engLevels (s : State) (e : Nat) : List Nat :=
  let st := s.engState e
  (s.targets e).map fun t =>
    if st = 0 then 0 else if st = 3 then s.get (K (0x5100 + e) 6) else t.levelAt (s.engValue e)

/-- The engine and target that drive an output: kind of R277 and number. -/
def State.engTarget (s : State) (kind out : Nat) : Option (Nat × Nat) :=
  (List.range 8).findSome? fun e =>
    (firstIdx (fun t : Target => t.kind == kind && t.out == out) (s.targets e)).map fun n => (e, n)

/-- The level of a string as the bank sees it: the host's, or the last sample of its engine (R261, R268, R274). -/
def State.stringLevel (s : State) (h : Nat) : Nat :=
  match s.chanFn h with
  | 1 => s.get (K (SK h) 4)
  | 3 => match s.engTarget 1 h with
    | some (e, n) => nth 0 (s.engine e).levels n
    | none => 0
  | _ => 0

/-- A bank boundary samples every engine (R274); in PREOP the engines are stopped (R288). -/
def State.sampleEngines (s : State) : State :=
  (List.range 8).foldl (fun t e =>
    let x := t.engine e
    let y : Engine := { x with levels := t.engLevels e }
    { t with skb := { t.skb with engines := putNth Engine.init t.skb.engines e y } }.set (K (0x5100 + e) 9) (t.engValue e)) s

/-- An engine starts at instruction 0 with its counters and value cleared (R279). [DEDUCED, log entry 80] -/
def State.engineStart (s : State) (e : Nat) : State :=
  let x := s.engine e
  ((s.putEngine e { x with value := 0, counters := [none, none], untimed := 0, wait := .none }).set (K (0x5100 + e) 7) 1).set (K (0x5100 + e) 8) 0

/-- The engines with autostart start at the frame milestone that enters OPERATE (R279). [DEDUCED, log entry 49] -/
def State.autostart (s : State) : State :=
  (List.range 8).foldl (fun t e => if t.get (K (0x5100 + e) 5) = 1 then t.engineStart e else t) s

/-- The program counter after an instruction; past the end of the program it is a free value, since the spec does not say what
runs there. -/
def State.engNext (s : State) (e pc : Nat) : State :=
  let n := (s.program e).length / 4
  if pc < n then s.set (K (0x5100 + e) 8) pc
  else
    let (v, t) := s.fresh
    t.set (K (0x5100 + e) 8) (v % max 1 n)

/-- The instruction that the engine executes next has an opcode, and the engine runs and does not wait. -/
def State.engDue (s : State) (e op : Nat) : Bool :=
  s.engState e == 1 && (s.engine e).wait == EngWait.none && field (s.instrAt e) 31 28 == op

/-- An instruction that takes no time ends: more than 32 of them in a row make a FAULT (R275). -/
def State.engUntimed (s : State) (e : Nat) (x : Engine) (pc : Nat) : State :=
  let t := (s.putEngine e { x with untimed := x.untimed + 1 }).engNext e pc
  if 32 < x.untimed + 1 then (t.set (K (0x5100 + e) 7) 3).event 9 0x14 (Config.argCode 0x14 (0x900 + e)) else t

/-- A timed instruction begins: the engine waits. -/
def State.engTimed (s : State) (e : Nat) (w : EngWait) : State :=
  s.putEngine e { s.engine e with untimed := 0, wait := w }

/-- A timed instruction ends and the engine goes on. [DEDUCED, log entry 80] -/
def State.engEnd (s : State) (e value : Nat) : State :=
  (s.putEngine e { s.engine e with value := value, wait := .none }).engNext e (s.get (K (0x5100 + e) 8) + 1)

/-- A frame milestone counts for the engines that wait for one (R274). -/
def State.engMilestone (s : State) : State :=
  (List.range 8).foldl (fun t e =>
    match t.engState e, (t.engine e).wait with
    | 1, .frames n => if n ≤ 1 then t.engEnd e (t.engine e).value else t.putEngine e { t.engine e with wait := .frames (n - 1) }
    | _, _ => t) s

/-! ### Chains (R280–R284) -/

/-- Fields of a driver and their width (R281). -/
def fmtOf : Nat → Nat × Nat
  | 0 => (48, 1) | 1 => (12, 4) | 2 => (6, 8) | 3 => (4, 12) | _ => (3, 16)

/-- Outputs of a chain. -/
def State.chainOuts (s : State) (n : Nat) : Nat := (fmtOf (s.get (K (0x5200 + n) 3))).1 * s.get (K (0x5200 + n) 2)

/-- Divider of the chain clock (R280). -/
def chainDiv (limit : Nat) : Nat := max 4 (ceilDiv 100000 limit)

/-- Shift time of a chain in ns (R283). -/
def State.shiftNs (s : State) (n : Nat) : Nat := 480 * s.get (K (0x5200 + n) 2) * chainDiv (s.get (K (0x5200 + n) 4))

/-- The levels of a chain's outputs at this instant: the host entry's or, for claimed outputs, their engine's (R283). -/
def State.chainNow (s : State) (n : Nat) : List Nat :=
  let host := (s.dom (K (0x5200 + n) 5)).getD []
  let claimed := (List.range 8).flatMap fun e => ((s.targets e).zip (s.engLevels e)).filter fun x => x.1.kind == 2 + n
  (List.range (s.chainOuts n)).map fun i =>
    match claimed.find? fun x => x.1.out == i with
    | some x => x.2
    | none => beAt host (2 * i) 2

/-- The levels in force at a frame milestone are kept for the updates of the frame (R283). -/
def State.latchChains (s : State) : State :=
  (List.range 2).foldl (fun t n =>
    if t.get (K (0x5200 + n) 1) = 1 then
      { t with skb := { t.skb with chains := modNth ⟨[], none, 0⟩ t.skb.chains n fun c => { c with levels := t.chainNow n } } }
    else t) s

/-- The code of a level at a field width (R281). -/
def fieldCode (b l : Nat) : Nat := (l * (2 ^ b - 1) + 32767) / 65535

/-- The 6 bytes of a driver: field 0 in the highest bits (R282). -/
def driverBytes (f b : Nat) (codes : List Nat) : List Byte :=
  toBe 6 ((List.range f).foldl (fun a i => a + nth 0 codes i * 2 ^ (48 - b * (i + 1))) 0)

/-- The stream of a chain: driver D − 1 first (R282). -/
def State.chainStream (s : State) (n : Nat) (levels : List Nat) : List Byte :=
  let (f, b) := fmtOf (s.get (K (0x5200 + n) 3))
  let d := s.get (K (0x5200 + n) 2)
  (List.range d).flatMap fun k =>
    let i := d - 1 - k
    driverBytes f b (((levels.drop (f * i)).take f).map fun l => fieldCode b l)

/-- What a chain does in the state of the device (R288): 0 nothing, 1 the zero stream, 2 its levels. [DEDUCED, log entries 81, 82] -/
def State.chainMode (s : State) (n : Nat) : Nat :=
  if s.get (K (0x5200 + n) 1) = 0 ∨ !s.outputsOn then 0
  else
    let member := s.get (K (0x5200 + n) 7) == 1
    if member && s.allBlocked then 1 else
    match s.mode with
    | .boot => if 9 ≤ s.sys.bootStep then 2 else 0
    | .preop => 1
    | .operate => 2
    | .hold => if s.sys.before = 1 then 1 else 2
    | .standby => 0
    | .safe => if member then 1 else 2

/-! ### Matrix (R285–R287) -/

/-- Light interval T_L in LOOP cycles (R287): slot length RA · T_row / (M · Rr) less the blank time. -/
def matLight (ra rowU m rr tbl : Nat) : Nat :=
  let den := 131072 * m * rr
  (ra * rowU * 5 - tbl * den) / (5 * den)

/-- Slot length in ns, to nearest. -/
def matSlotNs (ra rowU m rr : Nat) : Nat := roundDiv (ra * rowU * 5) (131072 * m * rr)

/-- The check of the matrix slot timing for a row period (R286); the period is scaled by `pm` / 1,000. -/
def matFits (ra rowU m rr tbl lead pm : Nat) : Bool :=
  let num := ra * rowU * 5 * pm
  let den := 131072 * m * rr * 1000
  decide (8000 * den ≤ num) && decide (4 * tbl * den ≤ num) && decide (lead + 200 ≤ tbl)

/-- The matrix emits: configured from step 7 of BOOT, light from step 8, and dark in STANDBY, SAFE and under a Roadblock (R288). -/
def State.matEmits (s : State) (i : Nat) : Bool := s.emits i && s.fs.running

/-- SCH1 has the balls of ROW8 to ROW15 (R280). -/
def State.sch1Rows (s : State) : Bool := s.owner 0x98 == 0x501

/-- Level of ball ROWr: none while it is high-impedance, on a device whose outputs are not enabled and on one without a matrix; of the balls
that SCH1 has, ROW12 to ROW15 are driven low (R280, R286, R288). ROW8 to ROW11 then carry the signals of the chain. -/
def State.rowLevel (s : State) (r : Nat) : Option Bool :=
  if !s.outputsOn || s.mode == .standby then none
  else if s.sch1Rows && decide (8 ≤ r) then (if 12 ≤ r then some false else none)
  else if s.matrixSrc.isSome && decide (r < s.matRows) then some (s.gateLevel (s.skb.gate == some r))
  else none

/-! ### Checks of the transition to OPERATE (R263, R290) -/

/-- Shortest frame period of R178 in ns: 5 % below nominal. -/
def shortPeriod (g : Nat → Nat) : Nat :=
  let rows := g (K 0x4300 3) + g (K 0x4300 4)
  nsOfU (rowUOf (F32.ofNat (g (K 0x4300 2))) rows * rows) * 95 / 100

/-- A source in a choice of configuration claims a sink channel: as a column, or as an illumination sink (R261). -/
def claimsSink (g : Nat → Nat) (c : Nat) : Bool :=
  (List.range 4).any fun i =>
    g (K (0x4330 + i) 1) == 1 &&
      ((g (K (0x4330 + i) 2) == 4 && decide (c < g (K 0x5300 1)))
        || (g (K (0x4330 + i) 2) == 2 && (List.range 3).any fun e =>
              field (g (K (0x4530 + i) (0x0B + e))) 31 24 == 1 && bit (g (K (0x4530 + i) (0x0B + e))) (c / 8)))

/-- A string is invalid (0x5001): a member without a head, or with its head in another group or above it. -/
def State.badMember (s : State) (c : Nat) : Bool :=
  let h := s.get (K (SK c) 2)
  s.chanFn c == 2 && !((s.chanFn h == 1 || s.chanFn h == 3) && h / 8 == c / 8 && decide (h < c))

/-- The full-scale current of a head lies above its group's range (0x5002). -/
def State.badCurrent (s : State) (c : Nat) : Bool :=
  (s.chanFn c == 1 || s.chanFn c == 3) && F32.lt (F32.ofInt (s.rangeMa (c / 8))) (F32.ofNat (s.get (K (SK c) 3)))

/-- The sink checks of R263: 0, or the detail of R290. -/
def State.sinkCheck (s : State) (g : Nat → Nat) : Nat :=
  let cs := List.range 128
  if cs.any s.badMember then 0x5001
  else if cs.any s.badCurrent then 0x5002
  else if (List.range 2).any fun n => s.get (K (0x5200 + n) 1) == 1 && decide (shortPeriod g < 2 * (s.shiftNs n + 10000)) then 0x5004
  else if cs.any fun c => s.chanFn c != 0 && claimsSink g c then 0x5005
  else 0

/-- The claims that the sink configuration takes at the transition to OPERATE: record and owner (R66, R261, R263). -/
def State.sinkClaims (s : State) : List (Nat × Nat) :=
  ((List.range 128).flatMap fun h =>
      match s.chanFn h, s.engTarget 1 h with
      | 1, _ => (s.string h).map fun c => (c + 1, 0x200 + h)
      | 3, some (e, _) => (s.string h).map fun c => (c + 1, 0x300 + e)
      | _, _ => [])
    ++ (List.range 2).filterMap fun n => if s.get (K (0x5200 + n) 1) = 1 then some (0x97 + n, 0x500 + n) else none

/-- The state without the claims of strings and chains. -/
def State.dropSinkClaims (s : State) : State :=
  { s with sys := { s.sys with claims := s.sys.claims.filter fun p =>
      !(p.2 / 256 == 2 || p.2 / 256 == 5 || (p.2 / 256 == 3 && decide (1 ≤ p.1 ∧ p.1 ≤ 128))) } }

/-- The sink configuration takes its claims in one step, or names the record that another owner holds (R65, R263). -/
def State.takeSinkClaims (s : State) : Except Nat State :=
  let t := s.dropSinkClaims
  match s.sinkClaims.find? fun p => t.owner p.1 != 0 && t.owner p.1 != p.2 with
  | some p => .error p.1
  | none => .ok (s.sinkClaims.foldl (fun u p => u.claim [p.1] p.2) t)

end Sys2Proof.Machine
end

