-- ==== Sys2Proof/Machine/FrameRun.lean ====
section
/-! DEFINITION. Per-frame work of the compositor and the raster: landing sets, compose start, levelling, steering, composed frames
and their buffers (R82–R86, R131, R132, R143, R166–R174, R177, R178). -/

namespace Sys2Proof.Machine

/-! ### Landing (R128, R174, R242) -/

/-- A configuration of the landing set of frame n comes into force for composition; tables of the PTU wait for the frame milestone (R242).
A mesh reports the frame on which it takes effect (R81). -/
def State.landItem (n : Nat) (s : State) (x : Nat × List (Nat × Nat) × List (Nat × List Byte)) : State :=
  let i := x.1 / 256
  let u := x.1 % 256
  if 0x4200 ≤ i ∧ i ≤ 0x4203 ∧ u = 3 then
    let c := s.src (i - 0x4200)
    s.putSrc (i - 0x4200) { c with gmesh := mapGet x.2.2 (K i 2) }
  else if (0x4500 ≤ i ∧ i ≤ 0x4503 ∧ u = 4) ∨ (0x4530 ≤ i ∧ i ≤ 0x4533 ∧ u = 3) then
    let t := s.land x.2.1 []
    { t with fs := { t.fs with ptuLand := t.fs.ptuLand ++ [(x.1, [], x.2.2)] } }
  else if 0x3100 ≤ i ∧ i ≤ 0x3103 ∧ u = 2 then (s.land x.2.1 x.2.2).set (K i 4) n
  else s.land x.2.1 x.2.2

/-- The landing set of frame n comes into force (R174). -/
def State.landSet (s : State) (n : Nat) : State :=
  let t := s.fs.landing.foldl (State.landItem n) s
  let near (p : Nat × Nat) : Bool := decide ((n + 2 ^ 32 - p.1) % 2 ^ 32 < 4)
  { t with fs := { t.fs with landing := [], landed := s.fs.landing.map (fun x => (n, x.1)) ++ s.fs.landed.filter near } }

/-- A plane table waits for the ACK of its registers: one that came too late for the MILESTONE of the frame counts for the next (R239). -/
def State.tableWaits (s : State) (item : Nat) : Bool :=
  decide (0x4500 ≤ item / 256 ∧ item / 256 ≤ 0x4503)
    && (s.epsOf (item / 256 - 0x4500)).any fun e => (s.port e).ready && ((s.port e).planesWait || (s.port e).planesHeld)

/-- PTU tables of the frame whose milestone it is come into force, but for a plane table whose registers the endpoint has not acknowledged
(R239, R242). -/
def State.landPtu (s : State) : State :=
  let t := (s.fs.ptuLand.filter fun x => !s.tableWaits x.1).foldl (fun t x => t.land x.2.1 x.2.2) s
  { t with fs := { t.fs with ptuLand := s.fs.ptuLand.filter fun x => s.tableWaits x.1 } }

/-- Armed configurations that a commit milestone takes: those that land no later than the next composed frame; one that waits for the
entry frame only when `entry` holds (R174, R175). -/
def State.takeArmed (s : State) (next : Nat) (entry : Bool) : State :=
  let due (a : Armed) : Bool := if a.entry && s.fs.accepted.isSome then entry else !seqNewer a.landing next
  let go := s.armed.filter due
  { s with armed := s.armed.filter fun a => !due a,
           fs := { s.fs with landing := s.fs.landing ++ go.map fun a => (a.item, a.vals, a.doms) } }

/-! ### Levelling (R82–R86) -/

/-- The first-order low-pass factor 1 − exp(−t/τ), 1 for τ = 0; τ in ms, t in ns. -/
def lowPass (tNs tauMs : Nat) : Word32 :=
  if tauMs = 0 then 0x3F800000
  else F32.sub 0x3F800000 (F32.exp (F32.ofRat (-(tNs : Int)) (tauMs * 1000000)))

/-- A frame's period in ns and the middle of its active interval from its milestone, for values of RA and VB and a row period. -/
def midNs (ra vb rowU : Nat) : Nat := roundDiv ((2 * vb + ra) * rowU * 5) 262144

/-- Dynamic pitch for the frame with middle `tmid` and period `per`, from the newest vehicle state with a pitch; its rate counts only while
the vehicle state in use carries PITCH_VALID (R82, R86, R102). Before the first pitch levelling counts as stale.
[DEDUCED, log entry 59; DESIGN CHOICE, log entry 186] -/
def State.levelDyn (s : State) (tmid per : Nat) : State :=
  let g := s.geo
  let old : Bool := match g.pitched with
    | none => true
    | some v => decide (v.tvs + s.get (K 0x3010 7) * 1000000 < s.timeNs)
  if old then
    let t := ((s.setFlag (K 0x3010 9) 2 true).setFlag (K 0x3010 9) 0 false).setFlag (K 0x3010 9) 1 false
    if bit (s.get (K 0x3010 9)) 2 then t else t.event 3 5 (Config.argCode 5 1)
  else
    let v := g.pitched.getD ⟨0, false, false, 0, 0, 0, 0⟩
    let p := F32.add (F32.ofFx v.pitch) (F32.mul (if (match g.vehicle with | some w => w.pitchValid | none => false) then F32.ofFx v.rate else 0) (secs ((tmid : Int) - v.tvs)))
    let f := F32.add g.filt (F32.mul (lowPass per (s.get (K 0x3010 4))) (F32.sub p g.filt))
    let step := F32.mul (F32.ofFx (s.get (K 0x3010 5))) (secs per)
    let r := F32.clamp (F32.sub g.ratst step) (F32.add g.ratst step) f
    let lim := F32.ofFx (s.get (K 0x3010 3))
    let d := F32.clamp (F32.neg lim) lim r
    let t : State := { s with geo := { g with filt := f, ratst := r, thetaD := d } }
    ((t.setFlag (K 0x3010 9) 2 false).setFlag (K 0x3010 9) 0 (d != r)).setFlag (K 0x3010 9) 1 (r != f)

/-- Levelling by the mode of R85 for the frame with middle `tmid` and period `per`: the electronic pitch, and the actuator's target and
angle, which is the Detour index of a slot in DETOUR or PARKED (R307, R318). [DEDUCED, log entries 14, 59] -/
def State.level (s : State) (tmid per : Nat) : State :=
  let t := s.levelDyn tmid per
  let th := F32.add (F32.ofFx (t.get (K 0x3010 2))) t.geo.thetaD
  let n := t.get (K 0x3010 0x0A)
  let sl := t.slot n
  let ahead := secs ((tmid : Int) - t.timeNs + ((t.now : Int) - sl.validAt))
  let held := t.slotState n == 3 || t.slotState n == 4
  let thA : Word32 := if n < 8 then (if held then sl.q else F32.add sl.valid (F32.mul sl.rate ahead)) else 0
  let put (target elec : Word32) : State :=
    let u := if n < 8 then t.putSlot n { sl with target := target } else t
    { u with geo := { u.geo with thetaNext := elec }, lpe := { u.lpe with thetaA := thA } }
  match t.get (K 0x3010 1) with
  | 0 => { t with geo := { t.geo with thetaNext := 0 } }
  | 1 => { t with geo := { t.geo with thetaNext := th } }
  | 2 => put th 0
  | _ => put (F32.add sl.target (F32.mul (lowPass per (t.get (K 0x3010 6))) (F32.sub th sl.target))) (F32.sub th thA)

/-! ### Steering of the raster (R166, R177, R178) -/

/-- Error of a frame milestone at a device time against the PTP grid, in ns, positive when it is late (R177). -/
def State.ptpErr (s : State) (t : Nat) : Int :=
  let d : Int := (t : Int) - s.act (K 0x4300 0x0D)
  let (p, q) := ratOf s.rate4
  -- in units of 1 / (p / q) s: d · p / (q · 10^9) frames
  if p = 0 then 0 else centred (d * p) (q * 1000000000) / (p : Int)

/-- Error of a frame milestone at an instant of the clock against the SYNC_IN edges plus the offset, in ns (R177). -/
def State.edgeErr (s : State) (at_ : Nat) : Int :=
  let n := max 1 (s.act (K 0x4300 8))
  match s.fs.lock.lastEdge with
  | some a => centred (((at_ : Int) - a - s.get (K 0x4300 0x0A)) * n) s.fs.lock.measured / (n : Int)
  | none => 0

/-- The whole number nearest to a quotient, at least 0. -/
def nearestNat (num : Int) (den : Nat) : Nat := if den = 0 then 0 else ((2 * num + den) / (2 * den : Nat)).toNat

/-- Row period that the lock aims at for a frame that starts `off` ns after the present milestone, for values of the configuration: the value
on the grid nearest to the period of the timing source with the phase error at that start taken out (R164, R177). -/
def State.aimU (s : State) (g : Nat → Nat) (rows off : Nat) : Nat :=
  if s.act (K 0x4300 7) = 2 then
    let (p, q) := ratOf (F32.ofNat (g (K 0x4300 2)))
    nearestNat ((26214400000000 * 5 * q : Nat) - s.ptpErr (s.fs.fmTime + off) * 131072 * p) (5 * p * rows)
  else
    let n := max 1 (g (K 0x4300 8))
    nearestNat ((s.fs.lock.measured * 131072 : Nat) - s.edgeErr (s.fs.fmAt + off) * 131072 * n) (5 * n * rows)

/-- The next row period from the one before it, for values of the configuration and a frame that starts `off` ns after the present
milestone: within the slew limit and ±5 % of nominal, it goes to the nominal or the held period, and once locked to the period of the
timing source with the phase error taken out; while it acquires, how fast it goes there the spec leaves open (R177–R179).
[DEDUCED, log entry 58] -/
def State.steer (s : State) (g : Nat → Nat) (prev off : Nat) : Nat × State :=
  let rows := g (K 0x4300 3) + g (K 0x4300 4)
  let nom := rowUOf (F32.ofNat (g (K 0x4300 2))) rows
  let d := prev * s.get (K 0x4300 0x0C) / 10000
  let lo := max (prev - d) (ceilDiv (nom * 95) 100)
  let hi := min (prev + d) (nom * 105 / 100)
  let toward (x : Nat) : Nat := max lo (min hi x)
  if hi < lo then (nom, s)
  else match s.get (K 0x4300 0x0E) with
    | 1 =>
      let a := toward prev
      let b := toward (s.aimU g rows off)
      let (v, t) := s.fresh
      (min a b + v % (max a b + 1 - min a b), t)
    | 2 => (toward (s.aimU g rows off), s)
    | 3 => (toward (roundDiv (s.fs.lock.measured * 131072) (5 * max 1 (g (K 0x4300 8)) * rows)), s)
    | _ => (toward nom, s)

/-- SYNC_OUT gives its pulse (R181). -/
def State.syncPulse (s : State) : State := s.emit (.pulse "SYNC_OUT" (s.get (K 0x4300 0x1B) * 1000))

/-- Nominal row period for values of the configuration (R164). -/
def nominalU (g : Nat → Nat) : Nat := rowUOf (F32.ofNat (g (K 0x4300 2))) (g (K 0x4300 3) + g (K 0x4300 4))

/-- The period of the frame after the frame of the commit milestone is fixed (R166): the next one in line-following mode, the one after it in
double-buffered mode. `entry` names the entry frame whose landing set it is: where its configuration has another nominal row period, that frame
begins with it (R175, R178). [DEDUCED, log entry 210] -/
def State.fixPeriod (s : State) (entry : Option Nat) : State :=
  let fresh : Option Nat := match entry with
    | some n => if nominalU (s.cfgFor n) = nominalU s.act then none else some (nominalU (s.cfgFor n))
    | none => s.fs.entryU
  let s0 : State := { s with fs := { s.fs with entryU := fresh } }
  let d := if s.lineMode then 1 else 2
  let (u, t) := s0.steer (s0.cfgFor (s0.frameAt d)) (s0.rowUAt (d - 1)) (s0.milestoneAt d - s0.fs.fmTime)
  if s.lineMode then { t with fs := { t.fs with nextRowU := u } } else { t with fs := { t.fs with rowU2 := some u } }

/-! ### Compose start (R131, R132, R143, R147) -/

/-- A frame-store bank has lost its content (R518). -/
def State.bankLost (s : State) (b : Nat) : Bool := bit (field (s.get (K 0x2302 (8 + b / 4))) 27 24) (b % 4)

/-- The first byte of the buffers of a stream (R161). -/
def State.videoBase (s : State) (n : Nat) : Nat :=
  fixedBase s.fixedNow 5 + (if n = 1 ∧ s.act (K 0x7120 1) = 1 then unitsOf (4 * s.act (K 0x7120 5) * s.act (K 0x7120 6)) * 65536 else 0)

/-- A stretch of the frame store lies in a lost bank. -/
def State.anyLost (s : State) (a n : Nat) : Bool :=
  (List.range 64).any fun b => s.bankLost b && decide (b * 524288 < a + n ∧ a < (b + 1) * 524288)

/-- The content that a layer configuration reads lies in a lost bank, or its region is LOST. -/
def State.contentLost (s : State) (c : LCfg) (l : Nat) : Bool :=
  let n := c.at_ l 3
  match c.at_ l 2 with
  | 1 => s.anyLost (s.videoBase n) (4 * s.act (K (0x7120 + n) 5) * s.act (K (0x7120 + n) 6))
  | 2 | 3 => s.get (K (0x3440 + n) 1) == 3
  | _ => false

/-- A layer configuration is ready (R131). -/
def State.layerReady (s : State) (c : LCfg) (l : Nat) : Bool :=
  let n := c.at_ l 3
  match c.at_ l 2 with
  | 1 =>
    let st := nth Stream.init s.net.streams n
    st.newest.isSome && decide (s.timeNs ≤ st.doneAt + c.at_ l 0x0C * 1000000) && !s.contentLost c l
  | 2 | 3 => s.get (K (0x3440 + n) 5) == 1 && !s.contentLost c l
  | _ => true

/-- A layer at compose start: how it is composed in the frame, and its status bits, of which bit 4 tells that a commit is armed that has
not landed (R126, R131, R132). -/
def State.startLayer (s : State) (l : Nat) : State :=
  let c := s.activeCfg l
  let x := nth ⟨.off, none, none⟩ s.comp.layers l
  let put (y : Layer) (st : Nat) : State :=
    let t : State := { s with comp := { s.comp with layers := putNth ⟨.off, none, none⟩ s.comp.layers l y } }
    t.set (K (0x3400 + l) 0x17) (16 * b2n (s.armedOf (K (0x3400 + l) 0x14)).isSome + st)
  if c.at_ l 1 = 0 then put ⟨.off, none, none⟩ 0
  else if s.layerReady c l then put ⟨.live c, some c, none⟩ 1
  else
    let since := x.lateSince.getD s.now
    let limit := c.at_ l 0x11
    let late := limit != 0 && decide (since + limit * 1000000 < s.now)
    match c.at_ l 0x0A with
    | 0 =>
      match x.last with
      | some o => if late || s.contentLost o l then put ⟨.off, x.last, some since⟩ 4 else put ⟨.live o, x.last, some since⟩ 2
      | none => put ⟨.off, none, some since⟩ 4
    | 1 => put ⟨.off, x.last, some since⟩ 4
    | _ => put ⟨.background c, x.last, some since⟩ 8

/-- The regions that the composed layers read are in use by a frame (R134). -/
def State.useRegions (s : State) (n : Nat) : State :=
  let used := (List.range 7).filterMap fun l =>
    match (nth ⟨.off, none, none⟩ s.comp.layers l).use with
    | .live c => if c.at_ l 2 = 2 ∨ c.at_ l 2 = 3 then some (c.at_ l 3) else none
    | _ => none
  { s with fs := { s.fs with lastUse := used.foldl (fun m r => mapPut m r n) s.fs.lastUse } }

/-- Words of the active Kerb bank whose primary and complement are both uncorrectable (R142). -/
def State.kerbGone (s : State) : List Nat :=
  let base := (62 + s.comp.kerb.active) * 65536
  s.fs.bad.filter fun w => decide (base ≤ w ∧ w < base + 32768) && s.fs.bad.contains (w + 32768)

/-- Armed Kerb maps land when the active bank has been released; a frame without release holds the maps (R143). The check of the bank's
CRC fails when a word of it is gone in both copies; `released` says that the SSV's cores took the check in time and agree on it.
[DEDUCED, log entry 65] -/
def State.kerbStart (s : State) (n : Nat) (released : Bool) : State :=
  let kb := s.comp.kerb
  if !(released && s.kerbGone.isEmpty) then
    let c := satN 255 (s.get (K 0x4100 7) + 1)
    let t := ((s.inc (K 0x4100 6)).set (K 0x4100 7) c).setFlag (K 0x4100 8) 2 true
    if c = 4 then t.stand 0x0E 0x12 c else t
  else
    let t := (((if 4 ≤ s.get (K 0x4100 7) then s.causeGone 0x0E 0x12 4 else s).set (K 0x4100 7) 0).setFlag (K 0x4100 8) 2 false)
    match kb.armed with
    | some (f, entry) =>
      let img := (nth ⟨KerbImg.zero, []⟩ kb.banks (1 - kb.active)).img
      if (if entry && t.fs.accepted.isSome then t.entered n else !seqNewer f n) then
        let u : State := { t with comp := { t.comp with kerb := { kb with active := 1 - kb.active, armed := none, ram := some img } } }
        ((u.set (K 0x4100 2) img.kseq).set (K 0x4100 3) img.crc).setFlag (K 0x4100 8) 1 false
      else t
    | none => t

/-- Kerb words of the active bank whose primary and complement are both uncorrectable (R142). [DEDUCED, log entry 65] -/
def State.kerbLost (s : State) : State :=
  s.kerbGone.foldl
    (fun t w => (t.inc (K 0x4100 9)).event 0x0E 1 (8 * w)) s

/-- Dead-pixel map of a source at compose start (R147). -/
def State.deadStart (s : State) (i : Nat) : State :=
  let n := s.actW i * s.actH i
  let x := s.src i
  let host := match s.dom (K (0x4210 + i) 4) with | some b => mapBits b n | none => []
  let all := x.reported ++ host.filter fun k => !x.reported.contains k
  s.putSrc i { x with dead := all }

/-- A source's buffers at compose start: the frame composed before waits, or fills the front buffer in line-following mode (R167); its
saturated pixels are counted (R137). -/
def State.startSrc (s : State) (full : Bool) (i : Nat) : State :=
  let x := s.src i
  let zero := List.replicate 4 Sums.zero
  let y : Src :=
    if s.lineMode then { x with front := x.back, pFront := x.pRows, back := [], pRows := [], lastSums := x.sums, sums := zero }
    else if full then { x with ready := x.back, pReady := x.pRows, back := [], pRows := [], lastSums := x.sums, sums := zero }
    else { x with back := [], pRows := [], lastSums := x.sums, sums := zero }
  let ready := s.get (K (0x4200 + i) 1) == 1 && !y.gmapReady && s.srcType i == 1 && !(s.epsOf i).isEmpty && (s.epsOf i).all fun e => (s.port e).gainDone
  let sum (f : Sums → Nat) : Nat := x.sums.foldl (fun a q => a + f q) 0
  let t0 := ((s.putSrc i { y with gmapReady := y.gmapReady || ready }).deadStart i).set (K (0x4000 + i) 3) (sum Sums.satD)
  let t1 := t0.set (K (0x4000 + i) 4) (sum Sums.satF)
  let t := if sum Sums.satF = 0 then t1 else t1.event 4 0x0B (K (0x4000 + i) 4)
  if ready then t.set (K (0x4200 + i) 5) 2 else t

/-- Number of the frame whose composition starts now: the next composed one, and never one that is past (R167, R171).
[DEDUCED, log entry 67] -/
def State.nextToCompose (s : State) : Nat :=
  let c := s.nextComposed s.fs.compFrame
  let m := if s.lineMode then s.get (K 0x4300 0x11) else s.nextComposed (s.get (K 0x4300 0x11))
  if seqNewer m c then m else c

/-- Composition stands: the frame that would be composed waits for a fixed area that is laid out anew (R175). [DEDUCED, log entry 67] -/
def State.composeHeld (s : State) : Bool := s.layoutAhead s.nextToCompose

/-- Frame n starts to be composed, in the state of the configuration that it has; `full` says that the frame composed before is complete, and
`period` is its period in ns (R131, R143, R154, R174). The θ of 0x3010:08 is the electronic correction that the frame uses (R86).
[DESIGN CHOICE, log entry 211] -/
def State.startFrame (s : State) (n : Nat) (full released : Bool) (period : Nat) : State :=
  let t0 := s.srcs.foldl (fun t i => t.startSrc full i) s
  let t1 : State := { t0 with
    fs := { t0.fs with readyOf := if full && !s.lineMode then some s.fs.compFrame else t0.fs.readyOf, compFrame := n, composing := true, cmTaken := false },
    safe := { t0.safe with limReady := if full then t0.safe.limNext else t0.safe.limReady },
    geo := { t0.geo with levReady := if full then t0.geo.levNext else t0.geo.levReady } }
  let streams := t1.net.streams.map fun v => { v with reading := v.newest }
  let t1 : State := { t1 with net := { t1.net with streams := streams } }
  let t2 := ((t1.landSet n).kerbStart n released).kerbLost
  let t3 := ((List.range 7).foldl State.startLayer t2).useRegions n
  let g := t3.geo
  let theta := (List.range 4).map fun i => if bit g.keep i then nth 0 g.theta i else g.thetaNext
  let lev := (List.range 4).map fun i => (⟨nth 0 theta i, mapGet t3.activeDoms (K (0x3100 + i) 1)⟩ : Lev)
  let t4 : State := { t3 with geo := { g with theta := theta, levNext := lev, keep := 0 } }
  let t5 := (t4.set (K 0x3010 8) (F32.toFx g.thetaNext)).zoneLimits.budgetFrame n period
  let t6 : State := if s.lineMode && n == s.get (K 0x4300 0x11) then
      { t5 with safe := { t5.safe with limits := t5.safe.limNext }, geo := { t5.geo with lev := t5.geo.levNext } }.levelMasks else t5
  t6.probe 3 (fun sel => sel % 256 == 3) (n % 2 ^ 24) n

/-- Composition of the next frame starts with its landing set; `released` is the SSV's release of the Kerb maps (R131, R143, R174, R175). -/
def State.composeStart (s : State) (released : Bool) : State :=
  if !s.fs.running || s.composeHeld || s.domState 2 != 0 then s else
  let n := s.nextToCompose
  let full := s.fs.composing && (s.viewFor s.fs.compFrame).composed
  s.forFrame n fun t => t.startFrame n full released (nsOfU (s.lengthAt (s.ahead n)))

/-! ### Commit milestone (R84, R166, R173, R174) -/

/-- The commit milestone of the frame being composed: landing set, period and levelling of the next one (R84, R166, R171, R174).
[DEDUCED, log entries 68, 210] -/
def State.commitMilestone (s : State) : State :=
  if !s.fs.running || (s.fs.cmTaken && s.fs.composing) then s else
  let entry := s.entering && s.fs.entryFrame.isNone
  let next := s.nextComposed s.fs.compFrame
  let t := s.takeArmed next entry
  let t1 : State := { t with fs := { t.fs with cmTaken := true, entryFrame := if entry then some next else t.fs.entryFrame } }
  let t2 := t1.fixPeriod (if entry then some next else none)
  let ra := t2.cfgFor next (K 0x4300 3)
  let vb := t2.cfgFor next (K 0x4300 4)
  let d := max 1 (t2.ahead next)
  let mid := t2.milestoneAt d + midNs ra vb (t2.rowUAt d)
  let t3 := t2.level mid (nsOfU ((ra + vb) * t2.rowUAt d))
  let tables := t3.fs.landing.filter fun x => decide (0x4500 ≤ x.1 / 256 ∧ x.1 / 256 ≤ 0x4503)
  let t4 := tables.foldl (fun t x => match mapGet x.2.2 (K (x.1 / 256) 3) with
    | some b => t.sendPlanes (x.1 / 256 - 0x4500) (tablePlanes b)
    | none => t) t3
  let t5 := if t4.act (K 0x4300 0x1A) = 2 then t4.syncPulse else t4
  t5.probe 3 (fun sel => sel % 256 == 2) (s.fs.compFrame % 2 ^ 24) s.fs.compFrame

end Sys2Proof.Machine
end

