-- ==== Sys2Proof/Machine/ScanCommit.lean ====
section
/-! DEFINITION. The scan-out commit: the checks of R187, R232, R260 and R286, and the claims it takes (R65, R168, R175). -/

namespace Sys2Proof.Machine

/-- Entries that the scan-out commit takes as a whole (R175): timing, source, endpoint, plane, scanner, colour and matrix records, and
the lane rates. -/
def scanKeys : List Nat :=
  [K 0x4300 1, K 0x4300 2, K 0x4300 3, K 0x4300 4, K 0x4300 7, K 0x4300 8, K 0x4300 9, K 0x4300 0x0D, K 0x4300 0x1A]
    ++ ((List.range 4).flatMap fun i =>
      keys (0x4330 + i) 1 4 ++ keys (0x4500 + i) 1 2 ++ keys (0x4520 + i) 1 4 ++ [K (0x4520 + i) 0x0A, K (0x4530 + i) 1]
        ++ keys (0x4530 + i) 0x0B 0x16 ++ [K (0x7020 + i) 1])
    ++ ((List.range 8).flatMap fun e => keys (0x4400 + e) 1 9 ++ keys (0x4400 + e) 0x18 0x19)
    ++ keys 0x5300 1 7

/-- The configuration that a scan-out commit judges: the working values of its entries, and what is committed of the others. -/
def State.scanCfg (s : State) (k : Nat) : Nat := if scanKeys.contains k then s.get k else s.com k

/-! ### Sources -/

/-- The enabled sources of a configuration. -/
def onOf (g : Nat → Nat) : List Nat := (List.range 4).filter fun i => g (K (0x4330 + i) 1) == 1

/-- The enabled endpoints of a configuration. -/
def epsIn (g : Nat → Nat) : List Nat := (List.range 8).filter fun e => g (K (0x4400 + e) 1) == 1

/-- Fields of a source of a configuration (R244). -/
def fieldsIn (g : Nat → Nat) (i : Nat) : Nat :=
  let ty := g (K (0x4330 + i) 2)
  if ty = 2 ∨ ty = 3 then max 1 (g (K (0x4530 + i) 1)) else 1

/-- Pixels that the enabled sources of a configuration address (R12). -/
def pixelsIn (g : Nat → Nat) : Nat :=
  (onOf g).foldl (fun n i => n + fieldsIn g i * g (K (0x4330 + i) 3) * g (K (0x4330 + i) 4)) 0

/-- The source record of an enabled source is valid under R176. -/
def sourceOk (g : Nat → Nat) (i : Nat) : Bool :=
  let w := g (K (0x4330 + i) 3)
  let h := g (K (0x4330 + i) 4)
  let wide := decide (16 ≤ w ∧ w ≤ 2048 ∧ 16 ≤ h ∧ h ≤ 1024)
  match g (K (0x4330 + i) 2) with
  | 1 | 2 | 3 => wide
  | 4 => w == g (K 0x5300 1) && h == g (K 0x5300 2) && ((onOf g).filter fun k => g (K (0x4330 + k) 2) == 4).length == 1
  | _ => false

/-- Row period in ps at the nominal rate, rounded up. -/
def rowPsOf (g : Nat → Nat) : Nat :=
  ceilDiv (rowUOf (F32.ofNat (g (K 0x4300 2))) (g (K 0x4300 3) + g (K 0x4300 4)) * 2500) 65536

/-- Nominal row period of a configuration. -/
def rowUIn (g : Nat → Nat) : Nat := rowUOf (F32.ofNat (g (K 0x4300 2))) (g (K 0x4300 3) + g (K 0x4300 4))

/-- Output time T_out of an enabled source in ps (R168). -/
def outPs (g : Nat → Nat) (i : Nat) : Nat :=
  let eps := (epsIn g).filter fun e => g (K (0x4400 + e) 2) == i
  let rate (e : Nat) : Nat := g (K (0x7020 + g (K (0x4400 + e) 4)) 1)
  let k (e : Nat) : Nat := (laneList (g (K (0x4400 + e) 5))).length
  match g (K (0x4330 + i) 2) with
  | 1 =>
    let t (e : Nat) : Nat :=
      ceilDiv (((rowBlocks (g (K (0x4400 + e) 0x18)) (g (K (0x4400 + e) 8)) (k e) (rate e)).2.2 + 8 * k e) * blockQ (rate e)) (4 * max 1 (k e))
    (eps.map t).foldl max 0 + 500000 + (eps.map fun e => g (K (0x4400 + e) 9)).foldl max 0
  | 2 => match eps.head? with
    | some e => ceilDiv (planeTimeQ (g (K (0x4330 + i) 3)) (g (K (0x4330 + i) 4)) (k e) (rate e)) 4
    | none => 0
  | 3 => ceilDiv (rowPsOf g * (g (K 0x4300 3) + g (K 0x4300 4))) (2 * max 1 (g (K (0x4520 + i) 1)))
  | 4 => ceilDiv (rowPsOf g * g (K 0x4300 3)) (max 1 (g (K 0x5300 3)) * max 1 (g (K 0x5300 2)))
  | _ => 0

/-- Least compose lead of a configuration in µs (R168). -/
def leadMin (g : Nat → Nat) : Nat :=
  ceilDiv (max 40000000 (3 * rowPsOf g + ((onOf g).map (outPs g)).foldl max 0 + 8000000)) 1000000

/-- The lowest unit of the frame store that a region or trace holds (R162). -/
def State.poolLow (s : State) : Nat :=
  let regs := (List.range 32).filterMap fun n =>
    let b := s.get (K (0x3440 + n) 3) / 65536
    if s.get (K (0x3440 + n) 1) = 0 ∨ b < s.fs.fixedEnd then none else some b
  let trace := (List.range 62).filterMap fun b => if s.owner (0x9B + b) / 256 = 8 then some (8 * b) else none
  (regs ++ trace).foldl min 496

/-- Details 0x4301 to 0x4306, in their order: 0 when all hold (R187). -/
def State.rasterCheck (s : State) (g : Nat → Nat) : Nat :=
  let ty (i : Nat) : Nat := g (K (0x4330 + i) 2)
  let rate := F32.ofNat (g (K 0x4300 2))
  let tiled := (onOf g).filter fun i => ty i == 1 || ty i == 2
  let cap := if F32.le rate 0x43700000 then 2097152 else 1048576
  let n := g (K 0x4300 8)
  let sync := F32.div (F32.ofInt n) rate
  if g (K 0x4300 1) = 1 ∧ ((onOf g).any fun i => ty i == 2 || ty i == 4) = true then 0x4301
  else if tiled.any fun i => decide (g (K 0x4300 3) < g (K (0x4330 + i) 4)) then 0x4302
  else if cap < pixelsIn g then 0x4303
  else if s.poolLow < fixedUnits (s.fixedOf g) then 0x4304
  else if s.get (K 0x4300 6) < leadMin g then 0x4305
  else if (g (K 0x4300 7) = 2 ∧ s.get (K 0x7180 3) = 0xFF) ∨ (g (K 0x4300 7) = 1 ∧ (F32.lt sync (F32.ofRat 21 10000) || F32.lt 0x3F800000 sync) = true)
    then 0x4306
  else 0

/-! ### Endpoints (R189, R207, R232) -/

/-- Two rectangles of pixels share one. -/
def rectsMeet (g : Nat → Nat) (e f : Nat) : Bool :=
  let x (k : Nat) : Nat := g (K (0x4400 + k) 6)
  let y (k : Nat) : Nat := g (K (0x4400 + k) 7)
  let w (k : Nat) : Nat := g (K (0x4400 + k) 0x18)
  let h (k : Nat) : Nat := g (K (0x4400 + k) 0x19)
  decide (x e < x f + w f ∧ x f < x e + w e ∧ y e < y f + h f ∧ y f < y e + h e)

/-- Peak link load of an endpoint as numerator and denominator, at the configured rate and row repeat 1 (R207, R236). -/
def State.peakLoad (s : State) (g : Nat → Nat) (e : Nat) : Nat × Nat :=
  let i := g (K (0x4400 + e) 2)
  let k := max 1 (laneList (g (K (0x4400 + e) 5))).length
  let rate := g (K (0x7020 + g (K (0x4400 + e) 4)) 1)
  if g (K (0x4400 + e) 3) = 2 then
    let b := (mapGet s.activeDoms (K (0x4500 + i) 3)).getD (planeBytes planeDefault)
    let t := planeTimeQ (g (K (0x4330 + i) 3)) (g (K (0x4330 + i) 4)) k rate
    (byteAt b 6 * t, rowPsOf g * (g (K 0x4300 3) + g (K 0x4300 4)) * 4)
  else rowLoad (g (K (0x4400 + e) 0x18)) (g (K (0x4400 + e) 8)) k rate 1 (g (K 0x4300 3)) (rowUIn g) (g (K (0x4330 + i) 4))

/-- Details 0x4401 to 0x4404 in their order: 0 when all hold (R232). -/
def State.endpointCheck (s : State) (g : Nat → Nat) : Nat :=
  let eps := epsIn g
  let on := onOf g
  let src (e : Nat) : Nat := g (K (0x4400 + e) 2)
  let grp (e : Nat) : Nat := g (K (0x4400 + e) 4)
  let mask (e : Nat) : Nat := g (K (0x4400 + e) 5)
  let kind (e : Nat) : Nat := g (K (0x4400 + e) 3)
  let ty (i : Nat) : Nat := g (K (0x4330 + i) 2)
  let w (e : Nat) : Nat := g (K (0x4400 + e) 0x18)
  let h (e : Nat) : Nat := g (K (0x4400 + e) 0x19)
  let W (i : Nat) : Nat := g (K (0x4330 + i) 3)
  let H (i : Nat) : Nat := g (K (0x4330 + i) 4)
  let shared := eps.any fun e => mask e % 16 == 0 || decide (16 ≤ mask e) || eps.any fun f => decide (e < f) && grp e == grp f && mask e &&& mask f != 0
  let mixed := eps.any fun e =>
    (eps.any fun f => grp e == grp f && src e != src f) || !on.contains (src e) || kind e != ty (src e) || !(ty (src e) == 1 || ty (src e) == 2)
  let lone := on.any fun i => ty i == 2 && (eps.filter fun e => src e == i).length != 1
  let tile (i : Nat) : List Nat := eps.filter fun e => src e == i
  let cover (i : Nat) : Bool :=
    (tile i).all (fun e => decide (g (K (0x4400 + e) 6) + w e ≤ W i ∧ g (K (0x4400 + e) 7) + h e ≤ H i))
      && (tile i).all (fun e => (tile i).all fun f => e == f || !rectsMeet g e f)
      && (tile i).foldl (fun n e => n + w e * h e) 0 == W i * H i
  let bad := on.any fun i =>
    (ty i == 1 && (!cover i || (tile i).any fun e => decide (1024 < w e ∨ 512 < h e))) || (ty i == 2 && (tile i).any fun e => w e != W i || h e != H i)
  if shared then 0x4401
  else if mixed || lone then 0x4402
  else if bad then 0x4403
  else if eps.any fun e => let (a, b) := s.peakLoad g e; decide (9 * b < 10 * a) then 0x4404
  else 0

/-! ### Projection (R234–R245, R249, R251, R260) -/

/-- The timing of a scanner breaks R249 or R251. -/
def scannerBad (g : Nat → Nat) (phi : Nat) (i : Nat) : Bool :=
  let k := 0x4520 + i
  let h := max 1 (g (K k 1))
  let fb := g (K k 2)
  let ta := g (K k 3)
  let period := rowPsOf g * (g (K 0x4300 3) + g (K 0x4300 4))
  let rate := F32.ofNat (g (K 0x4300 2))
  let fh := F32.mul (F32.ofInt h) rate
  let unit := 180 * 65536
  -- times in ps × 2H × 2 × 180 × 65,536
  let scale := 4 * h * unit
  let start : Int := (phi * 1000 * scale : Nat) + (period * (unit * (2 * fb + 1) : Nat) : Int) - (2 * period * ta : Nat)
  let stop : Int := (phi * 1000 * scale : Nat) + (period * (unit * (4 * h - 1)) : Nat) + (2 * period * ta : Nat)
  let first : Int := (g (K 0x4300 4) * rowPsOf g * scale : Nat)
  let last : Int := (period * scale : Nat)
  let dwell := F32.div (F32.sinDeg (F32.ofFx ta)) (F32.mul (F32.mul 0x40490FDB (F32.ofInt (g (K (0x4330 + i) 3)))) fh)
  fb + g (K (0x4330 + i) 4) != 2 * h || F32.lt fh 0x461C4000 || F32.lt 0x47435000 fh || decide (start < first) || decide (last < stop)
    || decide (sgn 32 (g (K k 4)) ≤ sgn 32 ta) || F32.lt dwell (F32.ofRat 5 1000000000)

/-- Details 0x4501 to 0x4507 in their order, over the sources that the PTU serves: 0 when all hold (R260). -/
def State.projectionCheck (s : State) (g : Nat → Nat) : Nat :=
  let on := onOf g
  let ty (i : Nat) : Nat := g (K (0x4330 + i) 2)
  let mirror := on.filter fun i => ty i == 2
  let laser := on.filter fun i => ty i == 3
  let table (i : Nat) : List Byte := (mapGet s.activeDoms (K (0x4500 + i) 3)).getD (planeBytes planeDefault)
  let chan (i e : Nat) : Nat := field (g (K (0x4530 + i) (0x0B + e))) 31 24
  let masks (i : Nat) : List Nat := (keys (0x4530 + i) 4 0x0A).map s.get
  let pd := mirror.map fun i => planeCheck g i (table i)
  let cd := (mirror ++ laser).map fun i => colourCheck g i (s.colour i) (masks i)
  let gap (i : Nat) : Bool := (List.range 3).any fun e =>
    (chan i e == 1 && decide (g (K (0x4500 + i) 2) < 2000)) || (chan i e == 2 && decide (g (K (0x4500 + i) 2) < 1000)) || decide (2 < chan i e)
  let onlyLas (i : Nat) : Bool := (List.range 3).any fun e => chan i e != 0 && chan i e != 2
  if pd.contains 0x4501 || cd.contains 0x4501 then 0x4501
  else if pd.contains 0x4502 then 0x4502
  else if pd.contains 0x4503 then 0x4503
  else if mirror.any gap || laser.any onlyLas then 0x4504
  else if cd.contains 0x4505 then 0x4505
  else if laser.any fun i => scannerBad g (s.get (K (0x4520 + i) 5)) i then 0x4506
  else if cd.contains 0x4507 then 0x4507
  else 0

/-! ### The commit -/

/-- Dimensions word of an accepted configuration (R176): 0 for a disabled source. -/
def dimsOf (g : Nat → Nat) (i : Nat) : Nat :=
  if g (K (0x4330 + i) 1) = 1 then g (K (0x4330 + i) 3) * 65536 + g (K (0x4330 + i) 4) else 0

/-- The state as it would be with a configuration in force, for the capacity checks of R33. -/
def State.trial (s : State) (g : Nat → Nat) : State :=
  let t := { s with fs := { s.fs with accepted := none } }.putAct ((scanKeys).map fun k => (k, g k))
  (List.range 4).foldl (fun t i => t.set (K (0x4330 + i) 5) (dimsOf g i)) t

/-- All checks of a scan-out commit in the order of R187: 0, or the detail of the first that fails. -/
def State.scanCheck (s : State) (g : Nat → Nat) : Nat :=
  let cfgs := (s.trial g)
  let steps : List Nat := [
    if (onOf g).all (sourceOk g) then 0 else 0x4307, s.rasterCheck g, s.endpointCheck g, s.projectionCheck g,
    if (onOf g).all (fun i => g (K (0x4330 + i) 2) != 4 ||
      (matFits (g (K 0x4300 3)) (rowUIn g) (g (K 0x5300 3)) (g (K 0x5300 2)) (g (K 0x5300 4)) (g (K 0x5300 5)) 1000 &&
       matFits (g (K 0x4300 3)) (rowUIn g) (g (K 0x5300 3)) (g (K 0x5300 2)) (g (K 0x5300 4)) (g (K 0x5300 5)) 950)) then 0 else 0x5003,
    cfgs.capacity cfgs.comingCfg true]
  (steps.find? fun d => d != 0).getD 0

/-- Claims of a scan-out configuration: record and owner (R65, R66, R181, R240, R249, R285). -/
def scanClaims (g : Nat → Nat) : List (Nat × Nat) :=
  let src := (onOf g).flatMap fun i =>
    let own := 0x100 + i
    match g (K (0x4330 + i) 2) with
    | 3 =>
      (0x8D + g (K (0x4520 + i) 0x0A), own) :: (List.range 3).filterMap fun e =>
        let v := g (K (0x4530 + i) (0x0B + e))
        if field v 31 24 = 2 then some (0x8F + field v 23 16 % 4, own) else none
    | 2 => (List.range 3).flatMap fun e =>
        let v := g (K (0x4530 + i) (0x0B + e))
        if field v 31 24 = 2 then [(0x8F + field v 23 16 % 4, own)]
        else if field v 31 24 = 1 then (List.range 128).filterMap fun c => if bit (field v 15 0) (c / 8) then some (c + 1, own) else none
        else []
    | 4 => ((List.range (g (K 0x5300 1))).map fun c => (c + 1, own)) ++ [(0x99, own)] ++ (if 8 < g (K 0x5300 2) then [(0x98, 0x400)] else [])
    | _ => []
  let groups := (epsIn g).map fun e => (0x81 + g (K (0x4400 + e) 4), 0x100 + g (K (0x4400 + e) 2))
  src ++ groups ++ (if g (K 0x4300 0x1A) = 0 then [] else [(0x9A, 0x700)])

/-- The state without the claims of the scan-out configuration before. -/
def State.dropScanClaims (s : State) : State :=
  { s with sys := { s.sys with claims := s.sys.claims.filter fun p => !(p.2 / 256 == 1 || p.2 / 256 == 4 || p.2 / 256 == 7) } }

/-- The claims of a scan-out configuration in one step, or the record that another owner holds (R65). -/
def State.takeScanClaims (s : State) (g : Nat → Nat) : Except Nat State :=
  let t := s.dropScanClaims
  let cl := scanClaims g
  match cl.find? fun p => (t.owner p.1 != 0 && t.owner p.1 != p.2) || cl.any fun q => q.1 == p.1 && q.2 != p.2 with
  | some p => .error p.1
  | none => .ok (cl.foldl (fun u p => u.claim [p.1] p.2) t)

/-- An accepted configuration waits for the entry milestone beside what an accepted stream commit holds (R162, R175, R370). -/
def State.accept (s : State) (vals : List (Nat × Nat)) : State :=
  let old := match s.fs.accepted with | some c => c.vals | none => []
  let all := mapMerge (mapMerge [] old) vals
  let g (k : Nat) : Nat := (mapGet all k).getD (s.act k)
  let sizes := s.fixedOf g
  { s with fs := { s.fs with accepted := some ⟨all, [], fixedUnits sizes, s.gainWanted, sizes != s.fixedNow⟩ } }

/-- Scan-out commit (R175, R187). -/
def State.scanCommit (s : State) : State × Code :=
  let g := s.scanCfg
  let d := s.scanCheck g
  if d ≠ 0 then s.refuse (K 0x4300 0x1D) d
  else match s.takeScanClaims g with
    | .error r => (s.set (K 0x4300 0x1D) r, (0x0402, r))
    | .ok t =>
      let u := t.accept (scanKeys.map fun k => (k, t.get k))
      let v := (List.range 4).foldl (fun v i => v.set (K (0x4330 + i) 5) (dimsOf g i)) u
      (((v.set (K 0x4300 0x14) (leadMin g)).set (K 0x4300 0x1D) 0), ok)

/-- Effect of a write to the scan-out commit entry. -/
def effScanOut : Effect := fun s _ => s.scanCommit

/-- A scan-out commit checks the whole scan-out configuration and accepts it for the entry milestone (R175). -/
def execScanOutCommit (dt : Nat) (rq : Rq) (s : State) : Res := done ((s.tick dt).command rq (K 0x4300 0x1C) 1 effScanOut)

end Sys2Proof.Machine
end

