-- ==== Sys2Proof/Machine/Frames.lean ====
section
/-! DEFINITION. Commands of chapters 04 and 05 that the raster gives: compose start, rows, commit milestone, scrubber, SYNC_IN. -/

namespace Sys2Proof.Machine

/-- Composition of the next frame starts; `released` is the SSV's release of the Kerb maps (R131, R132, R143). -/
def execComposeStart (dt : Nat) (released : Bool) (s : State) : Res := done ((s.tick dt).composeStart released)

/-- A row of a source and field is composed (R121). -/
def execComposeRow (dt : Nat) (i field : Fin 4) (row : Nat) (s : State) : Res := done ((s.tick dt).composeRow i field row)

/-- The release time of a source's low-beam fall-back ends (R406). [DESIGN CHOICE, log entry 7] -/
def execFallBackRelease (dt : Nat) (i : Fin 4) (s : State) : Res := done ((s.tick dt).inDomains [2] fun t => t.fallBackRelease i)

/-! ### Scan-out (R160, R169, R182) -/

/-- An underrun of a row in line-following mode: counted, and recorded once a frame (R169); the row is abandoned. -/
def State.underrun (s : State) (i r : Nat) : State :=
  let n := s.frameNo
  let k := 0x4320 + i
  let t := (((s.inc (K k 3)).set (K k 5) n).set (K k 6) r).count 2 2 1
  if bit t.fs.under i then t
  else
    let u := (t.inc (K k 4)).event 5 0x0C n
    { u with fs := { u.fs with under := setBit u.fs.under i true } }

/-- A row of the buffer is complete. -/
def State.rowFull (s : State) (i field r : Nat) : Bool :=
  match s.bufRow i field r with | some l => l.length == s.actW i | none => false

/-- Of a late row, the pixel groups that the PXC has completed at the read point stand in the buffer: how many, the spec leaves open (R169).
[DEDUCED, log entry 214] -/
def State.lateRow (s : State) (i r f : Nat) : State :=
  if s.notBegun || s.rowFull i f r then s
  else
    let key := f * 2048 + r
    let u := (s.composeRow i f r).composeRow i f (r + 1)
    let (v, t) := s.fresh
    let x := t.src i
    t.putSrc i { x with back := mapPut x.back key (((mapGet (u.src i).back key).getD []).take (v % max 1 (s.actW i))) }

/-- Rows that are not there when the SOU has passed them are abandoned: they stay as far as they are complete (R169). -/
def State.abandon (s : State) (i r : Nat) : State :=
  let x := s.src i
  let gone := (List.range (s.fieldsOf i)).filter fun f => ((mapGet x.back (f * 2048 + r)).getD []).length != s.actW i
  s.putSrc i { x with pRows := gone.foldl (fun m f => mapPut m (f * 2048 + r) []) x.pRows }

/-- The trace probes of class 0x05 on the pixels of a row (R530). -/
def State.pixelProbes (s : State) (i r : Nat) (tap : List Nat) : State :=
  let x := s.src i
  let p := if s.lineMode && !seqNewer s.fs.compFrame s.frameNo then x.pRows else x.pFront
  let clamped := (mapGet p r).getD []
  (List.range (s.actW i)).foldl (fun t c =>
    t.probe 5 (fun sel => field sel 31 30 == i && field sel 21 11 == c && field sel 10 0 == r) (s.frameNo % 2 ^ 24)
      (nth 0 tap c * 65536 + nth 0 clamped c)) s

/-- The SOU reads row r of a source at its read point, applies the mask, passes the tap and forms what its type needs (R160, R169,
R182, R285, R400, R403). -/
def State.scanRow (s : State) (i r : Nat) : State :=
  if !s.fs.running || !s.srcOn i || decide (s.actH i ≤ r) then s else
  let fs := List.range (s.fieldsOf i)
  let short := s.notBegun || (s.lineMode && s.fs.compFrame == s.frameNo && !s.fs.dark && fs.any fun f => !s.rowFull i f r)
  let t := if short then fs.foldl (fun t f => t.lateRow i r f) (s.underrun i r) else s
  let t0 := if s.lineMode && s.fs.compFrame == s.frameNo && decide (0 < r) then t.abandon i (r - 1) else t
  let pairs := fs.map fun f => t.sentRow i f r
  let words := fs.flatMap fun f => (List.range (s.actW i)).filterMap fun c =>
    let a := s.bufByte i f r c
    if s.badByte a then some (a / 8) else none
  let t1 := words.eraseDups.foldl State.badWord t0
  let t2 := if fs.any (s.rowBad i · r) then { t1 with fs := { t1.fs with badRead := setBit t1.fs.badRead i true } } else t1
  let scale := if s.srcType i = 2 then some (s.ptu i).scale else none
  let t3 := t2.tapRow i r (pairs.map (·.1)) (pairs.map (·.2)) (s.rowSkipped i r) scale
  let t4 := (t3.count 2 1 1).pixelProbes i r (nth ([], []) pairs 0).1
  let out := (nth ([], []) pairs 0).2
  match s.srcType i with
  | 1 => t4.sendTileRow i r out
  | 4 => { t4 with skb := { t4.skb with back := mapPut t4.skb.back r out } }
  | _ => t4

/-- A row of a source passes the read point of the SOU (R182). -/
def execScanOutRow (dt : Nat) (i : Fin 4) (r : Nat) (s : State) : Res := done ((s.tick dt).inDomains [0x17] fun t => t.scanRow i r)

/-! ### Scrubber (R158–R160) -/

/-- A bank of the frame store is on. -/
def State.bankOn (s : State) (b : Nat) : Bool := s.domState (7 + b / 4) == 0

/-- Tile and matrix sources with their blocks, in the order of the dose and ageing maps (R161). -/
def State.doseSrcs (s : State) : List (Nat × Nat) :=
  (s.srcs.filter fun i => s.srcType i == 1 || s.srcType i == 4).map fun i =>
    let b := blocksOf (s.actW i) (s.actH i)
    (i, b.1 * b.2)

/-- Source and block of a position in the dose map. -/
def blockAt : List (Nat × Nat) → Nat → Option (Nat × Nat)
  | [], _ => none
  | (i, n) :: r, b => if b < n then some (i, b) else blockAt r (b - n)

/-- The valid dose archive with the newer sequence (R491). [DEDUCED, log entry 71] -/
def State.doseCopy (s : State) : Option DoseCopy :=
  match s.nv.doses.filter DoseCopy.valid with
  | [] => none
  | [c] => some c
  | c :: d :: _ => if seqNewer d.seq c.seq then some d else some c

/-- Firmware rewrites both counters of a word of the dose map from the last archive (R160). [DEDUCED, log entry 71] -/
def State.rewriteDose (s : State) (c : DoseCopy) (b : Nat) : State :=
  [b, b + 1].foldl (fun t n =>
    match blockAt t.doseSrcs n with
    | some (i, k) =>
      let x := t.src i
      t.putSrc i { x with dose := putDef x.dose 0 k ((mapGet (nth [] c.dose i) k).getD 0) }
    | none => t) s

/-- What an uncorrectable word costs its reader beside the substitute of R160: firmware rewrites the geometry and dose areas, a list is
dropped from its slot, a trace record is invalid. Which source a word of the geometry area belongs to, the spec leaves open.
[DEDUCED, log entries 60, 70] -/
def State.badEffect (s : State) (w : Nat) : State :=
  let a := 8 * w
  let sizes := s.fixedNow
  let inItem (n : Nat) : Bool := decide (fixedBase sizes n ≤ a ∧ a < fixedBase sizes n + nth 0 sizes n)
  let mark (t : State) : State := if t.fs.bad.contains w then t else { t with fs := { t.fs with bad := t.fs.bad ++ [w] } }
  if inItem 4 then
    let (v, t) := s.fresh
    { t with geo := { t.geo with keep := setBit t.geo.keep (v % 4) true } }
  else if inItem 2 then
    match s.doseCopy with
    | some c => (s.rewriteDose c ((a - fixedBase sizes 2) / 4)).rewritten a 8
    | none => mark s
  else if inItem 6 then
    let slot := (a - fixedBase sizes 6) / 16384
    let slots := putNth none s.geo.slots slot none
    let newest := (List.range 4).foldl (fun b n =>
      match nth none slots n with
      | none => b
      | some y => match b with
        | none => some n
        | some m => (match nth none slots m with | some x => if seqNewer y.lseq x.lseq then some n else b | none => some n)) none
    { s with geo := { s.geo with slots := slots, newest := newest } }
  else if s.owner (0x9B + a / 524288) / 256 = 8 then
    let lower := ((List.range (a / 524288)).filter fun b => s.owner (0x9B + b) / 256 == 8).length
    let place := lower * 32768 + a % 524288 / 16
    let ring := updNth s.ins.ring ((place + 65536 - s.ins.ringAt) % 65536) fun r => { r with flags := setBit r.flags 0 true }
    { s with ins := { s.ins with ring := ring } }
  else mark s

/-- The scrubber reads word w: sound, corrected, or uncorrectable (R158, R159). A word that was uncorrectable stays so until it is
written. -/
def State.scrub (s : State) (w result : Nat) : State :=
  if !s.bankOn (w / 65536) then s else
  let r := if s.fs.bad.contains w then 2 else result
  let t := s.count 8 4 1
  let t1 := match r with
    | 0 => t
    | 1 => (t.inc (K 0x4310 2)).count 8 3 1
    | _ => (t.badWord w).badEffect w
  let total := 65536 * ((List.range 64).filter s.bankOn).length
  let start := if t1.fs.scrubbed = 0 then s.now else t1.fs.scrubStart
  let n := t1.fs.scrubbed + 1
  if total ≤ n then { t1 with fs := { t1.fs with scrubbed := 0 } }.set (K 0x4310 9) ((s.now - start) / 1000000)
  else { t1 with fs := { t1.fs with scrubbed := n, scrubStart := start } }

/-- The scrubber reads and checks a word of the frame store (R159). -/
def execScrubAccess (dt : Nat) (w : Fin 4194304) (result : Fin 3) (s : State) : Res := done ((s.tick dt).inDomains [0x17] fun t => t.scrub w result)

/-! ### Lock to SYNC_IN (R177–R179) -/

/-- Nominal SYNC_IN period in ns. -/
def State.syncNs (s : State) : Nat :=
  nsOfU (rowUOf s.rate4 (s.fs.ra + s.fs.vb) * (s.fs.ra + s.fs.vb)) * s.act (K 0x4300 8)

/-- The lock state changes, with a record (R179). [DEDUCED, log entry 69] -/
def State.setLock (s : State) (st : Nat) : State :=
  if s.get (K 0x4300 0x0E) = st then s else (s.set (K 0x4300 0x0E) st).event 5 0x0E st

/-- An edge of SYNC_IN: accepted within ±5 % of the nominal period after the one before, or ignored. The first edge, and one after
two periods without, begins anew (R179). [DEDUCED, log entry 69] -/
def State.syncEdge (s : State) (falling : Bool) : State :=
  if s.act (K 0x4300 7) ≠ 1 ∨ falling ≠ (s.act (K 0x4300 9) == 1) ∨ !s.fs.running then s else
  let l := s.fs.lock
  let nom := s.syncNs
  let begin_ : State := { s with fs := { s.fs with lock := { l with lastEdge := some s.now, edges := 1, inPhase := 0 } } }
  match l.lastEdge with
  | none => begin_
  | some a =>
    let d := s.now - a
    if 2 * nom ≤ d then begin_
    else if d * 100 < nom * 95 ∨ nom * 105 < d * 100 then s
    else
      let err := centred ((s.now : Int) + s.get (K 0x4300 0x0A) - s.fs.fmAt) (nsOfU (s.periodU s.fs.rowU))
      let inP := if err.natAbs ≤ 2000 then l.inPhase + 1 else 0
      let t : State := { s with fs := { s.fs with lock := { l with lastEdge := some s.now, edges := l.edges + 1, inPhase := inP, measured := d, err := err } } }
      let t1 := (t.set (K 0x4300 0x0F) (unsgn 32 err)).set (K 0x4300 0x10) d
      let st := s.get (K 0x4300 0x0E)
      if st = 1 ∧ 3 ≤ inP then t1.setLock 2
      else if (st = 0 ∨ st = 3) ∧ 3 ≤ l.edges + 1 then t1.setLock 1
      else t1

/-- An edge of SYNC_IN (R179). -/
def execSyncInEdge (dt : Nat) (falling : Bool) (s : State) : Res := done ((s.tick dt).inDomains [0x17] fun t => t.syncEdge falling)

/-- No edge has been accepted for two nominal periods while acquiring or locked: holdover (R179). -/
def State.syncLoss (s : State) : State :=
  let st := s.get (K 0x4300 0x0E)
  match s.fs.lock.lastEdge with
  | some a =>
    if s.act (K 0x4300 7) = 1 ∧ (st = 1 ∨ st = 2) ∧ a + 2 * s.syncNs ≤ s.now then
      { s with fs := { s.fs with lock := { s.fs.lock with edges := 0, inPhase := 0, heldAt := s.now } } }.setLock 3
    else s
  | none => s

/-- Two nominal SYNC_IN periods have passed without an accepted edge (R179). -/
def execSyncInLoss (dt : Nat) (s : State) : Res := done ((s.tick dt).inDomains [0x17] fun t => t.syncLoss)

/-- The holdover time ends: the raster is free-running (R179). -/
def State.holdoverEnd (s : State) : State :=
  if s.get (K 0x4300 0x0E) = 3 ∧ s.fs.lock.heldAt + s.get (K 0x4300 0x0B) * 1000000 ≤ s.now then
    { s with fs := { s.fs with lock := { s.fs.lock with lastEdge := none } } }.setLock 0
  else s

/-- The holdover time of the raster ends (R179). -/
def execHoldoverEnd (dt : Nat) (s : State) : Res := done ((s.tick dt).inDomains [0x17] fun t => t.holdoverEnd)

end Sys2Proof.Machine
end

