-- ==== Sys2Proof/Machine/TwinOps.lean ====
section
/-! DEFINITION. Kerb loads (R139–R141), and the shared operations of chapter 13: readiness, claims, takeover, handover, copies. -/

namespace Sys2Proof.Machine

/-! ### Kerb images (R139–R141) -/

/-- The fields of a Kerb image. -/
def kerbImage (b : List Byte) : KerbImg :=
  { kseq := beAt b 8 4, crc := beAt b (b.length - 4) 4,
    desc := (List.range 4).map fun i => (beAt b (0x10 + 8 * i) 2, beAt b (0x12 + 8 * i) 2, beAt b (0x14 + 8 * i) 4),
    maps := (b.drop 0x30).take (b.length - 0x34) }

/-- A Kerb image as bytes. -/
def KerbImg.bytes (k : KerbImg) : List Byte :=
  toBe 4 0x5A4B5242 ++ toBe 2 0x0100 ++ toBe 2 0 ++ toBe 4 k.kseq ++ toBe 4 0
    ++ (k.desc.flatMap fun d => toBe 2 d.1 ++ toBe 2 d.2.1 ++ toBe 4 d.2.2) ++ k.maps ++ toBe 4 k.crc

/-- Entries of the two maps of a descriptor. -/
def mapSize (d : Nat × Nat × Nat) : Nat := 2 * d.1 * d.2.1

/-- Conditions 0x03 to 0x07 of R141 on an image: 0x01 when all hold, else the code of the first that fails. -/
def State.kerbForm (s : State) (b : List Byte) : Nat :=
  let k := kerbImage b
  let stop := b.length - 4
  let used := k.desc.filter fun d => mapSize d != 0
  let inside := used.all fun d => decide (0x30 ≤ d.2.2 ∧ d.2.2 + mapSize d ≤ stop)
  let apart := (List.range used.length).all fun m => (List.range m).all fun n =>
    let x := nth (0, 0, 0) used m
    let y := nth (0, 0, 0) used n
    decide (x.2.2 + mapSize x ≤ y.2.2 ∨ y.2.2 + mapSize y ≤ x.2.2)
  let dims := (List.range 4).all fun i =>
    let d := nth (0, 0, 0) k.desc i
    d.1 == (s.srcW i + 3) / 4 && d.2.1 == (s.srcH i + 3) / 4
  let floors := used.all fun d => (List.range (d.1 * d.2.1)).all fun n =>
    decide (byteAt b (d.2.2 + n) ≤ byteAt b (d.2.2 + d.1 * d.2.1 + n))
  if b.length < 0x34 ∨ beAt b 0 4 ≠ 0x5A4B5242 ∨ beAt b 4 2 ≠ 0x0100 ∨ beAt b 6 2 ≠ 0 ∨ beAt b 0xC 4 ≠ 0 then 3
  else if !(dims && inside && apart) then 4
  else if !floors then 5
  else if !seqNewer k.kseq (s.get (K 0x4100 2)) then 6
  else if (s.safe.cores.filter id).length < 2 then 7 else 1

/-- All conditions of R141 in order. -/
def State.kerbJudge (s : State) (b : List Byte) (kseq len crc : Nat) : Nat :=
  if b.length ≠ len ∨ b.length < 0x34 ∨ beAt b (b.length - 4) 4 ≠ crc ∨ crc32c (b.take (b.length - 4)) ≠ crc ∨ beAt b 8 4 ≠ kseq then 2
  else s.kerbForm b

/-- A Kerb-load command: judged, and on success the SSV begins to write the maps (R141). [DEDUCED, log entry 120] -/
def State.kerbLoad (s : State) (kseq len crc : Nat) : State × Bool :=
  let b := (s.dom (K 0x4100 1)).getD []
  let r := s.kerbJudge b kseq len crc
  let t := s.set (K 0x4100 5) r
  if r = 1 then ({ t with comp := { t.comp with kerb := { t.comp.kerb with loading := some (kerbImage b) } } }, true) else (t, false)

/-- Maps are written to the inactive bank and armed for a frame (R141); those checked against dimensions not in force wait for the entry
frame (R175). -/
def State.kerbArm (s : State) (img : KerbImg) (landing : Nat) : State :=
  let kb := s.comp.kerb
  let entry := (List.range 4).any s.dimsPending
  let bank : KerbBank := ⟨img, img.maps.map fun b => ~~~b⟩
  let t : State := { s with comp := { s.comp with kerb := { kb with
    banks := putNth ⟨KerbImg.zero, []⟩ kb.banks (1 - kb.active) bank, loading := none, armed := some (landing, entry) } } }
  (((t.rewritten ((63 - kb.active) * 524288) 524288).set (K 0x4100 4) landing).setFlag (K 0x4100 8) 0 true).setFlag (K 0x4100 8) 1 true

/-- Words of bytes, the last one padded with zeros. -/
def bytesWords (b : List Byte) : List Nat := (List.range (ceilDiv b.length 8)).map fun n => beAt b (8 * n) 8

/-- The active device sends the voted image to its partner (R452). -/
def State.sendKerb (s : State) (img : KerbImg) (landing : Nat) : State :=
  let b := img.bytes
  let ws := [img.kseq * 2 ^ 32 + b.length, img.crc * 2 ^ 32] ++ bytesWords b
  if s.get (K 0x8600 3) = 1 then
    (List.range (ceilDiv ws.length 512)).foldl (fun t n => t.sendTwl 7 landing ((ws.drop (512 * n)).take 512)) s
  else s

/-- The SSV has written, read back and armed the maps of an accepted load (R141). -/
def State.kerbArmed (s : State) : State :=
  match s.comp.kerb.loading with
  | some img => (s.kerbArm img s.landingFrame).sendKerb img s.landingFrame
  | none => s

/-- The maps of an accepted Kerb load are armed (R141). -/
def execKerbMapsArmed (dt : Nat) (s : State) : Res := done ((s.tick dt).kerbArmed)

/-! ### Readiness (R449) -/

/-- CRC of the configuration in force: of every entry that differs from its default, with its value (its layout is open).
[DESIGN CHOICE, log entry 57] -/
def State.cfgCrc (s : State) : Nat :=
  crc32c (s.active.flatMap fun p => toBe 3 p.1 ++ toBe 8 p.2)

/-- Every enabled endpoint is trained and ready, and in a twin lamp shows DUAL = 1 (R443, R449). -/
def State.lanesReady (s : State) : Bool :=
  ((List.range 8).filter s.epOn).all fun e => (s.port e).trained && (s.port e).ready && (s.tw.single || bit (s.get (K (0x4400 + e) 0x16)) 15)

/-- Scan Guard of every scanner is enabled. -/
def State.guardsReady (s : State) : Bool :=
  (s.srcs.filter fun i => s.srcType i == 3).all fun i => s.get (K (0x4540 + s.act (K (0x4520 + i) 0x0A)) 7) == 2

/-- Bits of R449 that both devices find equal or fresh at once: the standby sees them in what the active one sends, and the active
one takes them from the standby's word. With both lanes lost the copy and signature bits are clear (R448). [DEDUCED, log entry 133] -/
def State.peerBits (s : State) : Nat :=
  match s.tw.partner with
  | none => 0
  | some p =>
    if s.get (K 0x8600 3) = 1 then s.get (K 0x8600 6) &&& (if s.get (K 0x7030 3) = 0 then 7 else 0xC7)
    else
      b2n (p.cfgCrc == s.cfgCrc) + 2 * b2n (p.cls == beAt s.runManifest 0x20 4) + 4 * b2n (p.kseq == s.get (K 0x4100 2))
        + (if s.get (K 0x7030 3) = 0 then 0 else
            64 * b2n (decide ((s.get (K 0x4300 0x11) + 2 ^ 32 - s.get (K 0x8600 0x11)) % 2 ^ 32 ≤ 2)) + 128 * b2n (decide (16 ≤ s.tw.agreed)))

/-- The raster lies within ±2 µs of the partner's. -/
def State.rasterNear (s : State) : Bool :=
  match s.tw.partner with
  | some p => decide ((centred ((p.tfm : Int) - s.fs.fmTime) (nsOfU (s.periodU s.fs.rowU))).natAbs ≤ 2000)
  | none => false

/-- The readiness word of R449. [DEDUCED, log entry 133] -/
def State.readiness (s : State) : Nat :=
  s.peerBits + 8 * b2n s.lanesReady + 16 * b2n s.rasterNear + 32 * b2n s.guardsReady
    + 256 * b2n (s.mode != .hold && s.mode != .safe && s.latched == 0) + 512 * b2n (!s.tw.blocked)

/-- The readiness entry brought up to date; a device that runs single has none. -/
def State.showReady (s : State) : State := if s.tw.single then s else s.set (K 0x8600 5) s.readiness

/-- The twin blocks act: this is no single lamp, and the TWIN domain is on (R28, R442). -/
def State.twinOn (s : State) : Bool := !s.tw.single && s.domState 0x25 == 0

/-- Every capable bit is set in a word of R449. -/
def capable (w : Nat) : Bool := w &&& 0x23F == 0x23F

/-! ### Claims, takeover and handover (R444, R445, R457, R460) -/

/-- The MILESTONE with JOIN of the frame in progress leaves at an instant and executes 2.0 µs later (R213, R457, R460). -/
def State.joinPort (s : State) (leave e : Nat) : State :=
  if !(s.port e).ready then s else
  let i := s.ep e 2
  let mirror := s.ep e 3 == 2
  let rowU := s.fs.rowU
  let hs := max 1 (s.actH i)
  let at_ : Nat := if mirror then s.startDelay i rowU else s.rowStart i (s.ep e 7)
  let first := unsgn 32 ((((s.fs.fmAt : Int) + at_ - (leave + 2000)) * 32) / 5)
  let blank := !s.fs.firstLight || bit s.safe.path1 i || s.fs.dark
  s.putTx e ⟨leave, 4, s.frameNo, milestoneWords 12800 first (if mirror then 0 else roundDiv (s.fs.ra * rowU) hs) (roundDiv (s.periodU rowU) 4096)
    (if mirror then 0 else s.ep e 0x19) (b2n blank + 2), 0, none, none⟩

/-- At takeover a mirror array goes on with the first slot whose plane can be complete before it: its plane leaves with the execution of JOIN
when the slot before, with which it would have left, has begun (R457). -/
def State.joinPlane (s : State) (exec i : Nat) : State :=
  let slots := s.slots4 i
  let start (k : Nat) : Nat := s.fs.fmAt + s.startDelay i s.fs.rowU + (slots.take k).foldl (· + ·) 0 / 1000
  match (List.range slots.length).find? fun k => decide (exec + s.dwellOf i ≤ start k) with
  | some k => if k = 0 ∨ start (k - 1) ≤ s.now then s.sendPlane i k (exec - s.now) else s
  | none => s

/-- At takeover each slot hands over from the partner's last output in the state copy, a resonant one at the partner's drive phase (R309, R321). -/
def State.slotsTakeOver (s : State) : State :=
  match s.tw.copied with
  | none => s
  | some b => (b.loops.take 8).zipIdx.foldl (fun t p =>
    let n := p.2
    let st := t.slotState n
    let t1 := if t.kind n = 1 then t.putSlot n { t.slot n with phase := p.1.phase, nextPhase := p.1.phase, phase0 := p.1.phase } else t
    if st = 1 ∨ st = 2 then t1.putSlot n { t1.slot n with outgoing := some p.1.last }
    else if st = 3 ∨ st = 4 then t1.handover n p.1.last (t1.detourOut n (t1.now + t1.slotNs n)) else t) s

/-- The outputs of a device are enabled in a takeover or handover: it becomes active, its loop slots hand over, and its links join the frame
(R457, R460). -/
def State.becomeActive (s : State) (planned : Bool) : State :=
  let t : State := { s with tw := { s.tw with offerIn := false, offerOut := false, wanted := false, granted := false } }
  let t0 : State := { t with tw := { t.tw with handedAt := if planned then some s.now else none } }
  let t1 := t0.set (K 0x8600 3) 1
  let t2 := match t1.mode with
    | .standby => t1.enter .operate 6
    | .hold => { t1 with sys := { t1.sys with before := 2 } }
    | _ => t1
  let t3 := if planned then t2.inc (K 0x8600 0x0C) else (t2.inc (K 0x8600 0x0B)).event 0x1A 0x0E 2
  let t4 := (t3.set (K 0x8600 0x0A) t3.timeNs).slotsTakeOver
  let leave := if planned then max t4.now (t4.fs.fmAt + 8000) else t4.now
  let t5 : State := { t4 with tw := { t4.tw with joinAt := some (leave + 2000) } }
  let t6 := ((List.range 8).filter t5.epOn).foldl (fun u e => u.joinPort leave e) t5
  (((t6.srcs.filter fun i => t6.srcType i == 2).foldl (fun u i => u.joinPlane (leave + 2000) i) t6).setTse).setLas

/-- The outputs come on in BOOT or PREOP: the device is active, and its state does not change (R454, R456). [DEDUCED, log entry 135] -/
def State.claimStart (s : State) : State :=
  let t := s.set (K 0x8600 3) 1
  t.setTse.setLas

/-- What follows once the claim of this device stands alone (R445, R457). -/
def State.claimHeld (s : State) : State :=
  let t : State := { s with tw := { s.tw with contested := false, meets := false } }
  match t.mode with
  | .boot | .preop | .safe => t.claimStart
  | _ => if t.get (K 0x8600 3) = 1 then t else t.becomeActive s.tw.offerIn

/-- This device asserts its claim (R445). -/
def State.assertClaim (s : State) : State :=
  let meets := s.tw.claimIn && decide (s.tw.claimInAt + 50000 < s.now)
  let t : State := { s with tw := { s.tw with claimOut := true, claimAt := s.now, contested := s.tw.claimIn, meets := meets } }
  if s.tw.claimIn then t else t.claimHeld

/-- The claim goes back within 1 ms of a planned handover (R459, R463). [DEDUCED, log entry 233] -/
def State.handBack (s : State) : State :=
  match s.tw.handedAt with
  | some a => { if s.now ≤ a + 1000000 then s.set (K 0x8600 0x0D) 3 else s with tw := { s.tw with handedAt := none } }
  | none => s

/-- A takeover trigger: a capable standby claims; one in HOLD does too (R457, R462). A handover in progress ends (R462). -/
def State.takeover (s : State) : State :=
  if !s.twinOn || s.tw.claimOut || s.get (K 0x8600 3) != 2 || !capable s.readiness then s
  else
    let t := if s.tw.offerIn then s.set (K 0x8600 0x0D) 2 else s.handBack
    { t with tw := { t.tw with offerIn := false } }.assertClaim

/-- This device gives up being active: it is standby, with no outputs (R52, R460). Its tile supplies stay as they are until a state copy
shows those of the partner (R228). [DEDUCED, log entry 191] -/
def State.becomeStandby (s : State) : State :=
  let t := { s with tw := { s.tw with tse := s.tl.tse } }.set (K 0x8600 3) 2
  let t1 := match t.mode with | .operate => t.enter .standby 6 | .hold => { t with sys := { t.sys with before := 3 } } | _ => t
  t1.setTse.setLas

/-- Why a planned handover is refused: none when it may start (R460). -/
def State.handoverRefused (s : State) : Option Code :=
  if s.get (K 0x8600 3) ≠ 1 ∨ s.mode ≠ .operate then some (0x0401, s.mode.code)
  else if s.readiness ≠ 0x3FF ∨ s.get (K 0x8600 6) ≠ 0x3FF then some (0x0402, 0)
  else none

/-- At the commit milestone the offer of a planned handover leaves (R460). -/
def State.sendOffer (s : State) : State :=
  if s.tw.wanted && !s.tw.offerOut then
    { s with tw := { s.tw with offerOut := true } }.sendTwl 5 0x01000000 [(s.get (K 0x4300 0x11) + 1) % 2 ^ 32 * 2 ^ 32]
  else s

/-- At the frame milestone the old active device of a granted handover releases its claim (R460). -/
def State.handoverMilestone (s : State) : State :=
  if s.tw.granted && s.get (K 0x8600 3) == 1 then
    let t : State := { s with tw := { s.tw with claimOut := false, granted := false, offerOut := false, wanted := false, drilling := false } }
    let t : State := { t with tw := { t.tw with handedAt := some s.now } }
    ((t.inc (K 0x8600 0x0C)).set (K 0x8600 0x0D) 0).becomeStandby
  else s

/-! ### What the devices send each frame (R451, R453) -/

/-- The frame's inputs that the digest covers: snapshot LSEQ, VFRAME of the newest frame of each stream, and the items of its landing set (R453).
[DESIGN CHOICE, log entry 132] -/
def State.digestInputs (s : State) : List Nat :=
  [match s.geo.snap with | some l => l.lseq + 1 | none => 0] ++ (s.net.streams.map Stream.doneFrame)
    ++ (s.fs.landed.filter fun p => p.1 == s.frameNo).map Prod.snd

/-- The signature words of the present frame: CRC-32C of each source's values as read before the mask, and the input digest (R425,
R453). [DEDUCED, log entry 175] -/
def State.signature (s : State) : List Nat :=
  let dig := Config.inputDigest s.digestInputs % 2 ^ 32
  (List.range 4).map fun i =>
    if s.srcOn i then
      let vals := (List.range (s.fieldsOf i)).flatMap fun f => (List.range (s.actH i)).flatMap fun r => s.readRow i f r
      crc32c (vals.flatMap fun v => toBe 2 v) * 2 ^ 32 + dig
    else dig

/-- A list of free words. [DESIGN CHOICE, log entry 131] -/
def State.freshWords : Nat → State → List Nat × State
  | 0, s => ([], s)
  | n + 1, s =>
    let (v, t) := s.fresh
    let (r, u) := State.freshWords n t
    (v % 2 ^ 64 :: r, u)

/-- At a frame milestone, for the frame just ended: the state copy of the active device, 2,664 bytes whose layout within the items is open, and
after it the signature of both (R448, R451, R453). [DESIGN CHOICE, log entry 200] -/
def State.twinFrame (s : State) : State :=
  if s.tw.single || s.get (K 0x8600 3) == 0 then s
  else
    let sig := s.signature
    let t : State := { s with tw := { s.tw with sigs := (s.frameNo, sig) :: s.tw.sigs.take 7 } }
    let t1 :=
      if t.get (K 0x8600 3) = 1 then
        let (ws, u) := t.freshWords 333
        u.sendTwl 2 s.frameNo ws
      else t
    t1.sendTwl 4 t1.frameNo sig

/-! ### What a state copy sets (R321, R451) -/

/-- The notch delays of a copied slot. -/
def copiedNotch (x : LoopCopy) (n : Nat) : Notch := ⟨nth 0 x.notch n, nth 0 x.notch (n + 1), nth 0 x.notch (n + 2), nth 0 x.notch (n + 3)⟩

/-- Integrator and notch states of the running slots (R321). -/
def State.copyLoops (s : State) (l : List LoopCopy) : State :=
  (l.take 8).zipIdx.foldl (fun t p =>
    if t.slotRuns p.2 then
      t.putSlot p.2 { t.slot p.2 with i := p.1.integ, iPhase := p.1.integPhase, n1 := copiedNotch p.1 0, n2 := copiedNotch p.1 4 }
    else t) s

/-- Effective budget, scale, ramp and floor requirement of each source. -/
def State.copyBudgets (s : State) (l : List BudgetCopy) : State :=
  (l.take 4).zipIdx.foldl (fun t p =>
    let x := t.src p.2
    (t.putSrc p.2 { x with budget := { x.budget with fresh := false, bEff := p.1.bEff, scale := p.1.scale, ramp := p.1.ramp } }).set
      (K (0x4240 + p.2) 0x0A) p.1.need.toNat) s

/-- An engine that is out of step takes the partner's place in the program. -/
def State.copyEngines (s : State) (l : List EngineCopy) : State :=
  (l.take 8).zipIdx.foldl (fun t p =>
    let k := 0x5100 + p.2
    if t.get (K k 7) = p.1.state ∧ t.get (K k 8) = p.1.pc then t
    else ((t.putEngine p.2 { t.engine p.2 with value := p.1.value, counters := p.1.counters, untimed := 0, wait := .none }).set
      (K k 7) p.1.state).set (K k 8) p.1.pc) s

/-- Levels of the strings that a host sets, and codes of the tracking rails. -/
def State.copyLevels (s : State) (levels trk : List Nat) : State :=
  let t := (levels.take 128).zipIdx.foldl (fun t p => if t.chanFn p.2 = 1 then t.set (K (SK p.2) 4) p.1 else t) s
  (trk.take 4).zipIdx.foldl (fun t p => if t.get (K (0x5020 + p.2) 1) = 1 then t.set (K (0x5020 + p.2) 9) p.1 else t) t

/-- Shading state and fall-back ramp, and how long each layer has repeated. -/
def State.copyShading (s : State) (b : CopyBody) : State :=
  let t := if s.get (K 0x3200 0x0C) = b.shade then s else
    { s.set (K 0x3200 0x0C) b.shade with geo := { s.geo with fresh := 0, rampStart := if b.shade = 2 then some (s.timeNs - b.rampAge) else none } }
  (b.layers.take 7).zipIdx.foldl (fun t p =>
    { t with comp := { t.comp with layers := modNth ⟨.off, none, none⟩ t.comp.layers p.2 fun x => { x with lateSince := p.1.map fun a => t.now - a } } }) t

/-- A low-beam fall-back that the partner's BLC holds. -/
def State.copySteps (s : State) (l : List Nat) : State :=
  ((l.take 4).zipIdx.foldl (fun t p =>
    let b := t.blcOf p.2
    if 2 ≤ p.1 ∧ b.fallBack = false then t.putBlc p.2 { b with fallBack := true, calmSince := some t.now } else t) s).revise 0

/-- The items of a state copy are applied: each block takes them at its next boundary (R321, R451). [DESIGN CHOICE, log entry 200] -/
def State.copyItems (s : State) (b : CopyBody) : State :=
  let t : State := { s with tw := { s.tw with copied := some b } }
  ((((t.copyLoops b.loops).copyBudgets b.budgets).copyEngines b.engines).copyLevels b.levels b.trk).copyShading b |>.copySteps b.steps

end Sys2Proof.Machine
end

