-- ==== Sys2Proof/Machine/Milestone.lean ====
section
/-! DEFINITION. The frame milestone (R52, R134, R150, R164–R172, R175, R177–R181, R242, R246, R271, R402, R411, R425, R565). -/

namespace Sys2Proof.Machine

/-! ### The frame that ends -/

/-- A block's dose after a frame: the mean of its four pixels over the frame in seconds, to 24 fractional bits, with a free dither
(R150). -/
def doseStep (old sum perNs dither : Nat) : Nat :=
  satN 0xFFFFFFFF (old + (sum * perNs * 16777216 / (4 * 65535 * 1000000000) + dither % 16777216) / 16777216)

/-- Dose of one source over the frame that ends: `first` is the number of its first block in the dose map. -/
def State.doseSrc (s : State) (i first : Nat) : State :=
  let w := s.actW i
  let h := s.actH i
  let (bw, bh) := blocksOf w h
  let per := nsOfU (s.periodU s.fs.rowU)
  let base := fixedBase s.fixedNow 2
  let hurt := if s.fs.bad.isEmpty then [] else (((List.range (bw * bh)).map fun b => base + 4 * (first + b)).filter s.badByte).map (· / 8)
  let met := hurt.eraseDups.foldl (fun t w => (t.badWord w).badEffect w) s
  (List.range (bw * bh)).foldl (fun t b =>
    if s.badByte (base + 4 * (first + b)) then t
    else
      let sum := [(0, 0), (1, 0), (0, 1), (1, 1)].foldl (fun a (q : Nat × Nat) =>
        let c := 2 * (b % bw) + q.1
        let r := 2 * (b / bw) + q.2
        if c < w ∧ r < h then a + nth 0 ((s.bufRow i 0 r).getD []) c else a) 0
      let (v, u) := t.fresh
      let x := u.src i
      u.putSrc i { x with dose := putDef x.dose 0 b (doseStep ((mapGet x.dose b).getD 0) sum per v) }) met

/-- Dose of every tile and matrix source that emits (R25, R150). -/
def State.doseFrame (s : State) : State :=
  (s.doseSrcs.foldl (fun (a : State × Nat) x =>
    (if s.emits x.1 then a.1.doseSrc x.1 a.2 else a.1, a.2 + x.2)) (s, 0)).1

/-- Sink dissipation in W over the frame that ends: Σ I_avg × V_pin over every sink (R271). [DESIGN CHOICE, log entry 176] -/
def State.dissipation (s : State) : Word32 :=
  let n := (List.range 128).foldl (fun a c => a + (s.chan c).charge * s.get (K (SK c) 0x0A)) 0
  F32.ofRat n (1023 * max 1 s.frameCycles * 1000000)

/-- The charges of a new frame are counted anew. -/
def State.clearCharge (s : State) : State := { s with skb := { s.skb with chans := s.skb.chans.map fun c => { c with charge := 0 } } }

/-- The dissipation entry, and a record as it rises above its limit (R271). -/
def State.showDissipation (s : State) : State :=
  let p := s.dissipation
  let lim := F32.ofNat (s.get (K 0x5000 8))
  let was := F32.lt lim (F32.ofNat (s.get (K 0x5000 7)))
  let t := s.clearCharge.set (K 0x5000 7) p.toNat
  if F32.lt lim p then (if was then t else t.stand 9 0x0B (K 0x5000 7)) else if was then t.causeGone 9 0x0B (K 0x5000 7) else t

/-- Runs of frames in which a source's output signature differed, because a word of its buffer was uncorrectable (R160, R425).
[DEDUCED, log entry 175] -/
def State.signatureRuns (s : State) : State :=
  let t := (List.range 4).foldl (fun t i =>
    let n := if bit s.fs.badRead i then nth 0 t.safe.sigRun i + 1 else 0
    let u : State := { t with safe := { t.safe with sigRun := putNth 0 t.safe.sigRun i n } }
    if n = 3 then u.stand 5 3 (K (0x4320 + i) 0)
    else if n = 0 ∧ 3 ≤ nth 0 t.safe.sigRun i then u.causeGone 5 3 (K (0x4320 + i) 0) else u) s
  { t with fs := { t.fs with badRead := 0, under := 0 } }

/-- The measured illumination current of a source lies off the scale of its frame by more than the tolerance, in 0.01 % of the full current
(R404, R411). [DEDUCED, log entry 231] -/
def State.illumOff (s : State) (i : Nat) (amps : List (Option Nat)) : Bool :=
  match nth none amps i with
  | some a => decide (s.get (K 0x8300 6) * 65535 < ((a : Int) - (s.ptu i).scale).natAbs * 10000)
  | none => false

/-- The illumination scale of a mirror array against its measured current (R411). [DEDUCED, log entry 231] -/
def State.illumination (s : State) (amps : List (Option Nat)) : State :=
  (s.srcs.filter fun i => s.srcType i == 2).foldl (fun t i =>
    let n := if s.illumOff i amps then nth 0 t.safe.illumRun i + 1 else 0
    let u : State := { t with safe := { t.safe with illumRun := putNth 0 t.safe.illumRun i n } }
    if n = 3 then u.roadblock (2 ^ i) 5 else if n = 0 then u.ssvCauseGone 5 i else u) s

/-- The self-check of the BLC in vertical blanking (R425): a failure raises a record while it lasts. [DEDUCED, log entry 231] -/
def State.blcSelfCheck (s : State) (bad : Bool) : State :=
  let was := s.logActive 0x0F 0x14 0
  if bad then (if was then s else s.stand 0x0F 0x14 0) else if was then s.causeGone 0x0F 0x14 0 else s

/-! ### Entry (R162, R175) -/

/-- The pixels of the buffer that the SOU reads, in the order of the fixed area; background where nothing has been written. -/
def State.flatOut (s : State) : List Nat :=
  s.srcs.flatMap fun i => (List.range (s.fieldsOf i)).flatMap fun f => (List.range (s.actH i)).flatMap fun r =>
    padRow (s.actW i) (s.get (K (0x4000 + i) 1)) ((s.bufRow i f r).getD [])

/-- Rows of a source cut from pixels in the order of the fixed area. -/
def State.cutOut (s : State) (px : List Nat) (i : Nat) : List (Nat × List Nat) :=
  (List.range (s.fieldsOf i)).flatMap fun f => (List.range (s.actH i)).map fun r =>
    (f * 2048 + r, (px.drop (s.pixBefore i + (f * s.actH i + r) * s.actW i)).take (s.actW i))

/-- Beam-table regions of the geometry area move with it, and their content too (R161, R162). [DESIGN CHOICE, log entry 213] -/
def State.moveBeams (s : State) (old new : List Nat) : State :=
  let a := geoRest old * 65536
  let b := geoRest new * 65536
  let inOld (x : Nat) : Bool := decide (a ≤ x ∧ x < a + 786432)
  if a = b then s
  else
    let kept := s.fs.mem.filter fun p => !inOld p.1
    let mem := (s.fs.mem.filter fun p => inOld p.1).foldl (fun m p => memPut m (p.1 - a + b) p.2) kept
    let t : State := { s with fs := { s.fs with mem := mem } }
    (List.range 32).foldl (fun t n =>
      let k := K (0x3440 + n) 3
      if s.get (K (0x3440 + n) 1) ≠ 0 ∧ inOld (s.get k) = true then t.set k (s.get k - a + b) else t) t

/-- The relayout of the fixed area (R162): output buffers whose item keeps its size are copied, as the pixels `px`; an item of another size
is initialised, dose and ageing maps from the dose archive. -/
def State.relayout (s : State) (oldSizes : List Nat) (px : List Nat) : State :=
  let new := s.fixedNow
  let same (n : Nat) : Bool := nth 0 oldSizes n == nth 0 new n
  let c := s.doseCopy
  let t := (List.range 4).foldl (fun t i =>
    let x := t.src i
    let out := if same 0 ∧ px ≠ [] ∧ t.srcOn i = true then t.cutOut px i else []
    let x1 : Src := { x with pRows := [], pReady := [], pFront := [], back := if t.lineMode then out else [], ready := [], front := out }
    let x2 : Src := if same 1 then x1 else { x1 with gmap := [], gmapReady := false }
    let x3 : Src := if same 2 then x2 else { x2 with dose := match c with | some d => nth [] d.dose i | none => [] }
    let x4 : Src := if same 3 then x3 else { x3 with again := match c with | some d => nth [] d.again i | none => [] }
    let u := t.putSrc i x4
    if same 1 then u else u.set (K (0x4200 + i) 5) (if u.get (K (0x4200 + i) 1) = 1 then 1 else 0)) s
  let ports := if same 1 then t.tl.ports else t.tl.ports.map fun p => { p with gainDone := false }
  let net := if same 5 then t.net else { t.net with streams := [Stream.init, Stream.init] }
  let fs := { t.fs with bad := t.fs.bad.filter fun w => decide (t.fs.fixedEnd * 8192 ≤ w), composing := false, readyOf := none,
                        compFrame := t.get (K 0x4300 0x11), dark := true }
  let u := { t with tl := { t.tl with ports := ports }, net := net, fs := fs }.moveBeams oldSizes new
  if same 1 then u
  else (List.range 8).foldl (fun u e => if u.epOn e && (u.port e).ready && u.get (K (0x4200 + u.ep e 2) 1) == 1 then u.portReady e else u) u

/-- A new timing source begins its lock anew (R179): acquiring for PTP, free-running until edges come for SYNC_IN and for free run. -/
def State.newTiming (s : State) (old : Nat) : State :=
  let m := s.act (K 0x4300 7)
  if m = old then s
  else { s with fs := { s.fs with lock := Fs.init.lock } }.setLock (if m = 2 then 1 else 0)

/-- A port that stays up under a new configuration: its row repeat is picked anew, and a target rate that is now below its configured rate raises a
record (R208, R330). -/
def State.linkConfig (s old : State) (e : Nat) : State :=
  let k := K (0x7020 + s.ep e 4) 1
  let t := if (s.port e).ready && s.act k != old.act k && decide (s.targetRate e < s.act k) then s.event 0x0C 0x0B k else s
  t.refreshLink e

/-- The accepted configuration comes into force at the entry milestone (R175): endpoints whose record changes start anew.
[DEDUCED, log entry 49] -/
def State.enterCfg (s : State) : State :=
  match s.fs.accepted with
  | none => s
  | some c =>
    let old := s.fixedNow
    let moved := (List.range 8).filter fun e => (keys (0x4400 + e) 1 9 ++ keys (0x4400 + e) 0x18 0x19).any fun k =>
      s.act k != (mapGet c.vals k).getD (s.act k)
    let on (e : Nat) : Bool :=
      let g (k : Nat) : Nat := (mapGet c.vals k).getD (s.act k)
      g (K (0x4400 + e) 1) == 1 && g (K (0x4330 + g (K (0x4400 + e) 2)) 1) == 1
    let last := (List.range 8).filter fun e => s.epOn e && !on e && (s.port e).ready
    let gone := moved.foldl (fun t e => if t.epOn e && !last.contains e then t.dropPort e else t) s
    let landed := gone.land c.vals c.doms
    let t := { landed with tl := { landed.tl with leaving := last.map fun e => (e, s.ep e 4) } }
    let t1 : State := { t with fs := { t.fs with accepted := none, fixedEnd := c.fixedEnd, ra := t.act (K 0x4300 3), vb := t.act (K 0x4300 4) } }
    let scan := (mapGet c.vals (K 0x4300 1)).isSome
    let t2 := (List.range 8).foldl (fun u e => if u.epOn e && (u.port e).trained then (if scan then u.returnLanes e else u).linkConfig s e else u)
      (t1.newTiming (s.act (K 0x4300 7)))
    if c.relayout then ({ t2 with fs := { t2.fs with gainArea := c.gain } }.landSet t2.frameNo).relayout old (s.flatOut) else t2

/-- A frame ends: an endpoint whose MILESTONE for it carried LAST is in READY, and its port starts from nothing (R223, R228); the frame that
begins is dark on the ports whose MILESTONE carried BLANK (R214). -/
def State.turnPorts (s : State) : State :=
  let r := if s.tl.redo then ((List.range 8).filter fun e => s.epOn e && (s.port e).trained).foldl (fun t e => t.startTrain e 0)
      { s with tl := { s.tl with redo := false } } else s
  let t := s.tl.leaving.foldl (fun t p => t.dropPort p.1) r
  { t with tl := { t.tl with leaving := [], ports := t.tl.ports.map fun p => { p with dark := p.darkNext, darkNext := false } } }

/-- The state request that takes effect at this milestone (R52, R175, R279, R288).
[DEDUCED, log entry 68; DESIGN CHOICE, log entries 207, 208] -/
def State.applyRequest (s : State) : State :=
  match s.sys.stateReq with
  | none => s
  | some r =>
    let clear : State := { s with sys := { s.sys with stateReq := none } }
    if r.target = 1 then (if s.mode = .operate then (clear.enter .preop r.cause).stopEngines else clear)
    else if !s.entered s.frameNo then s
    else if s.mode ≠ .preop then clear
    else
      let t := clear.enterCfg.takeConns
      let standby := !t.tw.single && !t.tw.claimOut
      if standby then ({ t with tw := { t.tw with tse := t.tl.tse } }.enter .standby r.cause).set (K 0x8600 3) 2 else (t.enter .operate r.cause).autostart

/-! ### Buffers (R134, R167, R170–R172) -/

/-- The next frame is one that halving repeats (R171). -/
def State.repeated1 (s : State) (n : Nat) : Bool := s.halved && n % 2 == 1

/-- Buffers swap for frame n in double-buffered mode, or the frame is late (R167, R170). -/
def State.swapBuffers (s : State) (n : Nat) : State :=
  if s.lineMode then
    if s.repeated1 n then s.count 2 4 1 else { s with fs := { s.fs with shown := n }, geo := { s.geo with lev := s.geo.levNext } }
  else if s.fs.readyOf = some n then
    let t := s.srcs.foldl (fun t i =>
      let x := t.src i
      t.putSrc i { x with front := x.ready, pFront := x.pReady, ready := [], pReady := [] }) s
    { t with fs := { t.fs with shown := n, readyOf := none, frontBuf := 1 - t.fs.frontBuf }, safe := { t.safe with limits := t.safe.limReady },
             geo := { t.geo with lev := t.geo.levReady } }
  else if s.fs.compFrame = n ∧ s.fs.composing = true ∧ s.composed = true then
    let t := s.srcs.foldl (fun t i =>
      let x := t.src i
      t.putSrc i { x with front := x.back, pFront := x.pRows, back := [], pRows := [] }) s
    { t with fs := { t.fs with shown := n, composing := false, frontBuf := 1 - t.fs.frontBuf },
             safe := { t.safe with limits := t.safe.limNext }, geo := { t.geo with lev := t.geo.levNext } }
  else if s.repeated1 n then s.count 2 4 1
  else if s.srcs.isEmpty || s.nextDark then { s with fs := { s.fs with shown := n } }
  else
    let drop : State :=
      if s.fs.compFrame = n then
        let t := s.srcs.foldl (fun t i => let x := t.src i; t.putSrc i { x with back := [], pRows := [] }) s
        { t with fs := { t.fs with composing := false } }
      else s
    let t := ((((drop.inc (K 0x4300 0x16)).event 5 0x0C n).count 2 3 1).count 2 4 1)
    (List.range 32).foldl (fun t r =>
      if t.get (K (0x3440 + r) 1) = 2 ∧ mapGet t.fs.lastUse r = some t.fs.shown then t.set (K (0x3440 + r) 7) ((n + 1) % 2 ^ 32) else t) t

/-- The swap, after which a frame that is neither new nor a repetition of the half rate is late (R170, R285). -/
def State.swap (s : State) (n : Nat) : State :=
  let t := s.swapBuffers n
  { t with skb := { t.skb with late := !s.lineMode && t.fs.shown != n && !s.repeated1 n } }

/-- Frames older than the one shown have retired: their regions are released (R134, R172). -/
def State.retire (s : State) : State :=
  let t := s.fs.lastUse.foldl (fun t p =>
    if p.2 ≠ s.fs.shown ∧ seqNewer p.2 s.fs.shown = false then
      let u : State := { t with fs := { t.fs with lastUse := mapDel t.fs.lastUse p.1 } }
      if u.get (K (0x3440 + p.1) 1) = 2 then (u.regionFree p.1).clearLost else u
    else t) s
  t

/-! ### The frame that begins -/

/-- Point by point linear interpolation of an emitter's factor at a temperature in 1/65,536 °C, held beyond the ends (R246). -/
def emitterFactor (b : List Byte) (o : Nat) (temp : Int) : Word32 :=
  let t (k : Nat) : Int := sgn 16 (beAt b (o + 4 * k) 2) * 4096
  let f (k : Nat) : Int := beAt b (o + 4 * k + 2) 2
  let num (k : Nat) : Word32 := F32.ofScaled (f k) (-15)
  if temp ≤ t 0 then num 0
  else if t 7 ≤ temp then num 7
  else
    let k := ((List.range 7).find? fun k => decide (t k ≤ temp ∧ temp < t (k + 1))).getD 0
    F32.add (num k) (F32.mul (F32.sub (num (k + 1)) (num k)) (F32.ofRat (temp - t k) (t (k + 1) - t k).toNat))

/-- The measured flux ratio of an emitter: of a mirror array, the photodiode's reading over the longest planes of its fields, by their level
and by the photodiode reference; 1 for an emitter without a photodiode and for a LAS port under an optical power loop; none while nothing was
measured (R246). [DESIGN CHOICE, log entry 176] -/
def State.fluxRatio (s : State) (i e : Nat) (reading : Option Nat) : Option Word32 :=
  let k := 0x4530 + i
  let chan := s.act (K k (0x0B + e))
  let one : Word32 := 0x3F800000
  if s.srcType i ≠ 2 ∨ s.get (K k (0x11 + e)) = 0xFF ∨ (field chan 31 24 = 2 ∧ (s.powerSlot (field chan 23 16)).isSome = true) then some one
  else
    let level := ((s.ptu i).lit.filter fun p => p.1 % 3 == e).foldl (fun a p => F32.add a p.2) 0
    match reading with
    | some v => if F32.lt 0 level then some (F32.div (F32.div (F32.ofNat v) level) (f32At (s.colour i) (0xD8 + 36 * e + 32))) else none
    | none => none

/-- White-point gain of an emitter for the new frame: `reading` is what its photodiode gave over the frame before, `bad` a reading at its
limit or a front-end fault, which holds the gain (R246). A gain of 2.0 is held as the largest that U1.15 has. [DEDUCED, log entry 225] -/
def State.whiteStep (s : State) (i e : Nat) (reading : Option Nat) (bad : Bool) : State :=
  let k := 0x4530 + i
  if field (s.act (K k (0x0B + e))) 31 24 = 0 then s
  else if bad && s.get (K k (0x11 + e)) != 0xFF then s.event 7 8 (s.get (K k (0x11 + e)))
  else match s.fluxRatio i e reading with
  | none => s
  | some ph =>
    let d := s.get (K k (0x14 + e))
    let r := if d = 0xFF then 0x3F800000 else emitterFactor (s.colour i) (0xD8 + 36 * e) (nth 0 s.pwr.temps (16 + d))
    let w := F32.clamp 0x3F000000 0x40000000 (F32.div r ph)
    let want : Int := F32.roundMul w 15
    let old : Int := s.get (K k (0x18 + e))
    let lim : Int := s.get (K k 0x17)
    s.set (K k (0x18 + e)) (min 0xFFFF (clampI (old - lim) (old + lim) want).toNat)

/-- White-point gains of every coloured source; the levels of a new frame are measured anew. [DESIGN CHOICE, log entry 176] -/
def State.whitePoint (s : State) (reads : List (Option Nat)) (bad : Nat) : State :=
  (s.srcs.filter fun i => s.srcType i == 2 || s.srcType i == 3).foldl (fun t i =>
    let u := (List.range 3).foldl (fun t e => t.whiteStep i e (nth none reads (3 * i + e)) (bit bad (3 * i + e))) t
    u.putPtu i { u.ptu i with lit := [] }) s

/-- The halves of the matrix frame memory swap, or the front half is shown again: the frame that ends was not complete, or was late (R285). -/
def State.matrixSwap (s : State) (late : Bool) : State :=
  match s.matrixSrc with
  | none => s
  | some i =>
    let h := s.actH i
    let full := !late && h != 0 && (List.range h).all fun r => (mapGet s.skb.back r).isSome
    let front := if full then (List.range h).map fun r => (mapGet s.skb.back r).getD [] else s.skb.front
    let t : State := { s with skb := { s.skb with front := front, back := [] } }
    let t1 := if full then t else t.inc (K 0x5300 9)
    let t2 := t1.set (K 0x5300 8) (matSlotNs s.fs.ra s.fs.rowU (s.act (K 0x5300 3)) (s.act (K 0x5300 2)))
    t2.set (K 0x5300 0x0A) (b2n (t2.emits i) + 2 * b2n (!full) + 4 * b2n (t2.roadblocked i))

/-- The phase of the raster against the PTP grid, and its lock state (R177, R179). -/
def State.ptpLock (s : State) : State :=
  if s.act (K 0x4300 7) = 2 then
    let err := s.ptpErr s.fs.fmTime
    let n := if err.natAbs ≤ 2000 then s.fs.lock.inPhase + 1 else 0
    let t : State := { s with fs := { s.fs with lock := { s.fs.lock with inPhase := n, err := err } } }
    let t1 := t.set (K 0x4300 0x0F) (unsgn 32 err)
    if 3 ≤ n then t1.setLock 2 else if s.get (K 0x4300 0x0E) = 2 then t1 else t1.setLock 1
  else s

/-- The frame milestone is the first of a SYNC_IN period (R177): nearest to the edge plus the offset. -/
def State.firstOfPeriod (s : State) : Bool :=
  match s.fs.lock.lastEdge with
  | some a =>
    let m := s.fs.lock.measured
    let d := centred ((s.fs.fmAt : Int) - a - s.get (K 0x4300 0x0A)) m
    decide (m ≠ 0 ∧ 2 * d.natAbs ≤ nsOfU (s.periodU s.fs.rowU))
  | none => false

/-- SYNC_OUT at a frame milestone (R181). -/
def State.syncOut (s : State) : State :=
  let m := s.act (K 0x4300 0x1A)
  if m = 1 ∨ (m = 3 ∧ s.firstOfPeriod = true) then s.syncPulse else s

/-- The exposure window holds a whole number of frame periods within 0.2 % (R180). -/
def exposureOk (len per : Nat) : Bool :=
  let k := roundDiv len (max 1 per)
  decide (len ≠ 0 ∧ k ≠ 0 ∧ 1000 * ((len : Int) - k * per).natAbs ≤ 2 * k * per)

/-- Raster and scan-out entries of the present frame (R164, R165, R180). -/
def State.showRaster (s : State) : State :=
  let per := nsOfU (s.periodU s.fs.rowU)
  let tF := s.fs.fmTime + nsOfU (s.fs.vb * s.fs.rowU)
  let t := (s.set (K 0x4300 0x12) (roundDiv (s.fs.rowU * 2500) 65536)).set (K 0x4300 0x13) per
  let t1 := t.set (K 0x4300 0x19) (b2n (exposureOk (s.get (K 0x4300 0x18)) per) + 2 * b2n (s.get (K 0x4300 0x0E) == 2))
  s.srcs.foldl (fun t i => ((t.set (K (0x4320 + i) 1) (s.rowPeriodPs i)).set (K (0x4320 + i) 2) tF).refreshPlanes i) t1

/-- Cycles of a counter group's domain in 10 ns (R505, R526). -/
def pcgRate (g : Nat) : Nat := nth 1 [8, 8, 4, 4, 4, 2, 2, 4, 4, 8, 2, 1] g

/-- Events that no command of this model shows: frame-store accesses and waits, what the application cores execute, and voter compares
(R527). [DESIGN CHOICE, log entry 202] -/
def pcgUnseen (g : Nat) : List Nat := match g with | 8 => [1, 2] | 9 => [1, 2, 3] | 10 => [1] | _ => []

/-- A counter of such an event has gone on by an open number. [DESIGN CHOICE, log entry 202] -/
def State.pcgOpen (s : State) (g j : Nat) : State :=
  if (pcgUnseen g).contains (s.get (K (0x9100 + g) (0x0B + j))) then
    let (v, t) := s.fresh
    t.pcgBump g j (v % 2 ^ 48)
  else s

/-- A running group's cycle counter brought up to date (R526). -/
def State.pcgSync (s : State) (g : Nat) : State :=
  let on := match domainOf (K (0x9100 + g) 2) with | some d => s.domState d == 0 | none => true
  if s.get (K (0x9100 + g) 0x14) = 2 ∧ on = true then
    let n := s.get (K (0x9100 + g) 2) + (s.now * pcgRate g / 10 - nth 0 s.ins.pcgSince g * pcgRate g / 10)
    let t : State := { s with ins := { s.ins with pcgSince := putNth 0 s.ins.pcgSince g s.now } }
    let u := t.set (K (0x9100 + g) 2) (n % 2 ^ 64)
    let v := if n < 2 ^ 64 then u else u.setFlag (K (0x9100 + g) 0x13) 0 true
    (List.range 8).foldl (fun v j => v.pcgOpen g j) v
  else s

/-- The frame event and the counters that probes may take at a frame milestone (R530). -/
def State.frameProbes (s : State) : State :=
  let n := s.frameNo
  let t := s.probe 3 (fun sel => sel % 256 == 1) (n % 2 ^ 24) n
  (List.range 12).foldl (fun t g =>
    let t0 := t.pcgSync g
    (List.range 9).foldl (fun u j =>
      let v := u.get (K (0x9100 + g) (2 + j))
      u.probe 6 (fun sel => field sel 15 8 == g && field sel 3 0 == j) (field v 47 32) (v % 2 ^ 32)) t0) t

/-- The PTU's budget scales for frame n (R154, R242). -/
def State.ptuScales (s : State) (n : Nat) : State :=
  s.srcs.foldl (fun t i =>
    let b := (t.src i).budget
    t.putPtu i { t.ptu i with scale := toU16 (if s.comp.budgetFor = some n then b.scale else b.before) }) s

/-- FRAME# of the frame that begins: the next one, or the partner's for a device that joins (R454, R565). -/
def State.nextFrameNo (s : State) : Nat :=
  match s.tw.joinFrame, s.tw.partner with
  | true, some p => (p.frame + 1) % 2 ^ 32
  | _, _ => (s.frameNo + 1) % 2 ^ 32

/-- First light falls at this frame milestone (R434, R565): step 8 is due, the frame is one that has been composed, or whose rows line-following
mode composes, and its MILESTONEs carried no BLANK. [DEDUCED, log entry 212] -/
def State.lightFirst (s : State) (n : Nat) : State :=
  if s.fs.lightDue && s.mode == .boot && s.sys.bootStep == 7 && (s.lineMode || s.fs.shown == n)
      && (s.fs.lightFrame == some n || !s.outputsOn || s.tl.ports.all fun p => !p.ready) then
    { s with sys := { s.sys with bootStep := 8 }, fs := { s.fs with firstLight := true, lightDue := false, lightFrame := none } }
  else s

/-- The frame milestone: the frame that ends is accounted for, FRAME# counts up, what waits for the milestone takes effect, and plane 0 of a mirror
array leaves (R238). `phi` and `pdBad` are the photodiode readings of the frame, `watch` what else the device measures about it. -/
def State.frameMilestone (s : State) (phi : List (Option Nat)) (pdBad : Nat) (watch : Watch) : State :=
  if !s.fs.running then s else
  let a := (((s.doseFrame.showDissipation.twinFrame).signatureRuns).blcSelfCheck watch.blcBad).illumination watch.amps
  let a1 := a.handoverMilestone
  let n := a1.nextFrameNo
  let a2 : State := { a1 with fs := { a1.fs with dark := false }, tw := { a1.tw with joinFrame := false } }
  let a3 : State := if a1.tw.joinFrame && a2.entering && a2.fs.entryFrame.isSome then { a2 with fs := { a2.fs with entryFrame := some n } } else a2
  let b := a3.forFrame n fun t => t.swap n
  let b1 := (b.set (K 0x4300 0x11) n).retire
  let c : State := { b1 with fs := { b1.fs with
    fmAt := s.now, prevFm := some s.fs.fmAt, fmTime := s.timeNs, rowU := a3.rowUAt 1, nextRowU := a3.rowUAt 2, rowU2 := none,
    g := s.get (K 0x4300 5), lead := s.get (K 0x4300 6) } }
  let c1 := c.turnPorts.applyRequest
  let reached := match c.fs.entryFrame with | some f => !c.entering || !seqNewer f n | none => true
  let c2 := (if reached then { c1 with fs := { c1.fs with entryFrame := none, entryU := none } } else c1).lightFirst n
  let flyback := ((List.range 4).flatMap fun i => keys (0x4520 + i) 5 9).map fun k => (k, c2.get k)
  let d := (c2.putAct flyback).landPtu
  let d1 := if d.lineMode then d.budgetFrame n (nsOfU (d.periodU d.fs.rowU)) else d
  let d2 := ((d1.ptuScales n).landMasks).blcFrame
  let d3 : State := if d2.lineMode then { d2 with safe := { d2.safe with limits := d2.safe.limNext } } else d2
  let e := match d3.fs.halveNext with
    | some v => { d3 with fs := { d3.fs with halveNext := none } }.set (K 0x4300 0x15) (b2n v)
    | none => d3
  let e1 := (((e.whitePoint phi pdBad).matrixSwap s.skb.late).engMilestone).latchChains
  let e2 := (List.range 4).foldl (fun t i => t.endPath1 i) e1
  let f := ((e2.ptpLock.syncOut).showRaster.setTse).setLas
  let p := (f.srcs.filter fun i => f.srcType i == 2).foldl (fun t i => t.sendPlane i 0 0) f
  p.showReady.frameProbes

/-- The commit milestone of the frame being composed, with the offer of a planned handover (R174, R460). -/
def execCommitMilestone (dt : Nat) (s : State) : Res := done ((s.tick dt).commitMilestone.sendOffer)

/-- A frame milestone (R164, R565). -/
def execFrameMilestone (dt : Nat) (phi : List (Option Nat)) (pdBad : Nat) (watch : Watch) (s : State) : Res :=
  done ((s.tick dt).frameMilestone phi pdBad watch)

end Sys2Proof.Machine
end

