-- ==== Sys2Proof/Machine/Power.lean ====
section
/-! DEFINITION. Power domains, their requests and entries, retention signatures, wake, and reset (R29, R495–R504, R506, R544). -/

namespace Sys2Proof.Machine

/-- States that a domain has beside on: bit 0 retention, bit 1 off (R495). -/
def domStates (d : Nat) : Nat :=
  if d ≤ 1 then 0 else if d = 2 then 1
  else if d ≤ 0x16 ∨ d = 0x20 ∨ d = 0x24 then 3 else 2

/-- A domain has a state. -/
def domHas (d st : Nat) : Bool := st == 0 || (st == 1 && bit (domStates d) 0) || (st == 2 && bit (domStates d) 1)

/-- APC0 with APC1, and APC2 with APC3, share one state (R497). [DEDUCED, log entry 146] -/
def pairOf (d : Nat) : List Nat := if d = 3 ∨ d = 4 then [3, 4] else if d = 5 ∨ d = 6 then [5, 6] else [d]

/-- A frame-store bank holds a region, or a part of the fixed area. [DEDUCED, log entry 31] -/
def State.bankHeld (s : State) (b : Nat) : Bool :=
  decide (b * 8 < s.fs.fixedEnd) || (List.range 32).any fun n =>
    let r := 0x3440 + n
    let lo := s.get (K r 3)
    let hi := lo + s.get (K r 4) * 65536
    (s.get (K r 1) == 1 || s.get (K r 1) == 2) && decide (lo < (b + 1) * 524288 ∧ b * 524288 < hi)

/-- R29 keeps a domain on. [DEDUCED, log entry 31] -/
def State.keptOn (s : State) (d : Nat) : Bool :=
  let live := s.srcMask != 0 && (s.mode == .operate || s.mode == .standby || s.mode == .hold)
  live &&
    if d ≤ 2 ∨ d = 0x17 then true
    else if 7 ≤ d ∧ d ≤ 0x16 then (List.range 4).any fun b => s.bankHeld (4 * (d - 7) + b)
    else if 0x18 ≤ d ∧ d ≤ 0x1F then !(s.epsOfGroup ((d - 0x18) / 2)).isEmpty
    else if d = 0x21 then s.act (K 0x4300 7) == 2
    else if d = 0x22 then
      (List.range 8).any s.slotRuns || (s.srcs.any fun i => s.srcType i == 2 || s.srcType i == 3)
        || s.matrixSrc.isSome || (List.range 128).any fun c => s.chanFn c != 0
    else if d = 0x23 then
      (List.range 128).any (fun c => s.chanFn c != 0 || s.owner (c + 1) / 256 == 1) || (List.range 2).any (fun n => s.get (K (0x5200 + n) 1) == 1)
        || s.matrixSrc.isSome
    else false

/-- A port of the lane group is in steps 1 to 6 of a rate switch (R340). -/
def State.groupSwitches (s : State) (g : Nat) : Bool :=
  (s.epsOfGroup g).any fun e => match (s.train e).switch with | some w => decide (1 ≤ w.step ∧ w.step < 6) | none => false

/-- The staged request of a domain. [DEDUCED, log entry 146] -/
def State.wanted (s : State) (d : Nat) : Nat := s.get (K 0x2301 (d + 1))

/-- A domain may not leave the on state: R29, forwarding, valid Kerb maps, a trace bank, or a rate switch holds it (R340, R364, R497). [DEDUCED,
log entry 147] [DEDUCED, log entry 147] -/
def State.heldOn (s : State) (d : Nat) : Bool :=
  s.keptOn d
    || (d == 0x20 && s.act (K 0x7110 7) == 1)
    || (d == 0x16 && s.kerbValid)
    || (decide (7 ≤ d ∧ d ≤ 0x16) && (List.range 4).any fun b => s.owner (0x9B + 4 * (d - 7) + b) / 256 == 8)
    || (decide (0x18 ≤ d ∧ d ≤ 0x1F) && s.groupSwitches ((d - 0x18) / 2))

/-- The checks of R497 on the whole staged set: only a domain that is on, or wakes, can leave the on state. [DEDUCED, log entry 147] -/
def State.powerOk (s : State) : Bool :=
  (List.range 38).all fun d =>
    let w := s.wanted d
    domHas d w &&
      (w == 0 ||
        (!((s.domState d == 0 || s.domState d == 3) && s.heldOn d)
          && !(d == 2 && (List.range 4).any fun a => s.wanted (3 + a) == 0)
          && !(s.pwr.named.1 == s.now && s.pwr.named.2.contains d)
          && !s.pwr.stalled.any fun x => x.dom == d))

/-- A domain starts to enter a state. -/
def State.startEntry (s : State) (d w : Nat) : State :=
  let st := s.domState d
  if w = 0 then s.startWake d
  else if st = w ∨ (st = 4 ∧ mapGet s.pwr.entering d = some w) then s
  else
    let t := s.setDomain d 4
    let entering := mapPut t.pwr.entering d w
    { t with pwr := { t.pwr with entering := entering, wakeAt := mapDel t.pwr.wakeAt d, rewake := t.pwr.rewake.filter (· != d) } }

/-- Effect of a power request commit (R497). -/
def effPowerRequest : Effect := fun s _ =>
  if s.powerOk then
    let t := (List.range 38).foldl (fun t d => t.startEntry d (s.wanted d)) s
    (t.set (K 0x2300 2) 0, ok)
  else (s.set (K 0x2300 2) 0x0402, (0x0402, 0))

/-- Effect of a write to a requested state: a request for one member of an APC pair applies to both (R497). -/
def effRequested (d : Nat) : Effect := fun s v =>
  ((pairOf d).foldl (fun t e => t.set (K 0x2301 (e + 1)) v) s, ok)

/-- A power request commit. -/
def execPowerRequestCommit (dt : Nat) (rq : Rq) (s : State) : Res :=
  done ((s.tick dt).command rq (K 0x2300 1) 1 effPowerRequest)

/-! ### Entry into retention and off (R496, R501) -/

/-- Status entries that outlive their domain: they show a committed configuration, the frame store, Safe Torque Off, or the strap and role of a twin
lamp. [DEDUCED, log entry 150] -/
def outlives (k : Nat) : Bool :=
  (decide (0x4330 ≤ k / 256 ∧ k / 256 ≤ 0x4333) && decide (5 ≤ k % 256)) || k / 256 == 0x4310 || k / 256 == 0x6000 || k == K 0x8600 2 || k == K 0x8600 3
    || decide (0x7100 ≤ k / 256 ∧ k / 256 ≤ 0x7101)

/-- The status entries of a domain go back to their defaults. [DEDUCED, log entry 150] -/
def State.loseStatus (s : State) (inDom : Nat → Bool) : State :=
  { s with dict := s.dict.filter fun p =>
      !(inDom p.1 && !outlives p.1 && match findEnt p.1 with | some e => decide (e.acc = .ro) | none => false) }

/-- CRC-32C of a bank (R58, R501). -/
def State.bankCrc (s : State) (b : Nat) : Nat := crc32c (memSlice s.fs.mem (b * 524288) 524288)

/-- A bank is filled with zeros; the items of the fixed area that lie in it are initialised as at a relayout (R162, R501). -/
def State.clearBank (s : State) (b : Nat) : State :=
  let lo := b * 524288
  let sizes := s.fixedNow
  let hit (n : Nat) : Bool := nth 0 sizes n != 0 && decide (fixedBase sizes n < lo + 524288 ∧ lo < fixedBase sizes n + nth 0 sizes n)
  let c := s.doseCopy
  let t := (List.range 4).foldl (fun t i =>
    let x := t.src i
    let x1 : Src := if hit 0 then { x with pRows := [], pReady := [], pFront := [], back := [], ready := [], front := [] } else x
    let x2 : Src := if hit 1 then { x1 with gmap := [], gmapReady := false } else x1
    let x3 : Src := if hit 2 then { x2 with dose := match c with | some d => nth [] d.dose i | none => [] } else x2
    let x4 : Src := if hit 3 then { x3 with again := match c with | some d => nth [] d.again i | none => [] } else x3
    let u := t.putSrc i x4
    if hit 1 then u.set (K (0x4200 + i) 5) (if u.get (K (0x4200 + i) 1) = 1 then 1 else 0) else u) s
  let net := if hit 5 then { t.net with streams := [Stream.init, Stream.init] } else t.net
  let geo := if hit 6 then { t.geo with slots := [none, none, none, none], newest := none } else t.geo
  let fs := { t.fs with mem := memZero t.fs.mem lo 524288, bad := t.fs.bad.filter fun w => w / 65536 != b }
  let u : State := { t with net := net, geo := geo, fs := fs }
  if hit 1 then
    let v : State := { u with tl := { u.tl with ports := u.tl.ports.map fun p => { p with gainDone := false } } }
    (List.range 8).foldl (fun v e => if v.epOn e && (v.port e).ready && v.get (K (0x4200 + v.ep e 2) 1) == 1 then v.portReady e else v) v
  else u

/-- The lanes of a group lose their state, each trained forward lane after 16 EIDLE blocks (R344). -/
def State.groupDown (s : State) (g : Nat) (tx : Bool) : State :=
  let lanes := (List.range 4).map (4 * g + ·)
  let t := lanes.foldl (fun t l =>
    let on := (t.lane l).fwd
    let u := if tx && on then (List.range 16).foldl (fun u _ => u.emit (.block l 5 (List.replicate 7 0))) t else t
    u.putLane l { Lane.init with fwd := on && !tx }) s
  let t1 := (t.epsOfGroup g).foldl (fun t e => (t.dropPort e).putTrain e Train.init) t
  let t2 := t1.loseStatus fun k => decide (0x7010 + 4 * g ≤ k / 256 ∧ k / 256 ≤ 0x7013 + 4 * g) || k / 256 == 0x7020 + g
  lanes.foldl (fun t l => t.set (K (laneIdx l) 1) 7) t2

/-- The counter groups of a domain (R527). -/
def groupsOf (d : Nat) : List Nat := (List.range 12).filter fun g => domainOf (K (0x9100 + g) 2) == some d

/-- The counter groups of a domain stop counting: they keep their values in retention, and lose them and their claims in off (R527). -/
def State.groupsDown (s : State) (d w : Nat) : State :=
  (groupsOf d).foldl (fun t g =>
    if w = 1 then t.pcgSync g
    else
      let u := t.unclaim [0xE3 + g]
      { u with dict := u.dict.filter fun p => p.1 / 256 != 0x9100 + g }) s

/-- Counting goes on from now. -/
def State.groupsUp (s : State) (d : Nat) : State :=
  (groupsOf d).foldl (fun t g => { t with ins := { t.ins with pcgSince := putNth 0 t.ins.pcgSince g t.now } }) s

/-- Trace loses its records and its banks with the PIX domain, which holds its writer (R528). [DEDUCED, log entry 151] -/
def State.traceDown (s : State) : State :=
  let t := s.unclaimOwner 0x0800
  { t with dict := t.dict.filter fun p => !(p.1 / 256 == 0x9200 || decide (0x9210 ≤ p.1 / 256 ∧ p.1 / 256 ≤ 0x921F)),
           ins := { t.ins with probes := Ins.init.probes, turn := 15, ring := [], ringAt := 0, post := 0 } }

/-- What a domain loses as it goes off; its committed configuration stays in the shadow (R496). [DEDUCED, log entries 89, 151] -/
def State.loseDomain (s : State) (d : Nat) : State :=
  let lost (t : State) : State := t.loseStatus fun k => domainOf k == some d
  if 7 ≤ d ∧ d ≤ 0x16 then
    let t : State := { s with pwr := { s.pwr with sigs := s.pwr.sigs.filter fun p => p.1 / 4 != d - 7 } }
    (List.range 4).foldl (fun t b => t.clearBank (4 * (d - 7) + b)) t
  else if d = 0x17 then
    let t := (List.range 8).foldl (fun t e => t.dropPort e) s
    (lost { t with fs := { t.fs with running := false, composing := false }, prj := Prj.init }).traceDown
  else if 0x18 ≤ d ∧ d ≤ 0x1F then s.groupDown ((d - 0x18) / 2) (d % 2 == 0)
  else if d = 0x20 then
    lost { s with net := { s.net with streams := [Stream.init, Stream.init], ethTx := [[], []] } }
  else if d = 0x21 then lost { s with net := { s.net with tmu := { Tmu.init with sampled := s.net.tmu.sampled }, tpo := List.replicate 4 Tpo.init }, rate := 0 }
  else if d = 0x22 then
    let recs := (List.range 8).flatMap fun n => if s.slotState n = 0 then [] else s.slotRecs n
    let t := (s.unclaim recs).loseStatus fun k => domainOf k == some d
    let slots := t.lpe.slots.map fun x => { Slot.init with gains := x.gains, table := x.table }
    let acts := t.lpe.acts.map fun x => { Act.init with causes := x.causes }
    { t with lpe := { t.lpe with slots := slots, acts := acts } }
  else if d = 0x23 then
    let t := s.stopEngines
    lost { t with skb := { Skb.init with chains := t.skb.chains } }
  else if d = 0x24 then
    let t := lost s
    { t with net := { t.net with canTx := [[], [], [], []], recovering := [false, false, false, false] },
             skb := { t.skb with chains := Skb.init.chains }, pins := { t.pins with hspiHeld := [], hspiBusy := false } }
  else if d = 0x25 then
    let t := lost (((s.putLane 16 Lane.init).putLane 17 Lane.init).putTrain 8 Train.init)
    (t.set (K (laneIdx 16) 1) 7).set (K (laneIdx 17) 1) 7
  else s

/-- An APC pair runs while both of its domains are on. -/
def State.showPairs (s : State) (d : Nat) : State :=
  let pair (a : Nat) : Bool := s.domState a == 0
  if d = 3 ∨ d = 4 then { s with sys := { s.sys with apc := putNth false s.sys.apc 0 (pair 3 && pair 4) } }
  else if d = 5 ∨ d = 6 then { s with sys := { s.sys with apc := putNth false s.sys.apc 1 (pair 5 && pair 6) } }
  else s

/-- The accesses in flight to a domain have completed: it enters the state asked for, and wakes again if it was called meanwhile
(R497, R499). [DEDUCED, log entry 148] -/
def State.domainReached (s : State) (d : Nat) : State :=
  match s.domState d, mapGet s.pwr.entering d with
  | 4, some w =>
    let t := { s with pwr := { s.pwr with entering := mapDel s.pwr.entering d } }.groupsDown d w
    let t1 :=
      if w = 1 then
        if 7 ≤ d ∧ d ≤ 0x16 then
          let sigs := (List.range 4).foldl (fun m b => mapPut m (4 * (d - 7) + b) (t.bankCrc (4 * (d - 7) + b))) t.pwr.sigs
          { t with pwr := { t.pwr with sigs := sigs } }
        else t
      else
        let u := t.loseDomain d
        { u with pwr := { u.pwr with offAt := mapPut u.pwr.offAt d u.now } }
    let t2 := (t1.setDomain d w).showPairs d
    if t2.pwr.rewake.contains d then
      { t2 with pwr := { t2.pwr with rewake := t2.pwr.rewake.filter (· != d) } }.startWake d
    else t2
  | _, _ => s

/-- A domain enters its requested state. -/
def execDomainStateReached (dt : Nat) (d : Fin 38) (s : State) : Res := done ((s.tick dt).domainReached d)

/-! ### Wake (R496, R498–R501) -/

/-- A bank whose signature differs is LOST: zeros, a record, its regions in state LOST (R501). [DEDUCED, log entry 149] -/
def State.loseBank (s : State) (b : Nat) : State :=
  let k := K 0x2302 (8 + b / 4)
  let t := (s.clearBank b).set k (setBit (s.get k) (24 + b % 4) true)
  let u := t.event 0x0D 3 b
  (List.range 32).foldl (fun u n =>
    let r := 0x3440 + n
    let lo := u.get (K r 3)
    if (u.get (K r 1) = 1 ∨ u.get (K r 1) = 2) ∧ lo < (b + 1) * 524288 ∧ b * 524288 < lo + u.get (K r 4) * 65536
    then
      let own := u.get (K r 2)
      let v := u.set (K r 1) 3
      if own < 7 then v.set (K (0x3400 + own) 0x13) (v.charged own) else v
    else u) u

/-- The signatures of the banks of an FSD domain are checked; `upset` is the mask of its banks whose content changed in
retention (R501). [DESIGN CHOICE, log entry 152] -/
def State.checkBanks (s : State) (d upset : Nat) : State :=
  let t := (List.range 4).foldl (fun t j =>
    let b := 4 * (d - 7) + j
    if bit upset j || mapGet s.pwr.sigs b != some (s.bankCrc b) then t.loseBank b else t) s
  { t with pwr := { t.pwr with sigs := t.pwr.sigs.filter fun p => p.1 / 4 != d - 7 } }

/-- The frame raster runs from frame 0 (R165, R565). -/
def State.startRaster (s : State) : State :=
  let rows := s.act (K 0x4300 3) + s.act (K 0x4300 4)
  let u := rowUOf s.rate4 rows
  { s with fs := { s.fs with running := true, fmAt := s.now, prevFm := none, fmTime := s.timeNs, rowU := u, nextRowU := u, rowU2 := none,
                             ra := s.act (K 0x4300 3), vb := s.act (K 0x4300 4), g := s.get (K 0x4300 5), lead := s.get (K 0x4300 6) } }

/-- The time base resumes from the coarse counter: at most 1 % of the time since `since` off (R375, R496). -/
def State.resumeTime (s : State) (since : Nat) : State :=
  let (v, t) := s.fresh
  let span := (s.now - since) * 4294967296 / 100
  { t with time := t.time + v % (2 * span + 1) - span, rate := 0 }

/-- Before training after a sleep, the WAKE pattern goes to the far end of each lane: one block stands for the pattern (R332, R352).
[DEDUCED, log entry 224] -/
def State.wakeFar (s : State) (lanes : List Nat) : State :=
  lanes.foldl (fun t l => t.emit (.block l 6 (List.replicate 7 0xF0))) s

/-- What a domain that woke from off does once it is ready (R335, R344, R496). [DEDUCED, log entry 149] -/
def State.comesBack (s : State) (d : Nat) : State :=
  if d = 0x17 then s.startRaster.setTse
  else if 0x18 ≤ d ∧ d ≤ 0x1F then
    let g := (d - 0x18) / 2
    if s.domState (0x18 + 2 * g) = 0 ∧ s.domState (0x19 + 2 * g) = 0 then
      let awake := (List.range 4).foldl (fun t l => t.set (K (laneIdx (4 * g + l)) 1) 0) s
      (s.epsOfGroup g).foldl (fun t e =>
        if bit t.tl.tse g && (mapGet t.tl.settling g).isNone then (t.wakeFar (t.portLanes e)).startTrain e 0 else t) awake
    else s
  else if d = 0x21 then s.resumeTime ((mapGet s.pwr.offAt d).getD s.now)
  else if d = 0x25 then
    let t := (s.set (K (laneIdx 16) 1) 0).set (K (laneIdx 17) 1) 0
    if s.twinLink then (t.wakeFar [16, 17]).startTrain 8 0 else t
  else s

/-- A waking domain is ready: its wake time, its signatures or its configuration, and its pair (R496, R501, R518). -/
def State.domainWoken (s : State) (d upset : Nat) : State :=
  if s.domState d ≠ 3 then s else
  let us := satN 65535 ((s.now - (mapGet s.pwr.wakeAt d).getD s.now) / 1000)
  let v := s.get (K 0x2302 (d + 1))
  let t := s.set (K 0x2302 (d + 1)) (field v 31 24 * 2 ^ 24 + us)
  let off := mapGet s.pwr.wokeFrom d == some 2
  let t1 := if off then t.comesBack d else if 7 ≤ d ∧ d ≤ 0x16 then t.checkBanks d upset else t
  let pwr := { t1.pwr with wakeAt := mapDel t1.pwr.wakeAt d, wokeFrom := mapDel t1.pwr.wokeFrom d, offAt := mapDel t1.pwr.offAt d }
  ({ t1 with pwr := pwr }.groupsUp d).showPairs d

/-- The domains that a wake source names, when it is enabled: row of R500 from 0, number of the port, controller or group, and
whether it is the WAKE pattern. -/
def State.wakeSet (s : State) (w n : Nat) (pat : Bool) : List Nat :=
  match w with
  | 0 => if n < 2 ∧ bit (s.get (K 0x2300 3)) n = true then [0x20] else []
  | 1 => if s.get (K (0x7140 + n) 0x0E) = 1 then [0x24] else []
  | 2 => if bit (s.get (K (0x7020 + n) 7)) (b2n pat) = true ∧ s.domState (0x19 + 2 * n) ≠ 0 then [0x19 + 2 * n, 0x18 + 2 * n] else []
  | 3 => if s.tw.enabled = 1 then [0x25] else []
  | 4 =>
    let p := s.get (K 0x2300 4)
    if bit (s.get (K 0x2300 3)) 2 then [0x24, 2] ++ (if bit p 0 then [3, 4] else []) ++ (if bit p 1 then [5, 6] else []) else []
  | _ => if bit (s.get (K 0x2300 3)) 3 then ((List.range 38).filter fun d => bit (s.get (K 0x2300 5)) d).flatMap pairOf else []

/-- A wake source acts: the domains it names that are not on wake, and the source is kept (R499, R500). -/
def State.wakeFor (s : State) (w n : Nat) (pat : Bool) : State :=
  let ds := (s.wakeSet w n pat).filter fun d => s.domState d == 1 || s.domState d == 2 || s.domState d == 4
  if ds.isEmpty then s else (ds.foldl (fun t d => t.startWake d) s).set (K 0x2300 6) (w + 1)

/-- A wake event; a request set of the same cycle for one of the domains it names is refused (R497, R500). -/
def State.wakeEvent (s : State) (w n : Nat) (pat : Bool) : State :=
  let all := s.wakeSet w n pat
  (if all.isEmpty then s else { s with pwr := { s.pwr with named := (s.now, all) } }).wakeFor w n pat

/-- A wake detector in AON acts: row of R500 from 0, number within the row, and for a lane group whether the event is the WAKE pattern. -/
def execWakeDetect (dt : Nat) (w : Fin 6) (n : Fin 4) (pat : Bool) (s : State) : Res := done ((s.tick dt).wakeEvent w n pat)

/-! ### Reset (R502–R504, R506, R544) -/

/-- `VDD_AON` has failed: nothing is kept but the store and the fuses (R375, R502). -/
def State.aonLost (s : State) : State :=
  let r := State.reset
  { r with pending := s.pending, now := s.now, freeCount := s.freeCount, nv := s.nv,
           out := s.out ++ s.aliveFalls ++ s.lasFalls,
           pins := { r.pins with rbBalls := s.pins.rbBalls, supplies := false, ballsDiffer := s.ballsAfresh },
           tw := { r.tw with strap := s.tw.strap, claimIn := s.tw.claimIn, claimInAt := s.tw.claimInAt },
           pwr := { r.pwr with pinLow := s.pwr.pinLow, lowSince := s.pwr.lowSince, inReset := s.pwr.pinLow, resetAt := s.now },
           safe := { r.safe with nextOrd := s.safe.nextOrd } }

/-- A rail lies beyond a threshold for 5 µs: a power-on reset, which loses the content of AON when the rail is its own (R502, R544). -/
def State.supplyTrip (s : State) (rail : Nat) : State :=
  if rail = 2 then s.aonLost
  else
    let u := s.resetTo true 1
    { u with pins := { u.pins with supplies := false } }

/-- A supply monitor trips: rails in the order of R543, 2 is `VDD_AON`. -/
def execSupplyMonitorTrip (dt : Nat) (rail : Fin 8) (s : State) : Res := done ((s.tick dt).supplyTrip rail)

/-- An accepted low pulse of RESET_N: a reset, unless the pin is stuck and has not been watched again (R503, R504). -/
def State.resetAssert (s : State) : State :=
  if s.pwr.pinLow then s
  else
    let low := { s.pwr with pinLow := true, lowSince := s.now }
    if s.get (K 0x2320 4) = 1 ∧ s.now < s.pwr.highSince + 1000000 then { s with pwr := low }
    else
      let u := { s with pwr := low }.resetTo false 2
      { u with pwr := { u.pwr with inReset := true } }.set (K 0x2320 4) 0

/-- RESET_N is asserted. -/
def execResetNAssert (dt : Nat) (s : State) : Res := done ((s.tick dt).resetAssert)

/-- RESET_N is released: the reset ends, and a hold of more than 2 s is kept and recorded (R503); a stuck pin begins to read
deasserted (R504). [DEDUCED, log entries 154, 155] -/
def State.resetRelease (s : State) : State :=
  if !s.pwr.pinLow then s
  else
    let t : State := { s with pwr := { s.pwr with pinLow := false, inReset := false, highSince := s.now } }
    let ms := satN 0xFFFFFFFF ((s.now - s.pwr.lowSince) / 1000000)
    if s.pwr.inReset = true ∧ s.pwr.lowSince + 2000000000 < s.now then (t.set (K 0x2320 3) ms).event 0x16 0x12 ms else t

/-- RESET_N is released. -/
def execResetNRelease (dt : Nat) (s : State) : Res := done ((s.tick dt).resetRelease)

/-- RESET_N still asserted 500 ms after the reset, which completed 1 ms after its acceptance: with tolerance on the pin is stuck
and the device leaves reset (R504). [DEDUCED, log entry 154] -/
def State.stuckReset (s : State) : State :=
  if s.pwr.inReset = true ∧ s.pwr.tolerant = true ∧ s.pwr.lowSince + 501000000 ≤ s.now then
    ({ s with pwr := { s.pwr with inReset := false } }.set (K 0x2320 4) 1).event 0x16 0x12 0x80000001
  else s

/-- The pin is declared stuck. -/
def execStuckReset (dt : Nat) (s : State) : Res := done ((s.tick dt).stuckReset)

/-- A clock check fails, numbered by its bit of 0x2330:01: a reset from AON, whose record is raised after the restart (R506).
[DEDUCED, log entry 156] -/
def State.clockFault (s : State) (check : Nat) : State :=
  let t := { s with pwr := { s.pwr with clockFault := some check } }.inc (K 0x2330 3)
  t.resetTo false 4

/-- A clock check fails. -/
def execClockMonitorFault (dt : Nat) (check : Fin 11) (s : State) : Res := done ((s.tick dt).clockFault check)

end Sys2Proof.Machine
end

