-- ==== Sys2Proof/Machine/Instruments.lean ====
section
/-! DEFINITION. Check-value units (R522–R525), counter groups (R526, R527) and trace (R528–R533). -/

namespace Sys2Proof.Machine

/-! ### Check-value units -/

/-- One bit into the unreflected shift register of width w (R522). -/
def crcShift (w poly r : Nat) (b : Bool) : Nat :=
  let d := r * 2 % 2 ^ w
  if bit r (w - 1) != b then d.xor poly else d

/-- One byte, least significant bit first under input reflection (R522). -/
def crcTake (w poly : Nat) (refIn : Bool) (r : Nat) (x : Byte) : Nat :=
  (List.range 8).foldl (fun a k => crcShift w poly a (bit x.toNat (if refIn then k else 7 - k))) r

/-- The lowest w bits in reversed order. -/
def reflect (w v : Nat) : Nat := (List.range w).foldl (fun a k => if bit v k then a + 2 ^ (w - 1 - k) else a) 0

/-- The result of a running value (R522). -/
def crcResult (w refl final r : Nat) : Nat := (if bit refl 1 then reflect w r else r).xor final

/-- Index of unit u. -/
abbrev CU (u : Nat) : Nat := 0x9000 + u

/-- Status of a unit. -/
def State.crcStatus (s : State) (u : Nat) : Nat := s.get (K (CU u) 9)

/-- Where a unit stands. -/
def State.crcAt (s : State) (u : Nat) : CrcRun := nth ⟨0, 0, 0⟩ s.ins.crc u

/-- The state with it replaced. -/
def State.putCrc (s : State) (u : Nat) (x : CrcRun) : State := { s with ins := { s.ins with crc := putNth ⟨0, 0, 0⟩ s.ins.crc u x } }

/-- Offset in application RAM at which the list of a unit is placed (DESIGN CHOICE, log entry 5). -/
def crcList (u : Nat) : Nat := 1024 * u

/-- A unit's run ends with a status; a release that waits for it takes place (R523–R525). -/
def State.crcEnd (s : State) (u st : Nat) : State :=
  let t := s.set (K (CU u) 9) st
  if t.get (K (CU u) 1) = 0 ∧ t.owner (0xDB + u) = 0x0AFF then t.unclaim [0xDB + u] else t

/-- A byte that a unit reads: of the region pool or of application RAM; what the fixed area, the trace banks and the Kerb banks hold byte
by byte, the spec does not lay out. [DESIGN CHOICE, log entry 164] -/
def State.crcByteAt (s : State) (ram : Bool) (a : Nat) : Byte × State :=
  if ram then (memGet s.ins.ram a, s)
  else if a < s.fs.fixedEnd * 65536 ∨ 62 * 524288 ≤ a ∨ s.owner (0x9B + a / 524288) / 256 = 8 then
    let (v, t) := s.fresh
    (BitVec.ofNat 8 v, t)
  else (memGet s.fs.mem a, s)

/-- A byte goes through a unit. -/
def State.crcByteIn (s : State) (u : Nat) (ram : Bool) (a : Nat) : State :=
  let k := CU u
  let (b, t) := s.crcByteAt ram a
  let r := crcTake (t.get (K k 2)) (t.get (K k 3)) (bit (t.get (K k 6)) 0) (t.get (K k 0x0A)) b
  ((t.set (K k 0x0A) r).set (K k 0x0B) (crcResult (t.get (K k 2)) (t.get (K k 6)) (t.get (K k 5)) r)).inc (K k 0x0C)

/-- Why a descriptor cannot be read, with the address in ARG: outside its space, or an uncorrectable word (R523). [DEDUCED, log entry 161] -/
def crcFault (desc addr len : Nat) : Option (Nat × Nat) :=
  let ram := bit addr 31
  let a := addr % 2 ^ 31
  let top := if ram then 0x400000 else 0x2000000
  if 0x400000 < desc + 16 then some (3, 2 ^ 31 + desc)
  else if len = 0 ∨ 0x1000000 < len then some (3, addr)
  else if top ≤ a then some (3, addr)
  else if top < a + len then some (3, addr - a + top)
  else none

/-- The FSD domains that a stretch of the frame store touches and that are not on. [DEDUCED, log entry 163] -/
def State.crcAsleep (s : State) (addr len : Nat) : List Nat :=
  if bit addr 31 then [] else
  (List.range 16).filter fun f => s.domState (7 + f) != 0 && decide (addr < (f + 1) * 2097152 ∧ f * 2097152 < addr + len)

/-- A unit takes up to n bytes, through at most `fuel` descriptors; the run ends with the last descriptor or with an error, and waits at a
bank that sleeps (R498, R523). [DEDUCED, log entry 161] -/
def State.crcAdvance : Nat → Nat → Nat → State → State
  | 0, _, _, s => s
  | fuel + 1, n, u, s =>
    let x := s.crcAt u
    let d := memSlice s.ins.ram x.desc 16
    let addr := beAt d 0 4
    let len := beAt d 4 4
    match crcFault x.desc addr len with
    | some (st, arg) => (s.crcEnd u st).event 0x1D 2 arg
    | none =>
      let asleep := s.crcAsleep addr len
      if asleep.any fun f => s.get (K 0x2303 (f + 8)) == 0 && decide (s.domState (7 + f) < 3) then
        let f := asleep.headD 0
        (((s.crcEnd u 4).event 0x16 2 ((7 + f) * 2 ^ 24 + addr % 2 ^ 24)).event 0x1D 1 addr)
      else if !asleep.isEmpty then asleep.foldl (fun t f => t.startWake (7 + f)) s
      else
        let ram := bit addr 31
        let a := addr % 2 ^ 31
        let m := min n (len - x.off)
        let badAt := if ram then none else (List.range m).find? fun j => s.badByte (a + x.off + j)
        let run := (List.range (badAt.getD m)).foldl (fun t j => t.crcByteIn u ram (a + x.off + j)) s
        match badAt with
        | some j => ((run.crcEnd u 4).badWord ((a + x.off + j) / 8)).event 0x1D 1 (a + x.off + j)
        | none =>
          if x.off + m < len then run.putCrc u { x with off := x.off + m }
          else if bit (beAt d 0x0C 4) 0 then run.crcEnd u 2
          else if 65536 ≤ x.taken then (run.crcEnd u 3).event 0x1D 2 (2 ^ 31 + beAt d 8 4)
          else (run.putCrc u ⟨beAt d 8 4, 0, x.taken + 1⟩).crcAdvance fuel (n - m) u

/-- Bytes are taken while a unit runs; how many by a given time, the spec leaves open (R523, R524). [DESIGN CHOICE, log entry 162] -/
def State.crcProgress (s : State) (u : Nat) : State :=
  if s.crcStatus u = 1 then
    let (v, t) := s.fresh
    t.crcAdvance 65536 (v % 2 ^ 32) u
  else s

/-- A unit starts its list from its running value, whose result stands until the first byte (R522). -/
def State.crcGo (s : State) (u : Nat) : State :=
  let k := CU u
  let t := s.set (K k 0x0B) (crcResult (s.get (K k 2)) (s.get (K k 6)) (s.get (K k 5)) (s.get (K k 0x0A)))
  (t.putCrc u ⟨crcList u, 0, 1⟩).set (K k 9) 1

/-- A running unit stops at the next 64-bit boundary (R524). [DESIGN CHOICE, log entry 162] -/
def State.crcAbort (s : State) (u : Nat) : State :=
  if s.crcStatus u ≠ 1 then s
  else
    let t := s.crcProgress u
    if t.crcStatus u ≠ 1 then t
    else
      let x := t.crcAt u
      let a := (beAt (memSlice t.ins.ram x.desc 4) 0 4 + x.off) % 8
      let t1 := if a = 0 then t else t.crcAdvance 1 (8 - a) u
      if t1.crcStatus u = 1 then t1.crcEnd u 5 else t1

/-- A unit is claimed for DAP. [DEDUCED, log entry 163] -/
def State.crcDap (s : State) (u : Nat) : Bool := s.get (K (CU u) 1) == 1

/-- Effect of a unit's command (R524, R525). -/
def effCrc (u : Nat) : Effect := fun s v =>
  if !s.crcDap u then (s, (0x0402, 0))
  else if v = 3 then (s.crcAbort u, ok)
  else if s.crcStatus u = 1 then (s, (0x0402, 0))
  else if v = 1 then
    let t := (s.set (K (CU u) 0x0A) (s.get (K (CU u) 4))).set (K (CU u) 0x0C) 0
    (t.crcGo u, ok)
  else (s.crcGo u, ok)

/-- Effect of a claim for DAP or of its release (R525). -/
def effCrcClaim (u : Nat) : Effect := fun s v =>
  if s.owner (0xDB + u) ≠ 0 ∧ s.owner (0xDB + u) ≠ 0x0AFF then (s, (0x0402, 0))
  else
    let t := s.set (K (CU u) 1) v
    if v = 1 then (t.claim [0xDB + u] 0x0AFF, ok)
    else if t.crcStatus u = 1 then (t, ok)
    else (t.unclaim [0xDB + u], ok)

/-- Effect of a write of a unit's parameters and running value (R524, R525). -/
def effCrcParam (u sub : Nat) : Effect := fun s v =>
  if !s.crcDap u || s.crcStatus u == 1 then (s, (0x0402, 0)) else (s.set (K (CU u) sub) v, ok)

/-- The descriptor list of a unit, placed in application RAM with its entries chained in order (R534). -/
def State.crcPlace (s : State) (u : Nat) (b : List Byte) : State × Code :=
  let n := b.length / 16
  if !s.crcDap u || s.crcStatus u == 1 then (s, (0x0402, 0))
  else if (List.range n).any (fun k => decide (2 ≤ beAt b (16 * k + 12) 4)) then (s, (0x0301, 0))
  else
    let base := crcList u
    let chain (k : Nat) : List Byte :=
      let d := slice b (16 * k) 16
      if k + 1 < n then d.take 8 ++ toBe 4 (base + 16 * (k + 1)) ++ d.drop 12 else d
    let t := s.setDom (K (CU u) 7) b
    ({ t with ins := { t.ins with ram := memPutAll t.ins.ram base ((List.range n).flatMap chain) } }, ok)

/-- Start of a unit. -/
def execCrcStart (dt : Nat) (rq : Rq) (u : Fin 8) (s : State) : Res := done ((s.tick dt).command rq (K (CU u) 8) 1 (effCrc u))

/-- Continue from the present running value. -/
def execCrcContinue (dt : Nat) (rq : Rq) (u : Fin 8) (s : State) : Res := done ((s.tick dt).command rq (K (CU u) 8) 2 (effCrc u))

/-- Abort of a run. -/
def execCrcAbort (dt : Nat) (rq : Rq) (u : Fin 8) (s : State) : Res := done ((s.tick dt).command rq (K (CU u) 8) 3 (effCrc u))

/-- A unit has taken the rest of its list. [DEDUCED, log entry 163] -/
def State.crcFinish (s : State) (u : Nat) : State := if s.crcStatus u = 1 then s.crcAdvance 65536 (2 ^ 64) u else s

/-- A run ends. -/
def execCrcRunEnd (dt : Nat) (u : Fin 8) (s : State) : Res := done ((s.tick dt).inDomains [2] fun t => t.crcFinish u)

/-- A DAP client claims a unit. -/
def execDapClaim (dt : Nat) (rq : Rq) (u : Fin 8) (s : State) : Res := done ((s.tick dt).command rq (K (CU u) 1) 1 (effCrcClaim u))

/-- A DAP client releases a unit. -/
def execDapClaimRelease (dt : Nat) (rq : Rq) (u : Fin 8) (s : State) : Res :=
  done ((s.tick dt).command rq (K (CU u) 1) 0 (effCrcClaim u))

/-! ### Counter groups -/

/-- Index of group g. -/
abbrev PG (g : Nat) : Nat := 0x9100 + g

/-- State of a group: 0 free, 1 stopped, 2 running. -/
def State.pcgState (s : State) (g : Nat) : Nat := s.get (K (PG g) 0x14)

/-- A group's counters and flags go to 0 (R526). -/
def State.pcgClear (s : State) (g : Nat) : State :=
  let t := (keys (PG g) 2 0x0A).foldl (fun t k => t.set k 0) (s.set (K (PG g) 0x13) 0)
  { t with ins := { t.ins with pcgSince := putNth 0 t.ins.pcgSince g t.now } }

/-- Effect of a group's command (R526, R527). [DEDUCED, log entry 165] -/
def effPcg (g : Nat) : Effect := fun s v =>
  match v with
  | 1 =>
    if s.owner (0xE3 + g) ≠ 0 ∧ s.owner (0xE3 + g) ≠ 0x0AFF then (s, (0x0402, 0))
    else if s.pcgState g = 2 then (s, ok)
    else
      let t := (s.claim [0xE3 + g] 0x0AFF).set (K (PG g) 0x14) 2
      ({ t with ins := { t.ins with pcgSince := putNth 0 t.ins.pcgSince g t.now } }, ok)
  | 2 => (if s.pcgState g = 2 then (s.pcgSync g).set (K (PG g) 0x14) 1 else s, ok)
  | 3 => (s.pcgClear g, ok)
  | _ => (((s.pcgSync g).set (K (PG g) 0x14) 0).unclaim [0xE3 + g], ok)

/-- Effect of a write of an event selection: refused while the group runs (R527). -/
def effPcgEvent (k : Nat) : Effect := fun s v =>
  if s.pcgState (k / 256 - 0x9100) = 2 then (s, (0x0402, 0)) else (s.set k v, ok)

/-- Start of a group. -/
def execPcgStart (dt : Nat) (rq : Rq) (g : Fin 12) (s : State) : Res := done ((s.tick dt).command rq (K (PG g) 1) 1 (effPcg g))

/-- Stop of a group. -/
def execPcgStop (dt : Nat) (rq : Rq) (g : Fin 12) (s : State) : Res := done ((s.tick dt).command rq (K (PG g) 1) 2 (effPcg g))

/-- Clear of a group. -/
def execPcgClear (dt : Nat) (rq : Rq) (g : Fin 12) (s : State) : Res := done ((s.tick dt).command rq (K (PG g) 1) 3 (effPcg g))

/-- Stop of a group, and release of its claim. -/
def execPcgStopAndRelease (dt : Nat) (rq : Rq) (g : Fin 12) (s : State) : Res := done ((s.tick dt).command rq (K (PG g) 1) 4 (effPcg g))

/-! ### Trace -/

/-- Records that the ring holds (R528). -/
def traceSize : Nat := 65536

/-- Trace state (R528). -/
def State.trace (s : State) : Nat := s.get (K 0x9200 2)

/-- The two lowest whole banks above the fixed area that hold no region and have no owner (R66, R163). -/
def State.traceBanks (s : State) : List Nat :=
  let top := match s.fs.accepted with | some c => max s.fs.fixedEnd c.fixedEnd | none => s.fs.fixedEnd
  let region (b : Nat) : Bool := (List.range 32).any fun n =>
    let r := 0x3440 + n
    s.get (K r 1) != 0 && decide (s.get (K r 3) < (b + 1) * 524288 ∧ b * 524288 < s.get (K r 3) + s.get (K r 4) * 65536)
  ((List.range 62).filter fun b => decide (top ≤ 8 * b) && s.owner (0x9B + b) == 0 && !region b).take 2

/-- The records held are shown. -/
def State.showTrace (s : State) : State := s.set (K 0x9200 0x0A) s.ins.ring.length

/-- Trace is STOPPED: records still in a queue are not written (R532). [DEDUCED, log entry 167] -/
def State.traceEnd (s : State) : State :=
  let pr := s.ins.probes.map fun p => { p with queue := [] }
  { s with ins := { s.ins with probes := pr } }.set (K 0x9200 2) 3

/-- A record goes into the ring (R531, R532). [DEDUCED, log entry 167] -/
def State.ringPut (s : State) (r : TRec) : State :=
  let full := decide (traceSize ≤ s.ins.ring.length)
  let ring := (if full then s.ins.ring.drop 1 else s.ins.ring) ++ [r]
  let at_ := if full then (s.ins.ringAt + 1) % traceSize else s.ins.ringAt
  let t0 : State := { s with ins := { s.ins with ring := ring, ringAt := at_ } }
  let trig := t0.get (K 0x9200 0x0C)
  let t := if bit r.flags 1 then t0.set (K 0x9200 0x0C) (ring.length - 1)
    else if full && trig != 0xFFFFFFFF then t0.set (K 0x9200 0x0C) (if trig = 0 then 0xFFFFFFFF else trig - 1) else t0
  let u := t.showTrace
  let after := u.trace == 2 && !bit r.flags 1 && decide ((r.time + 2 ^ 48 - u.get (K 0x9200 0x0E) % 2 ^ 48) % 2 ^ 48 < 2 ^ 47)
  let left := if after then u.ins.post - 1 else u.ins.post
  let v : State := { u with ins := { u.ins with post := left } }
  let stop := if v.get (K 0x9200 3) = 1 then u.trace == 2 && left == 0 else decide (traceSize ≤ ring.length)
  if stop then v.traceEnd else v

/-- The next queue in turn that holds a record. [DEDUCED, log entry 167] -/
def State.nextQueue (s : State) : Option Nat :=
  ((List.range 16).map fun k => (s.ins.turn + 1 + k) % 16).find? fun p => !(nth ⟨[], false, 0⟩ s.ins.probes p).queue.isEmpty

/-- The writer leaves `rest` in the queue of probe p, which it took last (R531). -/
def State.leaveQueue (s : State) (p : Nat) (rest : List TRec) : State :=
  let pr := modNth ⟨[], false, 0⟩ s.ins.probes p fun x => { x with queue := rest }
  { s with ins := { s.ins with probes := pr, turn := p } }

/-- The writer takes the oldest record of the next queue in turn (R531). -/
def State.traceWrite (s : State) : State :=
  if s.trace ≠ 1 ∧ s.trace ≠ 2 then s
  else match s.nextQueue with
    | none => if s.trace = 2 ∧ s.get (K 0x9200 3) = 1 ∧ s.ins.post = 0 then s.set (K 0x9200 2) 3 else s
    | some p =>
      match (nth ⟨[], false, 0⟩ s.ins.probes p).queue with
      | [] => s
      | r :: rest => (s.leaveQueue p rest).ringPut r

/-- The trace writer takes a record. -/
def execTraceWrite (dt : Nat) (s : State) : Res := done ((s.tick dt).inDomains [0x17] fun t => t.traceWrite)

/-- Records held are discarded, and trace waits for its trigger (R528). -/
def State.traceFresh (s : State) : State :=
  let ins : Ins := { s.ins with probes := Ins.init.probes, turn := 15, ring := [], ringAt := 0, post := 0 }
  let t : State := { s with ins := ins }
  (((t.set (K 0x9200 2) 1).set (K 0x9200 0x0C) 0xFFFFFFFF).set (K 0x9200 0x0E) 0).showTrace

/-- Trace arms: records held are discarded, and from IDLE two banks are claimed (R528). [DEDUCED, log entry 166] -/
def State.traceArm (s : State) : State × Code :=
  if s.trace = 3 then (s.traceFresh, ok)
  else if s.trace ≠ 0 then (s, (0x0402, 0))
  else
    let b := s.traceBanks
    if b.length < 2 then (s, (0x0402, 0))
    else
      let t := (s.claim (b.map (0x9B + ·)) 0x0800).set (K 0x9200 9) (b.headD 0xFF)
      ((b.foldl (fun t n => t.startWake (7 + n / 4)) t).traceFresh, ok)

/-- The trigger by command (R532). [DEDUCED, log entry 166] -/
def State.traceForce (s : State) : State × Code :=
  if s.trace ≠ 1 then (s, (0x0402, 0))
  else
    let t := ((s.set (K 0x9200 2) 2).set (K 0x9200 0x0C) s.ins.ring.length).set (K 0x9200 0x0E) s.timeNs
    ({ t with ins := { t.ins with post := s.get (K 0x9200 4) } }, ok)

/-- Trace stops: the records in the queues are written (R532). -/
def State.traceStop (s : State) : State :=
  if s.trace ≠ 1 ∧ s.trace ≠ 2 then s
  else
    let n := s.ins.probes.foldl (fun a p => a + p.queue.length) 0
    let t := (List.range n).foldl (fun t _ => t.traceWrite) s
    t.traceEnd

/-- The banks are freed, and trace is IDLE (R528). [DEDUCED, log entry 166] -/
def State.traceFree (s : State) : State :=
  let t := (s.unclaimOwner 0x0800).set (K 0x9200 9) 0xFF
  let u : State := { t with ins := { t.ins with ring := [], ringAt := 0, post := 0 } }
  (u.set (K 0x9200 2) 0).showTrace

/-- Effect of a trace command (R528, R532). [DEDUCED, log entry 166] -/
def effTrace : Effect := fun s v =>
  match v with
  | 1 => s.traceArm
  | 2 => s.traceForce
  | 3 => (s.traceStop, ok)
  | v =>
    if v ≠ 4 then (s, ok)
    else if s.trace = 0 then (s, ok)
    else if s.trace ≠ 3 then (s, (0x0402, 0))
    else
      (s.traceFree, ok)

/-- Effect of a write of a trace or probe setting: refused unless the state is IDLE or STOPPED (R536). -/
def effTraceSet (k : Nat) : Effect := fun s v =>
  if s.trace = 0 ∨ s.trace = 3 then (s.set k v, ok) else (s, (0x0402, 0))

/-- Trace command 0x01. -/
def execTraceArm (dt : Nat) (rq : Rq) (s : State) : Res := done ((s.tick dt).command rq (K 0x9200 1) 1 effTrace)

/-- Trace command 0x02. -/
def execTraceForceTrigger (dt : Nat) (rq : Rq) (s : State) : Res := done ((s.tick dt).command rq (K 0x9200 1) 2 effTrace)

/-- Trace command 0x03. -/
def execTraceStop (dt : Nat) (rq : Rq) (s : State) : Res := done ((s.tick dt).command rq (K 0x9200 1) 3 effTrace)

/-- Trace command 0x04. -/
def execTraceRelease (dt : Nat) (rq : Rq) (s : State) : Res := done ((s.tick dt).command rq (K 0x9200 1) 4 effTrace)

/-- A trace record as bytes (R529). -/
def TRec.bytes (r : TRec) : List Byte := toBe 6 r.time ++ toBe 1 r.probe ++ toBe 1 r.flags ++ toBe 4 r.tag ++ toBe 4 r.value

end Sys2Proof.Machine
end

