-- ==== Sys2Proof/Machine/Xfer.lean ====
section
/-! DEFINITION. The end of a segmented download: the value is checked and replaces the old one in one step, and 0x87 is sent (R42). -/

namespace Sys2Proof.Machine

/-- What a downloaded value does: the new state and the result. -/
abbrev DomEffect := State → Nat → List Byte → State × Code

/-- The open transfer of a client. -/
def State.xferOf (s : State) (c : Client) : Option Xfer := s.sys.xfers.find? fun x => sameClient x.client c

/-- A client's transfer ends: the staging buffer is discarded. -/
def State.closeXfer (s : State) (c : Client) : State :=
  { s with sys := { s.sys with xfers := s.sys.xfers.filter fun x => !sameClient x.client c } }

/-- The LAST segment of a client's download to an entry has arrived: its value is checked and put, and 0x87 answers (R42 rules 3, 4
and 7). The answer belongs to the request that carried the LAST segment (R45). [DESIGN CHOICE, log entry 21] -/
def State.complete (s : State) (c : Client) (want : Nat → Bool) (eff : DomEffect) : State :=
  match s.xferOf c with
  | none => s
  | some x =>
    if x.upload || !x.last || !want x.key || !s.serverUp then s else
    if (s.servedBy x.key).isSome then s.touch x.key else
    let req := match s.clientRec c with | some r => r.request | none => []
    let (t, r) := if x.data.length ≠ x.total then (s, ((0x0107, 0) : Code)) else eff s x.key x.data
    let t1 := if r.1 = 0 ∨ r.1 = 0x0404 then t.probe 7 (fun _ => true) (x.key % 2 ^ 24) (be (slice x.data 0 4)) else t
    (t1.closeXfer c).answer c req (codePdu 0x87 x.tag x.key r)

end Sys2Proof.Machine
end

