-- ==== Sys2Proof/Machine/Sinks.lean ====
section
/-! DEFINITION. Commands of chapter 08: PWM and own periods, sink samples, pattern engines, chains, matrix slots. -/

namespace Sys2Proof.Machine

/-! ### Tracking (R272, R273) -/

/-- The rail outputs steer: from step 7 of BOOT, and in every state that drives them (R288). -/
def State.railsOn (s : State) : Bool :=
  s.outputsOn && match s.mode with | .boot => decide (7 ≤ s.sys.bootStep) | .standby => false | _ => true

/-- The channels whose group names rail t. -/
def State.railSinks (s : State) (t : Nat) : List Nat := (List.range 128).filter fun c => s.get (K (0x5010 + c / 8) 2) == t

/-- One rail at a bank boundary, with the reading of its VRAIL in mV (R273). [DEDUCED, log entry 78] -/
def State.steerRail (s : State) (t v : Nat) : State :=
  let k := 0x5020 + t
  let s0 := s.set (K k 0x0A) v
  if s.get (K k 1) = 0 ∨ !s.railsOn then (s0.set (K k 9) 0).set (K k 0x0C) 0
  else
    let st := s.get (K k 0x0C)
    let lo := s.get (K k 4)
    let hi := s.get (K k 5)
    let limits (c : Nat) : Nat := 2 * b2n (decide (c = lo ∨ c = hi))
    if v < 1000 ∨ 28000 < v then
      let c := s.get (K k 6)
      let u : State := { s0 with skb := { s0.skb with railOk := putNth 0 s0.skb.railOk t 0 } }
      let u1 := (u.set (K k 9) c).set (K k 0x0C) (4 + limits c)
      if bit st 2 then u1 else u1.stand 9 0x16 t
    else
      let n := nth 0 s.skb.railOk t + 1
      let back := bit st 2 && decide (10 ≤ n)
      let u : State := if bit st 2 then { s0 with skb := { s0.skb with railOk := putNth 0 s0.skb.railOk t n } } else s0
      let u1 := if back then u.causeGone 9 0x16 t else u
      if bit st 2 && !back then u1
      else
        let used := (u1.railSinks t).filter fun c =>
          (u1.chan c).sampled && !bit (u1.get (K (SK c) 0x0D)) 0 && !bit (u1.get (K (SK c) 0x0D)) 2
        let old := u1.get (K k 9)
        match used.map fun c => u1.get (K (SK c) 0x0A) with
        | [] => u1.set (K k 0x0C) (1 + limits old)
        | p :: ps =>
          let h := ps.foldl min p
          let low := used.any fun c => bit (u1.get (K (SK c) 0x0D)) 3
          let c :=
            if low ∨ h + u1.get (K k 3) < u1.get (K k 2) then max (old - u1.get (K k 8)) lo
            else if u1.get (K k 2) + u1.get (K k 3) < h then min (old + u1.get (K k 7)) hi
            else old
          let u2 := ((u1.set (K k 9) c).set (K k 0x0B) h).set (K k 0x0C) (1 + limits c)
          if c = old then u2 else u2.count 5 4 1

/-- A bank PWM period boundary: engines are sampled, rails are steered from the samples of the period just ended (R266, R273,
R274). -/
def State.pwmBoundary (s : State) (v : List Nat) : State :=
  let t := s.sampleEngines
  let t1 := (List.range 4).foldl (fun u n => u.steerRail n (nth 0 v n)) t
  let chans := t1.skb.chans.map fun c => { c with sampled := false }
  let t2 : State := { t1 with skb := { t1.skb with chans := chans } }
  t2.count 5 1 1

/-- A bank PWM period boundary, with the VRAIL readings in mV. -/
def execPwmPeriodBoundary (dt : Nat) (v0 v1 v2 v3 : Nat) (s : State) : Res := done ((s.tick dt).inDomains [0x22, 0x23] fun t => t.pwmBoundary [v0, v1, v2, v3])

/-! ### Own periods (R265–R268) -/

/-- A channel's own period starts: level and GREF are read and apply for the whole period (R265, R266, R268). -/
def State.ownPeriod (s : State) (c : Nat) : State :=
  let h := s.headOf c
  let np := s.bankCycles
  let p := s.get (K 0x5000 3)
  let gone := (s.now - s.fs.fmAt) / 5 - s.offsetOf c
  let n := if np = 0 then 0 else gone / np
  let len := if p ≤ n + 1 then s.frameCycles - (p - 1) * np else np
  let off := bit (s.get (K (SK c) 0x0D)) 5
  let l := if s.stringsOn c then s.stringLevel h else 0
  let (a, d) := if off then (0, 0) else s.stringDrive h l
  let on := if d = 0xFFFF then len else roundDiv (d * np) 65535
  ((s.putChan c { s.chan c with level := l, amp := a, on := on, len := len }).addCharge c (a * s.rangeMa (c / 8) * on)).set (K (SK c) 0x0D)
    (setBit (s.get (K (SK c) 0x0D)) 4 false)

/-- The own period of a string's sink starts; a channel without a string function has none. -/
def execOwnPeriodStart (dt : Nat) (c : Fin 128) (s : State) : Res :=
  let t := s.tick dt
  done (t.inDomains [0x22, 0x23] fun t => if t.chanFn c = 0 ∨ !t.fs.running then t else t.ownPeriod c)

/-! ### Samples and faults (R269, R270, R287) -/

/-- Failing and passing samples of a fault after one more sample; whether it is declared or cleared by it. [DEDUCED, log entry 77] -/
def debounce (n : Nat) (fails passes : List Nat) (f : Nat) (hit : Bool) : List Nat × List Nat × Bool × Bool :=
  let a := if hit then min n (nth 0 fails f + 1) else 0
  let b := if hit then 0 else min n (nth 0 passes f + 1)
  (putNth 0 fails f a, putNth 0 passes f b, hit && a == n, !hit && b == n)

/-- Every sink of a channel's string is switched off from its next own period (R270). -/
def State.stringOff (s : State) (c : Nat) : State :=
  let l := if s.chanFn c = 0 then [c] else s.string (s.headOf c)
  l.foldl (fun t d => t.setFlag (K (SK d) 0x0D) 5 true) s

/-- The record of a channel's faults goes once none is left. -/
def State.sinkQuiet (s : State) (c : Nat) : State :=
  if field (s.get (K (SK c) 0x0D)) 3 0 = 0 then s.causeGone 9 8 c else s

/-- A sample of a sink: conditions OPEN, LED_SHORT and LOW_HEADROOM with their debounce and reactions (R269, R270, R287).
[DEDUCED, log entries 77, 78; DESIGN CHOICE, log entry 176] -/
def State.sinkSample (s : State) (c code : Nat) (reg dropped : Bool) : State :=
  let (win, row) := s.lightWindow c
  let k := SK c
  if 5 * win < 4000 then s
  else if dropped then (s.setFlag (K k 0x0D) 4 true).count 5 3 1
  else
    let pin := roundDiv (code % 4096 * 684) 100
    let th := s.get (K k 7)
    let hits := [!reg && decide (pin < th), reg && decide (s.get (K k 8) < pin), !reg && decide (th ≤ pin)]
    let n := s.get (K k 9)
    let rail := s.get (K (0x5010 + c / 8) 2)
    let vf := if rail < 4 then s.get (K (0x5020 + rail) 0x0A) - pin else 0
    let key := match row with | some r => r * 128 + c | none => 0
    let ch := s.chan c
    let old : List Nat × List Nat := match row with
      | some _ => (mapGet s.skb.segs key).getD ([0, 0, 0], [0, 0, 0])
      | none => (ch.fails, ch.passes)
    let s1 := ((s.set (K k 0x0A) pin).set (K k 0x0B) vf).count 5 2 1
    let one (acc : State × List Nat × List Nat) (f : Nat) : State × List Nat × List Nat :=
      let (t, fl, ps) := acc
      let (fl1, ps1, on, off) := debounce n fl ps f (nth false hits f)
      let b := if f = 2 then 3 else f
      let was := bit (t.get (K k 0x0D)) b
      let t1 :=
        if on && !was then (t.setFlag (K k 0x0D) b true).stand 9 8 c
        else if off && was then (t.setFlag (K k 0x0D) b false).sinkQuiet c
        else t
      let t2 :=
        if on && decide (f < 2) then
          match row, t1.matrixSrc with
          | some r, some i =>
            let x := t1.src i
            let px := r * t1.actW i + c
            if x.reported.contains px then t1 else t1.putSrc i { x with reported := x.reported ++ [px] }
          | _, _ => if t1.chanFn c ≠ 0 ∧ t1.get (K k 6) = 1 then t1.stringOff c else t1
        else t1
      (t2, fl1, ps1)
    let (t, fl, ps) := [0, 1, 2].foldl one (s1, old.1, old.2)
    let x := t.chan c
    match row with
    | some _ =>
      let u := t.putChan c { x with sampled := true }
      { u with skb := { u.skb with segs := mapPut u.skb.segs key (fl, ps) } }
    | none => t.putChan c { x with sampled := true, fails := fl, passes := ps }

/-- The ADC of a group samples a sink's pin, or drops the request. -/
def execSinkSample (dt : Nat) (c : Fin 128) (code : Nat) (reg dropped : Bool) (s : State) : Res :=
  done ((s.tick dt).inDomains [0x22, 0x23] fun t => t.sinkSample c code reg dropped)

/-- A pin lies above the pin-high threshold: the sink is off in hardware at once, and its string from its next period (R270).
[DEDUCED, log entry 76] -/
def State.pinHigh (s : State) (c : Nat) : State :=
  let show_ := s.skb.show_.map fun m => { m with cols := if c < m.cols.length then putNth (0, 0, 0) m.cols c (0, 0, 0) else m.cols }
  let dark : State := { s with skb := { s.skb with show_ := show_ } }
  let t := dark.putChan c { s.chan c with amp := 0, on := 0 }
  let u := (t.setFlag (K (SK c) 0x0D) 2 true).stringOff c
  if bit (s.get (K (SK c) 0x0D)) 2 then u else u.stand 9 8 c

/-- A sink pin has been above the pin-high threshold for 5 µs. -/
def execPinHigh (dt : Nat) (c : Fin 128) (s : State) : Res := done ((s.tick dt).inDomains [0x23] fun t => t.pinHigh c)

/-- Effect of a write of 0x01 to a clear entry: the sink's faults clear and its string runs again (R270). [DEDUCED, log entry 76] -/
def effClearFaults (c : Nat) : Effect := fun s _ =>
  let l := if s.chanFn c = 0 then [c] else s.string (s.headOf c)
  let t := l.foldl (fun t d => t.setFlag (K (SK d) 0x0D) 5 false) s
  let x := t.chan c
  let u := (t.set (K (SK c) 0x0D) (setBit (t.get (K (SK c) 0x0D) / 16 * 16) 5 false)).putChan c
    { x with fails := [0, 0, 0], passes := [0, 0, 0] }
  (u.sinkQuiet c, ok)

/-- A write of 0x01 clears the faults of a sink. -/
def execClearFaults (dt : Nat) (rq : Rq) (c : Fin 128) (s : State) : Res :=
  done ((s.tick dt).command rq (K (SK c) 0x0E) 1 (effClearFaults c))

/-- Effect of a write of a level: only a head with host level takes it (R268, R292). -/
def effLevel (c : Nat) : Effect := fun s v =>
  if s.chanFn c = 1 then (s.set (K (SK c) 4) v, ok) else (s, (0x0402, 0))

/-- A write of a string head's level is stored for the next own-period start. -/
def execLevel (dt : Nat) (rq : Rq) (c : Fin 128) (v : Nat) (s : State) : Res :=
  done ((s.tick dt).command rq (K (SK c) 4) v (effLevel c))

/-! ### Engine programs and targets (R278) -/

/-- An instruction word is valid for a program length and wait period (R278). -/
def instrOk (n period w : Nat) : Bool :=
  match field w 31 28 with
  | 1 => field w 27 16 == 0
  | 2 | 3 => true
  | 4 => field w 15 5 == 0 && decide (field w 4 0 < n)
  | 5 => field w 27 5 == 0 && decide (field w 4 0 < n)
  | 6 => field w 27 16 == 0
  | 7 => field w 27 24 == 0 && decide (field w 23 0 < period)
  | _ => false

/-- A program is valid (R278). -/
def programOk (b : List Byte) (period : Nat) : Bool :=
  let n := b.length / 4
  (List.range n).all fun i => instrOk n period (beAt b (4 * i) 4)

/-- A program is written (R278). -/
def State.programWrite (s : State) (e : Nat) (b : List Byte) : State × Code :=
  if s.engState e = 1 then (s, (0x0402, 0))
  else if programOk b (s.get (K (0x5100 + e) 3)) then ((s.setDom (K (0x5100 + e) 1) b).land [] [(K (0x5100 + e) 1, b)], ok)
  else (s, (0x0403, 0x5006))

/-- Claims on strings that a target table needs: the sinks of each string it names, and the engine (R66, R261). -/
def State.targetClaims (s : State) (e : Nat) (ts : List Target) : List Nat :=
  if ts.isEmpty then [] else
  (0xEF + e) :: ((ts.filter fun t => t.kind == 1).flatMap fun t => (s.string t.out).map (· + 1))

/-- A target names an output that exists (R277, R278). -/
def State.targetOk (s : State) (t : Target) : Bool :=
  decide (t.shape ≤ 1) && match t.kind with
    | 1 => decide (t.out < 128) && s.chanFn t.out == 3
    | 2 => decide (t.out < s.chainOuts 0)
    | 3 => decide (t.out < s.chainOuts 1)
    | _ => false

/-- Content of a target table: reserved bytes, outputs that exist, and chain outputs that no other engine drives (R17, R277, R278). -/
def State.targetCheck (s : State) (e : Nat) (b : List Byte) : Code :=
  let ts := targetsOf b (b.length / 10)
  let taken := ts.any fun t => t.kind != 1 && (List.range 8).any fun o => o != e && (s.targets o).any fun u => u.kind == t.kind && u.out == t.out
  match s.claimBlock (s.targetClaims e ts) (0x300 + e) with
  | some r => (0x0402, r)
  | none =>
    if taken then (0x0402, 0)
    else if ts.any (fun t => t.res != 0) then (0x0301, 0)
    else if !ts.all s.targetOk then (0x0403, 0x5007)
    else ok

/-- A target table is written: the engine's commit (R278). -/
def State.targetWrite (s : State) (e : Nat) (b : List Byte) : State × Code :=
  let own := 0x300 + e
  let recs := s.targetClaims e (targetsOf b (b.length / 10))
  if s.engState e = 1 then (s, (0x0402, 0))
  else if s.targetCheck e b ≠ ok then (s, s.targetCheck e b)
  else ((((s.unclaimOwner own).claim recs own).setDom (K (0x5100 + e) 2) b).land [] [(K (0x5100 + e) 2, b)], ok)

/-- The download of a client to a pattern-engine program completes. -/
def execProgram (dt : Nat) (c : Client) (e : Fin 8) (s : State) : Res :=
  done ((s.tick dt).complete c (· == K (0x5100 + e) 1) fun t _ b => t.programWrite e b)

/-- The download of a client to a target table completes. -/
def execTargetTable (dt : Nat) (c : Client) (e : Fin 8) (s : State) : Res :=
  done ((s.tick dt).complete c (· == K (0x5100 + e) 2) fun t _ b => t.targetWrite e b)

/-- The download of a client to a slot's friction and cogging table completes (R304). -/
def execTable (dt : Nat) (c : Client) (n : Fin 8) (s : State) : Res :=
  done ((s.tick dt).complete c (· == K (LS n) 0x18) fun t _ b => t.tableWrite n b)

/-- Effect of a write to an engine command entry (R279): 0x01 starts, 0x02 stops; in PREOP the engines stay stopped (R288). -/
def effEngine (e : Nat) : Effect := fun s v =>
  if v = 1 then
    if s.mode = .preop then (s, (0x0401, s.mode.code)) else (s.engineStart e, ok)
  else (s.engineStop e, ok)

/-- A start command of a pattern engine. -/
def execEngineStart (dt : Nat) (rq : Rq) (e : Fin 8) (s : State) : Res :=
  done ((s.tick dt).command rq (K (0x5100 + e) 4) 1 (effEngine e))

/-- A stop command of a pattern engine. -/
def execEngineStop (dt : Nat) (rq : Rq) (e : Fin 8) (s : State) : Res :=
  done ((s.tick dt).command rq (K (0x5100 + e) 4) 2 (effEngine e))

/-! ### Engine instructions (R274–R276) -/

/-- Program counter of an engine. -/
def State.pc (s : State) (e : Nat) : Nat := s.get (K (0x5100 + e) 8)

/-- SET: E = V. -/
def State.engSet (s : State) (e : Nat) : State :=
  s.engUntimed e { s.engine e with value := field (s.instrAt e) 15 0 } (s.pc e + 1)

/-- The engine executes SET. -/
def execSet (dt : Nat) (e : Fin 8) (s : State) : Res :=
  let t := s.tick dt
  done (t.inDomains [0x22, 0x23] fun t => if t.engDue e 1 then t.engSet e else t)

/-- RAMP begins: E moves linearly to V over D. -/
def State.engRamp (s : State) (e : Nat) : State :=
  let w := s.instrAt e
  s.engTimed e (.ramp (s.engine e).value (field w 15 0) s.now (field w 27 16 * 1000000))

/-- The engine executes RAMP. -/
def execRamp (dt : Nat) (e : Fin 8) (s : State) : Res :=
  let t := s.tick dt
  done (t.inDomains [0x22, 0x23] fun t => if t.engDue e 2 then t.engRamp e else t)

/-- HOLD begins, or halts the engine when D is 0. -/
def State.engHold (s : State) (e : Nat) : State :=
  let d := field (s.instrAt e) 27 0
  if d = 0 then (s.engTimed e .none).set (K (0x5100 + e) 7) 2 else s.engTimed e (.hold s.now (d * 1000000))

/-- The engine executes HOLD. -/
def execHold (dt : Nat) (e : Fin 8) (s : State) : Res :=
  let t := s.tick dt
  done (t.inDomains [0x22, 0x23] fun t => if t.engDue e 3 then t.engHold e else t)

/-- LOOP: arm, decrement, and jump while the counter is above 0 (R275). A count of 0, outside the field's range, counts down to a
free value. [DEDUCED, log entry 80] -/
def State.engLoop (s : State) (e : Nat) : State :=
  let w := s.instrAt e
  let c := field w 27 27
  let x := s.engine e
  let n := match nth none x.counters c with | some v => v | none => field w 26 16
  let (left, t) := if n = 0 then s.fresh else (n - 1, s)
  if 0 < left then t.engUntimed e { x with counters := putNth none x.counters c (some left) } (field w 4 0)
  else t.engUntimed e { x with counters := putNth none x.counters c none } (t.pc e + 1)

/-- The engine executes LOOP. -/
def execLoop (dt : Nat) (e : Fin 8) (s : State) : Res :=
  let t := s.tick dt
  done (t.inDomains [0x22, 0x23] fun t => if t.engDue e 4 then t.engLoop e else t)

/-- JUMP: continue at the target. -/
def State.engJump (s : State) (e : Nat) : State := s.engUntimed e (s.engine e) (field (s.instrAt e) 4 0)

/-- The engine executes JUMP. -/
def execJump (dt : Nat) (e : Fin 8) (s : State) : Res :=
  let t := s.tick dt
  done (t.inDomains [0x22, 0x23] fun t => if t.engDue e 5 then t.engJump e else t)

/-- WAIT_MS begins: wait for the n-th following frame milestone; n = 0, outside the field's range, is a free number.
[DEDUCED, log entry 80] -/
def State.engWaitMs (s : State) (e : Nat) : State :=
  let n := field (s.instrAt e) 15 0
  let (v, t) := if n = 0 then s.fresh else (n, s)
  t.engTimed e (.frames v)

/-- The engine executes WAIT_MS. -/
def execWaitMs (dt : Nat) (e : Fin 8) (s : State) : Res :=
  let t := s.tick dt
  done (t.inDomains [0x22, 0x23] fun t => if t.engDue e 6 then t.engWaitMs e else t)

/-- WAIT_TIME begins: wait for a phase of the device time (R276). -/
def State.engWaitTime (s : State) (e : Nat) : State := s.engTimed e (.time (field (s.instrAt e) 23 0))

/-- The engine executes WAIT_TIME. -/
def execWaitTime (dt : Nat) (e : Fin 8) (s : State) : Res :=
  let t := s.tick dt
  done (t.inDomains [0x22, 0x23] fun t => if t.engDue e 7 then t.engWaitTime e else t)

/-- A RAMP, HOLD or WAIT_TIME whose end has come ends, and the engine goes on (R274, R276). -/
def State.engTimedEnd (s : State) (e : Nat) : State :=
  let x := s.engine e
  if s.engState e ≠ 1 then s else
  match x.wait with
  | .ramp _ v start len => if start + len ≤ s.now then s.engEnd e v else s
  | .hold start len => if start + len ≤ s.now then s.engEnd e x.value else s
  | .time p => if s.timeNs / 1000 % s.get (K (0x5100 + e) 3) = p then s.engEnd e x.value else s
  | .frames _ | .none => s

/-- The end of a timed instruction of an engine. -/
def execTimedInstructionEnd (dt : Nat) (e : Fin 8) (s : State) : Res := done ((s.tick dt).inDomains [0x22, 0x23] fun t => t.engTimedEnd e)

/-! ### Chains and matrix -/

/-- A chain shifts and latches its levels of the frame milestone, and its readback is compared with the stream of the update
before (R282–R284, R288). [DEDUCED, log entries 78, 81] -/
def State.chainUpdate (s : State) (n : Nat) (rb : List Byte) : State :=
  let k := 0x5200 + n
  let d := 6 * s.get (K k 2)
  let ch := nth ⟨[], none, 0⟩ s.skb.chains n
  let mode := s.chainMode n
  let zero : List Byte := List.replicate d 0
  let stopped := mode == 1 && s.mode == .safe && ch.stream == some zero
  if mode = 0 ∨ stopped then s.set (K k 9) (s.get (K k 9) / 2 % 4 * 2 + (if mode = 1 then 8 else 0))
  else
    let stream := if mode = 1 then zero else s.chainStream n ch.levels
    let back := slice rb 0 d
    let bad := match ch.stream with | some p => s.get (K k 6) == 1 && back != p | none => false
    let m := if bad then ch.bad + 1 else 0
    let put : State := { s with skb := { s.skb with chains := putNth ⟨[], none, 0⟩ s.skb.chains n { ch with stream := some stream, bad := m } } }
    let t := ((put.emit (.chain n stream)).setDom (K k 8) back).count 11 4 (8 * d)
    let t1 := if bad then t.inc (K k 0x0A) else t
    let t2 := t1.set (K k 9) (1 + 2 * b2n bad + 4 * b2n (decide (2 ≤ m)) + 8 * b2n (mode == 1))
    if m = 2 then t2.stand 9 9 n else if m = 0 ∧ bit (s.get (K k 9)) 2 = true then t2.causeGone 9 9 n else t2

/-- A chain update, 10 µs after the frame milestone, with the bytes read back. -/
def execChainUpdate (dt : Nat) (n : Fin 2) (rb : List Byte) (s : State) : Res := done ((s.tick dt).inDomains [0x23, 0x24] fun t => t.chainUpdate n rb)

/-- A row slot of the matrix: the gate of the row before is deasserted and that of this row asserted, and every column has its code, on-time
and window start for the row's segments; a sink switched off by a fault takes none (R270, R286, R287). -/
def State.matrixSlot (s : State) (i r : Nat) : State :=
  let m := s.act (K 0x5300 3)
  let rr := s.matRows
  let tl := matLight s.fs.ra s.fs.rowU m rr (s.act (K 0x5300 4))
  let vals := nth [] s.skb.front r
  let on := s.matEmits i
  let cols := (List.range s.matCols).map fun c =>
    let off := bit (s.get (K (SK c) 0x0D)) 5 || !on
    let (a, d) := if off then (0, 0) else hybrid (nth 0 vals c) (s.get (K 0x5000 2)) 1023 1
    let w := if d = 0xFFFF then tl else roundDiv (d * tl) 65535
    (a, w, if s.act (K 0x5300 7) = 0 then (tl - w) / 2 else 0)
  let lead := s.act (K 0x5300 4) - s.act (K 0x5300 5)
  let t0 : State := { s.dropGate with skb := { s.dropGate.skb with show_ := some ⟨r, lead, tl, cols⟩, gate := if on then some r else none } }
  let t1 := if on then t0.emit (.gate r lead (t0.gateLevel true)) else t0
  let t := (List.range s.matCols).foldl (fun t c =>
    let x := nth (0, 0, 0) cols c
    let u := if bit (t.get (K (SK c) 0x0D)) 4 then t.setFlag (K (SK c) 0x0D) 4 false else t
    u.addCharge c (x.1 * t.rangeMa (c / 8) * x.2.1)) t1
  (t.set (K 0x5300 8) (matSlotNs s.fs.ra s.fs.rowU m rr)).set (K 0x5300 0x0A)
    (b2n on + 2 * b2n (bit (s.get (K 0x5300 0x0A)) 1) + 4 * b2n (s.roadblocked i))

/-- A row slot of the direct matrix starts. -/
def execMatrixSlot (dt : Nat) (r : Fin 16) (s : State) : Res :=
  let t := s.tick dt
  done (t.inDomains [0x17, 0x22, 0x23] fun t => match t.matrixSrc with
    | some i => if r < t.matRows && t.fs.running then t.matrixSlot i r else t
    | none => t)

end Sys2Proof.Machine
end

