-- ==== Sys2Proof/Machine/TwinCmds.lean ====
section
/-! DEFINITION. Commands of chapter 13: beats, claims, copies, bulk sync, planned handover (R442–R462). -/

namespace Sys2Proof.Machine

/-! ### Beats (R447, R448) -/

/-- The device beats: not single, from step 6 of BOOT, and not while its toggles have ceased or a reaction stops ALIVE (R447). -/
def State.beats (s : State) : Bool :=
  s.twinOn && decide (6 ≤ s.sys.bootStep) && !s.reactionStop && !s.safe.silent && !s.pwr.inReset

/-- The two words of a MILEPOST (R448). -/
def State.milepostWords (s : State) : List Nat :=
  [s.frameNo * 2 ^ 32 + s.mode.code * 2 ^ 24 + s.get (K 0x8600 3) * 65536 + s.get (K 0x8600 5), s.fs.fmTime % 2 ^ 64]

/-- A beat: MILEPOST on the twin link and an edge of BEAT_OUT (R447). -/
def State.beat (s : State) : State :=
  if s.beats then
    let t := s.showReady
    let u : State := { t with tw := { t.tw with beatOut := !t.tw.beatOut, lastEdge := t.now } }
    (u.sendTwl 1 u.tw.ident u.milepostWords).emit (.pin "BEAT_OUT" u.tw.beatOut)
  else s

/-- The Milepost beat of 100 µs. -/
def execMilepostBeat (dt : Nat) (s : State) : Res := done ((s.tick dt).beat)

/-- Check of a twin packet (R197, R448): the link is up, the header is of its type, and the CRC holds. -/
def State.twlOk (s : State) (typ head : Nat) (words : List Nat) (crc lo hi : Nat) : Bool :=
  s.twinOn && s.get (K 0x7030 3) != 0 && crc == packetCrc head words && field head 63 60 == typ && field head 59 56 == 0
    && field head 44 32 == words.length && decide (lo ≤ words.length ∧ words.length ≤ hi)

/-- A packet of the twin link whose CRC fails is counted (R448). [DESIGN CHOICE, log entry 201] -/
def State.twlBad (s : State) : State :=
  if s.twinOn && s.get (K 0x7030 3) != 0 then { s with tw := { s.tw with crcBad := s.tw.crcBad + 1 } } else s

/-- A packet of the twin link: counted when its CRC fails, and taken when it is well formed (R448). -/
def State.twlTake (s : State) (typ head : Nat) (words : List Nat) (crc lo hi : Nat) (f : State → State) : State :=
  if crc ≠ packetCrc head words then s.twlBad else if s.twlOk typ head words crc lo hi then f s else s

/-- A path comes up after 10 beats in a row (R447). -/
def State.pathUp (s : State) (b run : Nat) : State := if 10 ≤ run then s.setFlag (K 0x8600 7) b true else s

/-- The partner has just become standby at its start: the active device sends it its persistent configuration, regions, tables and maps as BULK
packets, whose layout is open, and its SSV the Kerb image in force (R454). [DESIGN CHOICE, log entry 201] -/
def State.startBulk (s : State) : State :=
  if s.get (K 0x8600 3) ≠ 1 then s
  else
    let (v, t) := s.fresh
    let kb := t.comp.kerb
    let t1 := if t.kerbValid then t.sendKerb (nth ⟨KerbImg.zero, []⟩ kb.banks kb.active).img t.landingFrame else t
    t1.sendTwl 6 0 [v % 2 ^ 64]

/-- A MILEPOST from the partner (R442, R447, R448). With equal straps the serial numbers decide which device acts as device 0; no packet
carries the partner's, so that is a free value; the device with the lower one acts as device 0, as 0x8600:02 shows. Beats come in a row when each
follows the one before within 150 µs. [DEDUCED, log entries 51, 232] -/
def State.milepost (s : State) (head : Nat) (words : List Nat) : State :=
  let w := nth 0 words 0
  let old := s.tw.partner
  let p : Partner := {
    id := head % 2, state := field w 31 24, role := field w 23 16, ready := field w 15 0, frame := field w 63 32, tfm := nth 0 words 1,
    cfgCrc := (match old with | some o => o.cfgCrc | none => 2 ^ 32), kseq := (match old with | some o => o.kseq | none => 2 ^ 32),
    cls := (match old with | some o => o.cls | none => 2 ^ 32) }
  let run := match s.tw.lastTwl with | some a => if s.now ≤ a + 150000 then s.tw.runTwl + 1 else 1 | none => 1
  let first := old.isNone
  let join := s.tw.joinFrame || (first && s.get (K 0x8600 3) == 2)
  let t : State := { s with tw := { s.tw with partner := some p, lastTwl := some s.now, runTwl := run, joinFrame := join } }
  let joined := p.role == 2 && (match old with | some o => o.role == 0 | none => true)
  let t0 := ((t.pathUp 0 run).set (K 0x8600 4) p.state).set (K 0x8600 6) p.ready
  let t1 := if joined then t0.startBulk else t0
  if first && p.id == t1.tw.strap then
    let (v, u) := t1.fresh
    let me := if u.get (K 0x1018 4) < v then 0 else 1
    ({ u with tw := { u.tw with ident := me } }.set (K 0x8600 2) me).event 0x1A 6 (K 0x8600 2)
  else t1

/-- A MILEPOST arrives. -/
def execMilepost (dt : Nat) (head : Nat) (words : List Nat) (crc : Nat) (s : State) : Res :=
  let t := s.tick dt
  done (t.twlTake 1 head words crc 2 2 fun t => t.milepost head words)

/-- An edge of BEAT_IN: a beat when it comes 50 µs to 150 µs after the one before (R447). -/
def State.beatIn (s : State) : State :=
  let good := match s.tw.lastIn with | some a => decide (a + 50000 ≤ s.now ∧ s.now ≤ a + 150000) | none => false
  let run := if good then s.tw.runIn + 1 else 0
  let t : State := { s with tw := { s.tw with lastIn := some s.now, lastBeatIn := if good then some s.now else s.tw.lastBeatIn, runIn := run } }
  if !t.twinOn then t else t.pathUp 1 run

/-- An edge of BEAT_IN. -/
def execBeatInEdge (dt : Nat) (s : State) : Res := done ((s.tick dt).beatIn)

/-- No beat for three intervals on a path: 0 the twin link, 1 BEAT_IN (R447). -/
def State.pathLoss (s : State) (b : Nat) : State :=
  let last := if b = 0 then s.tw.lastTwl else s.tw.lastBeatIn
  let gone := match last with | some a => decide (a + 300000 ≤ s.now) | none => true
  let up := s.get (K 0x8600 7)
  if !s.twinOn || !gone || !bit up b then s
  else
    let t := s.setFlag (K 0x8600 7) b false
    let t1 : State := if b = 0 then { t with tw := { t.tw with runTwl := 0 } } else { t with tw := { t.tw with runIn := 0 } }
    if bit up (1 - b) then (t1.inc (K 0x8600 0x10)).event 0x1A 7 b
    else
      let active := match t1.tw.partner with | some p => p.role == 1 | none => false
      let t2 := (t1.set (K 0x8600 4) 0xFF).set (K 0x8600 6) 0
      if active && t2.get (K 0x8600 3) != 1 then t2.takeover
      else { t2 with tw := { t2.tw with partner := none } }.event 0x1A 4 b

/-- Three intervals pass without a beat on a path. -/
def execBeatPathLoss (dt : Nat) (b : Fin 2) (s : State) : Res := done ((s.tick dt).pathLoss b)

/-! ### Claims (R444, R445, R457) -/

/-- The partner's claim falls: a standing claim of this device is alone; a granted handover is taken up (R445, R460). -/
def State.claimFall (s : State) : State :=
  let u : State := { s with tw := { s.tw with claimIn := false, claimInAt := s.now, blocked := false } }
  let t := if s.tw.blocked then u.causeGone 0x1A 0x0B (K 0x8600 5) else u
  if !t.twinOn then t
  else if t.tw.claimOut then t.claimHeld.showReady
  else if t.tw.offerIn && t.get (K 0x8600 3) == 2 then t.assertClaim.showReady
  else t.showReady

/-- CLAIM_IN falls. -/
def execClaimInFall (dt : Nat) (s : State) : Res := done ((s.tick dt).claimFall)

/-- The partner's claim rises: against a claim of this device younger than 50 µs it is simultaneous; an active device without a claim is
standby from here (R445). -/
def State.claimRise (s : State) : State :=
  let t : State := { s with tw := { s.tw with claimIn := true, claimInAt := s.now } }
  if !t.twinOn then t
  else if t.tw.claimOut then
    { t with tw := { t.tw with contested := decide (s.now ≤ s.tw.claimAt + 50000) } }.setLas
  else if t.get (K 0x8600 3) = 1 then t.handBack.becomeStandby
  else t

/-- CLAIM_IN rises. -/
def execClaimInRise (dt : Nat) (s : State) : Res := done ((s.tick dt).claimRise)

/-- CLAIM_IN has been low for the claim-release filter time with no offer pending: a capable standby claims (R457). -/
def State.releaseFilter (s : State) : State :=
  if !s.tw.claimIn && decide (s.tw.claimInAt + 18000 ≤ s.now) && !s.tw.offerIn then s.takeover else s

/-- The claim-release filter time ends. -/
def execClaimReleaseFilterExpiry (dt : Nat) (s : State) : Res := done ((s.tick dt).releaseFilter)

/-- After 50 µs of two claims, device 1 yields a simultaneous one, and a claim that met a standing one is withdrawn and the takeover
blocked (R445, R450). -/
def State.tieBreak (s : State) : State :=
  if !s.twinOn || !s.tw.claimOut || !s.tw.claimIn || decide (s.now < max s.tw.claimAt s.tw.claimInAt + 48000) then s
  else
    let drop : State := { s with tw := { s.tw with claimOut := false, contested := false, meets := false } }
    if s.tw.meets then
      let out := if s.get (K 0x8600 3) = 2 then drop else drop.becomeStandby
      (({ out with tw := { out.tw with blocked := true } }.stand 0x1A 0x0B (K 0x8600 5)).showReady)
    else if s.tw.contested && s.tw.ident == 1 then drop.becomeStandby
    else s

/-- The tie-break yield time ends. -/
def execTieBreakYield (dt : Nat) (s : State) : Res := done ((s.tick dt).tieBreak)

/-- No edge of BEAT_OUT for the claim watchdog time lowers CLAIM_OUT in hardware (R444). -/
def State.claimWatchdog (s : State) : State :=
  if !s.tw.single && decide (s.tw.lastEdge + 240000 ≤ s.now) then { s with tw := { s.tw with claimOut := false } }.setLas else s

/-- The claim watchdog time ends. -/
def execClaimWatchdog (dt : Nat) (s : State) : Res := done ((s.tick dt).claimWatchdog)

/-- Device 1 claims 20 ms after step 7 of BOOT if CLAIM_IN is still low (R454). -/
def State.deferredClaim (s : State) : State :=
  if s.twinOn && s.tw.ident == 1 && decide (7 ≤ s.sys.bootStep) && decide (s.tw.step7At + 20000000 ≤ s.now) && !s.tw.claimIn
      && !s.tw.claimOut && s.get (K 0x8600 3) == 0 then s.assertClaim
  else s

/-- The 20 ms of device 1 end. -/
def execDeferredClaim (dt : Nat) (s : State) : Res := done ((s.tick dt).deferredClaim)

/-- The takeover check: outputs read back, every JOIN MILESTONE acknowledged, Scan Guard sense (R459). `bad` is the source whose stage
fails its readback. [DEDUCED, log entry 136] -/
def State.takeoverCheck (s : State) (bad : Option Nat) : State :=
  if !s.twinOn || s.get (K 0x8600 3) != 1 then s else
  let late := ((List.range 8).filter s.epOn).find? fun e => (s.port e).unans.any fun u => u.typ == 4
  let guard := s.srcs.find? fun i => s.srcType i == 3 && s.get (K (0x4540 + s.act (K (0x4520 + i) 0x0A)) 7) != 2
  let src := match bad, late, guard with
    | some i, _, _ => some i
    | none, some e, _ => some (s.ep e 2)
    | none, none, g => g
  match src with
  | none => s
  | some i =>
    let t := (s.inc (K 0x8600 0x12)).stand 0x1A 9 i
    if capable (s.get (K 0x8600 6)) then t else t.roadblock (2 ^ (i % 4)) 2

/-- The takeover check of the new active device. -/
def execTakeoverCheck (dt : Nat) (bad : Option (Fin 4)) (s : State) : Res := done ((s.tick dt).takeoverCheck (bad.map Fin.val))

/-! ### Copies, signatures, bulk sync (R450–R455) -/

/-- A state copy: its header's configuration CRC, KSEQ and class of image, the Roadblock and torque-off latches, TSE, and the items of the
blocks (R451). -/
def State.copy (s : State) (frame cfg kseq cls rb torque : Nat) (body : CopyBody) : State :=
  if s.get (K 0x8600 3) ≠ 2 then s else
  let t := s.set (K 0x8600 0x11) frame
  let p : Partner := { (t.tw.partner.getD ⟨0, 2, 1, 0, frame, 0, 0, 0, 0⟩) with cfgCrc := cfg, kseq := kseq, cls := cls }
  let t1 : State := { t with tw := { t.tw with partner := some p, tse := body.tse % 16 } }
  let new := (List.range 4).foldl (fun m i => if bit rb i && !bit t1.latched i then setBit m i true else m) 0
  let t2 := if new = 0 then t1 else t1.roadblock new 2
  let ports := (List.range 4).filter fun a => bit torque a && !bit (t2.get (K 0x6000 3)) a
  let t3 := if ports.isEmpty then t2 else t2.torqueOff ports 1
  (t3.copyItems body).setTse.showReady

/-- A state copy arrives with a CRC that holds or not. [DESIGN CHOICE, log entry 131] -/
def execCopy (dt : Nat) (crcOk : Bool) (frame cfg kseq cls rb torque : Nat) (body : CopyBody) (s : State) : Res :=
  let t := s.tick dt
  done (if !crcOk then t.twlBad else if t.twinOn then t.copy frame cfg kseq cls rb torque body else t)

/-- A forwarded commit: armed for its landing frame, or for the next one when the commit milestone of that frame is past (R451). -/
def State.copyCommit (s : State) (landing item : Nat) (vals : List (Nat × Nat)) (doms : List (Nat × List Byte)) : State :=
  if s.get (K 0x8600 3) ≠ 2 then s
  else s.arm item vals doms (if seqNewer s.landingFrame landing then s.landingFrame else landing) false

/-- A COMMIT packet arrives. [DESIGN CHOICE, log entry 131] -/
def execCommit (dt : Nat) (crcOk : Bool) (landing item : Nat) (vals : List (Nat × Nat)) (doms : List (Nat × List Byte)) (s : State) : Res :=
  let t := s.tick dt
  done (if !crcOk then t.twlBad else if t.twinOn then t.copyCommit landing item vals doms else t)

/-- A SIGNATURE is compared with this device's own for the same frame (R453). [DEDUCED, log entry 134] -/
def State.compareSig (s : State) (frame : Nat) (words : List Nat) : State :=
  match mapGet s.tw.sigs frame with
  | none => s
  | some own =>
    let crcs (l : List Nat) : List Nat := l.map fun w => w / 2 ^ 32 % 2 ^ 32
    let digs (l : List Nat) : List Nat := l.map fun w => w % 2 ^ 32
    let t : State :=
      if crcs own = crcs words then { s with tw := { s.tw with sigRun := 0, agreed := s.tw.agreed + b2n (digs own == digs words) } }
      else if digs own ≠ digs words then { s with tw := { s.tw with sigRun := 0 } }.inc (K 0x8600 0x0F)
      else
        let n := s.tw.sigRun + 1
        ({ s with tw := { s.tw with sigRun := n, agreed := if 3 ≤ n then 0 else s.tw.agreed } }.inc (K 0x8600 0x0E)).event 0x1A 3 (K 0x8600 0x0E)
    t.showReady

/-- A SIGNATURE packet arrives. -/
def execSignature (dt : Nat) (head : Nat) (words : List Nat) (crc : Nat) (s : State) : Res :=
  let t := s.tick dt
  done (t.twlTake 4 head words crc 4 4 fun t => t.compareSig (head % 2 ^ 32) words)

/-- The Kerb image of the partner is whole: checked, and armed for its landing frame or the next one (R452). -/
def State.kerbFrom (s : State) (k : KerbRx) : State :=
  let b := k.bytes.take k.len
  let img := kerbImage b
  let t : State := { s with tw := { s.tw with kerb := none } }
  let good := img.kseq == k.kseq && img.crc == k.crc && crc32c (b.take (b.length - 4)) == k.crc && t.kerbForm b == 1
  if good then (t.kerbArm img (if seqNewer t.landingFrame k.landing then t.landingFrame else k.landing)).showReady
  else t.event 0x1A 3 (K 0x4100 5)

/-- A KERB packet at the standby: the first carries KSEQ, length and CRC (R448, R452). -/
def State.kerbPacket (s : State) (landing : Nat) (words : List Nat) : State :=
  let bytes (l : List Nat) : List Byte := l.flatMap wordBytes
  let rx : KerbRx := match s.tw.kerb with
    | some k => { k with bytes := k.bytes ++ bytes words }
    | none => ⟨nth 0 words 0 / 2 ^ 32, nth 0 words 0 % 2 ^ 32, nth 0 words 1 / 2 ^ 32, landing, bytes (words.drop 2)⟩
  let t : State := { s with tw := { s.tw with kerb := some rx } }
  if rx.len ≤ rx.bytes.length then t.kerbFrom rx else t

/-- A KERB packet arrives. -/
def execKerb (dt : Nat) (head : Nat) (words : List Nat) (crc : Nat) (s : State) : Res :=
  let t := s.tick dt
  done (t.twlTake 7 head words crc 1 512 fun t => if t.get (K 0x8600 3) = 2 then t.kerbPacket (head % 2 ^ 32) words else t)

/-- A segment of bulk sync (R448, R454). -/
def State.bulkSegment (s : State) (off : Nat) (words : List Nat) : State :=
  { s with tw := { s.tw with bulk := true, bulkSegs := mapPut s.tw.bulkSegs off words } }

/-- A BULK packet arrives. [DESIGN CHOICE, log entry 131] -/
def execBulk (dt : Nat) (head : Nat) (words : List Nat) (crc : Nat) (s : State) : Res :=
  let t := s.tick dt
  done (t.twlTake 6 head words crc 1 512 fun t => if t.get (K 0x8600 3) = 2 then t.bulkSegment (head % 2 ^ 32) words else t)

/-- Bulk sync is complete: the newcomer takes the partner's persistent configuration, tables and region contents as its own, in force at once but
for the entries that act at BOOT (R358), and by source the dose and ageing maps (R454, R455). The twin enable, strap and identity stay its own.
[DEDUCED, log entry 138] -/
def State.bulkDone (s : State) (vals : List (Nat × Nat)) (doms : List (Nat × List Byte)) (cells : List (Nat × Byte))
    (maps : List (List (Nat × Nat) × List (Nat × Nat))) : State :=
  if !s.tw.bulk || s.get (K 0x8600 3) != 2 then s
  else
    let keep := vals.filter fun p => p.1 != K 0x8600 1 && p.1 != K 0x8600 2
    let t : State := { s with dict := keep.foldl (fun m p => putVal m p.1 p.2) s.dict, doms := mapMerge s.doms doms }
    let t0 : State := { t with fs := { t.fs with mem := cells.foldl (fun m c => memPut m c.1 c.2) t.fs.mem } }
    let t1 := t0.land (keep.filter fun p => !bootKeys.contains p.1) doms
    let t2 := (List.range 4).foldl (fun t i =>
      let x := t.src i
      t.putSrc i { x with dose := (nth ([], []) maps i).1, again := (nth ([], []) maps i).2 }) t1
    { t2 with tw := { t2.tw with bulk := false, bulkSegs := [] } }.showReady

/-- Bulk sync completes. -/
def execBulkSyncComplete (dt : Nat) (vals : List (Nat × Nat)) (doms : List (Nat × List Byte)) (cells : List (Nat × Byte))
    (maps : List (List (Nat × Nat) × List (Nat × Nat))) (s : State) : Res :=
  done ((s.tick dt).inDomains [0x25] fun t => t.bulkDone vals doms cells maps)

/-! ### Planned handover (R460, R461) -/

/-- A planned handover is asked for: its offer goes with the next commit milestone. -/
def State.wantHandover (s : State) (drill : Bool) : State := { s with tw := { s.tw with wanted := true, drilling := drill } }

/-- Effect of a write to the handover command. -/
def effHandover : Effect := fun s _ =>
  match s.handoverRefused with
  | some r => (s, r)
  | none => (s.wantHandover false, ok)

/-- A write of 0x01 to the handover command. -/
def execHandoverCommand (dt : Nat) (rq : Rq) (s : State) : Res := done ((s.tick dt).command rq (K 0x8600 9) 1 effHandover)

/-- The swap drill is due: a planned handover, or another try in a minute (R461). [DEDUCED, log entry 137] -/
def State.swapDrill (s : State) : State :=
  let iv := s.get (K 0x8600 8)
  let due := match s.tw.drillAt with | some a => decide (a ≤ s.now) | none => true
  if !s.twinOn || iv = 0 || !due || s.get (K 0x8600 3) != 1 then s
  else if s.handoverRefused.isSome then
    { s with tw := { s.tw with drillAt := some (s.now + 60000000000) } }.set (K 0x8600 0x0D) 1
  else { s with tw := { s.tw with drillAt := some (s.now + iv * 60000000000) } }.wantHandover true

/-- The swap-drill timer. -/
def execSwapDrill (dt : Nat) (s : State) : Res := done ((s.tick dt).swapDrill)

/-- The form of a HANDOVER packet with an operation (R448). -/
def handoverIs (head op : Nat) : Bool := field head 31 24 == op

/-- An offer at the standby: granted when it is ready, else refused (R460). -/
def State.offer (s : State) (frame : Nat) : State :=
  let okay := s.mode == .standby && s.readiness == 0x3FF
  if okay then { s with tw := { s.tw with offerIn := true } }.sendTwl 5 0x02000000 [frame]
  else s.sendTwl 5 0x03000000 [frame]

/-- A HANDOVER offer arrives. -/
def execHandoverOffer (dt : Nat) (head : Nat) (words : List Nat) (crc : Nat) (s : State) : Res :=
  let t := s.tick dt
  done (t.twlTake 5 head words crc 1 1 fun t => if handoverIs head 1 && t.get (K 0x8600 3) == 2 then t.offer (nth 0 words 0) else t)

/-- A HANDOVER grant arrives: the claim is released at the frame milestone (R460). -/
def execHandoverGrant (dt : Nat) (head : Nat) (words : List Nat) (crc : Nat) (s : State) : Res :=
  let t := s.tick dt
  done (t.twlTake 5 head words crc 1 1 fun t => if handoverIs head 2 && t.tw.offerOut then { t with tw := { t.tw with granted := true } } else t)

/-- The handover ends without a change of roles (R460, R461). -/
def State.handoverEnds (s : State) : State :=
  let at_ := if s.tw.drilling then some (s.now + 60000000000) else s.tw.drillAt
  { s with tw := { s.tw with wanted := false, offerOut := false, granted := false, drilling := false, drillAt := at_ } }.set (K 0x8600 0x0D) 1

/-- A HANDOVER refuse arrives (R460). -/
def execHandoverRefuse (dt : Nat) (head : Nat) (words : List Nat) (crc : Nat) (s : State) : Res :=
  let t := s.tick dt
  done (t.twlTake 5 head words crc 1 1 fun t => if handoverIs head 3 && t.tw.offerOut then t.handoverEnds else t)

end Sys2Proof.Machine
end

