-- ==== Sys2Proof/Machine/Guardrail.lean ====
section
/-! DEFINITION. Guardrail (R412–R422, R564): consumed frames and their checks, commands and their results, deadlines, produced frames;
acknowledgement (R433). -/

namespace Sys2Proof.Machine

/-! ### Acknowledgement (R431–R433) -/

/-- A log entry whose latched flag is cleared. -/
def LogE.ack (e : LogE) : LogE := { e with latched := false }

/-- The log with an entry acknowledged. -/
def State.ackOne (s : State) (n : Nat) : State :=
  { s with safe := { s.safe with log := modNth none s.safe.log n fun e => e.map LogE.ack } }

/-- The log with every inactive entry acknowledged, those of safety records only through Guardrail. -/
def State.ackIdle (s : State) (guard : Bool) : State :=
  let one (x : LogE) : LogE := if !x.active && (guard || !x.safety) then x.ack else x
  let t : State := { s with safe := { s.safe with log := s.safe.log.map fun e => e.map one } }
  if guard || !bit (t.get (K 0x8100 6)) 1 then t.set (K 0x8100 6) 0 else t

/-- Log entry of a number; none for an empty one. -/
def State.logEntry (s : State) (n : Nat) : Option LogE := if n = 0 then none else nth none s.safe.log (n - 1)

/-- A DAP write of 0x8100:03 (R433). -/
def State.dapAck (s : State) (v : Nat) : State × Code :=
  if v = 0xFF then (s.ackIdle false, ok) else
  match s.logEntry v with
  | none => (s, (0x0301, 0))
  | some e => if e.safety then (s, (0x0205, 0)) else (s.ackOne (v - 1), ok)

/-- A Guardrail SAFE_ACK: CMDRES and the effect (R433, R564). -/
def State.safeAck (s : State) (n : Nat) : State × Nat :=
  if n = 0xFF then (s.ackIdle true, 0)
  else match s.logEntry n with
    | none => (s, 2)
    | some _ => (s.ackOne (n - 1), 0)

/-! ### Frames (R412–R416) -/

/-- A Guardrail frame as bytes: type, then the fields, with bytes that the command fixes at the head of the payload (R413). -/
def guardBytes (f : GFrame) (t : Nat) (pre : List Byte) : List Byte :=
  [BitVec.ofNat 8 t, f.ctl] ++ toBe 2 f.seq.toNat ++ toBe 4 f.texp.toNat ++ pre ++ f.payload ++ toBe 4 f.check.toNat ++ f.pad

/-- CHECK of a frame of a connection: over safety address, frame, configuration signature (R414). -/
def State.guardCheck (s : State) (n : Nat) (body : List Byte) : Nat :=
  crc32c (toBe 4 (s.act (K (0x1400 + n) 9)) ++ body ++ toBe 4 (s.act (K (0x1400 + n) 0x0A)))

/-- The consumer connection that a frame matches (R412). [DEDUCED, log entry 117] -/
def State.guardMatch (s : State) (src : GcSrc) : Option Nat :=
  (List.range 16).find? fun n =>
    let k := 0x1400 + n
    s.consumer n && match src with
      | .udp net hi lo port => s.act (K k 3) == 0 && bit (s.act (K k 8)) net && s.act (K k 5) == hi && s.act (K k 6) == lo && s.act (K k 7) == port
      | .can ctl ident => s.act (K k 3) == 0x10 + ctl && s.act (K k 4) == ident && s.act (K (0x7140 + ctl) 2) == 0

/-- A connection in operation names an identifier of a controller: frames with it are stored (R373). [DEDUCED, log entry 117] -/
def State.guardIdent (s : State) (ctl ident : Nat) : Bool :=
  (List.range 16).any fun n => s.get (K (0x1400 + n) 0x12) != 0 && s.act (K (0x1400 + n) 3) == 0x10 + ctl && s.act (K (0x1400 + n) 4) == ident

/-- Length agrees with GLEN and the transport (reason 0x01). -/
def guardLength (src : GcSrc) (b : List Byte) : Bool :=
  let size := 12 + byteAt b 1 % 64
  decide (byteAt b 1 % 64 ≤ 32) && decide (12 ≤ b.length) && match src with
    | .udp .. => b.length == size
    | .can .. => b.length == canLength size && (b.drop size).all fun x => x == 0

/-- Device time in µs, lower 32 bits. -/
def State.timeUs (s : State) : Nat := s.timeNs / 1000 % 2 ^ 32

/-- TEXP is accepted (R415). -/
def State.texpOk (s : State) (n texp : Nat) : Bool :=
  let mode := s.act (K (0x1400 + n) 0x0C)
  let lim := s.act (K (0x1400 + n) 0x0D)
  let d (a b : Nat) : Nat := (a + 2 ^ 32 - b) % 2 ^ 32
  if mode = 2 ∨ s.timeGood = false then texp == 0
  else if mode = 0 then decide (d texp s.timeUs ≤ lim)
  else decide (-1000 ≤ sgn 32 (d s.timeUs texp) ∧ sgn 32 (d s.timeUs texp) ≤ lim)

/-- The regions of a GLARE payload. -/
def glareRegions (p : List Byte) : List Region :=
  (List.range (byteAt p 1)).map fun n =>
    let o := 2 + 10 * n
    ⟨beAt p o 2, beAt p (o + 2) 2, beAt p (o + 4) 2, beAt p (o + 6) 2, beAt p (o + 8) 2⟩

/-- The payload is valid for its type; reserved fields read 0 (reason 0x07, R418). [DEDUCED, log entry 118] -/
def payloadOk (t : Nat) (p : List Byte) : Bool :=
  let maskOp := p.length == 2 && (byteAt p 0 == 1 || byteAt p 0 == 2) && decide (byteAt p 1 < 16)
  match t with
  | 1 => p.length == 6 && decide (byteAt p 2 ≤ 2) && decide (byteAt p 3 ≤ 1) && beAt p 4 2 == 0
  | 2 => decide (2 ≤ p.length) && decide (byteAt p 1 ≤ 3) && p.length == 2 + 10 * byteAt p 1 && decide (byteAt p 0 < 16) &&
      (glareRegions p).all fun g => decide (sgn 16 g.hr ≤ sgn 16 g.hl ∧ sgn 16 g.vb ≤ sgn 16 g.vt)
  | 3 => p.length == 2 && decide (byteAt p 0 < 16) && decide (1 ≤ byteAt p 1 ∧ byteAt p 1 ≤ 3)
  | 4 => p.length == 12
  | 5 | 6 => maskOp
  | 7 => decide (5 ≤ p.length ∧ p.length ≤ 12) && byteAt p 3 == 0 &&
      match findEnt (beAt p 0 3) with
      | some e => e.acc != .sw || p.length == 4 + e.ty.size
      | none => true
  | 8 => p.length == 2 && byteAt p 1 == 0
  | _ => false

/-- The checks of R416 in order: 0 when all hold, else the reason. -/
def State.guardReason (s : State) (n : Nat) (src : GcSrc) (b : List Byte) : Nat :=
  let t := byteAt b 0
  let glen := byteAt b 1 % 64
  let c := nth Conn.init s.safe.conns n
  let seqOk := match c.lastSeq with
    | some l =>
      let d := (beAt b 2 2 + 65536 - l) % 65536
      decide (1 ≤ d ∧ d ≤ s.act (K (0x1400 + n) 0x0F))
    | none => true
  if !guardLength src b then 1
  else if byteAt b 1 / 64 ≠ 0 then 2
  else if !(decide (1 ≤ t ∧ t ≤ 8) && s.permits n t) then 3
  else if s.guardCheck n (b.take (8 + glen)) ≠ beAt b (8 + glen) 4 then 4
  else if !seqOk then 5
  else if !s.texpOk n (beAt b 4 4) then 6
  else if !payloadOk t (slice b 8 glen) then 7 else 0

/-- Kind and ARG of the record of a refused frame, by the kind that fits its cause (R416, R427, R431). [DEDUCED, log entry 116] -/
def refusalKind (n reason : Nat) : Nat × Nat :=
  if reason = 4 then (3, K (0x1400 + n) 0x15) else if reason = 5 ∨ reason = 6 then (5, n) else (6, K (0x1400 + n) 0x15)

/-- A refused frame: counted, with its reason; it breaks a run of accepted frames (R416, R417). [DEDUCED, log entry 116] -/
def State.guardRefuse (s : State) (n reason : Nat) : State :=
  let k := 0x1400 + n
  let c := nth Conn.init s.safe.conns n
  let t : State := { s with safe := { s.safe with conns := putNth Conn.init s.safe.conns n { c with recover := 0 } } }
  let kd := refusalKind n reason
  ((t.inc (K k 0x14)).set (K k 0x15) reason).event 0x11 kd.1 kd.2

/-- An accepted frame restarts the deadline; a waiting connection becomes VALID with its first frame, a LOST one after its run of frames
that each follow the one before (R417). [DEDUCED, log entry 114] -/
def State.guardAccept (s : State) (n seq : Nat) : State :=
  let k := 0x1400 + n
  let c := nth Conn.init s.safe.conns n
  let st := s.get (K k 0x12)
  let next := match c.lastSeq with | some l => decide ((seq + 65536 - l) % 65536 = 1) | none => false
  let run := if st = 3 then (if next then c.recover + 1 else 0) else 0
  let valid := decide (st ≠ 3) || decide (s.act (K k 0x10) ≤ run)
  let c1 : Conn := { c with lastSeq := some seq, since := s.now, recover := if valid then 0 else run }
  let t : State := { s with safe := { s.safe with conns := putNth Conn.init s.safe.conns n c1 } }
  let t1 := (t.inc (K k 0x13)).count 10 2 1
  if valid then ((t1.set (K k 0x12) 2).causeGone 0x11 4 n).showValid else t1

/-! ### What the SSV combines (R419, R420) -/

/-- The inputs are combined anew, and the decisions that rest on them follow (R419–R421). -/
def State.guardInputs (s : State) : State := s.combineVehicle.reviseSoon

/-! ### Commands (R418, R564) -/

/-- A release of torque off on the ports of a mask: the result and the effect (R398). [DEDUCED, log entry 88] -/
def State.guardTorqueRelease (s : State) (mask : Nat) : State × Nat :=
  let r := s.torqueRelease mask
  (r.1, if r.2 then 5 else 0)

/-- A release of a Roadblock on the sources of a mask (R397). -/
def State.guardRelease (s : State) (mask : Nat) : State × Nat :=
  let r := s.rbRelease mask
  (r.1, if r.2 then 5 else 0)

/-- A request of torque off through Guardrail (R319). -/
def State.guardTorque (s : State) (mask : Nat) : State :=
  (s.set (K 0x6000 3) (s.get (K 0x6000 3) ||| mask)).torqueOff ((List.range 4).filter fun a => bit mask a) 1

/-- A request of a Roadblock through Guardrail (R394). -/
def State.guardRoadblock (s : State) (mask : Nat) : State := if mask = 0 then s else s.roadblock mask 2

/-- A write of an SW entry (R564). [DEDUCED, log entries 88, 119] -/
def State.swWrite (s : State) (k : Nat) (v : List Byte) : State × Nat :=
  match findEnt k with
  | none => (s, 1)
  | some e =>
    if e.acc ≠ .sw then (s, 1)
    else if !rangeOk e (be v) then (s, 2)
    else if k = K 0x8010 3 then (s.guardRoadblock (be v), 0)
    else if k = K 0x8010 4 then s.guardRelease (be v)
    else if k = K 0x6000 3 then (s.guardTorque (be v), 0)
    else if k = K 0x6000 4 then s.guardTorqueRelease (be v)
    else ((s.set k (be v)).reviseSoon, 0)

/-- The effect of an accepted frame, with CMDRES of a command (R418, R564). [DEDUCED, log entries 115, 120] -/
def State.guardEffect (s : State) (n t : Nat) (p : List Byte) : State × Option Nat :=
  let c := nth Conn.init s.safe.conns n
  let put (c1 : Conn) : State := { s with safe := { s.safe with conns := putNth Conn.init s.safe.conns n c1 } }
  let cmd (r : State × Nat) : State × Option Nat := (r.1, some r.2)
  match t with
  | 1 => (put { c with vehicle := some (beAt p 0 2, byteAt p 2, byteAt p 3) }, none)
  | 2 => (put { c with glareMask := byteAt p 0, regions := glareRegions p }, none)
  | 3 =>
    let beam := (List.range 4).map fun i => if bit (byteAt p 0) i then byteAt p 1 else nth 0 c.beam i
    (put { c with beam := beam }, some 0)
  | 4 =>
    if s.get (K 0x8600 3) = 2 then (s, none)
    else
      let r := s.kerbLoad (beAt p 0 4) (beAt p 4 4) (beAt p 8 4)
      (r.1, some (if r.2 then 0 else 4))
  | 5 => if byteAt p 0 = 1 then (s.guardRoadblock (byteAt p 1), some 0) else cmd (s.guardRelease (byteAt p 1))
  | 6 => if byteAt p 0 = 1 then (s.guardTorque (byteAt p 1), some 0) else cmd (s.guardTorqueRelease (byteAt p 1))
  | 7 => cmd (s.swWrite (beAt p 0 3) (p.drop 4))
  | 8 => cmd (s.safeAck (byteAt p 0))
  | _ => (s, none)

/-- A Guardrail frame arrives (R28, R412, R416, R417, R421): taken while its port or controller is up, which needs step 5 of R56, counted when it
matches no connection, checked, and its effect made. A CAN frame whose identifier no connection names takes no buffer (R373).
[DEDUCED, log entry 115] -/
def State.guardIn (s : State) (src : GcSrc) (b : List Byte) : State :=
  if !s.carries src then s else
  match s.guardMatch src with
  | none => match src with
    | .udp .. => s.inc (K 0x1410 2)
    | .can ctl ident => if s.guardIdent ctl ident then s.inc (K 0x1410 2) else s
  | some n =>
    let r := s.guardReason n src b
    if r ≠ 0 then s.guardRefuse n r
    else
      let seq := beAt b 2 2
      let (t, res) := (s.guardAccept n seq).guardEffect n (byteAt b 0) (slice b 8 (byteAt b 1 % 64))
      let t1 : State := match res with
        | some x => { t with safe := { t.safe with cmdRes := x, cmdConn := n, cmdSeq := seq } }
        | none => t
      t1.guardInputs

/-- A VEHICLE frame. -/
def execVehicle (dt : Nat) (src : GcSrc) (f : GFrame) (s : State) : Res := done ((s.tick dt).guardIn src (guardBytes f 1 []))

/-- A GLARE frame. -/
def execGlare (dt : Nat) (src : GcSrc) (f : GFrame) (s : State) : Res := done ((s.tick dt).guardIn src (guardBytes f 2 []))

/-- A BEAM_MODE frame. -/
def execBeamMode (dt : Nat) (src : GcSrc) (f : GFrame) (s : State) : Res := done ((s.tick dt).guardIn src (guardBytes f 3 []))

/-- A KERB_LOAD frame (R141). -/
def execKerbLoad (dt : Nat) (src : GcSrc) (f : GFrame) (s : State) : Res := done ((s.tick dt).guardIn src (guardBytes f 4 []))

/-- A ROADBLOCK frame with operation 0x01. -/
def execRoadblockRequest (dt : Nat) (src : GcSrc) (f : GFrame) (s : State) : Res := done ((s.tick dt).guardIn src (guardBytes f 5 [1]))

/-- A ROADBLOCK frame with operation 0x02. -/
def execRoadblockRelease (dt : Nat) (src : GcSrc) (f : GFrame) (s : State) : Res := done ((s.tick dt).guardIn src (guardBytes f 5 [2]))

/-- A TORQUE frame with operation 0x01. -/
def execTorqueRequest (dt : Nat) (src : GcSrc) (f : GFrame) (s : State) : Res := done ((s.tick dt).guardIn src (guardBytes f 6 [1]))

/-- A TORQUE frame with operation 0x02. -/
def execTorqueRelease (dt : Nat) (src : GcSrc) (f : GFrame) (s : State) : Res := done ((s.tick dt).guardIn src (guardBytes f 6 [2]))

/-- A SW_WRITE frame. -/
def execSwWrite (dt : Nat) (src : GcSrc) (f : GFrame) (s : State) : Res := done ((s.tick dt).guardIn src (guardBytes f 7 []))

/-- A SAFE_ACK frame. -/
def execSafeAck (dt : Nat) (src : GcSrc) (f : GFrame) (s : State) : Res := done ((s.tick dt).guardIn src (guardBytes f 8 []))

/-- A SAFE_ACK frame that names every inactive entry. -/
def execSafeAckAll (dt : Nat) (src : GcSrc) (f : GFrame) (s : State) : Res := done ((s.tick dt).guardIn src (guardBytes f 8 [0xFF]))

/-! ### Deadlines and produced frames (R417, R420, R422) -/

/-- The receive deadline of a VALID connection passes: it is LOST and its fail-safe values apply. -/
def State.guardLost (s : State) (n : Nat) : State :=
  let k := 0x1400 + n
  let c := nth Conn.init s.safe.conns n
  if s.consumer n && s.connValid n && decide (c.since + s.act (K k 0x0E) * 1000000 ≤ s.now) then
    let c1 : Conn := { c with lastSeq := none, recover := 0 }
    let t : State := { s with safe := { s.safe with conns := putNth Conn.init s.safe.conns n c1 } }
    ((((t.set (K k 0x12) 3).inc (K k 0x16)).stand 0x11 4 n).showValid).guardInputs
  else s

/-- A deadline passes. -/
def execGuardrailDeadline (dt : Nat) (n : Fin 16) (s : State) : Res := done ((s.tick dt).guardLost n)

/-- The STATUS payload (R422). -/
def State.statusPayload (s : State) : List Byte :=
  let two (f : Nat → Nat) : Nat := (List.range 4).foldl (fun a i => a + f i % 4 * 4 ^ i) 0
  let bad := (s.safe.log.filter fun e => match e with | some x => x.safety && (x.active || x.latched) | none => false).length
  let lost := (List.range 16).foldl (fun m n => if s.consumer n && s.get (K (0x1400 + n) 0x12) == 3 then m + 2 ^ n else m) 0
  toBe 1 s.mode.code ++ toBe 1 (s.get (K 0x8400 1)) ++ toBe 1 (s.latched % 16) ++ toBe 1 (two fun i => (nth Mask.clear s.safe.masks i).beam)
    ++ toBe 1 (two fun i => s.get (K (0x8200 + i) 0x0C)) ++ toBe 1 (s.get (K 0x4540 7) % 16 + s.get (K 0x4541 7) % 16 * 16)
    ++ toBe 1 (s.get (K 0x6000 5) % 16) ++ toBe 1 (s.get (K 0x2500 9)) ++ toBe 1 (s.get (K 0x8600 3)) ++ toBe 1 (satN 255 bad)
    ++ toBe 2 lost ++ toBe 1 s.safe.cmdRes ++ toBe 1 (s.safe.cmdConn % 16) ++ toBe 2 s.safe.cmdSeq

/-- The frame that a producing connection sends now (R413–R415). -/
def State.statusFrame (s : State) (n : Nat) : List Byte :=
  let k := 0x1400 + n
  let texp := match s.act (K k 0x0C) with
    | 0 => (s.timeUs + s.act (K k 0x0D)) % 2 ^ 32
    | 1 => s.timeUs
    | _ => 0
  let body := toBe 1 0x81 ++ toBe 1 16 ++ toBe 2 (nth Conn.init s.safe.conns n).txSeq ++ toBe 4 texp ++ s.statusPayload
  body ++ toBe 4 (s.guardCheck n body)

/-- A producing connection sends its frame at each period (R412, R417). -/
def State.produce (s : State) (n : Nat) : State :=
  let k := 0x1400 + n
  let c := nth Conn.init s.safe.conns n
  if s.ssvOn && decide (s.get (K k 0x12) ≠ 0) && s.act (K k 2) == 1 && decide (c.since + s.act (K k 0x0E) * 1000000 ≤ s.now) then
    let b := s.statusFrame n
    let tr := s.act (K k 3)
    let c1 : Conn := { c with since := s.now, txSeq := (c.txSeq + 1) % 65536 }
    let t : State := { s with safe := { s.safe with conns := putNth Conn.init s.safe.conns n c1 } }
    if tr = 0 then
      let tx : EthTx := ⟨1, 0, false, t.act (K k 5) * 2 ^ 64 + t.act (K k 6), t.act (K k 7), b, none⟩
      ((List.range 2).filter fun p => bit (t.act (K k 8)) p).foldl (fun u p =>
        { u with net := { u.net with ethTx := modNth [] u.net.ethTx p fun q => q ++ [tx] } }) t
    else
      let fr : CanTx := ⟨true, t.act (K k 4), b ++ List.replicate (canLength b.length - b.length) 0⟩
      { t with net := { t.net with canTx := modNth [] t.net.canTx (tr - 0x10) fun q => q ++ [fr] } }
  else s

/-- A period of a producing connection ends. -/
def execProducedFrameSend (dt : Nat) (n : Fin 16) (s : State) : Res := done ((s.tick dt).produce n)

end Sys2Proof.Machine
end

