-- ==== Sys2Proof/Machine/Faults.lean ====
section
/-! DEFINITION. Fault collection (R427–R433), ALIVE and the voter (R409, R410, R434), the ROADBLOCK_N pin (R394–R397, R557), and the
diagnostics of R425 and R426. -/

namespace Sys2Proof.Machine

/-! ### ROADBLOCK_N -/

/-- Both ROADBLOCK_N balls read asserted (R554). -/
def State.ballsAsserted (s : State) : Bool := nth false s.pins.rbBalls 0 && nth false s.pins.rbBalls 1

/-- EXTEST or CLAMP is in force and takes effect: the boundary cells drive the balls (R554). -/
def State.cellsDrive (s : State) : Bool := (s.pins.jtag == 3 || s.pins.jtag == 4) && s.ballsAsserted

/-- The balls go to the boundary cells, or back to their blocks (R554). -/
def State.boundaryMoved (s : State) (was : Bool) : State :=
  if s.cellsDrive = was then s else s.emit (.boundary (if s.cellsDrive then s.pins.cells else []))

/-- The two balls after their filters: since when they differ (R557); the record of a difference ends when they agree. -/
def State.ballsMoved (s : State) : State :=
  let d := nth false s.pins.rbBalls 0 != nth false s.pins.rbBalls 1
  if d then { s with pins := { s.pins with ballsDiffer := some (s.pins.ballsDiffer.getD s.now) } }
  else
    let t : State := { s with pins := { s.pins with ballsDiffer := none } }
    t.causeGone 0x12 6 (K 0x8010 6)

/-- An accepted low pulse at a ball latches a Roadblock of the pin-mask sources (R394, R557). -/
def State.rbAssert (s : State) (ball : Nat) : State :=
  let was := s.rbPin
  let t : State := { s with pins := { s.pins with rbBalls := putNth false s.pins.rbBalls ball true } }
  let u := ((t.ballsMoved).boundaryMoved s.cellsDrive).set (K 0x8010 6) 1
  if was || s.pwr.inReset then u
  else
    let m := u.get (K 0x8010 2)
    if m = 0 then u else u.roadblock m 1

/-- A write of the pin mask: a source that joins it while ROADBLOCK_N is low comes under the trigger (R394). -/
def effPinMask : Effect := fun s v =>
  let t := s.set (K 0x8010 2) v
  let new := (List.range 4).foldl (fun m i => if bit v i && !bit t.latched i then m + 2 ^ i else m) 0
  (if s.rbPin && new != 0 then t.roadblock new 1 else t, ok)

/-- ROADBLOCK_N low is accepted at a ball: 0 logic die, 1 power die. -/
def execRoadblockNAssert (dt : Nat) (ball : Fin 2) (s : State) : Res := done ((s.tick dt).rbAssert ball)

/-- ROADBLOCK_N is high again at a ball after its filter (R397, R557). -/
def State.rbRise (s : State) (ball : Nat) : State :=
  let t : State := { s with pins := { s.pins with rbBalls := putNth false s.pins.rbBalls ball false } }
  let u := (t.ballsMoved).boundaryMoved s.cellsDrive
  if u.rbPin then u
  else
    let v : State := { u with safe := { u.safe with rbHighSince := u.now } }
    v.set (K 0x8010 6) 0

/-- ROADBLOCK_N rises at a ball. -/
def execRoadblockNRelease (dt : Nat) (ball : Fin 2) (s : State) : Res := done ((s.tick dt).rbRise ball)

/-- The balls have differed for 20 µs (R557). [DEDUCED, log entry 125] -/
def State.ballsCheck (s : State) : State :=
  match s.pins.ballsDiffer with
  | some a => if a + 20000 ≤ s.now then s.stand 0x12 6 (K 0x8010 6) else s
  | none => s

/-- The difference of the two balls is judged. -/
def execRoadblockBallMismatch (dt : Nat) (s : State) : Res := done ((s.tick dt).ballsCheck)

/-- The readback of a Roadblock path differs from its command for 2 µs; ARG names the path (R395). [DEDUCED, log entry 125] -/
def execRoadblockPathMismatch (dt : Nat) (path : Fin 2) (s : State) : Res :=
  done (((s.tick dt).inc (K 0x8010 7)).stand 0x12 9 (path + 1))

/-! ### Records, causes, acknowledgement and rules -/

/-- A block reports a fault (R427, R430); in reset no block runs. -/
def execFaultRecord (dt : Nat) (src kind : Byte) (arg : Word32) (standing : Bool) (s : State) : Res :=
  let t := s.tick dt
  done (if t.pwr.inReset then t else t.record src.toNat kind.toNat arg.toNat standing)

/-- The cause of a record is gone (R431); the readback of ALIVE agrees again when its record's cause is gone (R434).
[DEDUCED, log entry 127] -/
def State.causeCleared (s : State) (src kind arg : Nat) : State :=
  let t := s.causeGone src kind arg
  if src = 0x1F ∧ kind = 9 then { t with safe := { t.safe with aliveReadback := false } } else t

/-- A cause goes. -/
def execFaultCauseCleared (dt : Nat) (src kind : Byte) (arg : Word32) (s : State) : Res :=
  done ((s.tick dt).causeCleared src.toNat kind.toNat arg.toNat)

/-- The effect of a write of 0x8100:03 (R433). -/
def effAcknowledge : Effect := fun s v => s.dapAck v

/-- A DAP acknowledge of one entry. -/
def execFaultAcknowledge (dt : Nat) (rq : Rq) (n : Nat) (s : State) : Res := done ((s.tick dt).command rq (K 0x8100 3) n effAcknowledge)

/-- A DAP acknowledge of every inactive entry. -/
def execFaultAcknowledgeAll (dt : Nat) (rq : Rq) (s : State) : Res := done ((s.tick dt).command rq (K 0x8100 3) 0xFF effAcknowledge)

/-- A write of rule n: refused for a safety rule, for SAFETY, and for BLOCK of a block that has no block reset (R430). -/
def effRule (n : Nat) : Effect := fun s v =>
  let k := K 0x8120 (n + 1)
  if bit (s.get k) 6 || bit v 6 || (bit v 2 && !([0x01, 0x06, 0x14, 0x15, 0x1B, 0x1D].contains (field v 31 24))) then (s, (0x0301, 0))
  else (s.set k v, ok)

/-- A rule is written. -/
def execRule (dt : Nat) (rq : Rq) (n : Fin 64) (v : Nat) (s : State) : Res := done ((s.tick dt).command rq (K 0x8120 (n + 1)) v (effRule n))

/-! ### The voter and ALIVE -/

/-- Cores in the vote that gave the voted value in time. -/
def State.agreeing (s : State) (votes : Nat) : List Nat := (List.range 3).filter fun c => nth false s.safe.cores c && bit votes c

/-- Cores in the vote that did not. -/
def State.disagreeing (s : State) (votes : Nat) : List Nat := (List.range 3).filter fun c => nth false s.safe.cores c && !bit votes c

/-- The two remaining cores disagree (R410): Roadblock of all sources, and the record with bit 31 of ARG. [DEDUCED, log entries 122, 128] -/
def State.voterFails (s : State) : State :=
  if s.safe.voterFailed then s
  else
    let t : State := { s with safe := { s.safe with voterFailed := true } }
    (((t.inc (K 0x8300 7)).set (K 0x8300 1) 3).roadblock 15 4).event 0x10 0x0F (2 ^ 31)

/-- A core that disagrees is reset and leaves the vote until it is resynchronised (R410). [DEDUCED, log entry 123] -/
def State.dropCore (s : State) (c : Nat) : State :=
  let t : State := { s with safe := { s.safe with cores := putNth false s.safe.cores c false } }
  ((t.inc (K 0x8300 7)).set (K 0x8300 1) 1).event 0x10 0x0F c

/-- A voted toggle reaches the FCOL, which passes it on while no stop is in force (R434). [DEDUCED, log entries 122, 203] -/
def State.toggle (s : State) : State :=
  let t : State := { s with safe := { s.safe with lastToggle := s.now, silent := false } }
  let u := if s.safe.silent then t.causeGone 0x1F 4 0 else t
  if u.settle.aliveStop ≠ 0 then u
  else
    let p := !u.safe.aliveP
    let v : State := { u with safe := { u.safe with aliveP := p, aliveN := !p } }
    (((v.set (K 0x8400 1) 1).set (K 0x8400 2) 0).emit (.pin "ALIVE_P" p)).emit (.pin "ALIVE_N" (!p))

/-- The outputs of the cores for one voted value (R409, R410): `votes` has a bit for each core that gave it in time.
[DEDUCED, log entry 203] -/
def State.vote (s : State) (votes : Nat) : State :=
  if !s.ssvOn || s.safe.voterFailed then s
  else if 2 ≤ (s.agreeing votes).length then (s.disagreeing votes).foldl (fun t c => t.dropCore c) s
  else if (s.agreeing votes).isEmpty then s
  else s.voterFails

/-- The outputs of the cores for a toggle, a half period after the last one, are voted, and the voted toggle is passed on (R409, R410, R434).
[DEDUCED, log entry 203] -/
def State.voteToggle (s : State) (votes : Nat) : State :=
  if !s.ssvOn || s.safe.voterFailed || decide (s.now < s.safe.lastToggle + 495000) then s
  else if 2 ≤ (s.agreeing votes).length then (s.vote votes).toggle
  else s.vote votes

/-- A toggle of ALIVE is due. The votes are those of every voted output since the toggle before, in their order, and the toggle's own last (R409).
[DEDUCED, log entry 203] -/
def execAliveToggle (dt : Nat) (votes : List (Fin 8)) (s : State) : Res :=
  let t := s.tick dt
  done (match votes.reverse with
    | [] => t
    | v :: r => (r.reverse.foldl (fun u x => u.vote x.val) t).voteToggle v)

/-- A core that a rolling restart has restarted rejoins the vote, and the next one leaves it (R484). [DEDUCED, log entry 123] -/
def State.rollCore (s : State) (r : Roll) : State :=
  let t : State := { s with upd := { s.upd with roll := some { r with step := r.step + 1 } } }
  if r.step = 7 then t.set (K 0x8300 1) 0
  else { t.set (K 0x8300 1) 2 with safe := { t.safe with cores := putNth false t.safe.cores (6 - r.step) false } }

/-- A core rejoins the vote (R410); the resynchronisations of the last 24 h are counted against the limit, those of a rolling restart
apart (R484). [DEDUCED, log entry 123] -/
def State.coreRejoins (s : State) (c : Nat) : State :=
  if nth false s.safe.cores c || s.safe.voterFailed then s
  else
    let t : State := { s with safe := { s.safe with cores := putNth false s.safe.cores c true } }
    let all := t.safe.cores.all id
    let t1 := (if all then t.set (K 0x8300 1) 0 else t).set (K 0x8300 4) c
    let rolled := match s.upd.roll with | some r => decide (5 ≤ r.step ∧ r.step ≤ 7 ∧ c + r.step = 7) | none => false
    match rolled, s.upd.roll with
    | true, some r => t1.rollCore r
    | _, _ =>
      let past := (t1.safe.resyncs.filter fun a => decide (t1.now < a + 86400000000000)) ++ [t1.now]
      let t2 : State := { t1 with safe := { t1.safe with resyncs := past } }
      let t3 := t2.inc (K 0x8300 3)
      if t3.get (K 0x8300 2) < past.length then t3.event 0x10 0x12 past.length else t3

/-- A resynchronisation ends. -/
def execCoreResyncComplete (dt : Nat) (c : Fin 3) (s : State) : Res := done ((s.tick dt).coreRejoins c)

/-- No voted toggle has come for 600 µs (R434). [DEDUCED, log entry 124] -/
def State.silence (s : State) : State :=
  if s.ssvOn && !s.safe.silent && decide (s.safe.lastToggle + 600000 ≤ s.now) then
    let t : State := { s with safe := { s.safe with silent := true } }
    t.stand 0x1F 4 0
  else s

/-- The voted toggles are overdue. -/
def execAliveSilence (dt : Nat) (s : State) : Res := done ((s.tick dt).silence)

/-- The readback of ALIVE differs from the driven level for 2 µs: 0 ALIVE_P, 1 ALIVE_N (R434). [DEDUCED, log entry 124] -/
def execAliveReadbackMismatch (dt : Nat) (pin : Fin 2) (s : State) : Res :=
  let t := s.tick dt
  let u : State := { t with safe := { t.safe with aliveReadback := true } }
  done ((u.inc (K 0x8400 4)).stand 0x1F 9 pin)

/-! ### Diagnostics -/

/-- Blocks whose active configuration is checked: BGE, PXC, SOU, PTU, SKB, LPE (R425, R428). -/
def checkedBlocks : List Nat := [3, 4, 5, 7, 9, 0x0A]

/-- The CRC of each active configuration is compared with the value of its landing; `bad` names the blocks whose registers differ, with
the entry that does (R425). [DEDUCED, log entry 126] -/
def State.configCheck (s : State) (bad : List (Nat × Nat)) : State :=
  let found := bad.map fun b => (nth 3 checkedBlocks b.1, b.2 % 2 ^ 32)
  let old := s.safe.log.filterMap fun e => match e with
    | some x => if x.active && x.kind == 0x17 && checkedBlocks.contains x.src && !found.contains (x.src, x.arg) then some (x.src, x.arg) else none
    | none => none
  let t := old.foldl (fun t p => t.causeGone p.1 0x17 p.2) s
  found.foldl (fun t p => if t.logActive p.1 0x17 p.2 then t else t.stand p.1 0x17 p.2) t

/-- The 10 ms check of the active configurations. -/
def execConfigurationIntegrityCheck (dt : Nat) (bad : List (Fin 6 × Nat)) (s : State) : Res :=
  done ((s.tick dt).configCheck (bad.map fun b => (b.1.val, b.2)))

/-- Block of each latent test, in the order of R426. -/
def latentBlocks : List Nat := [0x10, 0x12, 0x12, 0x0B, 0x08, 0x0F, 0x1F]

/-- What the latent tests do to the light in operation (R426): the laser enables fall for less than 0.5 µs, and the reference pulses of a half-period
of each scanner are taken. [DEDUCED, log entry 126] -/
def State.latentPulses (s : State) : State :=
  let las := (List.range 4).filter (bit s.pins.las)
  let t : State := { s with out := s.out ++ s.lasFalls ++ las.map fun p => .pin (lasName p) true }
  (t.srcs.filter fun i => t.srcType i == 3 && t.emits i).foldl (fun t i => t.putPtu i { t.ptu i with tested := true }) t

/-- The latent tests run (R426): from step 4 of R56, first at start-up and then at their interval, the ALIVE stop only before step 8; `failed` has
a bit for each test that fails. [DEDUCED, log entry 126] -/
def State.latentTests (s : State) (failed : Nat) : State :=
  let due := match s.safe.latentAt with | some a => decide (a + s.get (K 0x8500 1) * 3600000000000 ≤ s.now) | none => true
  if !s.ssvOn || !due then s
  else
    let start := decide (s.mode = .boot ∧ s.sys.bootStep < 8)
    let tests := (List.range 7).filter fun n => decide (n < 6) || start
    let s0 : State := { s with safe := { s.safe with latentAt := some s.now } }
    let t := (((s0.set (K 0x8500 2) s.timeNs).inc (K 0x8500 4)).set (K 0x8500 3)
      (tests.foldl (fun m n => if bit failed n then m + 2 ^ n else m) 0)).latentPulses
    tests.foldl (fun t n =>
      let b := nth 0 latentBlocks n
      if bit failed n then t.stand b 0x15 n else t.causeGone b 0x15 n) t

/-- The latent tests run. -/
def execLatentTest (dt : Nat) (failed : Fin 128) (s : State) : Res := done ((s.tick dt).latentTests failed)

end Sys2Proof.Machine
end

