-- ==== Sys2Proof/Machine/Time.lean ====
section
/-! DEFINITION. The Time Unit and the time-pulse outputs (R375–R384). -/

namespace Sys2Proof.Machine

/-- The state with the Time Unit replaced. -/
def State.putTmu (s : State) (x : Tmu) : State := { s with net := { s.net with tmu := x } }

/-- A time-pulse output. -/
def State.tpo (s : State) (n : Nat) : Tpo := nth Tpo.init s.net.tpo n

/-- The state with a time-pulse output replaced. -/
def State.putTpo (s : State) (n : Nat) (x : Tpo) : State := { s with net := { s.net with tpo := putNth Tpo.init s.net.tpo n x } }

/-- The line mode is in force: frames are forwarded and Sync is relayed from step 5 of R56 (R363, R364). -/
def State.lineUp (s : State) : Bool :=
  s.act (K 0x7110 7) == 1 && s.domState 0x20 == 0 && decide (5 ≤ s.sys.bootStep) && !s.pwr.inReset

/-- The slave port in force, if any (R376). -/
def State.slavePort (s : State) : Option Nat := if s.act (K 0x7180 3) < 2 then some (s.act (K 0x7180 3)) else none

/-! ### Time-pulse outputs (R383, R384) -/

/-- The first start + k × period at or after a time. [DEDUCED, log entry 113] -/
def pulseAfter (start period t : Nat) : Nat := if t ≤ start then start else start + ceilDiv (t - start) period * period

/-- Bits 0 and 1 of the status: a first pulse is awaited; pulses run. -/
def State.showTpo (s : State) (n : Nat) : State :=
  let x := s.tpo n
  let run := x.endAt.isSome || (s.get (K (0x71A0 + n) 1) == 2 && match x.next with | some a => a != x.start | none => false)
  (s.setFlag (K (0x71A0 + n) 6) 0 (x.next.isSome && !run)).setFlag (K (0x71A0 + n) 6) 1 run

/-- The mode of an output is written (R383): the parameters are read, the ball takes its idle level, and TPO3 claims or frees record 0x9A. -/
def State.tpoMode (s : State) (n v : Nat) : State × Code :=
  let k := 0x71A0 + n
  let t := s.timeNs
  let start := s.get (K k 2)
  let period := s.get (K k 3)
  if v = 0 then
    let u := (s.set (K k 1) 0).putTpo n Tpo.init
    ((if n = 3 then u.unclaim [0x9A] else u).set (K k 6) 0 |>.emit (.pin ("TPO" ++ toString n) (s.get (K k 5) == 1)), ok)
  else if n = 3 ∧ (s.claimBlock [0x9A] 0x603).isSome = true then (s, (0x0402, 0x9A))
  else if v = 1 ∧ start < t + 10000 then (s, (0x0301, 0))
  else
    let x : Tpo := { start := start, period := period, width := s.get (K k 4), low := s.get (K k 5) == 1,
                     next := some (if v = 1 then start else pulseAfter start period t), endAt := none }
    let u := ((s.set (K k 1) v).putTpo n x).set (K k 6) 0
    (((if n = 3 then u.claim [0x9A] 0x603 else u).showTpo n).emit (.pin ("TPO" ++ toString n) x.low), ok)

/-- Effect of a write of the mode. -/
def effTpoMode (n : Nat) : Effect := fun s v => s.tpoMode n v

/-- Effect of a write of another parameter: refused while the mode is not 0x00 (R383). [DEDUCED, log entry 112] -/
def effTpoParam (k : Nat) : Effect := fun s v => if s.get (K (k / 256) 1) = 0 then (s.set k v, ok) else (s, (0x0402, 0))

/-- Mode 0x01 is written. -/
def execOneShot (dt : Nat) (rq : Rq) (n : Fin 4) (s : State) : Res := done ((s.tick dt).command rq (K (0x71A0 + n) 1) 1 (effTpoMode n))

/-- Mode 0x02 is written. -/
def execPeriodic (dt : Nat) (rq : Rq) (n : Fin 4) (s : State) : Res := done ((s.tick dt).command rq (K (0x71A0 + n) 1) 2 (effTpoMode n))

/-- Mode 0x00 is written. -/
def execTpoOff (dt : Nat) (rq : Rq) (n : Fin 4) (s : State) : Res := done ((s.tick dt).command rq (K (0x71A0 + n) 1) 0 (effTpoMode n))

/-- A scheduled edge of an output: the end of a pulse in progress, or the start of the next one (R383, R384). [DEDUCED, log entry 112] -/
def State.tpoPulse (s : State) (n : Nat) : State :=
  let x := s.tpo n
  let name := "TPO" ++ toString n
  let ended := match x.endAt with | some e => decide (e ≤ s.timeNs) | none => false
  let t := if ended then (s.putTpo n { x with endAt := none }).emit (.pin name x.low) else s
  let y := t.tpo n
  let u := match y.next with
    | some a =>
      if a ≤ t.timeNs then
        let nx : Option Nat := if t.get (K (0x71A0 + n) 1) = 2 then some (a + y.period) else none
        ((t.putTpo n { y with next := nx, endAt := some (a + y.width) }).inc (K (0x71A0 + n) 7)).emit (.pin name (!x.low))
      else t
    | none => t
  u.showTpo n

/-- A scheduled edge is due. -/
def execTpoPulse (dt : Nat) (n : Fin 4) (s : State) : Res := done ((s.tick dt).inDomains [0x21] fun t => t.tpoPulse n)

/-- After a step, pulses whose times have passed are not emitted, and a missed one-shot is marked; scheduled times ahead are met (R384).
[DEDUCED, log entry 113] -/
def State.tpoStep (s : State) (old : Nat) : State :=
  (List.range 4).foldl (fun t n =>
    let k := 0x71A0 + n
    let m := t.get (K k 1)
    if m = 0 then t
    else
      let x := t.tpo n
      let u := t.setFlag (K k 6) 3 true
      let v :=
        if m = 2 then u.putTpo n { x with next := some (pulseAfter x.start x.period u.timeNs) }
        else if u.timeNs ≤ x.start then u.putTpo n { x with next := some x.start }
        else if x.next.isSome && decide (old ≤ x.start) then (u.putTpo n { x with next := none }).setFlag (K k 6) 2 true
        else u
      v.showTpo n) s

/-! ### The time base -/

/-- The time base takes a value in 2^-32 ns; the pulse outputs follow. -/
def State.jump (s : State) (t : Nat) : State :=
  let u : State := { s with time := t }
  u.tpoStep s.timeNs

/-- A step by an offset in ps: counted and recorded (R381). [DEDUCED, log entries 110, 111] -/
def State.stepBy (s : State) (o : Int) : State :=
  let t := s.jump ((s.time : Int) - o * 2 ^ 32 / 1000).toNat
  (t.inc (K 0x7180 0x14)).event 2 0x0E (Config.argCode 0x0E 2)

/-- The synchronisation state changes, with its record (R380). -/
def State.setSync (s : State) (st : Nat) : State :=
  if s.get (K 0x7180 0x0F) = st then s
  else (((s.set (K 0x7180 0x0F) st).event 2 0x0E st)).guardTime

/-- The frequency adjustment in force: f in ppb as binary32, held in 2^-64 ppb; a positive f slows the time (R379). -/
def State.setFreq (s : State) (f : Word32) : State :=
  { s with rate := -F32.roundMul f 64 }.set (K 0x7180 0x11) (unsgn 32 (F32.roundMul f 0))

/-- The servo of R379 for an accepted offset in ps over T_s in ns. [DEDUCED, log entries 14, 109] -/
def State.servo (s : State) (o : Int) (ts : Nat) : State :=
  let ons := F32.ofRat o 1000
  let sec := F32.ofRat (max 1 ts) 1000000000
  let lim := F32.ofInt (s.get (K 0x7180 9))
  let part (u : Nat) : Word32 := F32.div (F32.mul (F32.ofNat (s.get (K 0x7180 u))) ons) sec
  let i := F32.clamp (F32.neg lim) lim (F32.add s.net.tmu.i (part 6))
  (s.putTmu { s.net.tmu with i := i }).setFreq (F32.clamp (F32.neg lim) lim (F32.add (part 5) i))

/-- A sample that does not count: dropped or refused (R376, R381). -/
def State.refuseSample (s : State) : State := s.inc (K 0x7180 0x13)

/-- An accepted sample: the servo or a step has acted; the synchronisation state follows (R380). -/
def State.accepted (s : State) (o : Int) (gm : Nat) : State :=
  let x := s.net.tmu
  let low := decide (o.natAbs < s.get (K 0x7180 8) * 1000)
  let y : Tmu := { x with sampled := true, lastAt := some s.now, refused := false, below := if low then x.below + 1 else 0,
                          above := if low then 0 else x.above + 1 }
  let t := (s.putTmu y).set (K 0x7180 0x15) gm
  let st := t.get (K 0x7180 0x0F)
  if 8 ≤ y.below then t.setSync 2
  else if st = 0 then t.setSync 1
  else if st = 2 ∧ 8 ≤ y.above then t.setSync 1 else t

/-- An offset sample in ps drives the servo, steps the time base, or is refused (R379–R381).
[DEDUCED, log entry 109; PRESUMED, log entry 108] -/
def State.offsetSample (s : State) (o : Int) (gm : Nat) : State :=
  let x := s.net.tmu
  let t := s.set (K 0x7180 0x10) (unsgn 32 (clampI (-(2 ^ 31)) (2 ^ 31 - 1) (o / 1000)))
  if x.stepPending || (t.get (K 0x7180 4) == 1 && !x.sampled) then
    ((t.putTmu { x with stepPending := false, i := 0 }).stepBy o).accepted o gm
  else if t.get (K 0x7180 7) * 1000 < o.natAbs then
    let u := (t.putTmu { x with refused := true }).refuseSample
    if x.sampled && !x.refused then u.event 2 6 (K 0x7180 0x10) else u
  else
    let ts := match x.lastAt with | some a => t.now - a | none => x.interval
    (t.servo o ts).accepted o gm

/-! ### Messages (R376–R378) -/

/-- Interval of a log2 message interval in ns. -/
def logInterval (l : Int) : Nat := if l < 0 then 1000000000 / 2 ^ (-l).toNat else 1000000000 * 2 ^ l.toNat

/-- A correctionField, in 2^-16 ns, to the nearest ps. -/
def corrPs (c : Int) : Int := (c * 1000 + 32768) / 65536

/-- A time-protocol message leaves a port in the domain of the device, counted as any frame (R376, R385). -/
def State.sendPtp (s : State) (p msg seq : Nat) (vals : List Int) : State :=
  ((s.inc (K (0x7100 + p) 0x0E)).count 7 4 1).emit (.ptp p (s.act (K 0x7180 2)) msg seq vals)

/-- Egress time of a message at a port (R377). -/
def State.egress (s : State) (p : Nat) : Int := s.capture + sgn 32 (s.get (K (0x7100 + p) 9))

/-- A Sync arrives: two-step only, in the domain, on the slave port (R376, R377). -/
def State.syncIn (s : State) (p domain seq : Nat) (twoStep : Bool) (logInt : Int) : State :=
  if s.slavePort ≠ some p ∨ domain ≠ s.act (K 0x7180 2) then s
  else if !twoStep then s.refuseSample
  else s.putTmu { s.net.tmu with sync := some ⟨seq, s.ingress p, s.get (K 0x7180 0x14), s.now⟩, interval := logInterval (clampI (-10) 10 logInt) }

/-- A Sync message. -/
def execSync (dt : Nat) (p : Fin 2) (domain seq : Nat) (twoStep : Bool) (logInt : Int) (s : State) : Res :=
  let t := s.tick dt
  done (if t.netUp p then t.inDomains [0x21] fun t => t.syncIn p domain seq twoStep logInt else t)

/-- A Sync is relayed to the other port, where that is up, with its Follow_Up: the correction, in 2^-16 ns, grows by residence time × rate ratio plus
the mean link delay of the slave port (R378). -/
def State.relay (s : State) (p : Nat) (w : SyncWait) (t1 c cum : Int) : State :=
  let other := 1 - p
  let nrr := (nth Pdelay.init s.net.tmu.pdelay p).ratio
  let ratio := (2 ^ 41 + cum) * nrr / 2 ^ 41
  let res := s.egress other - w.t2
  let c2 := c + ((res * ratio + s.get (K (0x7100 + p) 0x0C) * 2 ^ 41) * 65536 + 500 * 2 ^ 41) / (1000 * 2 ^ 41)
  let cum2 := if s.act (K 0x7180 1) = 0 then ratio - 2 ^ 41 else cum
  if s.netUp other then (s.sendPtp other 0 w.seq []).sendPtp other 8 w.seq [t1, c2, cum2] else s

/-- A Follow_Up of the domain arrives: origin time in ps, correction in 2^-16 ns, cumulative rate offset in 2^-41, grandmaster identity
(R376–R381). -/
def State.followUp (s : State) (p : Nat) (id : PtpId) (t1 c cum : Int) (gm : Nat) : State :=
  match s.net.tmu.sync with
  | none => s
  | some w =>
    if s.slavePort ≠ some p ∨ id ≠ ⟨s.act (K 0x7180 2), w.seq⟩ then s
    else
      let t := s.putTmu { s.net.tmu with sync := none }
      if w.at_ + t.net.tmu.interval < t.now ∨ w.steps ≠ t.get (K 0x7180 0x14) then t
      else
        let u := if t.lineUp then t.relay p w t1 c cum else t
        let o := w.t2 - t1 - corrPs c - t.get (K (0x7100 + p) 0x0C) - sgn 32 (t.get (K (0x7100 + p) 0x0A))
        u.offsetSample o (gm % 2 ^ 64)

/-- A Follow_Up message. -/
def execFollowUp (dt : Nat) (p : Fin 2) (seq : PtpId) (t1 c cum : Int) (gm : Nat) (s : State) : Res :=
  let t := s.tick dt
  done (if t.netUp p then t.inDomains [0x21] fun t => t.followUp p seq t1 c cum gm else t)

/-- The sync interval after a Sync ends without its Follow_Up: the Sync is dropped (R378). -/
def State.followLate (s : State) : State :=
  match s.net.tmu.sync with
  | some w => if w.at_ + s.net.tmu.interval ≤ s.now then s.putTmu { s.net.tmu with sync := none } else s
  | none => s

/-- No Follow_Up in time. -/
def execFollowUpTimeout (dt : Nat) (s : State) : Res := done ((s.tick dt).inDomains [0x21] fun t => t.followLate)

/-- The peer-delay exchange of a port. -/
def State.pd (s : State) (p : Nat) : Pdelay := nth Pdelay.init s.net.tmu.pdelay p

/-- The state with it replaced. -/
def State.putPd (s : State) (p : Nat) (x : Pdelay) : State := s.putTmu { s.net.tmu with pdelay := putNth Pdelay.init s.net.tmu.pdelay p x }

/-- At each peer-delay interval a port sends Pdelay_Req (R376). -/
def State.pdelaySend (s : State) (p : Nat) : State :=
  let x := s.pd p
  let due := match x.sentAt with
    | some a => decide (a + logInterval (sgn 8 (s.get (K 0x7180 0x0C))) ≤ s.now)
    | none => true
  if s.netUp p && due then
    let seq := (x.seq + 1) % 65536
    let y : Pdelay := { x with seq := seq, t1 := s.egress p, steps := s.get (K 0x7180 0x14), waiting := true, sentAt := some s.now }
    (s.putPd p y).sendPtp p 2 seq []
  else s

/-- The peer-delay interval of a port ends. -/
def execPdelayReqSend (dt : Nat) (p : Fin 2) (s : State) : Res := done ((s.tick dt).inDomains [0x21] fun t => t.pdelaySend p)

/-- A received Pdelay_Req of the domain is answered with its ingress time, and with the egress time of the answer in the follow-up (R376). -/
def execPdelayReq (dt : Nat) (p : Fin 2) (seq : PtpId) (s : State) : Res :=
  let t := s.tick dt
  done (t.inDomains [0x21] fun t =>
    if t.netUp p && seq.domain == t.act (K 0x7180 2) then
      (t.sendPtp p 3 seq.seq [t.ingress p]).sendPtp p 10 seq.seq [t.egress p]
    else t)

/-- Responses complete an exchange: t2 and t3 of the neighbour in ps; the mean link delay and the neighbour rate ratio follow (R377). An
exchange whose timestamps straddle a step is discarded (R381). [PRESUMED, log entry 108] -/
def State.pdelayDone (s : State) (p : Nat) (id : PtpId) (t2 t3 : Int) : State :=
  let x := s.pd p
  if !x.waiting || id != ⟨s.act (K 0x7180 2), x.seq⟩ then s
  else if x.steps ≠ s.get (K 0x7180 0x14) then s.putPd p { x with waiting := false, last := none }
  else
    let t4 := s.ingress p
    let r := match x.last with
      | some (a, b) => if b < t4 then (t3 - a) * 2 ^ 41 / (t4 - b) else x.ratio
      | none => x.ratio
    let d := ((t4 - x.t1) * r / 2 ^ 41 - (t3 - t2)) / 2
    (s.putPd p { x with waiting := false, ratio := r, last := some (t3, t4) }).set (K (0x7100 + p) 0x0C) (clampI 0 (2 ^ 32 - 1) d).toNat

/-- A peer-delay response with its follow-up. -/
def execPdelayResp (dt : Nat) (p : Fin 2) (seq : PtpId) (t2 t3 : Int) (s : State) : Res :=
  let t := s.tick dt
  done (if t.netUp p then t.inDomains [0x21] fun t => t.pdelayDone p seq t2 t3 else t)

/-! ### Loss of synchronisation and commands -/

/-- No accepted sample for the sync timeout: holdover (R380). -/
def State.syncLost (s : State) : State :=
  let st := s.get (K 0x7180 0x0F)
  match s.net.tmu.lastAt with
  | some a =>
    if (st = 1 ∨ st = 2) ∧ a + s.get (K 0x7180 0x0A) * s.net.tmu.interval ≤ s.now then
      (s.putTmu { s.net.tmu with heldAt := s.now, below := 0, above := 0 }).setSync 3
    else s
  | none => s

/-- The sync timeout ends. -/
def execSyncTimeout (dt : Nat) (s : State) : Res := done ((s.tick dt).inDomains [0x21] fun t => t.syncLost)

/-- The holdover limit ends: free-running (R380). -/
def execHoldoverLimit (dt : Nat) (s : State) : Res :=
  let t := s.tick dt
  done (if t.get (K 0x7180 0x0F) = 3 ∧ t.net.tmu.heldAt + t.get (K 0x7180 0x0B) * 1000000 ≤ t.now then t.setSync 0 else t)

/-- Effect of a write of 0x7180:0D (R381). [DEDUCED, log entry 110] -/
def effTimeCommand : Effect := fun s v =>
  if v = 1 then (s.putTmu { s.net.tmu with stepPending := true }, ok)
  else if v = 2 ∧ s.get (K 0x7180 0x0F) ≠ 0 then (s, (0x0402, 0))
  else (s.jump (s.get (K 0x7180 0x0E) * 2 ^ 32), ok)

/-- Step command 0x01. -/
def execStepAtNextSample (dt : Nat) (rq : Rq) (s : State) : Res := done ((s.tick dt).command rq (K 0x7180 0x0D) 1 effTimeCommand)

/-- Step command 0x02. -/
def execSetTime (dt : Nat) (rq : Rq) (s : State) : Res := done ((s.tick dt).command rq (K 0x7180 0x0D) 2 effTimeCommand)

end Sys2Proof.Machine
end

