-- ==== Sys2Proof/Machine/Ports.lean ====
section
/-! DEFINITION. Ethernet ports, video streams and CAN controllers: link state, transmission, video PDUs, stream commit, error states
(R356, R362, R365–R374). -/

namespace Sys2Proof.Machine

/-! ### Ethernet ports -/

/-- Link states that the in-band word of an interface mode can give: down, and the speeds of USXGMII or of SGMII (R356). -/
def linkSpeeds (mode : Nat) : List Nat := if mode = 0 then [0, 2, 3, 4, 5, 6] else [0, 1, 2, 3]

/-- The in-band word changes link state and speed of a port; a speed that its interface mode does not have changes nothing (R356). -/
def State.linkState (s : State) (p st : Nat) : State :=
  if (linkSpeeds (s.act (K (0x7100 + p) 2))).contains st then s.set (K (0x7100 + p) 0x0B) st else s

/-- The link state of a port changes. -/
def execLinkStateChange (dt : Nat) (p : Fin 2) (st : Fin 7) (s : State) : Res := done ((s.tick dt).inDomains [0x20] fun t => t.linkState p st)

/-- The frame that leaves a port next: by class, then by queue, then in order (R362, R363). -/
def nextTx : List EthTx → Option EthTx
  | [] => none
  | x :: r => match nextTx r with
    | none => some x
    | some y => if y.cls < x.cls ∨ (y.cls = x.cls ∧ y.queue < x.queue) then some y else some x

/-- VLAN tag of the device's own frames on a port: identifier and PCP (R360). -/
def State.vlanTag (s : State) (p pcp : Nat) : Option (Nat × Nat) :=
  if s.act (K (0x7100 + p) 4) = 0 then none else some (s.act (K (0x7100 + p) 5), s.get (K (0x7100 + p) pcp))

/-- A queued frame leaves a port whose link is up. -/
def State.ethSend (s : State) (p : Nat) : State :=
  let q := nth [] s.net.ethTx p
  match nextTx q with
  | none => s
  | some x =>
    if !s.netUp p then s
    else
      let o : Out := if x.raw then .eth p x.data else .udp p (s.vlanTag p (if x.cls = 1 then 6 else 7)) x.mac x.addr x.port x.data
      let t : State := { s with net := { s.net with ethTx := putNth [] s.net.ethTx p (q.erase x) } }
      ((t.inc (K (0x7100 + p) 0x0E)).count 7 4 1).emit o

/-- A frame leaves a port. -/
def execFrameTransmit (dt : Nat) (p : Fin 2) (s : State) : Res := done ((s.tick dt).inDomains [0x20] fun t => t.ethSend p)

/-! ### Video streams (R365–R369) -/

/-- A stream. -/
def State.vs (s : State) (n : Nat) : Stream := nth Stream.init s.net.streams n

/-- The state with a stream replaced. -/
def State.putVs (s : State) (n : Nat) (v : Stream) : State := { s with net := { s.net with streams := putNth Stream.init s.net.streams n v } }

/-- The stream that a PDU belongs to: enabled, with its stream ID, destination MAC and port (R365). -/
def State.vsMatch (s : State) (p sid mac : Nat) : Option Nat :=
  (List.range 2).find? fun n =>
    let k := 0x7120 + n
    s.act (K k 1) == 1 && s.act (K k 2) == sid && s.act (K k 3) == mac && bit (s.act (K k 4)) p

/-- Bytes of the pixel data of n pixels of a format (R367). -/
def packedSize (fmt n : Nat) : Nat := if fmt ≤ 2 then 3 * n / 2 else 2 * n

/-- Stored word of pixel k of packed data (R367). -/
def unpack (fmt : Nat) (b : List Byte) (k : Nat) : Nat :=
  if fmt ≤ 2 then
    let o := 3 * (k / 2)
    if k % 2 = 0 then byteAt b o * 16 + byteAt b (o + 1) / 16 else byteAt b (o + 1) % 16 * 256 + byteAt b (o + 2)
  else beAt b (2 * k) 2

/-- Fields of a PDU: flags, VFRAME, line, first pixel, pixels (R366). -/
structure VPdu where
  fs : Bool
  fe : Bool
  vframe : Nat
  line : Nat
  pix0 : Nat
  npix : Nat
  data : List Byte
  deriving DecidableEq, Repr

/-- The fields of vendor-specific data, after the 48-bit vendor identifier. -/
def parseVideo (b : List Byte) : VPdu :=
  { fs := bit (byteAt b 9) 0, fe := bit (byteAt b 9) 1, vframe := beAt b 10 4, line := beAt b 14 2, pix0 := beAt b 16 2,
    npix := beAt b 18 2, data := b.drop 22 }

/-- MAGIC, FMT, reserved fields and vendor identifier hold (reason 0x02). -/
def State.videoForm (s : State) (n : Nat) (b : List Byte) : Bool :=
  let k := 0x7120 + n
  decide (22 ≤ b.length) && beAt b 0 6 == s.act (K k 8) && beAt b 6 2 == 0x5A56 && byteAt b 8 == s.act (K k 7) && byteAt b 9 / 4 == 0
    && beAt b 20 2 == 0

/-- The frame being received is dropped whole: counted with its reason; PDUs are discarded until the next FS (R368). -/
def State.dropVideo (s : State) (n reason : Nat) : State :=
  ((s.putVs n { s.vs n with asm := .skipping }).inc (K (0x7120 + n) 0x0D)).set (K (0x7120 + n) 0x0E) reason

/-- Pixels of a segment go to the buffer that does not hold the newest complete frame (R367, R369). -/
def State.writeVideo (s : State) (n fmt pos : Nat) (x : VPdu) : State :=
  let v := s.vs n
  let b := match v.newest with | some m => 1 - m | none => 0
  let buf := (List.range x.npix).foldl (fun m k => mapPut m (pos + k) (unpack fmt x.data k)) (nth [] v.bufs b)
  let base := s.videoBase n + 2 * (b * s.act (K (0x7120 + n) 5) * s.act (K (0x7120 + n) 6) + pos)
  (s.putVs n { v with bufs := putNth [] v.bufs b buf, next := pos + x.npix }).rewritten base (2 * x.npix)

/-- A PDU of a frame under assembly whose sequence and form hold, at its ingress time: segment, end, VFRAME and completion (R368, R369). -/
def State.videoBody (s : State) (n at_ : Nat) (x : VPdu) : State :=
  let k := 0x7120 + n
  let w := s.act (K k 5)
  let h := s.act (K k 6)
  let fmt := s.act (K k 7)
  let v := s.vs n
  let pos := x.line * w + x.pix0
  let fin := pos + x.npix
  let even := decide (2 < fmt) || (x.pix0 % 2 == 0 && x.npix % 2 == 0)
  let fits := decide (1 ≤ x.npix) && decide (x.line < h) && decide (x.pix0 + x.npix ≤ w) && even && x.data.length == packedSize fmt x.npix
  if !fits || pos != v.next then s.dropVideo n 3
  else if x.fe && fin != w * h then s.dropVideo n 4
  else if x.vframe ≠ v.vframe then s.dropVideo n 7
  else
    let t := s.writeVideo n fmt pos x
    if !x.fe then t
    else if v.newest.isSome && decide (at_ < v.doneAt + 8000000) then t.dropVideo n 6
    else
      let u := t.vs n
      let b := match u.newest with | some m => 1 - m | none => 0
      ((t.putVs n { u with asm := .idle, newest := some b, doneAt := at_, doneFrame := x.vframe }).set (K k 0x0F) at_).inc (K k 0x0C)

/-- A frame begins: with line 0 and pixel 0 (R368); one that writes the buffer a composition reads is counted (R369).
[DEDUCED, log entry 106] -/
def State.videoFirst (s : State) (n at_ seq : Nat) (b : List Byte) (x : VPdu) : State :=
  let v := s.vs n
  let t := s.putVs n { v with asm := .filling, lastSeq := seq, next := 0, vframe := x.vframe }
  if !s.videoForm n b then t.dropVideo n 2
  else if x.line ≠ 0 ∨ x.pix0 ≠ 0 then t.dropVideo n 3
  else
    let wb := match v.newest with | some m => 1 - m | none => 0
    let u := if s.fs.composing && !s.composed && v.reading == some wb && v.newest.isSome then t.inc (K (0x7120 + n) 0x10) else t
    u.videoBody n at_ x

/-- A PDU of a stream (R368). [DEDUCED, log entry 106] -/
def State.videoPdu (s : State) (n at_ seq : Nat) (b : List Byte) : State :=
  let x := parseVideo b
  let v := s.vs n
  match v.asm with
  | .filling =>
    if x.fs then (s.dropVideo n 5).videoFirst n at_ seq b x
    else if seq ≠ (v.lastSeq + 1) % 256 then s.dropVideo n 1
    else
      let t := s.putVs n { v with lastSeq := seq }
      if !t.videoForm n b then t.dropVideo n 2 else t.videoBody n at_ x
  | .idle => if x.fs then s.videoFirst n at_ seq b x else if x.fe then (s.dropVideo n 5).putVs n { v with asm := .idle } else s
  | .skipping => if x.fs then s.videoFirst n at_ seq b x else if x.fe then s.putVs n { v with asm := .idle } else s

/-- The AVTP header is that of a stream PDU of subtype VSF_STREAM with sv = 1 and version 0 (R365). -/
def avtpOk (h : Avtp) : Bool := h.subtype == 0x6F && h.sv && h.version == 0

/-- An AVTP stream PDU: subtype, sv and version, stream ID, destination MAC, sequence number and vendor-specific data (R365). -/
def execVideoPdu (dt : Nat) (p : Fin 2) (form : Avtp) (sid mac : Nat) (seq : Byte) (b : List Byte) (s : State) : Res :=
  let t := s.tick dt
  done (if !t.netUp p then t else
    match (if avtpOk form then t.vsMatch p sid mac else none) with | some n => t.videoPdu n (t.ingressNs p) seq.toNat b | none => t)

/-- Entries of a stream that its commit takes. -/
def streamKeys (n : Nat) : List Nat := keys (0x7120 + n) 1 8

/-- The stream commit (R162, R370): it joins what waits for the entry milestone. -/
def State.streamCommit (s : State) (n : Nat) : State × Code :=
  let vals := s.snap (streamKeys n)
  let old := match s.fs.accepted with | some c => c.vals | none => []
  let all := mapMerge (mapMerge [] old) vals
  let g (k : Nat) : Nat := (mapGet all k).getD (s.act k)
  let same := g (K 0x7120 1) == 1 && g (K 0x7121 1) == 1 && g (K 0x7120 2) == g (K 0x7121 2)
  if same then s.refuse (K (0x7120 + n) 0x0A) 0x7101
  else if s.poolLow < fixedUnits (s.fixedOf g) then s.refuse (K (0x7120 + n) 0x0A) 0x4304
  else (((s.accept vals).set (K (0x7120 + n) 0x0A) 0), ok)

/-- Effect of a write of the stream commit entry. -/
def effStreamCommit (n : Nat) : Effect := fun s _ => s.streamCommit n

/-- A stream commit. -/
def execStreamCommit (dt : Nat) (rq : Rq) (n : Fin 2) (s : State) : Res :=
  done ((s.tick dt).command rq (K (0x7120 + n) 9) 1 (effStreamCommit n))

/-! ### CAN (R371–R374) -/

/-- Arbitration order of an identifier: the lower wins; a base frame wins over an extended one with the same first 11 bits. -/
def canRank (ident : Nat) : Nat := if bit ident 31 then (ident % 2 ^ 29) * 2 + 1 else (ident % 2 ^ 11) * 2 ^ 19

/-- The frame that leaves a controller next: Guardrail frames first, then by identifier. -/
def nextCan : List CanTx → Option CanTx
  | [] => none
  | x :: r => match nextCan r with
    | none => some x
    | some y => if (y.guard && !x.guard) || (y.guard == x.guard && decide (canRank y.ident < canRank x.ident)) then some y else some x

/-- The error state that the counters give a controller that is not in bus-off: above 127 it is error-passive (R374). -/
def State.putErrors (s : State) (c tec rec_ : Nat) : State :=
  let k := 0x7140 + c
  (s.set (K k 9) (satN 255 tec * 256 + satN 255 rec_)).set (K k 8) (if 127 < tec ∨ 127 < rec_ then 1 else 0)

/-- A good frame lowers the transmit or the receive error counter by 1; a receive counter above 127 goes to a value from 119 to 127 (R374). -/
def State.goodFrame (s : State) (c : Nat) (tx : Bool) : State :=
  let v := s.get (K (0x7140 + c) 9)
  let tec := v / 256
  let rec_ := v % 256
  if tx then (if tec = 0 then s else s.putErrors c (tec - 1) rec_)
  else if 127 < rec_ then
    let (x, t) := s.fresh
    t.putErrors c tec (119 + x % 9)
  else if rec_ = 0 then s else s.putErrors c tec (rec_ - 1)

/-- Frames that a controller's mode lets it send: one for classical CAN only sends no CAN FD frame, so a longer one waits (R371).
[DESIGN CHOICE, log entry 229] -/
def State.canQueue (s : State) (c : Nat) : List CanTx :=
  (nth [] s.net.canTx c).filter fun x => decide (s.act (K (0x7140 + c) 2) ≠ 1 ∨ x.data.length ≤ 8)

/-- A pending transmission leaves; in listen-only mode and in restricted operation none does (R371, R373). -/
def State.canSend (s : State) (c : Nat) : State :=
  let q := nth [] s.net.canTx c
  match nextCan (s.canQueue c) with
  | none => s
  | some x =>
    if !s.canUp c || decide (2 ≤ s.act (K (0x7140 + c) 2)) then s
    else
      let t : State := { s with net := { s.net with canTx := putNth [] s.net.canTx c (q.erase x) } }
      (((t.inc (K (0x7140 + c) 0x0B)).count 11 2 1).goodFrame c true).emit (.can c x.ident x.data)

/-- A CAN frame leaves. -/
def execCanFrameTransmit (dt : Nat) (c : Fin 4) (s : State) : Res := done ((s.tick dt).inDomains [0x24] fun t => t.canSend c)

/-- A controller goes to bus-off; with automatic recovery it starts at once (R374). [DEDUCED, log entry 105] -/
def State.busOff (s : State) (c : Nat) : State :=
  let k := 0x7140 + c
  if s.canUp c then
    let t : State := { s with net := { s.net with recovering := putNth false s.net.recovering c (s.get (K k 6) == 0) } }
    ((t.set (K k 8) 2).inc (K k 0x0D)).stand 0x1B 7 c
  else s

/-- A controller goes to bus-off. -/
def execBusOff (dt : Nat) (c : Fin 4) (s : State) : Res := done ((s.tick dt).inDomains [0x24] fun t => t.busOff c)

/-- After 128 occurrences of 11 recessive bits a recovering controller rejoins, error-active with its counters at 0 (R374). -/
def State.busBack (s : State) (c : Nat) : State :=
  let k := 0x7140 + c
  if s.get (K k 8) = 2 ∧ nth false s.net.recovering c = true then
    let t : State := { s with net := { s.net with recovering := putNth false s.net.recovering c false } }
    ((t.set (K k 8) 0).set (K k 9) 0).causeGone 0x1B 7 c
  else s

/-- The recovery sequence of a controller is complete. -/
def execBusOffRecovery (dt : Nat) (c : Fin 4) (s : State) : Res := done ((s.tick dt).inDomains [0x24] fun t => t.busBack c)

/-- Effect of a write of 0x714c:07: a controller in bus-off starts recovery (R374). -/
def effRecover (c : Nat) : Effect := fun s _ =>
  if s.get (K (0x7140 + c) 8) = 2 then ({ s with net := { s.net with recovering := putNth false s.net.recovering c true } }, ok) else (s, ok)

/-- Effect of a write of 0x714c:06: automatic recovery of a controller in bus-off starts at once (R374). -/
def effAutoRecover (c : Nat) : Effect := fun s v =>
  let t := s.set (K (0x7140 + c) 6) v
  (if v = 0 ∧ s.get (K (0x7140 + c) 8) = 2 then { t with net := { t.net with recovering := putNth false t.net.recovering c true } } else t, ok)

/-- The recover command. -/
def execRecover (dt : Nat) (rq : Rq) (c : Fin 4) (s : State) : Res := done ((s.tick dt).command rq (K (0x7140 + c) 7) 1 (effRecover c))

/-- A bus error moves the error counters to the values that ISO 11898-1 gives them; above 127 the controller is error-passive, and a transmit
counter above 255 takes it to bus-off (R374). [PRESUMED, log entry 104] -/
def State.busError (s : State) (c tec rec : Nat) : State :=
  if !s.canUp c then s
  else if 255 < tec then (s.putErrors c tec rec).busOff c
  else s.putErrors c tec rec

/-- A bus error. -/
def execCanBusError (dt : Nat) (c : Fin 4) (tec rec : Nat) (s : State) : Res := done ((s.tick dt).inDomains [0x24] fun t => t.busError c tec rec)

end Sys2Proof.Machine
end

