-- ==== Sys2Proof/Machine/StoreOps.lean ====
section
/-! DEFINITION. The configuration copies and the store commands (R58–R64): saves, defaults, reload; images and their manifests (R470–R473); the archives (R491, R492). -/

namespace Sys2Proof.Machine

/-! ### Manifests (R471–R473) -/

/-- An image is authentic: the hash of its public key is the unrevoked one of its slot, and its signature verifies (R473).
[DESIGN CHOICE, log entry 11] -/
def State.authentic (s : State) (m : List Byte) : Bool :=
  let n := byteAt m 0x38
  let key := slice m 0xF00 97
  let f := s.nv.fuses
  decide (n < 4) && !(nth false f.revoked n) && (nth [] f.keyHashes n == Config.sha384 key) &&
    Config.ecdsaValid key (slice m 0 0xFA0) (slice m 0xFA0 96)

/-- Form of a manifest: MAGIC, FORMAT, reserved bytes, length and chunk count (R474). -/
def manifestOk (m : List Byte) : Bool :=
  let zero (o n : Nat) : Bool := (slice m o n).all fun x => x == 0
  let len := beAt m 0x28 4
  m.length == 4096 && beAt m 0 4 == 0x5A494D47 && beAt m 4 2 == 0x0100 && byteAt m 7 / 2 == 0 && zero 0xD 3 && zero 0x39 7 && zero 0x70 3728
    && zero 0xF61 63 && decide (1 ≤ len ∧ len ≤ 16707600) && beAt m 0x2C 4 == ceilDiv len 4080

/-- Image identity of a manifest. -/
def imageId (m : List Byte) : Nat := beAt m 0x10 4

/-- Chunks of an image. -/
def chunkCount (m : List Byte) : Nat := beAt m 0x2C 4

/-- The running firmware reads a configuration of this FORMAT (R59). -/
def State.readsFormat (s : State) (format : Nat) : Bool :=
  decide (byteAt s.runManifest 0x1C ≤ format / 256 ∧ format / 256 ≤ byteAt s.runManifest 0x1D)

/-- The entries of the running image and of the boot record: slot, versions, trials, last fall-back cause, security version (R494). -/
def State.showImage (s : State) : State :=
  let r := s.bootRec
  [(9, s.upd.slot), (0x0A, beAt s.runManifest 0x14 4), (0x0B, r.trials), (0x0C, beAt (s.slotManifest (3 - s.upd.slot)) 0x14 4),
   (0x0E, r.cause), (0x0F, s.nv.fuses.counter)].foldl (fun t p => t.set (K 0x2200 p.1) p.2) s

/-! ### Configuration copies (R58–R64) -/

/-- Entries of 0x1200 to 0x1230: the store commands 0x02 and 0x03 leave them unchanged (R64). -/
def isTransport (k : Nat) : Bool := decide (0x1200 ≤ k / 256 ∧ k / 256 ≤ 0x1230)

/-- An entry is persistent: RW or RWP, and not volatile (R62). -/
def persistent (k : Nat) : Bool :=
  match findEnt k with
  | some e => (e.acc == .rw || e.acc == .rwp) && !e.vol
  | none => false

/-- Copy n (0 A, 1 B) is valid: whole, and of a format that the running firmware reads (R59). -/
def State.copyValid (s : State) (n : Nat) : Bool :=
  let c := nth ConfCopy.empty s.nv.confs n
  c.intact && s.readsFormat c.format

/-- The copy that R60 selects. -/
def State.pickConf (s : State) : Option Nat :=
  let sq (n : Nat) : Option Nat := if s.copyValid n then some (nth ConfCopy.empty s.nv.confs n).seq else none
  pickCopy (sq 0) (sq 1)

/-- The copy in use, by its number. -/
def State.confInUse (s : State) : Option Nat := if s.get (K 0x2011 1) = 0 then none else some (s.get (K 0x2011 1) - 1)

/-- Sequences and validity of the copies as 0x2011 shows them. -/
def State.showCopies (s : State) : State :=
  let c (n : Nat) : ConfCopy := nth ConfCopy.empty s.nv.confs n
  let seqOf (n : Nat) : Nat := if s.copyValid n then (c n).seq else 0
  let odd (n : Nat) : Bool := (c n).intact && !s.readsFormat (c n).format
  ((s.set (K 0x2011 2) (seqOf 0)).set (K 0x2011 3) (seqOf 1)).set (K 0x2011 4)
    (b2n (s.copyValid 0) + 2 * b2n (s.copyValid 1) + 4 * b2n (odd 0) + 8 * b2n (odd 1))

/-- The Kerb section of a save: the maps that the SSV holds (R62). [DEDUCED, log entry 56] -/
def State.kerbHeld (s : State) : List Byte :=
  let kb := s.comp.kerb
  match kb.armed, kb.ram with
  | some _, _ => (nth ⟨KerbImg.zero, []⟩ kb.banks (1 - kb.active)).img.bytes
  | none, some i => i.bytes
  | none, none => []

/-- The copy that a save of this instant writes (R58, R61–R63). -/
def State.confCopy (s : State) : ConfCopy :=
  ConfCopy.sealed { ConfCopy.empty with
    seq := match s.confInUse with | some n => ((nth ConfCopy.empty s.nv.confs n).seq + 1) % 2 ^ 32 | none => 1,
    format := beAt s.runManifest 0x1E 2, written := if s.timeGood then s.timeNs else 0, image := beAt s.runManifest 0x14 4,
    vals := s.dict.filter fun p => persistent p.1, doms := s.doms.filter fun p => persistent p.1, kerb := s.kerbHeld }

/-- A save starts: the target is erased, and the values of this instant are held (R61, R63). [DEDUCED, log entry 54] -/
def State.startSave (s : State) : State :=
  let target := match s.confInUse with | some n => 1 - n | none => 0
  let copy := s.confCopy
  let t : State := { s with
    nv := { s.nv with confs := modNth ConfCopy.empty s.nv.confs target fun c => { c with magic := 0xFFFFFFFF } },
    sys := { s.sys with save := some ⟨target, copy, 1⟩ } }
  ((t.showCopies).set (K 0x2010 2) 1).set (K 0x2010 3) 0

/-- The running image is on trial or not confirmed (R486, R488). -/
def State.onTrial (s : State) : Bool := s.bootRec.stage != 0

/-- A finished store command leaves its status and result (R64). -/
def State.storeDone (s : State) (status : Nat) (r : Code) : State := (s.set (K 0x2010 2) status).set (K 0x2010 3) r.1

/-- The temperature limits of the LQ grade, where the defaults of the table are those of the AQ grade (R5, R512). -/
def State.gradeLimits (s : State) : State :=
  if s.get (K 0x1018 5) = 2 then (s.set (K 0x2500 1) (125 * 65536)).set (K 0x2500 2) (135 * 65536) else s

/-- Values of working entries replaced by their defaults, transports apart (R64). -/
def State.toDefaults (s : State) : State :=
  let keep (k : Nat) : Bool := !persistent k || isTransport k
  { s with dict := s.dict.filter (fun p => keep p.1), doms := s.doms.filter fun p => keep p.1 }.gradeLimits

/-- A copy's values as working values, over the defaults; with transports at BOOT, without them for a reload. -/
def State.loadCopy (s : State) (c : ConfCopy) (all : Bool) : State :=
  let use (k : Nat) : Bool := persistent k && (all || !isTransport k)
  let t := s.toDefaults
  { t with dict := mapMerge t.dict (c.vals.filter fun p => use p.1), doms := mapMerge t.doms (c.doms.filter fun p => use p.1) }

/-- A store command (R52, R54, R61, R64, R488, R562): a refused one changes nothing, its status and result entries included.
[DEDUCED, log entries 54, 179] -/
def State.storeCommand (s : State) (v : Nat) : State × Code :=
  let restores := v = 2 ∨ v = 3
  if v = 1 ∧ s.onTrial then (s, (0x0401, s.mode.code))
  else if restores ∧ s.mode ≠ .preop then (s, (0x0401, s.mode.code))
  else if restores ∧ s.leaving then (s, (0x0401, 1))
  else if s.sys.save.isSome then (s, (0x0402, 0))
  else match v with
    | 1 => (s.startSave, ok)
    | 2 => (s.toDefaults.storeDone 2 ok, ok)
    | 3 => match s.confInUse with
      | some n => ((s.loadCopy (nth ConfCopy.empty s.nv.confs n) false).storeDone 2 ok, ok)
      | none => (s, (0x0403, 0x2001))
    | _ => (s, (0x0301, 0))

/-- Effect of a write of 0x2010:01. -/
def effStore : Effect := fun s v => s.storeCommand v

/-- Save. -/
def execSave (dt : Nat) (rq : Rq) (s : State) : Res := done ((s.tick dt).command rq (K 0x2010 1) 1 effStore)

/-- Restore defaults. -/
def execRestoreDefaults (dt : Nat) (rq : Rq) (s : State) : Res := done ((s.tick dt).command rq (K 0x2010 1) 2 effStore)

/-- Reload the stored copy. -/
def execReloadStoredCopy (dt : Nat) (rq : Rq) (s : State) : Res := done ((s.tick dt).command rq (K 0x2010 1) 3 effStore)

/-! ### Archives (R491, R492) -/

/-- A log entry as its 24 bytes (R432). [DEDUCED, log entry 29] -/
def LogE.bytes (e : LogE) : List Byte :=
  toBe 1 e.src ++ toBe 1 e.kind ++ toBe 1 (b2n e.active + 2 * b2n e.latched + 4 * b2n e.safety + 8 * b2n e.alive) ++ toBe 1 e.count
    ++ toBe 4 e.arg ++ toBe 8 e.first ++ toBe 8 e.last

/-- The oldest log entry that is not archived yet. -/
def State.nextArchive (s : State) : Option LogE :=
  (s.safe.log.filterMap id).foldl (fun best e =>
    if e.ord < s.nv.faults.nextOrd then best
    else match best with
      | some b => if e.ord < b.ord then some e else best
      | none => some e) none

/-- The store manager runs: not in BOOT, and a pair of application cores runs. -/
def State.storeRuns (s : State) : Bool := s.mode != .boot && s.sys.apc.any id

/-- A dose archive waits: in HOLD (R485), and behind a new log entry or a save (R492). -/
def State.doseWaits (s : State) : Bool := s.mode == .hold || s.sys.save.isSome || s.nextArchive.isSome

/-- The dose and ageing maps are written to the dose copy not in use (R491). -/
def State.doseWrite (s : State) : State :=
  let use := s.get (K 0x2110 3)
  let n := if use = 1 then 1 else 0
  let q := if use = 0 then 1 else ((nth DoseCopy.empty s.nv.doses (use - 1)).seq + 1) % 2 ^ 32
  let c : DoseCopy := DoseCopy.sealed { DoseCopy.empty with
    seq := q, written := s.timeNs, doseLen := nth 0 s.fixedNow 2, ageLen := nth 0 s.fixedNow 3,
    dose := s.comp.src.map (·.dose), again := s.comp.src.map (·.again) }
  let t : State := { s with nv := { s.nv with doses := putNth DoseCopy.empty s.nv.doses n c }, upd := { s.upd with doseAt := s.now, doseDue := false } }
  (t.set (K 0x2110 2) s.timeNs).set (K 0x2110 3) (n + 1)

/-- A dose archive is due at the end of its interval; one that waits is remembered. -/
def State.doseArchive (s : State) : State :=
  if !s.storeRuns || decide (s.now < s.upd.doseAt + s.get (K 0x2110 1) * 60000000000) then s
  else if s.doseWaits then { s with upd := { s.upd with doseDue := true } }
  else s.doseWrite

/-- A dose archive that has waited is written. -/
def State.doseNow (s : State) : State := if s.upd.doseDue && s.storeRuns && !s.doseWaits then s.doseWrite else s

/-- The dose archive interval ends. -/
def execDoseArchive (dt : Nat) (s : State) : Res := done ((s.tick dt).doseArchive)

/-- A new log entry is copied to the fault archive: into the half being written, or, when it is full, into the other, erased first
(R432, R492). -/
def State.faultArchive (s : State) : State :=
  if !s.storeRuns || s.mode == .hold then s
  else match s.nextArchive with
    | none => s
    | some e =>
      let a := s.nv.faults
      let full := decide (32768 ≤ (nth [] a.halves a.half).length)
      let h := if full then 1 - a.half else a.half
      let old := if full then [] else nth [] a.halves h
      let halves := putNth [] a.halves h (old ++ [e.bytes ++ toBe 8 s.timeNs])
      let t : State := { s with nv := { s.nv with faults := { halves := halves, half := h, nextOrd := e.ord + 1 } } }
      t.set (K 0x2110 4) ((halves.map List.length).foldl (· + ·) 0)

/-- The store manager copies a new log entry. -/
def execFaultArchive (dt : Nat) (s : State) : Res := done (((s.tick dt).faultArchive).doseNow)

/-! ### Saves end (R61) -/

/-- The target of a save has been written and read back (R61): on a mismatch a second attempt, then failure with its record; on a match
the copy just written is the copy in use, and its FORMAT the one that 0x2011:05 shows. [DEDUCED, log entries 55, 181] -/
def State.saveEnds (s : State) (good : Bool) : State :=
  match s.sys.save with
  | none => s
  | some j =>
    if good then
      let t : State := { s with
        nv := { s.nv with confs := putNth ConfCopy.empty s.nv.confs j.target j.copy },
        sys := { s.sys with save := none } }
      ((((t.set (K 0x2011 1) (j.target + 1)).set (K 0x2011 5) j.copy.format).showCopies).inc (K 0x2011 6)).storeDone 2 ok
    else if j.attempt < 2 then { s with sys := { s.sys with save := some { j with attempt := 2 } } }
    else
      let t : State := { s with sys := { s.sys with save := none } }
      (t.storeDone 3 (0x0601, 0)).event 0x15 3 (0x02100000 + j.target * 0x00200000)

/-- The readback of a save's target agrees, or does not. -/
def execSaveComplete (dt : Nat) (good : Bool) (s : State) : Res := done (((s.tick dt).saveEnds good).doseNow)

end Sys2Proof.Machine
end

