-- ==== Sys2Proof/Machine/Calib.lean ====
section
/-! DEFINITION. Calibration of the device against its own references (R513–R516). -/

namespace Sys2Proof.Machine

/-- Mean reading in FX32 of the sensors of a die that are not broken: logic die 0, power die 1 (R514). [DEDUCED, log entry 159] -/
def State.dieMean (s : State) (die : Nat) : Int :=
  let idx := (List.range (if die = 0 then 16 else 8)).map (16 * die + ·)
  let ok := idx.filter fun k => !bit (s.get (K 0x2500 0x0F)) k
  (ok.foldl (fun a k => a + nth 0 s.pwr.temps k) 0) / (max 1 ok.length : Nat)

/-- A calibration run starts, or waits while no APC pair runs or the device is in HOLD (R514). -/
def State.calStart (s : State) : State :=
  if s.sys.apc.any id && s.mode != .hold then
    { s with pwr := { s.pwr with cal := { s.pwr.cal with running := true, startedAt := s.now, waiting := false } } }.set (K 0x2400 3) 1
  else { s with pwr := { s.pwr with cal := { s.pwr.cal with waiting := true } } }.set (K 0x2400 3) 4

/-- A trigger: a run starts, waits, or is taken when the present run ends (R514). -/
def State.calTrigger (s : State) : State :=
  let c := { s.pwr.cal with retries := 0, retryAt := none }
  let t : State := { s with pwr := { s.pwr with cal := c } }
  if c.running then { t with pwr := { t.pwr with cal := { c with waiting := true } } } else t.calStart

/-- An APC pair runs, or the device has left HOLD: the first run after BOOT, and a run that waits (R514). -/
def State.calResume (s : State) : State :=
  if !s.sys.apc.any id || s.mode == .boot || s.mode == .hold || s.pwr.cal.running then s
  else if !s.pwr.cal.firstDone then
    { s with pwr := { s.pwr with cal := { s.pwr.cal with firstDone := true } } }.calTrigger
  else if s.pwr.cal.waiting then s.calStart
  else s

/-- The trigger by temperature: a die's mean has moved since the last run that accepted every item (R514). -/
def State.calByTemp (s : State) : State :=
  match s.pwr.cal.refs with
  | none => s
  | some (l, p) =>
    let lim := sgn 32 (s.get (K 0x2400 2))
    let moved := decide (lim < ((s.dieMean 0 - l).natAbs : Int) ∨ lim < ((s.dieMean 1 - p).natAbs : Int))
    if moved && !s.pwr.cal.running && !s.pwr.cal.waiting && s.pwr.cal.retryAt.isNone && s.pwr.cal.retries = 0 then s.calTrigger else s

/-- Numeric entries of items 4 and 6 (R513). -/
def calKeys : List Nat := keys 0x6040 1 4 ++ keys 0x6041 1 4 ++ (List.range 4).map fun a => K (0x6030 + a) 0x0D

/-- DOM entries of items 1, 2, 3 and 5. -/
def calDoms : List Nat := keys 0x2410 1 5

/-- The values of an item as patterns with their widths, true for binary32: item 1 to 6 (R513). -/
def State.calOld (s : State) (item : Nat) : List (Nat × Bool) :=
  let split (k n : Nat) (f : Bool) : List (Nat × Bool) :=
    let b := (s.dom (K 0x2410 k)).getD (nth [] s.nv.fuses.trims (k - 1))
    let w := if f then 4 else 2
    (List.range n).map fun j => (beAt b (w * j) w, f)
  let nums (l : List Nat) : List (Nat × Bool) := l.map fun k => (s.get k, true)
  match item with
  | 1 => split 1 128 false
  | 2 => split 2 16 false
  | 3 => split 3 24 false
  | 4 => nums (calKeys.take 8)
  | 5 => split 4 8 true ++ split 5 8 false
  | _ => nums (calKeys.drop 8)

/-- The second measurement of a value lies within the tolerance of the first: in units of the entry for items 1 to 3, in 0.01 % of
the first for the others (R513, R515). [DEDUCED, log entry 159] -/
def calClose (item tol : Nat) (f : Bool) (a b : Nat) : Bool :=
  if item ≤ 3 then decide ((sgn 16 b - sgn 16 a).natAbs ≤ tol)
  else if f then
    let x := F32.ofNat a
    F32.le (F32.abs (F32.sub (F32.ofNat b) x)) (F32.mul (F32.abs x) (F32.ofRat tol 10000))
  else decide ((sgn 16 b - sgn 16 a).natAbs * 10000 ≤ tol * (sgn 16 a).natAbs)

/-- The mean of two measurements; how the half of an odd sum rounds, the spec leaves open. [DEDUCED, log entry 159] -/
def calMean (f : Bool) (a b up : Nat) : Nat :=
  if f then (F32.mul 0x3F000000 (F32.add (F32.ofNat a) (F32.ofNat b))).toNat
  else unsgn 16 ((sgn 16 a + sgn 16 b + (up % 2 : Nat)) / 2)

/-- The values of an item written (R513). -/
def State.calPut (s : State) (item : Nat) (v : List Nat) : State :=
  let join (w : Nat) (l : List Nat) : List Byte := l.flatMap (toBe w)
  match item with
  | 1 => s.setDom (K 0x2410 1) (join 2 v)
  | 2 => s.setDom (K 0x2410 2) (join 2 v)
  | 3 => s.setDom (K 0x2410 3) (join 2 v)
  | 4 => ((calKeys.take 8).zip v).foldl (fun t p => t.set p.1 p.2) s
  | 5 => (s.setDom (K 0x2410 4) (join 4 (v.take 8))).setDom (K 0x2410 5) (join 2 (v.drop 8))
  | _ => ((calKeys.drop 8).zip v).foldl (fun t p => t.set p.1 p.2) s

/-- One item of a run: its mean applies, or it is rejected with a record (R515). The result says whether it was accepted. -/
def State.calItem (s : State) (item : Nat) (a b : List Nat) : State × Bool :=
  let old := s.calOld item
  let tol := s.get (K 0x2401 item)
  let vals := (List.range old.length).map fun j => ((nth (0, false) old j).2, nth 0 a j, nth 0 b j)
  if vals.all fun x => calClose item tol x.1 x.2.1 x.2.2 then
    let (v, t) := s.fresh
    (t.calPut item (vals.map fun x => calMean x.1 x.2.1 x.2.2 v), true)
  else (s.event 0x18 6 item, false)

/-- A run ends with the two measurements of each item: accepted items apply, and a run with a rejected item is repeated after 60 s, up
to three times (R515). -/
def State.calRunEnds (s : State) (a b : List (List Nat)) : State :=
  if !s.pwr.cal.running then s
  else
    let step := fun (x : State × Nat) (j : Nat) =>
      let r := x.1.calItem (j + 1) (nth [] a j) (nth [] b j)
      (r.1, if r.2 then x.2 else x.2 + 2 ^ j)
    let (t, bad) := (List.range 6).foldl step (s, 0)
    let c := t.pwr.cal
    let means := (t.dieMean 0, t.dieMean 1)
    let c1 := { c with running := false, runLogic := means.1, runPower := means.2 }
    let c2 := if bad = 0 then { c1 with refs := some means, retries := 0, retryAt := none }
              else if c.retries < 3 then { c1 with retryAt := some (s.now + 60000000000) } else { c1 with retries := 0, retryAt := none }
    let u : State := { t with pwr := { t.pwr with cal := c2 } }
    let v := (((u.set (K 0x2400 3) (if bad = 0 then 2 else 3)).set (K 0x2400 4) bad).set (K 0x2400 5) s.timeNs).inc (K 0x2400 8)
    if c2.waiting then
      { v with pwr := { v.pwr with cal := { c2 with retries := 0, retryAt := none } } }.calStart
    else v

/-- A calibration run ends. -/
def execCalibrationRunComplete (dt : Nat) (a b : List (List Nat)) (s : State) : Res := done ((s.tick dt).calRunEnds a b)

/-- 60 s after a run with rejected items, the run is repeated (R515). -/
def State.calRetry (s : State) : State :=
  match s.pwr.cal.retryAt with
  | some t => if t ≤ s.now ∧ s.pwr.cal.running = false then
      { s with pwr := { s.pwr with cal := { s.pwr.cal with retryAt := none, retries := s.pwr.cal.retries + 1 } } }.calStart else s
  | none => s

/-- A repeat of a calibration run is due. -/
def execCalibrationRetry (dt : Nat) (s : State) : Res := done ((s.tick dt).calRetry)

/-! ### Records (R516) -/

/-- The calibration record in use, 0 or 1. -/
def State.calInUse (s : State) : Option Nat := if s.get (K 0x2400 6) = 0 then none else some (s.get (K 0x2400 6) - 1)

/-- The working values as a record, written into the place not in use. -/
def State.calRecord (s : State) : Nat × CalRec :=
  let n := match s.calInUse with | some k => 1 - k | none => 0
  let q := match s.calInUse with | some k => ((nth CalRec.empty s.nv.cals k).seq + 1) % 2 ^ 32 | none => 1
  (n, CalRec.sealed { CalRec.empty with
        seq := q, written := s.timeNs, tLogic := unsgn 32 s.pwr.cal.runLogic, tPower := unsgn 32 s.pwr.cal.runPower,
        vals := s.snap calKeys, doms := calDoms.map fun k => (k, (s.dom k).getD (nth [] s.nv.fuses.trims (k % 256 - 1))) })

/-- The values of a record, or the factory trims and the defaults. -/
def State.calLoad (s : State) (n : Option Nat) : State :=
  match n with
  | some k =>
    let r := nth CalRec.empty s.nv.cals k
    let t := r.vals.foldl (fun t p => t.set p.1 p.2) s
    { t with doms := mapMerge (calDoms.foldl (fun m k => mapDel m k) t.doms) r.doms }
  | none =>
    let t := calKeys.foldl (fun t k => t.set k (dflt k)) s
    { t with doms := calDoms.foldl (fun m k => mapDel m k) t.doms }

/-- The valid record with the newer sequence (R60, R516). -/
def State.pickCal (s : State) : Option Nat :=
  let sq (n : Nat) : Option Nat := let r := nth CalRec.empty s.nv.cals n; if r.valid then some r.seq else none
  pickCopy (sq 0) (sq 1)

/-- Effect of a calibration command: run, save or reload (R514, R516). [DEDUCED, log entry 160] -/
def effCalibration : Effect := fun s v =>
  if v = 1 then (s.calTrigger, ok)
  else if v = 2 then
    if s.onTrial then (s, (0x0401, s.mode.code))
    else if s.pwr.cal.saving.isSome then (s, (0x0402, 0))
    else if s.sys.save.isSome then (s, (0x040A, 0))
    else
      let r := s.calRecord
      let t : State := { s with pwr := { s.pwr with cal := { s.pwr.cal with saving := some r, attempt := 1 } },
                                nv := { s.nv with cals := modNth CalRec.empty s.nv.cals r.1 fun x => { x with magic := 0xFFFFFFFF } } }
      (t.set (K 0x2400 7) 1, ok)
  else (s.calLoad s.calInUse, ok)

/-- Calibration command 0x01. -/
def execCalibrationRun (dt : Nat) (rq : Rq) (s : State) : Res := done ((s.tick dt).command rq (K 0x2400 1) 1 effCalibration)

/-- Calibration command 0x02. -/
def execCalibrationSave (dt : Nat) (rq : Rq) (s : State) : Res := done ((s.tick dt).command rq (K 0x2400 1) 2 effCalibration)

/-- Calibration command 0x03. -/
def execCalibrationReload (dt : Nat) (rq : Rq) (s : State) : Res := done ((s.tick dt).command rq (K 0x2400 1) 3 effCalibration)

/-- The record has been written and read back: in use on a match, written again on a first mismatch, failed on a second (R61, R516).
[DEDUCED, log entry 160] -/
def State.calSaved (s : State) (good : Bool) : State :=
  match s.pwr.cal.saving with
  | none => s
  | some (n, r) =>
    let c := { s.pwr.cal with saving := none }
    if good then
      let t : State := { s with pwr := { s.pwr with cal := c }, nv := { s.nv with cals := putNth CalRec.empty s.nv.cals n r } }
      (t.set (K 0x2400 6) (n + 1)).set (K 0x2400 7) 2
    else if s.pwr.cal.attempt < 2 then { s with pwr := { s.pwr with cal := { s.pwr.cal with attempt := 2 } } }
    else
      let t : State := { s with pwr := { s.pwr with cal := c } }
      (t.set (K 0x2400 7) 3).event 0x15 3 (0x02500000 + n * 0x00100000)

/-- A calibration save ends. -/
def execCalibrationSaveComplete (dt : Nat) (good : Bool) (s : State) : Res := done ((s.tick dt).calSaved good)

end Sys2Proof.Machine
end

