-- ==== Sys2Proof/Machine/Update.lean ====
section
/-! DEFINITION. Firmware update (R469, R474–R490) and the refresh of the store (R465, R466). -/

namespace Sys2Proof.Machine

/-- The state with the update manager replaced. -/
def State.putUpd (s : State) (u : Upd) : State := { s with upd := u }

/-- Slot that a download which starts in recovery fills: the one whose manifest is not authentic, or slot 1 (R469). -/
def State.recoveryTarget (s : State) : Nat := if s.authentic (s.slotManifest 1) && !s.authentic (s.slotManifest 2) then 2 else 1

/-- Slot that a download fills: the one not in ACTIVE; in recovery the one that its start has chosen (R469, R470). -/
def State.targetSlot (s : State) : Nat :=
  if s.sys.recovery then (if s.upd.target = 0 then s.recoveryTarget else s.upd.target) else 3 - s.bootRec.active

/-- Update stage of 0x2200:04. -/
def State.updStage (s : State) : Nat := s.get (K 0x2200 4)

/-! ### Journal (R478, R479) -/

/-- A journal record of the present download is appended to copy A and then to copy B. [DEDUCED, log entry 145] -/
def State.writeJournal (s : State) : State :=
  let q := match s.journal with | some j => (j.seq + 1) % 2 ^ 32 | none => 1
  let m := s.slotManifest s.targetSlot
  let j : Journal := Journal.sealed ⟨0, q, imageId m, Config.sha384 m, s.updStage, s.upd.stored, 0⟩
  { s with nv := { s.nv with journals := [some j, some j] }, upd := { s.upd with fresh := 0 } }

/-- The first chunk below n that is not stored. -/
def missing (stored : List Nat) (n : Nat) : Option Nat := (List.range n).find? fun c => !stored.contains c

/-- Chunk counts as 0x2200 shows them. -/
def State.showChunks (s : State) : State :=
  if s.updStage = 0 then ((s.set (K 0x2200 6) 0).set (K 0x2200 7) 0).set (K 0x2200 8) 0xFFFF
  else
    let n := chunkCount (s.slotManifest s.targetSlot)
    ((s.set (K 0x2200 6) s.upd.stored.length).set (K 0x2200 7) n).set (K 0x2200 8) ((missing s.upd.stored n).getD 0xFFFF)

/-- The stage changes, with its journal record. -/
def State.toStage (s : State) (st : Nat) : State := ((s.set (K 0x2200 4) st).writeJournal).showChunks

/-! ### Guards (R480, R481) -/

/-- Conditions of the guards: moving, battery low, owner lock. -/
def State.guardCond (s : State) : List Bool :=
  let v := s.get (K 0x8020 1)
  [decide (v = 0xFFFF ∨ s.get (K 0x2202 2) < v), s.upd.battLow, s.get (K 0x8020 3) == 1]

/-- Guards in force, in the layout of 0x2202:01. -/
def State.guardsOn (s : State) : Nat :=
  let c := s.guardCond
  s.get (K 0x2202 1) &&& ((if nth false c 0 then 7 else 0) + (if nth false c 1 then 0x70 else 0) + (if nth false c 2 then 0x700 else 0))

/-- Detail of the guard that refuses a stage: 0 download, 1 verify, 2 activate; the recovery loader checks none (R469).
[DEDUCED, log entry 142] -/
def State.guardDetail (s : State) (stage : Nat) : Option Nat :=
  if s.sys.recovery then none else ([0, 1, 2].find? fun g => bit s.guardsOn (4 * g + stage)).map (· + 1)

/-! ### Download (R474–R479) -/

/-- A manifest starts or resumes a download (R474, R479). [DEDUCED, log entry 140] -/
def State.updateStart (s : State) (m : List Byte) : State × Code :=
  let open_ := s.updStage == 1
  let held := match s.journal with | some j => j.image | none => 0
  if !manifestOk m then (s, (0x0403, 0x2201))
  else if beAt m 8 4 ≠ 0x2048 ∨ s.get (K 0x1018 3) < byteAt m 0xC then (s, (0x0403, 0x2202))
  else if beAt m 0x18 4 < s.nv.fuses.counter then (s, (0x0403, 0x2203))
  else if !s.authentic m then (s, (0x0502, 0))
  else if !s.sys.recovery && (s.onTrial || s.upd.roll.isSome) then (s, (0x0401, s.mode.code))
  else if open_ && held != imageId m then (s, (0x0402, 0))
  else match s.guardDetail 0 with
    | some d => (s, (0x0501, d))
    | none =>
      if open_ then
        let stored := match s.journal with | some j => j.stored | none => []
        ((s.putUpd { s.upd with stored := stored, fresh := 0 }).showChunks, ok)
      else
        let n := if s.sys.recovery then s.recoveryTarget else s.targetSlot
        let t : State := { s with
          nv := { s.nv with slots := putNth ⟨[], []⟩ s.nv.slots (n - 1) ⟨m, []⟩ },
          upd := { s.upd with stored := [], fresh := 0, target := if s.sys.recovery then n else 0 } }
        (t.toStage 1, ok)

/-- A chunk of the slot of a download decrypts to its plaintext (R472). -/
def State.openChunk (s : State) (m : List Byte) (n : Nat) (chunk : List Byte) : Option (List Byte) :=
  let key := nth [] s.nv.fuses.imageKeys (byteAt m 6)
  Config.gcmOpen key (slice m 0x30 8 ++ toBe 4 n) (slice m 0x10 4 ++ toBe 4 n) (slice chunk 0 4080) (slice chunk 4080 16)

/-- A chunk is stored, with its result (R477, R481). [DEDUCED, log entry 139; DESIGN CHOICE, log entry 11] -/
def State.storeChunk (s : State) (image n : Nat) (chunk : List Byte) : State × Code :=
  let m := s.slotManifest s.targetSlot
  if s.updStage ≠ 1 then (s, (0x0401, s.mode.code))
  else if image ≠ imageId m ∨ chunkCount m ≤ n then (s, (0x0301, 0))
  else if s.upd.stored.contains n then (s, ok)
  else match s.guardDetail 0 with
    | some d => (s, (0x0501, d))
    | none => match s.openChunk m n chunk with
      | none => (s, (0x0502, 0))
      | some _ =>
        let u : Upd := { s.upd with stored := s.upd.stored ++ [n], fresh := s.upd.fresh + 1 }
        let t : State := { s with
          nv := { s.nv with slots := modNth ⟨[], []⟩ s.nv.slots (s.targetSlot - 1) fun x => { x with chunks := mapPut x.chunks n chunk } },
          upd := u }
        if u.stored.length = chunkCount m then (t.toStage 2, ok)
        else if 32 ≤ u.fresh then (t.writeJournal.showChunks, ok) else (t.showChunks, ok)

/-- A result is the last update result (R494). -/
def updResult (r : State × Code) : State × Code := (r.1.set (K 0x2200 5) r.2.1, r.2)

/-- The effect of a chunk downloaded to 0x2200:03 (R476). [DEDUCED, log entry 139] -/
def effChunk : DomEffect := fun (s : State) _ b => updResult (s.storeChunk (beAt b 0 4) (beAt b 4 4) (b.drop 8))

/-- The download of a client to 0x2200:03 completes. -/
def execChunk (dt : Nat) (c : Client) (s : State) : Res := done ((s.tick dt).complete c (· == K 0x2200 3) effChunk)

/-! ### Update datagrams (R475) -/

/-- A status answer goes to the sender. -/
def State.updAnswer (s : State) (p : Nat) (addr : Sender) (port image chunk res : Nat) : State :=
  let t := s.showChunks
  let b := toBe 2 0x5A55 ++ toBe 1 0x81 ++ toBe 1 0 ++ toBe 4 image ++ toBe 4 chunk ++ toBe 4 0 ++ toBe 2 res ++ toBe 1 t.updStage ++ toBe 1 0
    ++ toBe 2 (t.get (K 0x2200 6)) ++ toBe 2 (t.get (K 0x2200 7)) ++ toBe 2 (t.get (K 0x2200 8)) ++ toBe 2 0
  { t with net := { t.net with ethTx := modNth [] t.net.ethTx p fun q => q ++ [⟨3, 0, false, addr.addr, port, b, some addr.mac⟩] } }

/-- The update manager takes datagrams: firmware or recovery loader runs. -/
def State.updServes (s : State) : Bool := s.serverUp

/-- A fragment joins its manifest or chunk, unless 100 ms have passed since the first; with the fourth the whole acts, which HOLD refuses (R54), and
is answered. -/
def State.updFragment (s : State) (p : Nat) (addr : Sender) (port image chunk frag : Nat) (data : List Byte) : State :=
  let mine (c : Coll) : Bool := c.port == p && c.addr == addr.addr && c.udp == port && c.image == image && c.chunk == chunk
  let old := s.upd.colls.find? fun c => mine c && decide (s.now < c.firstAt + 100000000)
  let rest := s.upd.colls.filter fun c => !mine c
  if old.isNone && decide (16 ≤ rest.length) then s
  else
    let c := old.getD ⟨p, addr.addr, port, image, chunk, s.now, []⟩
    let c1 : Coll := { c with frags := mapPut c.frags frag data }
    if c1.frags.length < 4 then s.putUpd { s.upd with colls := rest ++ [c1] }
    else
      let whole := c1.frags.flatMap (·.2)
      let t := s.putUpd { s.upd with colls := rest }
      let (u, r) := if t.mode = .hold then (t, (0x0401, t.mode.code)) else updResult (if chunk = 0xFFFFFFFF then t.updateStart whole else t.storeChunk image chunk whole)
      u.updAnswer p addr port image chunk r.1

/-- An update datagram arrives on a port (R475). -/
def State.updDatagram (s : State) (p : Nat) (addr : Sender) (port : Nat) (b : List Byte) : State :=
  let op := byteAt b 2
  let form := beAt b 0 2 == 0x5A55 && byteAt b 3 % 64 == 0 && beAt b 12 4 == 0
  if !s.netUp p || !bit (s.get (K 0x2200 0x10)) p || !s.updServes || !form then s
  else if op = 3 ∧ b.length = 16 then s.updAnswer p addr port (beAt b 4 4) (beAt b 8 4) (s.get (K 0x2200 5))
  else if b.length ≠ 1040 ∨ (op = 1 ∧ beAt b 8 4 ≠ 0xFFFFFFFF) ∨ (op = 2 ∧ beAt b 8 4 = 0xFFFFFFFF) then s
  else if op = 1 ∨ op = 2 then s.updFragment p addr port (beAt b 4 4) (beAt b 8 4) (byteAt b 3 / 64) (b.drop 16)
  else s

/-- Bytes of an update datagram: operation, fragment byte, image, chunk, data. -/
def updBytes (op frag image chunk : Nat) (data : List Byte) : List Byte :=
  toBe 2 0x5A55 ++ toBe 1 op ++ toBe 1 frag ++ toBe 4 image ++ toBe 4 chunk ++ toBe 4 0 ++ data

/-- A manifest fragment. -/
def execManifestFragment (dt : Nat) (p : Fin 2) (addr : Sender) (port : Nat) (frag : Byte) (image : Word32) (data : List Byte) (s : State) : Res :=
  done ((s.tick dt).updDatagram p addr port (updBytes 1 frag.toNat image.toNat 0xFFFFFFFF data))

/-- A chunk fragment. -/
def execChunkFragment (dt : Nat) (p : Fin 2) (addr : Sender) (port : Nat) (frag : Byte) (image chunk : Word32) (data : List Byte) (s : State) : Res :=
  done ((s.tick dt).updDatagram p addr port (updBytes 2 frag.toNat image.toNat chunk.toNat data))

/-- A status query. -/
def execStatusQuery (dt : Nat) (p : Fin 2) (addr : Sender) (port : Nat) (image chunk : Word32) (s : State) : Res :=
  done ((s.tick dt).updDatagram p addr port (updBytes 3 0 image.toNat chunk.toNat []))

/-- Fragments whose manifest or chunk is not whole after 100 ms are discarded (R475). -/
def execUpdateFragmentTimeout (dt : Nat) (s : State) : Res :=
  let t := s.tick dt
  done (t.putUpd { t.upd with colls := t.upd.colls.filter fun c => decide (t.now < c.firstAt + 100000000) })

/-! ### Verification (R482) -/

/-- Verification starts (R481, R482). [DEDUCED, log entry 141] -/
def State.updateVerify (s : State) : State × Code :=
  if s.updStage ≠ 2 ∧ s.updStage ≠ 4 then (s, (0x0403, 0x2204))
  else match s.guardDetail 1 with
    | some d => (s, (0x0501, d))
    | none => (s.toStage 3, ok)

/-- Plaintext of the image in the slot of a download, none when a tag fails. -/
def State.imagePlain (s : State) : Option (List Byte) :=
  let x := nth ⟨[], []⟩ s.nv.slots (s.targetSlot - 1)
  let n := chunkCount x.manifest
  let all := (List.range n).foldl (fun (a : Option (List Byte)) k =>
    match a, s.openChunk x.manifest k ((mapGet x.chunks k).getD []) with
    | some b, some c => some (b ++ c.take 4080)
    | _, _ => none) (some [])
  all.map fun b => b.take (beAt x.manifest 0x28 4)

/-- Words of the store corrected, in these blocks, and words that read as uncorrectable, at these byte offsets (R465). -/
def State.storeErrors (s : State) (corrected bad : List Nat) : State :=
  let t := s.addTo (K 0x2100 4) corrected.length
  let first := corrected.foldl (fun l b => if l.contains (b % 1024) then l else l ++ [b % 1024]) t.nv.refresh.first
  let u : State := { t with nv := { t.nv with refresh := { t.nv.refresh with first := first } } }
  let v := u.set (K 0x2100 6) (first.headD 0xFFFF)
  bad.foldl (fun w o => (w.inc (K 0x2100 5)).event 0x15 1 (o % 2 ^ 32)) v

/-- Verification ends: stopped by its guard, verified, or failed, and then the download starts again from chunk 0 (R481, R482).
[DEDUCED, log entry 141] -/
def State.verifyEnds (s : State) (corrected bad : List Nat) : State :=
  if s.updStage ≠ 3 then s
  else
    let t := s.storeErrors corrected bad
    if (t.guardDetail 1).isSome then t.toStage 2
    else
      let m := t.slotManifest t.targetSlot
      let good := bad.isEmpty && t.authentic m && match t.imagePlain with | some p => Config.sha384 p == slice m 0x40 48 | none => false
      if good then (t.toStage 4).set (K 0x2200 5) 0
      else ((t.putUpd { t.upd with stored := [] }).toStage 1).set (K 0x2200 5) 0x0502

/-- Verification ends. -/
def execVerificationComplete (dt : Nat) (corrected bad : List Nat) (s : State) : Res := done ((s.tick dt).verifyEnds corrected bad)

/-! ### Activation, confirmation, fall-back (R469, R483–R489) -/

/-- The boot record of the image under activation. -/
def State.pendRec (s : State) (stage trials mode : Nat) : BootRec :=
  { s.bootRec with stage := stage, trials := trials, actmode := mode, pending := s.targetSlot,
                   pendDigest := Config.sha384 (s.slotManifest s.targetSlot) }

/-- The recovery loader's activation: both boot records afresh, then a reset (R469). -/
def State.recoveryActivate (s : State) : State × Code :=
  if s.updStage ≠ 4 then (s, (0x0403, 0x2204))
  else
    let n := s.targetSlot
    let r (q : Nat) : BootRec := ({ BootRec.factory true with seq := q, active := n, actDigest := Config.sha384 (s.slotManifest n) } : BootRec).sealed
    let t : State := { s with nv := { s.nv with boots := [r 1, r 2], journals := [none, none] } }
    (t.resetTo false 5, ok)

/-- Activation by rolling restart (R483, R484). [DEDUCED, log entry 144] -/
def State.updateActivate (s : State) : State × Code :=
  let m := s.slotManifest s.targetSlot
  if s.sys.recovery then s.recoveryActivate
  else if s.mode = .safe ∨ s.mode = .hold ∨ s.mode = .boot then (s, (0x0401, s.mode.code))
  else if s.updStage ≠ 4 then (s, (0x0403, 0x2204))
  else if byteAt m 7 % 2 = 0 ∨ beAt s.runManifest 0x14 4 < beAt m 0x24 4 then (s, (0x0403, 0x2205))
  else match s.guardDetail 2 with
    | some d => (s, (0x0501, d))
    | none => (((s.writeBoot (s.pendRec 1 1 0)).startRoll s.targetSlot none).showImage, ok)

/-- Activation with reset (R483). [DEDUCED, log entry 142] -/
def State.updateReset (s : State) : State × Code :=
  if s.mode ≠ .preop then (s, (0x0401, s.mode.code))
  else if s.updStage ≠ 4 then (s, (0x0403, 0x2204))
  else match s.guardDetail 2 with
    | some d => (s, (0x0501, d))
    | none => ((s.writeBoot (s.pendRec 2 0 1)).resetTo false 5, ok)

/-- The running image reads the body of the configuration copy in use (R487). -/
def State.bodyReadable (s : State) : Bool :=
  match s.confInUse with
  | some n => s.readsFormat (nth ConfCopy.empty s.nv.confs n).format
  | none => true

/-- Confirmation (R487, R488): the record, the fuse counter, and the save of the migrated configuration. -/
def State.updateConfirm (s : State) : State × Code :=
  let r := s.bootRec
  if r.stage ≠ 2 then (s, (0x0403, 0x2207))
  else if !s.bodyReadable then (s, (0x0403, 0x2206))
  else
    let t := s.writeBoot { r with active := r.pending, stage := 0, pending := 0, trials := 0, actDigest := r.pendDigest, pendDigest := [] }
    let up := max t.nv.fuses.counter (beAt t.runManifest 0x18 4)
    let u : State := { t with nv := { t.nv with fuses := { t.nv.fuses with counter := min 63 up } } }
    let v := (u.toStage 0).showImage
    ((if v.sys.save.isSome then v else v.startSave), ok)

/-- A fall-back on command (R489). [DEDUCED, log entry 143] -/
def State.updateFallBack (s : State) : State × Code :=
  let r := s.bootRec
  if r.stage ≠ 2 ∧ s.mode ≠ .safe ∧ s.mode ≠ .hold then (s, (0x0403, 0x2207))
  else if r.stage ≠ 2 then (s, (0x0401, s.mode.code))
  else if s.mode = .safe then (s.putUpd { s.upd with waits := some 3 }, (0x0401, s.mode.code))
  else if r.actmode = 1 ∧ s.mode ≠ .preop then (s, (0x0401, s.mode.code))
  else (s.fallBackNow 3, ok)

/-- The download is abandoned (R478, R479). [DEDUCED, log entry 140] -/
def State.updateAbandon (s : State) : State × Code :=
  if 1 ≤ s.updStage ∧ s.updStage ≤ 4 then ((s.putUpd { s.upd with stored := [] }).toStage 0, ok) else (s, ok)

/-- The staged manifest. -/
def State.staged (s : State) : List Byte := (s.dom (K 0x2200 2)).getD []

/-- Effect of a write of 0x2200:01; the recovery loader takes 0x01 to 0x04 only (R469). -/
def effUpdate : Effect := fun s v =>
  if s.sys.recovery && decide (4 < v) then (s, (0x0409, 0))
  else updResult (match v with
    | 1 => s.updateStart s.staged
    | 2 => s.updateAbandon
    | 3 => s.updateVerify
    | 4 => s.updateActivate
    | 5 => s.updateConfirm
    | 6 => s.updateFallBack
    | 7 => s.updateReset
    | _ => (s, (0x0301, 0)))

/-- Update command 0x01. -/
def execUpdateStart (dt : Nat) (rq : Rq) (s : State) : Res := done ((s.tick dt).command rq (K 0x2200 1) 1 effUpdate)

/-- Update command 0x02. -/
def execUpdateAbandon (dt : Nat) (rq : Rq) (s : State) : Res := done ((s.tick dt).command rq (K 0x2200 1) 2 effUpdate)

/-- Update command 0x03. -/
def execUpdateVerify (dt : Nat) (rq : Rq) (s : State) : Res := done ((s.tick dt).command rq (K 0x2200 1) 3 effUpdate)

/-- Update command 0x04. -/
def execUpdateActivate (dt : Nat) (rq : Rq) (s : State) : Res := done ((s.tick dt).command rq (K 0x2200 1) 4 effUpdate)

/-- Update command 0x04 in the recovery loader; outside it the command has its meaning of R483. -/
def execRecoveryActivate (dt : Nat) (rq : Rq) (s : State) : Res :=
  let t := s.tick dt
  done (t.command rq (K 0x2200 1) 4 effUpdate)

/-- Update command 0x05. -/
def execUpdateConfirm (dt : Nat) (rq : Rq) (s : State) : Res := done ((s.tick dt).command rq (K 0x2200 1) 5 effUpdate)

/-- Update command 0x06. -/
def execUpdateFallBack (dt : Nat) (rq : Rq) (s : State) : Res := done ((s.tick dt).command rq (K 0x2200 1) 6 effUpdate)

/-- Update command 0x07. -/
def execUpdateActivateWithReset (dt : Nat) (rq : Rq) (s : State) : Res := done ((s.tick dt).command rq (K 0x2200 1) 7 effUpdate)

/-- The firmware confirms by itself after the auto-confirm time of trial operation with no safety record latched (R487). -/
def State.autoConfirm (s : State) : State :=
  let n := s.get (K 0x2200 0x0D)
  let clean := s.safe.log.all fun e => match e with | some x => !(x.safety && x.latched) | none => true
  if s.mode != .boot && decide (n ≠ 0) && decide (s.upd.trialAt + n * 1000000000 ≤ s.now) && clean && s.bootRec.stage == 2 && s.sys.apc.any id then
    (updResult s.updateConfirm).1
  else s

/-- The auto-confirm time ends. -/
def execAutoConfirm (dt : Nat) (s : State) : Res := done ((s.tick dt).autoConfirm)

/-! ### Rolling restart (R484, R485) -/

/-- An SSV core leaves the vote for its restart. -/
def State.restartCore (s : State) (c : Nat) : State :=
  { s with safe := { s.safe with cores := putNth false s.safe.cores c false } }.set (K 0x8300 1) 2

/-- A pair has restarted and serves again: the next step of a rolling restart begins (R484). -/
def State.pairBack (s : State) (p : Nat) : State :=
  match s.upd.roll with
  | some r =>
    let go (apc : List Bool) (step : Nat) : State :=
      { s with sys := { s.sys with apc := apc }, upd := { s.upd with roll := some { r with step := step } } }
    if r.step = 3 ∧ p = 1 then go [false, true] 4
    else if r.step = 4 ∧ p = 0 then (go [true, true] 5).restartCore 2
    else s
  | none =>
    if s.mode = .boot ∨ s.pwr.inReset = true then s
    else { s with sys := { s.sys with apc := putNth false s.sys.apc p true } }

/-- An application-core pair has restarted. -/
def execApcPairRestarted (dt : Nat) (p : Fin 2) (s : State) : Res := done (((s.tick dt).pairBack p).calResume)

/-- The last step of a rolling restart (R484, R489): the boot record, the running image, and the state before HOLD, subject to R53.
[DEDUCED, log entry 143] -/
def State.rollEnds (s : State) : State :=
  match s.upd.roll with
  | none => s
  | some r =>
    if r.step ≠ 8 then s
    else
      let b := s.bootRec
      let rec_ : BootRec := match r.fall with
        | some c => { b with stage := 0, pending := 0, trials := 0, pendDigest := [], cause := c }
        | none => { b with stage := 2 }
      let t : State := { s.writeBoot rec_ with upd := { s.upd with roll := none, slot := r.slot, trialAt := s.now } }
      let u := ((t.toStage (if r.fall.isSome then 0 else 6)).showImage).showCopies
      let v := if u.mode = .hold then
          u.enter (if u.sys.before = 1 then .preop else if u.sys.before = 2 then .operate else .standby) 8
        else u
      if r.fall.isSome || v.bodyReadable then v
      else { v with upd := { v.upd with waits := some 2 } }

/-- A rolling restart ends. -/
def execEndOfRollingRestart (dt : Nat) (s : State) : Res := done ((((s.tick dt).rollEnds).calResume).doseNow)

/-! ### Refresh (R466) -/

/-- First and last block of configuration copy n. -/
def confBlocks (n : Nat) : Nat × Nat := (0x210 + 0x20 * n, 0x22F + 0x20 * n)

/-- A save or a download is writing a block. -/
def State.blockBusy (s : State) (b : Nat) : Bool :=
  (match s.sys.save with
    | some j => decide ((confBlocks j.target).1 ≤ b ∧ b ≤ (confBlocks j.target).2)
    | none => false)
  || (s.updStage == 1 && decide (0x10 + 0x100 * (s.targetSlot - 1) ≤ b ∧ b < 0x110 + 0x100 * (s.targetSlot - 1)))

/-- A block has been refreshed, or is skipped while it is written (R466): a block of a corrected word first, then in address order, then
the skipped ones; `corrected` words were corrected in it, and `bad` byte offsets read as uncorrectable (R465). [DEDUCED, log entry 145] -/
def State.refreshBlock (s : State) (corrected : Nat) (bad : List Nat) : State :=
  let r := s.nv.refresh
  let t := (s.addTo (K 0x2100 4) corrected)
  let u := bad.foldl (fun w o => (w.inc (K 0x2100 5)).event 0x15 1 (o % 2 ^ 32)) t
  let put (x : Refresh) (w : State) : State := { w with nv := { w.nv with refresh := x } }
  let oneDone (w : State) : State :=
    if w.get (K 0x2100 2) + 1 < 1024 then w.inc (K 0x2100 2)
    else put { w.nv.refresh with next := 0, skipped := [] } ((w.set (K 0x2100 2) 0).set (K 0x2100 3) w.timeNs)
  match r.first.find? fun b => !s.blockBusy b with
  | some b => (put { r with first := r.first.erase b } u).set (K 0x2100 6) ((r.first.erase b).headD 0xFFFF)
  | none =>
    if r.next < 1024 then
      if s.blockBusy r.next then put { r with next := r.next + 1, skipped := r.skipped ++ [r.next] } s
      else oneDone (put { r with next := r.next + 1 } u)
    else match r.skipped with
      | b :: rest => if s.blockBusy b then s else oneDone (put { r with skipped := rest } u)
      | [] => put { r with next := 0 } s

/-- Other work of the store manager comes before the refresh (R492). -/
def State.refreshWaits (s : State) : Bool := s.sys.save.isSome || s.nextArchive.isSome || s.upd.doseDue || s.updStage == 3

/-- The refresher takes its next block. -/
def execRefreshBlock (dt : Nat) (corrected : Nat) (bad : List Nat) (s : State) : Res :=
  let t := s.tick dt
  done (if t.sys.apc.any id && t.mode != .boot && !t.refreshWaits then t.refreshBlock corrected bad else t)

end Sys2Proof.Machine
end

