-- ==== Sys2Proof/Machine/States.lean ====
section
/-! DEFINITION. State requests (R52): the checks of leaving PREOP (R12, R33, R263, R436, R443) and the transitions that wait for a
milestone. -/

namespace Sys2Proof.Machine

/-- A Kerb image has maps of the committed dimensions of every source (R141). -/
def State.kerbDims (s : State) (img : KerbImg) : Bool :=
  (List.range 4).all fun i =>
    let d := nth (0, 0, 0) img.desc i
    d.1 == (s.srcW i + 3) / 4 && d.2.1 == (s.srcH i + 3) / 4

/-- Kerb maps for the committed dimensions are held, active or armed (R52). -/
def State.kerbFits (s : State) : Bool :=
  let kb := s.comp.kerb
  let now := match kb.ram with | some i => s.kerbDims i | none => false
  let next := kb.armed.isSome && s.kerbDims (nth ⟨KerbImg.zero, []⟩ kb.banks (1 - kb.active)).img
  s.kerbValid && (now || next)

/-- Addressed pixels and the capacities of R33 for all that is committed: 0, or the detail (R12, R33). -/
def State.loadCheck (s : State) : Nat :=
  let g := s.com
  let cap := if F32.le (F32.ofNat (g (K 0x4300 2))) 0x43700000 then 2097152 else 1048576
  if cap < pixelsIn g then 0x4303
  else
    let t := s.trial g
    t.capacity t.comingCfg true

/-- Two enabled consuming connections share an identifier, or a peer address and port (R436). [DEDUCED, log entry 47] -/
def State.connsClash (s : State) : Bool :=
  let on := (List.range 16).filter fun n => s.get (K (0x1400 + n) 1) == 1 && s.get (K (0x1400 + n) 2) == 0
  let same (a b u : Nat) : Bool := s.get (K (0x1400 + a) u) == s.get (K (0x1400 + b) u)
  let udp (n : Nat) : Bool := s.get (K (0x1400 + n) 3) == 0
  on.any fun a => on.any fun b => decide (a < b) && udp a == udp b &&
    (if udp a then same a b 5 && same a b 6 && same a b 7 else same a b 4)

/-- A mirror-array source of the committed configuration has T_dmin plus its longest slot above 700 µs (R236, R443). -/
def State.longSlots (s : State) : Bool :=
  let g := s.com
  (onOf g).any fun i => g (K (0x4330 + i) 2) == 2 &&
    (let b := match s.armedOf (K (0x4500 + i) 4) with
      | some a => mapGet a.doms (K (0x4500 + i) 3)
      | none => mapGet s.activeDoms (K (0x4500 + i) 3)
     let ps := tablePlanes (b.getD (planeBytes planeDefault))
     let dmin := dwellIn g i
     decide (700000000 < dmin * 1000 + (slotsPs ps (g (K (0x4500 + i) 2)) dmin).foldl max 0))

/-- What refuses leaving PREOP for twin operation, 0 when nothing does (R443). -/
def State.twinCheck (s : State) : Nat :=
  let on := s.get (K 0x8600 1)
  if on = 1 ∧ s.get (K 0x7030 1) = 0 then 0x8601
  else if on = 1 ∧ s.longSlots = true then 0x8602
  else if on ≠ s.tw.enabled then 0x8603
  else 0

/-- The checks of leaving PREOP, in the order that this model takes: 0, or the detail of the first that fails (R52).
[DEDUCED, log entry 46] -/
def State.leaveCheck (s : State) : Nat :=
  let steps : List Nat := [s.loadCheck, s.sinkCheck s.com, if s.kerbFits then 0 else 0x4101, if s.connsClash then 0x8001 else 0, s.twinCheck]
  (steps.find? fun d => d != 0).getD 0

/-- The checks pass and the sink configuration takes its claims; otherwise the code of the refusal (R52, R263). [DEDUCED, log entry 46] -/
def State.mayLeave (s : State) : Except Code State :=
  match s.takeSinkClaims with
  | .error r => .error (0x0402, r)
  | .ok t => if s.leaveCheck ≠ 0 then .error (0x0403, s.leaveCheck) else .ok t

/-- A state change is accepted and waits for its milestone. -/
def State.await (s : State) (v : Nat) : State :=
  { s with sys := { s.sys with stateReq := some ⟨v, 3, []⟩ } }.set (K 0x2000 2) v

/-- A state request (R52): of the present state, or while a change is pending, it is a success with no effect. [DEDUCED, log entry 50] -/
def State.stateRequest (s : State) (v : Nat) : State × Code :=
  if v ≠ 1 ∧ v ≠ 2 then (s, (0x0301, 0))
  else if s.sys.stateReq.isSome then (s, ok)
  else match s.mode, v with
    | .operate, 1 => (s.await 1, ok)
    | .preop, 2 => match s.mayLeave with
      | .error r => (s, r)
      | .ok t => (t.await 2, ok)
    | .operate, _ | .preop, _ => (s, ok)
    | m, _ => (s, (0x0401, m.code))

/-- Effect of a write of the state request entry. -/
def effStateRequest : Effect := fun s v => s.stateRequest v

/-- A request for PREOP. -/
def execStateRequestPreop (dt : Nat) (rq : Rq) (s : State) : Res := done ((s.tick dt).command rq (K 0x2000 2) 1 effStateRequest)

/-- A request for OPERATE. -/
def execStateRequestOperate (dt : Nat) (rq : Rq) (s : State) : Res := done ((s.tick dt).command rq (K 0x2000 2) 2 effStateRequest)

end Sys2Proof.Machine
end

