-- ==== Sys2Proof/Machine/Thermal.lean ====
section
/-! DEFINITION. Temperature sensors, the thermal supervisor and its states (R507–R511), and the battery voltage (R480). -/

namespace Sys2Proof.Machine

/-- The neighbours of a sensor: next to it in its row or column on its own die; 0–15 the logic die, 16–23 the power die (R507).
[DEDUCED, log entry 86] -/
def sensorNear (k : Nat) : List Nat :=
  let base := if k < 16 then 0 else 16
  let n := if k < 16 then 16 else 8
  let j := k - base
  ((if j % 4 = 0 then [] else [j - 1]) ++ (if j % 4 = 3 then [] else [j + 1]) ++ (if j < 4 then [] else [j - 4])
    ++ (if n ≤ j + 4 then [] else [j + 4])).map (base + ·)

/-- Least and greatest of a list of readings. -/
def spread (l : List Int) : Int × Int :=
  match l with
  | [] => (0, 0)
  | a :: r => r.foldl (fun m x => (if x < m.1 then x else m.1, if m.2 < x then x else m.2)) (a, a)

/-- How a sensor stands to the mean of its neighbours that are not broken: beyond 12 K, within 4 K; none when it is not judged (R508).
Readings in 1/65,536 K. -/
def State.sensorJudge (s : State) (k : Nat) : Option (Bool × Bool) :=
  let l := ((sensorNear k).filter fun j => !bit (s.get (K 0x2500 0x0F)) j).map fun j => nth 0 s.pwr.temps j
  let m := spread l
  if l.length < 2 ∨ 6 * 65536 < m.2 - m.1 then none
  else
    let n : Int := (l.length : Nat)
    let d := (n * nth 0 s.pwr.temps k - l.foldl (· + ·) 0).natAbs
    some (decide (12 * 65536 * n < (d : Int)), decide ((d : Int) ≤ 4 * 65536 * n))

/-- Broken sensors are judged (R508). [DEDUCED, log entry 158] -/
def State.judgeSensors (s : State) : State :=
  (List.range 24).foldl (fun t k =>
    let broken := bit (s.get (K 0x2500 0x0F)) k
    let drop : State := { t with pwr := { t.pwr with nearSince := mapDel t.pwr.nearSince k } }
    match s.sensorJudge k with
    | none => if broken then drop else t
    | some (far, near) =>
      if !broken then (if far then (t.setFlag (K 0x2500 0x0F) k true).stand 0x17 8 k else t)
      else if !near then drop
      else
        let since := (mapGet t.pwr.nearSince k).getD t.now
        if since + 60000000000 ≤ t.now then (drop.setFlag (K 0x2500 0x0F) k false).causeGone 0x17 8 k
        else { t with pwr := { t.pwr with nearSince := mapPut t.pwr.nearSince k since } }) s

/-- A die has fewer than two sensors that are not broken (R508). [DEDUCED, log entry 158] -/
def State.dieBlind (s : State) : Bool :=
  let ok (a n : Nat) : Nat := ((List.range n).filter fun k => !bit (s.get (K 0x2500 0x0F)) (a + k)).length
  decide (ok 0 16 < 2 ∨ ok 16 8 < 2)

/-- The valid sensors. -/
def State.validSensors (s : State) : List Nat := (List.range 24).filter fun k => !bit (s.get (K 0x2500 0x0F)) k

/-- Rate of rise of a sensor in 1/65,536 K/s: its reading minus its reading 1 s earlier; 0 until that one exists (R509). -/
def State.riseOf (s : State) (k : Nat) : Int :=
  match (s.pwr.hist.filter fun p => decide (p.1 + 1000000000 ≤ s.now)).getLast? with
  | some p => nth 0 s.pwr.temps k - nth 0 p.2 k
  | none => 0

/-- Thermal state (R511). -/
def State.therm (s : State) : Nat := s.get (K 0x2500 9)

/-- The thermal state changes: timers restart, and the factor, the halving and the records follow; ARG is the limit's entry for
kind 0x0B and the sensor for kind 0x16 (R429, R511). -/
def State.setTherm (s : State) (st arg : Nat) : State :=
  let old := s.therm
  if old = st then s else
  let t := { s with pwr := { s.pwr with thermSince := s.now, stepFrom := s.now } }.set (K 0x2500 9) st
  let t1 := t.set (K 0x2500 0x0A) (if 2 ≤ st then t.get (K 0x2500 8) else 0xFFFF)
  let t2 : State := if decide (3 ≤ st) = decide (3 ≤ old) then t1 else { t1 with fs := { t1.fs with halveNext := some (decide (3 ≤ st)) } }
  let t3 := if st = 1 then t2.stand 0x17 0x0B arg else t2
  if st = 5 then t3.stand 0x17 0x16 arg else t3

/-- Effect of a write of the derate factor: from thermal state 0x02 it is the factor in force (R511, R520). -/
def effDerate : Effect := fun s v =>
  let t := s.set (K 0x2500 8) v
  (if 2 ≤ t.therm then t.set (K 0x2500 0x0A) v else t, ok)

/-- The records of the thermal supervisor whose cause is gone. -/
def State.thermGone (s : State) (kind : Nat) : State :=
  if kind = 0x0B then (s.causeGone 0x17 0x0B (K 0x2500 1)).causeGone 0x17 0x0B (K 0x2500 3)
  else (List.range 24).foldl (fun t k => t.causeGone 0x17 kind k) s

/-- The supervisor judges Hot and Cool, shutdown and blind dies after a sample (R508, R510, R511). [DEDUCED, log entry 157] -/
def State.superviseTherm (s : State) : State :=
  let v := s.validSensors
  let req := sgn 32 (s.get (K 0x2500 1))
  let shut := sgn 32 (s.get (K 0x2500 2))
  let lim := sgn 32 (s.get (K 0x2500 3))
  let hyst := sgn 32 (s.get (K 0x2500 4))
  let r (k : Nat) : Int := nth 0 s.pwr.temps k
  let hot := v.any fun k => decide (req ≤ r k ∨ lim ≤ s.riseOf k)
  let cool := v.all fun k => decide (r k ≤ req - hyst ∧ 2 * s.riseOf k < lim)
  let near (x y : Int) : Bool := decide (-(10 * 65536) ≤ x - y ∧ x - y ≤ 10 * 65536)
  let fast := v.any fun k => near (r k) req || near (r k) shut || decide (lim < 2 * s.riseOf k)
  let since := if cool then some (s.pwr.coolSince.getD s.now) else none
  let most (l : List Nat) : Option Int := if l.isEmpty then none else some (spread (l.map r)).2
  let show_ (t : State) (k : Nat) (x : Option Int) : State := match x with | some y => t.set k (unsgn 32 y) | none => t
  let t := { s with pwr := { s.pwr with hot := hot, coolSince := since } }.set (K 0x2500 0x0E) (b2n fast)
  let t1 := show_ (show_ t (K 0x2500 0x0B) (most (v.filter (· < 16)))) (K 0x2500 0x0C) (most (v.filter (16 ≤ ·)))
  let t2 := show_ t1 (K 0x2500 0x0D) (if v.isEmpty then none else some (spread (v.map s.riseOf)).2)
  let tooHot := v.find? fun k => decide (shut ≤ r k)
  let limit := if v.any fun k => decide (req ≤ r k) then K 0x2500 1 else K 0x2500 3
  match tooHot with
  | some k => t2.setTherm 5 k
  | none =>
    if t2.therm = 5 then (if v.all fun k => decide (r k ≤ shut - hyst) then (t2.thermGone 0x16).setTherm 4 0 else t2)
    else if t2.dieBlind then
      (if t2.therm < 4 then t2.setTherm 4 0 else t2)
    else if t2.therm = 0 ∧ hot = true then t2.setTherm 1 limit
    else t2

/-- The record of a die without two good sensors (R508). -/
def State.blindRecord (s : State) (was : Bool) : State :=
  if s.dieBlind == was then s else if s.dieBlind then s.stand 0x17 8 0xFFFFFFFF else s.causeGone 0x17 8 0xFFFFFFFF

/-- The battery voltage, averaged, and the state of its guard (R480). -/
def State.battery (s : State) (mv : Nat) : State :=
  let lim := s.get (K 0x2202 3)
  let low := if mv < lim then true else if lim + s.get (K 0x2202 4) ≤ mv then false else s.upd.battLow
  { s with upd := { s.upd with battLow := low } }.set (K 0x2202 5) mv

/-- A sample of every sensor in FX32, and of the battery voltage in mV (R507–R511, R514). [DEDUCED, log entry 157] -/
def State.tempSample (s : State) (r : List Int) (mv : Nat) : State :=
  if s.pwr.inReset || s.sys.bootStep = 0 then s else
  let was := s.dieBlind
  let temps := (List.range 24).map fun k => match r[k]? with | some x => clampI (-(2 ^ 31)) (2 ^ 31 - 1) x | none => nth 0 s.pwr.temps k
  let old := s.pwr.hist.filter fun p => decide (p.1 + 1000000000 ≤ s.now)
  let keep := (old.drop (old.length - 1)) ++ s.pwr.hist.filter fun p => decide (s.now < p.1 + 1000000000)
  let t : State := { s with pwr := { s.pwr with temps := temps, hist := keep ++ [(s.now, temps)] } }
  let t1 := (List.range 24).foldl (fun t k => t.set (K 0x2510 (k + 1)) (unsgn 32 (nth 0 temps k))) t
  (((t1.judgeSensors.blindRecord was).superviseTherm).calByTemp).battery mv

/-- The sensors are sampled. -/
def execTemperatureSample (dt : Nat) (r : List Int) (mv : Nat) (s : State) : Res := done ((s.tick dt).tempSample r mv)

/-- Nanoseconds of a millisecond entry. -/
def State.msOf (s : State) (k : Nat) : Nat := s.get k * 1000000

/-- The grace time ends in state 0x01 (R511). -/
def State.graceEnd (s : State) : State :=
  if s.therm = 1 ∧ s.pwr.thermSince + s.msOf (K 0x2500 5) ≤ s.now ∧ s.pwr.coolSince = none then s.setTherm 2 0 else s

/-- The grace time ends. -/
def execGraceTimeEnd (dt : Nat) (s : State) : Res := done ((s.tick dt).graceEnd)

/-- A step interval ends in state 0x02 or 0x03 (R511). [DEDUCED, log entry 158] -/
def State.stepEnd (s : State) : State :=
  if (s.therm = 2 ∨ s.therm = 3) ∧ s.pwr.stepFrom + s.msOf (K 0x2500 6) ≤ s.now then
    if s.pwr.hot then s.setTherm (s.therm + 1) 0 else { s with pwr := { s.pwr with stepFrom := s.now } }
  else s

/-- A step interval ends. -/
def execStepIntervalEnd (dt : Nat) (s : State) : Res := done ((s.tick dt).stepEnd)

/-- Cool for the release time in the present state: it steps back (R511); a blind die holds state 0x04 (R508). -/
def State.releaseEnd (s : State) : State :=
  match s.pwr.coolSince with
  | none => s
  | some c =>
    if max c s.pwr.thermSince + s.msOf (K 0x2500 7) ≤ s.now then
      match s.therm with
      | 1 | 2 => (s.thermGone 0x0B).setTherm 0 0
      | 3 => s.setTherm 2 0
      | 4 => if s.dieBlind then s else s.setTherm 3 0
      | _ => s
    else s

/-- The release time ends. -/
def execReleaseTimeEnd (dt : Nat) (s : State) : Res := done ((s.tick dt).releaseEnd)

end Sys2Proof.Machine
end

