-- ==== Sys2Proof/Machine/Boot.lean ====
section
/-! DEFINITION. Start-up from power-good to the end of BOOT (R52, R56, R57, R67, R454–R456, R468, R469, R486, R487, R490, R566). -/

namespace Sys2Proof.Machine

/-! ### The boot ROM (R468, R469, R486, R487, R490) -/

/-- FORMAT major of the whole configuration copy with the newer sequence, whatever its format (R59, R60). [DEDUCED, log entry 33] -/
def State.newestFormat (s : State) : Option Nat :=
  let c (n : Nat) : ConfCopy := nth ConfCopy.empty s.nv.confs n
  let sq (n : Nat) : Option Nat := if (c n).intact then some (c n).seq else none
  (pickCopy (sq 0) (sq 1)).map fun n => (c n).format / 256

/-- The image of a slot reads the stored configuration, or there is none (R486). [DEDUCED, log entry 33] -/
def State.formatFits (s : State) (slot : Nat) : Bool :=
  let m := s.slotManifest slot
  match s.newestFormat with
  | some v => decide (byteAt m 0x1C ≤ v ∧ v ≤ byteAt m 0x1D)
  | none => true

/-- The image of a slot starts. [DEDUCED, log entries 33, 144] -/
def State.startImage (s : State) (slot : Nat) : State := s.putUpd { s.upd with slot := slot }

/-- The boot ROM falls back to the image in ACTIVE, with a cause (R486, R490). [DEDUCED, log entry 35] -/
def State.bootFall (s : State) (cause : Nat) : State :=
  let r := s.bootRec
  (s.writeBoot { r with stage := 0, pending := 0, pendDigest := [], cause := cause }).startImage r.active

/-- The pending image starts with a number of trials, unless it does not read the stored configuration (R486). -/
def State.startPending (s : State) (trials : Nat) : State :=
  let r := s.bootRec
  if s.formatFits r.pending then (s.writeBoot { r with stage := 2, trials := trials }).startImage r.pending else s.bootFall 2

/-- The boot ROM's choice of an image by the boot record, and the fuse counter of a settled one. -/
def State.chooseImage (s : State) : State :=
  let r := s.bootRec
  let m := s.slotManifest r.pending
  let t :=
    if r.stage = 1 then (if s.authentic m && Config.sha384 m == r.pendDigest then s.startPending 2 else s.bootFall 4)
    else if r.stage = 2 then (if r.trials < 3 then s.startPending (r.trials + 1) else s.bootFall 1)
    else s.startImage r.active
  if t.bootRec.stage ≠ 0 then t
  else
    let up := max t.nv.fuses.counter (beAt t.runManifest 0x18 4)
    { t with nv := { t.nv with fuses := { t.nv.fuses with counter := min 63 up } } }

/-- The update stage at a start: trial by the boot record, else what the journal holds of the slot's manifest; a verification is made
again, and an activation is settled by the boot record (R479, R490). [DEDUCED, log entry 34] -/
def State.loadJournal (s : State) : State :=
  let holds (j : Journal) (k : Nat) : Bool := j.digest == Config.sha384 (s.slotManifest k)
  let t := match s.journal with
    | some j =>
      let n := if !s.sys.recovery then s.targetSlot else if holds j 1 then 1 else 2
      let st := if !holds j n || decide (5 ≤ j.stage) then 0 else if j.stage = 3 then 2 else j.stage
      (s.putUpd { s.upd with stored := if st = 0 then [] else j.stored, target := if st = 0 then 0 else n }).set (K 0x2200 4) st
    | none => s
  let u := if !s.sys.recovery && s.bootRec.stage == 2 then t.set (K 0x2200 4) 6
    else if !s.sys.recovery && s.bootRec.cause != 0 && t.updStage == 4 then t.toStage 0
    else t
  u.showChunks.showImage

/-- Transport entries of a copy, or their defaults with the strap (R50, R469). -/
def State.transports (s : State) : State :=
  match s.pickConf with
  | some n =>
    let c := nth ConfCopy.empty s.nv.confs n
    { s with dict := mapMerge s.dict (c.vals.filter fun p => isTransport p.1) }
  | none => (s.set (K 0x1200 2) (0x6A0 + s.tw.strap)).set (K 0x1200 3) (0x5A0 + s.tw.strap)

/-- Step 4: the boot ROM has chosen an image, or runs the recovery loader when no boot record is valid. The strap and the grade are read (R5), and a clock
fault of before the reset is raised; the reset that it calls for has been made (R506). -/
def State.bootRom (s : State) : State :=
  let t : State := { s with
    sys := { s.sys with bootStep := 4 }, tw := { s.tw with ident := s.tw.strap }, safe := { s.safe with lastToggle := s.now },
    pwr := { s.pwr with clockFault := none } }
  let t1 := (t.set (K 0x8600 2) t.tw.strap).set (K 0x1018 5) t.nv.fuses.grade
  let t2 := match s.pwr.clockFault with | some c => t1.logRecord 0x16 0x0A c false | none => t1
  match t2.bootNo with
  | none => ({ t2 with sys := { t2.sys with recovery := true, apc := [true, false] } }.transports).loadJournal
  | some _ => t2.chooseImage.loadJournal

/-! ### Step 5: the stored configuration (R57, R60, R358, R566) -/

/-- The selected copy becomes the working values; without one the defaults do, with a record (R57, R60). -/
def State.loadConf (s : State) : State :=
  match s.pickConf with
  | some n =>
    let c := nth ConfCopy.empty s.nv.confs n
    (((s.loadCopy c true).set (K 0x2011 1) (n + 1)).set (K 0x2011 5) c.format).showCopies
  | none => (s.toDefaults.transports.showCopies).event 0x15 0x0D 0

/-- The value of an entry obeys its range. -/
def State.inRange (s : State) (k : Nat) : Bool :=
  match findEnt k with
  | some e => rangeOk e (s.get k) && s.rangeMore k (s.get k)
  | none => true

/-- BOOT entries are taken; a port whose entries break a rule stays disabled (R358). -/
def State.takeBoot (s : State) : State :=
  bootPorts.foldl (fun t p => match (keys p.2 1 5).find? fun k => !t.inRange k with
    | some k => (t.putAct [(K p.2 1, 0)]).event p.1 0x0D k
    | none => t) (s.putAct (s.snap bootKeys))

/-- Entries of the boot commit: those of the scan-out commit and of both stream commits (R566). -/
def bootCommitKeys : List Nat := scanKeys ++ streamKeys 0 ++ streamKeys 1

/-- The configuration that the boot commit judges. -/
def State.bootCfg (s : State) (k : Nat) : Nat := if bootCommitKeys.contains k then s.get k else s.act k

/-- The check of the boot commit: 0, or the detail of the refusal (R566). [DEDUCED, log entry 40] -/
def State.bootCheck (s : State) : Nat :=
  let g := s.bootCfg
  let d := s.scanCheck g
  if d ≠ 0 then d else if g (K 0x7120 1) = 1 ∧ g (K 0x7121 1) = 1 ∧ g (K 0x7120 2) = g (K 0x7121 2) then 0x7101 else 0

/-- Item 1 of R566: the boot commit. -/
def State.bootCommit (s : State) : State :=
  let d := s.bootCheck
  if d ≠ 0 then { s with sys := { s.sys with bootRefused := some (0x0403, d) } }
  else
    let g := s.bootCfg
    let t := s.putAct (bootCommitKeys.map fun k => (k, g k))
    let u := (List.range 4).foldl (fun u i => u.set (K (0x4330 + i) 5) (dimsOf g i)) t
    let v : State := { u with fs := { u.fs with fixedEnd := fixedUnits (u.fixedOf g), gainArea := u.gainWanted, ra := g (K 0x4300 3), vb := g (K 0x4300 4) } }
    (v.set (K 0x4300 0x14) (leadMin g)).relayout [] []

/-- A commit-acting value of block `blk` in entry k that passed, or its record (R566). [DEDUCED, log entry 41] -/
def State.bootValue (s : State) (blk k : Nat) (r : State × Code) : State := if r.2.1 = 0 then r.1 else s.event blk 0x0D k

/-- The cut-off polyline is checked and armed (R117). -/
def State.polyline (s : State) (b : List Byte) : State × Code :=
  if polyOk b then ((s.setDom (K 0x3020 1) b).arm (K 0x3020 1) [] [(K 0x3020 1, b)] s.landingFrame false, ok)
  else (s, (0x0403, 0x3008))

/-- A commit over indices `i` to `i + n − 1` for those whose stored value, at sub-index `sub`, is not the default. [DEDUCED, log entry 40] -/
def State.bootCommits (s : State) (blk i n sub : Nat) (f : State → Nat → State × Code) : State :=
  (List.range n).foldl (fun t j => if (t.dom (K (i + j) sub)).isSome then t.bootValue blk (K (i + j) sub) (f t j) else t) s

/-- The stored program and target table of an engine: those that pass are in force, the claims of the table apart. -/
def State.bootEngine (s : State) (e : Nat) : State :=
  let t := match s.dom (K (0x5100 + e) 1) with
    | some b => s.bootValue 9 (K (0x5100 + e) 1) (s.programWrite e b)
    | none => s
  match t.dom (K (0x5100 + e) 2) with
  | some b => t.bootValue 9 (K (0x5100 + e) 2) (t.land [] [(K (0x5100 + e) 2, b)], t.targetCheck e b)
  | none => t

/-- Item 2 of R566: commit-acting values in ascending index order; those that pass are active at once. A layer shadow that
fails is named by the layer's commit entry, a colour table by the table. [DEDUCED, log entry 40; DESIGN CHOICE, log entry 180] -/
def State.bootValues (s : State) : State :=
  let poly := match s.dom (K 0x3020 1) with
    | some b => s.bootValue 3 (K 0x3020 1) (s.polyline b)
    | none => s
  let mesh := poly.bootCommits 3 0x3100 4 1 State.meshCommit
  let layer := (List.range 7).foldl (fun t l =>
    if t.shadow l == t.activeCfg l then t else t.bootValue 4 (K (0x3400 + l) 0x14) (t.layerCommit l)) mesh
  let gain := layer.bootCommits 4 0x4200 4 2 State.gainCommit
  let plane := gain.bootCommits 7 0x4500 4 3 State.planeCommit
  let colour := (List.range 4).foldl (fun t j =>
    if (t.dom (K (0x4530 + j) 2)).isSome || (keys (0x4530 + j) 4 0x0A).any (fun k => t.get k != dflt k)
    then t.bootValue 7 (K (0x4530 + j) 2) (t.colourCommit j) else t) plane
  let prog := (List.range 8).foldl State.bootEngine colour
  let go := prog.armed.map fun a => (a.item, a.vals, a.doms)
  { prog with armed := [], fs := { prog.fs with landing := go } }.landSet (prog.get (K 0x4300 0x11)) |>.landPtu

/-- A claim at BOOT failed: the record names the claim record (R67). [DEDUCED, log entry 42] -/
def State.claimFailed (s : State) (blk rec : Nat) : State := s.event blk 0x0D (K 0x2041 rec)

/-- Claims of an enabled source and of the direct matrix; a source that does not get them is disabled (R67). [DEDUCED, log entries 42, 72] -/
def State.claimSource (s : State) (i : Nat) : State :=
  let own := 0x100 + i
  let mine := (scanClaims s.act).filter fun p => p.2 == own || (p.2 == 0x400 && s.srcType i == 4)
  if !s.srcOn i then s
  else match mine.find? fun p => s.owner p.1 != 0 && s.owner p.1 != p.2 with
    | some p =>
      let blk := match s.srcType i with | 1 => 5 | 4 => 9 | _ => 7
      ((s.putAct [(K (0x4330 + i) 1, 0)]).set (K (0x4330 + i) 5) 0).claimFailed blk p.1
    | none => mine.foldl (fun t p => t.claim [p.1] p.2) s

/-- A stored target table in force takes its claims, or leaves its engine without targets (R67, R278). [DEDUCED, log entry 42] -/
def State.claimEngine (s : State) (e : Nat) : State :=
  match mapGet s.activeDoms (K (0x5100 + e) 2) with
  | none => s
  | some b =>
    let recs := s.targetClaims e (targetsOf b (b.length / 10))
    match s.claimBlock recs (0x300 + e) with
    | some r => { s with activeDoms := mapDel s.activeDoms (K (0x5100 + e) 2) }.claimFailed 9 r
    | none => s.claim recs (0x300 + e)

/-- An enabled loop slot holds its claims, so that it starts at step 7. -/
def State.slotStarts (s : State) (n : Nat) : Bool :=
  s.get (K (0x6010 + n) 1) != 0 && (s.slotRecs n).all fun r => s.owner r == slotOwner n

/-- The claims of an enabled loop slot whose configuration holds beside those of the slots before it; without them it does not start at step 7
(R67, R299, R311, R321, R324). -/
def State.claimSlot (s : State) (n : Nat) : State :=
  if s.get (K (0x6010 + n) 1) = 0 then s
  else if s.slotCheckWith (fun k => decide (k < n) && s.slotStarts k) n ≠ 0 then s.event 0x0A 0x0D (K (0x6010 + n) 1)
  else match s.claimBlock (s.slotRecs n) (slotOwner n) with
    | some r => s.claimFailed 0x0A r
    | none => s.claim (s.slotRecs n) (slotOwner n)

/-- A time-pulse output takes up its stored mode (R67, R383); the time of a one-shot is past. [DEDUCED, log entries 42, 43] -/
def State.claimTpo (s : State) (n : Nat) : State :=
  let k := K (0x71A0 + n) 1
  let v := s.get k
  if v = 0 then s
  else
    let (t, r) := (s.set k 0).tpoMode n v
    if r.1 = 0 then t else if r.1 = 0x0402 then (s.set k 0).claimFailed 2 r.2 else s.set k 0

/-- Item 3 of R566: the claims of the stored configuration in ascending index order; the firmware claims CRC6 and CRC7 (R67, R525).
[DEDUCED, log entry 42] -/
def State.bootClaims (s : State) : State :=
  let sync := if s.act (K 0x4300 0x1A) = 0 then s else s.claim [0x9A] 0x700
  let src := (List.range 4).foldl State.claimSource sync
  let eng := (List.range 8).foldl State.claimEngine src
  let slots := (List.range 8).foldl State.claimSlot eng
  let tpo := (List.range 4).foldl State.claimTpo slots
  tpo.claim [0xE1, 0xE2] 0x0A00

/-- What step 5 shows of the store: archives and calibration record (R491, R492, R516). -/
def State.showStore (s : State) : State :=
  let d (n : Nat) : Option Nat := let c := nth DoseCopy.empty s.nv.doses n; if c.valid then some c.seq else none
  let use := match pickCopy (d 0) (d 1) with | some n => n + 1 | none => 0
  let t := (s.set (K 0x2110 3) use).set (K 0x2110 4) ((s.nv.faults.halves.map List.length).foldl (· + ·) 0)
  let t : State := { t with upd := { t.upd with doseAt := t.now } }
  let c := t.pickCal
  ((t.set (K 0x2400 6) (match c with | some n => n + 1 | none => 0))).calLoad c

/-- A Roadblock of ROADBLOCK_N is raised again after a reset while the pin is asserted (R394, R431). [DEDUCED, log entry 39] -/
def State.pinAgain (s : State) : State :=
  let m := s.get (K 0x8010 2)
  let t := s.set (K 0x8010 6) (b2n s.rbPin)
  if s.rbPin && m != 0 then t.roadblock m 1 else t

/-- Step 5 of R56. [DEDUCED, log entries 38, 39] -/
def State.step5 (s : State) : State :=
  let t := (s.loadConf.takeBoot).showStore
  let u : State := { t with sys := { t.sys with bootStep := 5 },
                            tw := { t.tw with enabled := t.get (K 0x8600 1), single := t.get (K 0x8600 1) == 0 } }
  (((u.bootCommit).bootValues).bootClaims.takeConns).pinAgain

/-! ### Steps 6 and 7 -/

/-- The stored Kerb section is checked and loaded into both banks (R56, R141, R566): no maps are active, so its KSEQ is newer.
[DEDUCED, log entry 44] -/
def State.bootKerb (s : State) (b : List Byte) : State :=
  if b.isEmpty then s
  else
    let img := kerbImage b
    let n := if b.length < 0x34 ∨ crc32c (b.take (b.length - 4)) ≠ img.crc then 2 else s.kerbForm b
    let t := s.set (K 0x4100 5) (if n = 6 then 1 else n)
    if n = 1 ∨ n = 6 then
      let bank : KerbBank := ⟨img, img.maps.map fun x => ~~~x⟩
      let u : State := { t with comp := { t.comp with kerb := { t.comp.kerb with banks := [bank, bank], active := 0, ram := some img } } }
      ((u.set (K 0x4100 2) img.kseq).set (K 0x4100 3) img.crc).setFlag (K 0x4100 8) 0 true
    else t

/-- Step 6 of R56: the Kerb maps; beats begin (R454). -/
def State.step6 (s : State) : State :=
  let t : State := { s with sys := { s.sys with bootStep := 6 }, tw := { s.tw with lastEdge := s.now } }
  match t.confInUse with
  | some n => t.bootKerb (nth ConfCopy.empty t.nv.confs n).kerb
  | none => t

/-- Beats of the partner have been accepted on BEAT_IN by step 7 (R447, R454, R455). -/
def State.heard (s : State) : State :=
  { s with tw := { s.tw with lastIn := some s.now, lastBeatIn := some s.now, runIn := 10 } }.setFlag (K 0x8600 7) 1 true

/-- The device is standby from step 7: it takes the partner's FRAME# and runs bulk sync (R454). [DEDUCED, log entry 45] -/
def State.joinStandby (s : State) : State :=
  { s with tw := { s.tw with bulk := true, joinFrame := true } }.set (K 0x8600 3) 2

/-- Roles at step 7 (R446, R454, R455): a device without a stored configuration that hears beats is a standby with the twin link enabled;
one that hears them with CLAIM_IN asserted is standby; otherwise device 0 claims, and device 1 does so later. [DEDUCED, log entry 51] -/
def State.takeRole (s : State) (beats : Bool) : State :=
  if s.confInUse.isNone then
    if beats then ({ s with tw := { s.tw with single := false } }.set (K 0x7030 1) 1).heard.joinStandby else s
  else if s.tw.single then s
  else
    let t := if beats then s.heard else s
    if beats && t.tw.claimIn then t.joinStandby else if t.tw.ident = 0 then t.assertClaim else t

/-- An enabled loop slot that holds its claims starts at step 7 (R67, R321). -/
def State.bootSlot (s : State) (n : Nat) : State :=
  if s.slotStarts n then s.startSlot n else s

/-- Step 7 of R56: the raster starts, and roles, endpoint supplies, twin link and loop slots. [DESIGN CHOICE, log entry 32] -/
def State.step7 (s : State) (beats : Bool) : State :=
  let t : State := { s with sys := { s.sys with bootStep := 7 }, tw := { s.tw with step7At := s.now } }
  let u := ((t.startRaster).takeRole beats).setTse.setLas
  let v := if !u.tw.single && u.twinLink then u.startTrain 8 0 else u
  (List.range 8).foldl State.bootSlot v

/-! ### Power-good (R56, R375, R506) -/

/-- What the clock monitors find at step 3: the status word, and the frequency of the RC oscillator, within ±8 % while its check passes.
[DESIGN CHOICE, log entry 37] -/
def State.clockStatus (s : State) (clk : Nat) : State :=
  let (v, t) := s.fresh
  let hz := if bit clk 10 then 29440000 + v % 5120001 else v % 2 ^ 32
  (t.set (K 0x2330 1) clk).set (K 0x2330 2) hz

/-- The time base at a start: from 0 when VDD_AON had failed, which leaves no reset counted, else from the coarse counter (R375).
[DEDUCED, log entry 36] -/
def State.startTime (s : State) : State :=
  if s.get (K 0x2320 5) = 0 then { s with time := 0, rate := 0 } else s.resumeTime s.pwr.resetAt

/-- Steps 3 to 7: with REFCLK and the PLL the device goes on, else it stays in BOOT at step 2. [DESIGN CHOICE, log entry 32] -/
def State.afterPll (s : State) (clk : Nat) (beats : Bool) : State :=
  let t := s.clockStatus clk
  if bit clk 0 && bit clk 1 then
    let u := { t.startTime with sys := { t.sys with bootStep := 3 } }.bootRom
    if u.sys.recovery then u else (u.step5.step6).step7 beats
  else { t with sys := { t.sys with bootStep := 2 } }

/-- Power-good: every supply in range and RESET_N released. `clk` is the clock status at step 3, and `beats` says that ten beat edges in a
row were accepted by step 7. Steps 1 to 7 of R56 are made in this command. [DESIGN CHOICE, log entry 32] -/
def execPowerGood (dt : Nat) (clk : Fin 2048) (beats : Bool) (s : State) : Res :=
  let t := s.tick dt
  done (if t.mode = .boot ∧ t.sys.bootStep = 0 ∧ t.pwr.inReset = false then
      { t with pins := { t.pins with supplies := true } }.afterPll clk beats
    else t)

/-- The PLL is tried again, every 100 ms while it is not locked (R506). [DESIGN CHOICE, log entry 32] -/
def execPllRetry (dt : Nat) (clk : Fin 2048) (beats : Bool) (s : State) : Res :=
  let t := s.tick dt
  done (if t.mode = .boot ∧ t.sys.bootStep = 2 ∧ t.pwr.inReset = false then t.afterPll clk beats else t)

/-- First light is due, step 8 of R56: it falls at the first frame milestone whose frame is composed (R565). [DEDUCED, log entry 212] -/
def State.firstLight (s : State) : State :=
  if s.mode = .boot ∧ s.sys.bootStep = 7 ∧ s.fs.running = true then { s with fs := { s.fs with lightDue := true } } else s

/-- First light. -/
def execFirstLight (dt : Nat) (s : State) : Res := done (s.tick dt).firstLight

/-! ### End of BOOT (R52, R57, R151, R456, R490) -/

/-- A state change at the end of BOOT into PREOP after a refused boot commit, with its record (R52). -/
def State.refusedBoot (s : State) (r : Code) : State := (s.event 0x1C 0x0D (r.1 * 65536 + r.2 % 65536)).enter .preop 0x0B

/-- OPERATE or STANDBY by autostart and role (R52, R454). [DEDUCED, log entry 46] -/
def State.autoEnter (s : State) : State :=
  match s.mayLeave with
  | .error r => s.refusedBoot r
  | .ok t =>
    if t.tw.single || t.tw.claimOut then (t.enter .operate 4).autostart
    else ({ t with tw := { t.tw with tse := t.tl.tse } }.enter .standby 4).set (K 0x8600 3) 2

/-- The state that follows BOOT (R52). [DEDUCED, log entry 48] -/
def State.leaveBoot (s : State) : State :=
  if s.allBlocked then s.enter .safe 5
  else if s.confInUse.isNone then (if s.tw.single then s.enter .preop 0x0A else s.enter .standby 6)
  else match s.sys.bootRefused with
    | some r => s.refusedBoot r
    | none => if s.get (K 0x2000 3) = 1 then s.autoEnter else { s with mode := .preop }

/-- What the firmware does as it starts: the fold of the ageing curves, a configuration save that a power loss interrupted, a fall-back of
a trial image that cannot read the configuration (R151, R489, R490). -/
def State.firmwareStarts (s : State) : State :=
  let t : State := { s with sys := { s.sys with apc := [true, true] }, upd := { s.upd with trialAt := s.now } }
  let u := t.ageingFold false
  let late := match u.confInUse with
    | some n => (nth ConfCopy.empty u.nv.confs n).format / 256 != byteAt u.runManifest 0x1E
    | none => false
  if u.onTrial then (if u.bodyReadable then u else u.putUpd { u.upd with waits := some 2 })
  else if late then u.startSave else u

/-- The end of BOOT, step 9 of R56. [DEDUCED, log entry 48] -/
def State.endOfBoot (s : State) : State :=
  if s.mode = .boot ∧ s.sys.bootStep = 8 ∧ s.pwr.inReset = false then
    let t := s.firmwareStarts
    let u : State := { t with sys := { t.sys with bootStep := 9 } }
    u.leaveBoot.calResume
  else s

/-- The application firmware runs. -/
def execEndOfBoot (dt : Nat) (s : State) : Res := done (s.tick dt).endOfBoot

end Sys2Proof.Machine
end

