-- ==== Sys2Proof/Machine/LaneCmds.lean ====
section
/-! DEFINITION. Commands of chapter 10: training, rate switches, lane faults, eye scan, PRBS. -/

namespace Sys2Proof.Machine

/-! ### Training (R334, R335) -/

/-- The port may train: its supply is up and settled, or the twin link is enabled from step 5 of BOOT, and its domains are on (R28, R335). -/
def State.mayTrain (s : State) (p : Nat) : Bool :=
  if p < 8 then
    let g := s.ep p 4
    s.epOn p && bit s.tl.tse g && (mapGet s.tl.settling g).isNone && [0x17, 0x18 + 2 * g, 0x19 + 2 * g].all fun d => s.domState d == 0
  else s.twinLink && decide (5 ≤ s.sys.bootStep) && s.domState 0x25 == 0

/-- A port that is down starts to train. -/
def execTrainingStart (dt : Nat) (p : Fin 9) (s : State) : Res :=
  let t := s.tick dt
  done (if t.mayTrain p && !t.portUp p && (t.train p).since.isNone then t.startTrain p 0 else t)

/-- The form of a TRAIN block: every other bit is 0 (R332, R333). -/
def trainForm (b : List Byte) : Bool :=
  decide (byteAt b 0 / 16 ≤ 3) && decide (byteAt b 1 ≤ 15) && decide (byteAt b 2 ≤ 3) && decide (byteAt b 3 ≤ 7) && decide (byteAt b 4 ≤ 3)
    && byteAt b 5 == 0 && byteAt b 6 == 0 && decide (b.length ≤ 7)

/-- A TRAIN block on a lane that trains: the receiver is locked, after the search of the firmware or where the host has moved its block boundary,
and blocks with LOCKED and READY are counted; a failed lane that completes alone becomes spare, at the rate of its port and adapted (R329, R334,
R335, R342, R348). A receiver in host mode without 64 valid headers takes no block. [DEDUCED, log entry 198] -/
def State.trainBlock (s : State) (l : Nat) (b : List Byte) : State :=
  match s.portOfLane l with
  | none => s
  | some p =>
    let x := s.lane l
    let st := s.laneState l
    let blind := !x.locked && s.get (K (laneIdx l) 3) == 1 && s.get (K (laneIdx l) 5) != 64
    if !trainForm b || blind || !(st == 2 || (st == 5 && x.alone)) then s else
    let (v, s) := if x.locked || s.get (K (laneIdx l) 3) == 1 then (x.slips, s) else s.fresh
    let both := byteAt b 4 == 3
    let y : Lane := { x with locked := true, lockAt := if x.locked then x.lockAt else s.now, preset := byteAt b 3, rates := byteAt b 1,
                             run := if both then x.run + 1 else 0, slips := v % 66 }
    let t := (s.putLane l y).set (K (laneIdx l) 5) 64
    let ready := decide (y.lockAt + 500000 ≤ t.now)
    let t1 := t.emit (.block l 1 (t.trainBytes p l true ready))
    if st = 5 ∧ t1.laneDone l = true then
      ((((t1.putLane l { y with alone := false, fwd := true }).set (K (laneIdx l) 1) 4).set (K (laneIdx l) 2) (t1.portRate p)).adapt l)
    else t1

/-- A TRAIN block arrives on a lane: its bytes 1 to 7. -/
def execTrain (dt : Nat) (l : Fin 18) (b : List Byte) (s : State) : Res := done ((s.tick dt).trainBlock l b)

/-- Every lane of a port that trains has completed: the port comes up (R335 step 5, R338 step 6). -/
def State.trainingDone (s : State) (p : Nat) : State :=
  let lanes := (s.portLanes p).filter fun l => s.laneState l == 2
  if (s.train p).since.isSome && !lanes.isEmpty && lanes.all s.laneDone then s.portComesUp p lanes else s

/-- The training of a port completes. -/
def execTrainingComplete (dt : Nat) (p : Fin 9) (s : State) : Res := done ((s.tick dt).trainingDone p)

/-- The end of the millisecond of a rate switch that no MILESTONE ends, in STANDBY and on the twin link: a lane that has not completed counts as a
lane fault, and the port trains at the rate before; with none complete, the switch has failed (R338–R340, R351). [DEDUCED, log entry 199] -/
def State.switchTimeout (s : State) (p : Nat) (w : Switch) : State :=
  let done := (s.portLanes p).filter fun l => s.laneState l == 2 && s.laneDone l
  let late := (s.portLanes p).filter fun l => s.laneState l == 2 && !s.laneDone l
  if done.isEmpty then s.fallBackRate p w.target 2 w.frame
  else if late.isEmpty then s.portComesUp p done
  else (late.foldl (fun t l => (t.inc (K 0x7000 4)).stand 0x0C 7 l) s).startTrain p w.before

/-- The training timeout of a port: it comes up on the lanes that have completed; with none, a fault record, and a retry after 1 s
(R335). [DEDUCED, log entry 91] -/
def State.trainingTimeout (s : State) (p : Nat) : State :=
  let tr := s.train p
  match tr.since with
  | none => s
  | some a =>
    match tr.switch with
    | some w => if (p = 8 ∨ s.outputsOn = false) ∧ 3 ≤ w.step ∧ a + 1000000 ≤ s.now then s.switchTimeout p w else s
    | none =>
    if s.now < a + s.get (K 0x7000 3) * 1000000 then s else
    let good := (s.portLanes p).filter fun l => s.laneState l == 2 && s.laneDone l
    if good.isEmpty then
      let t := (s.putTrain p { tr with since := none, retryAt := some (s.now + 1000000000) }).event 0x0C 4 p
      if p < 8 then t.set (K (0x4400 + p) 0x0A) 0 else t
    else s.portComesUp p good

/-- The training timeout of a port ends. -/
def execTrainingTimeout (dt : Nat) (p : Fin 9) (s : State) : Res := done ((s.tick dt).trainingTimeout p)

/-- One second after its timeout a port trains again (R335). -/
def State.trainingRetry (s : State) (p : Nat) : State :=
  match (s.train p).retryAt with
  | some a => if a ≤ s.now ∧ s.mayTrain p = true then s.startTrain p 0 else s
  | none => s

/-- The retry of a port's training. -/
def execTrainingRetry (dt : Nat) (p : Fin 9) (s : State) : Res := done ((s.tick dt).trainingRetry p)

/-- Effect of a bit-slip command: in host mode the block boundary moves one bit later, away from where the receiver was locked; how many headers
of the next 64 blocks are valid there, the channel decides (R334). [DEDUCED, log entry 198] -/
def effBitSlip (l : Nat) : Effect := fun s _ =>
  if s.get (K (laneIdx l) 3) = 1 then
    let x := s.lane l
    let (v, t) := s.fresh
    ((t.putLane l { x with slips := (x.slips + 1) % 66, locked := false, run := 0 }).set (K (laneIdx l) 5) (v % 65), ok)
  else (s, (0x0402, 0))

/-- A host bit-slip command of a lane. -/
def execBitSlip (dt : Nat) (rq : Rq) (l : Fin 18) (s : State) : Res :=
  done ((s.tick dt).command rq (K (laneIdx l) 4) 1 (effBitSlip l))

/-! ### Rates (R337–R340) -/

/-- A port switches its rate: after the ACK of its BLANK MILESTONE; the standby side and the twin link need no dark frame (R337,
R338, R351). -/
def State.rateSwitch (s : State) (p : Nat) : State :=
  match (s.train p).switch with
  | some w =>
    if w.step = 2 then s.switchRate p w else s
  | none =>
    if (p = 8 ∨ s.outputsOn = false) ∧ s.wantsStep p = true then s.switchRate p ⟨1, s.targetRate p, s.portRate p, s.get (K 0x4300 0x11)⟩
    else s

/-- The RATE countdown of a port runs and its rate changes. -/
def execRateSwitch (dt : Nat) (p : Fin 9) (s : State) : Res := done ((s.tick dt).rateSwitch p)

/-- The rate check window of a port ends: with an error so far the port falls back one rate; else the check is passed once a STATUS has come whose
interval reaches past the window (R339). -/
def State.rateCheck (s : State) (p invalid : Nat) : State :=
  let tr := s.train p
  match tr.check with
  | none => s
  | some a =>
    if s.now < a + s.get (K 0x7000 1) * 1000 ∨ tr.checkOver = true then s else
    let ret := 4 * s.ep p 4 + (s.port p).ret
    let t := s.set (K (laneIdx ret) 6) (satN 0xFFFFFFFF (s.get (K (laneIdx ret) 6) + invalid))
    if invalid ≤ t.get (K 0x7000 2) ∧ tr.checkBad = false then
      t.putTrain p (if a + s.get (K 0x7000 1) * 1000 ≤ tr.statusAt then { tr with check := none } else { tr with checkOver := true })
    else t.fallBackRate p (t.portRate p) 0 (t.get (K 0x4300 0x11))

/-- The end of a port's rate check window, with the invalid sync headers that its return lane showed in it. -/
def execRateCheck (dt : Nat) (p : Fin 8) (invalid : Nat) (s : State) : Res := done ((s.tick dt).rateCheck p invalid)

/-! ### Lane faults (R343–R348) -/

/-- The lane is the return lane of its port; both lanes of the twin link carry return traffic (R351). -/
def State.isReturn (s : State) (p l : Nat) : Bool := if p < 8 then (s.port p).ret == l % 4 else true

/-- In the endpoint role of the twin link the loss of a forward lane is reported by LOSS on the return pair of the other lane (R346, R351). -/
def State.lossOut (s : State) (l : Nat) : State :=
  ([16, 17].filter fun k => k != l && s.laneState k == 3).foldl (fun t k => t.emit (.block k 7 (toBe 1 (l - 16) ++ toBe 6 0))) s

/-- A receiver loses block lock: cause 0x01 on the return lane or a locked spare pair of a trained port, held off during a rate
switch (R331, R345). -/
def State.lockLoss (s : State) (l : Nat) : State :=
  let x := s.lane l
  let t := ((s.putLane l { x with locked := false, run := 0 }).unlocked l).incSat (K (laneIdx l) 7) 0xFFFFFFFF
  match t.portOfLane l with
  | none => t
  | some p =>
    let t := if p = 8 ∧ t.tw.ident ≠ 0 ∧ t.laneState l = 3 then t.lossOut l else t
    let spare := x.locked && !x.idle && (t.laneState l == 3 || t.laneState l == 4)
    if t.portUp p && !t.switching p && (t.isReturn p l && t.laneState l == 3 || spare) then t.laneFault l 1 else t

/-- A lane's receiver loses block lock. -/
def execBlockLockLoss (dt : Nat) (l : Fin 18) (s : State) : Res := done ((s.tick dt).lockLoss l)

/-- A receiver leaves lane idle, and its block boundary is searched anew (R334, R343). -/
def State.leaveIdle (s : State) (l : Nat) : State :=
  if (s.lane l).idle then
    let (v, t) := s.fresh
    let u := t.putLane l { t.lane l with idle := false, slips := v % 66, locked := true }
    if u.laneState l = 1 then u.set (K (laneIdx l) 1) 4 else u
  else s

/-- A LOSS block on a spare return pair names a failed forward lane of the port; on the twin link the partner in the endpoint role reports the other
lane (R332, R343, R345, R346, R351). -/
def State.lossBlock (s : State) (l : Nat) (b : List Byte) : State :=
  match s.portOfLane l with
  | none => s
  | some p =>
    let named := if p < 8 then 4 * s.ep p 4 + byteAt b 0 else 16 + byteAt b 0
    let form := decide (byteAt b 0 ≤ 3) && (b.drop 1).all (· == 0)
    let spare := if p < 8 then !s.isReturn p l else s.tw.ident == 0 && named != l
    if form && s.portUp p && spare && (s.portLanes p).contains named then (s.leaveIdle l).laneFault named 2 else s

/-- A LOSS block arrives on a lane: its bytes 1 to 7. -/
def execLoss (dt : Nat) (l : Fin 18) (b : List Byte) (s : State) : Res := done ((s.tick dt).lossBlock l b)

/-- No valid return packet for 8 µs: the return lane has failed, cause 0x03 (R220, R345). -/
def State.returnLoss (s : State) (e : Nat) : State :=
  let p := s.port e
  if p.trained && !s.switching e && decide (p.lastRet + 8000 ≤ s.now) then s.laneFault (4 * s.ep e 4 + p.ret) 3 else s

/-- The return lane of an endpoint has delivered no valid packet for 8 µs. -/
def execReturnLoss (dt : Nat) (e : Fin 8) (s : State) : Res := done ((s.tick dt).returnLoss e)

/-- Electrical idle on a lane in use with no EIDLE before it: cause 0x04 (R345). -/
def State.electricalIdle (s : State) (l : Nat) : State :=
  let switches := match s.portOfLane l with | some p => s.switching p && s.laneState l == 2 | none => false
  if (s.laneState l = 3 ∨ switches = true) ∧ (s.lane l).idle = false then s.laneFault l 4 else s

/-- A lane goes to electrical idle. -/
def execElectricalIdle (dt : Nat) (l : Fin 18) (s : State) : Res := done ((s.tick dt).electricalIdle l)

/-- EIDLE on a spare return pair: the pair may be idle from now on, and where spare pairs sleep its receiver goes to lane idle (R343, R345). A lane in
the stripe map stays in use. [DESIGN CHOICE, log entry 223] -/
def State.eidle (s : State) (l : Nat) : State :=
  match s.portOfLane l with
  | none => s
  | some p =>
    if s.portUp p && !s.isReturn p l then
      let t := s.putLane l { s.lane l with idle := true }
      if t.laneState l = 4 ∧ t.get (K (0x7020 + l / 4) 6) = 1 then t.set (K (laneIdx l) 1) 1 else t
    else s

/-- An EIDLE block arrives on a lane; a block with other than zero bytes is discarded (R332). -/
def execEidle (dt : Nat) (l : Fin 18) (b : List Byte) (s : State) : Res :=
  let t := s.tick dt
  done (if b.all (· == 0) then t.eidle l else t)

/-- A re-stripe that is not complete 1 ms after the first detection leaves the group blank, with a safety record (R183, R347). -/
def State.restripeTimeout (s : State) (g : Nat) : State :=
  match s.fs.restripe.find? fun r => r.1 == g with
  | some r => if r.2.1 + 1000000 ≤ s.now then s.groupBlank g else s
  | none => s

/-- The limit of a group's re-stripe ends. -/
def execRestripeTimeout (dt : Nat) (g : Fin 4) (s : State) : Res := done ((s.tick dt).restripeTimeout g)

/-- A failed lane is trained alone, once every second (R348). -/
def State.retryLane (s : State) (l : Nat) : State :=
  match s.portOfLane l with
  | none => s
  | some p =>
    let x := s.lane l
    if s.laneState l = 5 ∧ x.triedAt + 1000000000 ≤ s.now then
      (((s.putLane l { x with run := 0, slips := 0, locked := false, alone := true, triedAt := s.now }).unlocked l).set (K (laneIdx l) 2)
        (s.portRate p)).emit (.block l 1 (s.trainBytes p l false false))
    else s

/-- The lane manager retries a failed lane. -/
def execFailedLaneRetry (dt : Nat) (l : Fin 18) (s : State) : Res := done ((s.tick dt).retryLane l)

/-! ### Tests (R349, R350) -/

/-- Effect of a write of the eye scan point: the scan starts; while one runs the write is refused (R349). -/
def effEyeScan (l : Nat) : Effect := fun s v =>
  let k := laneIdx l
  let st := s.get (K k 0x0B)
  if st % 4 = 1 then (s, (0x0402, 0))
  else ((s.set (K k 0x0C) v).set (K k 0x0B) (st / 4 * 4 + 1), ok)

/-- A write of the eye scan point of a lane. -/
def execEyeScan (dt : Nat) (rq : Rq) (l : Fin 18) (v : Nat) (s : State) : Res :=
  done ((s.tick dt).command rq (K (laneIdx l) 0x0C) v (effEyeScan l))

/-- An eye scan ends: its error count is readable, saturated (R349, R354). -/
def State.eyeDone (s : State) (l n : Nat) : State :=
  let k := laneIdx l
  let st := s.get (K k 0x0B)
  if st % 4 = 1 then (s.set (K k 0x0D) (satN 0xFFFFFFFF n)).set (K k 0x0B) (st / 4 * 4 + 2) else s

/-- An eye scan of a lane completes, with the bits on which the samplers differed. -/
def execEyeScanDone (dt : Nat) (l : Fin 18) (n : Nat) (s : State) : Res := done ((s.tick dt).eyeDone l n)

/-- The transmitter of a lane sends a raw pattern, or ends it: its number in [7:4] of the PRBS control, while the generate bit is set (R350). -/
def State.prbsOut (s : State) (l v : Nat) : State :=
  let want (x : Nat) : Nat := if bit x 0 then field x 7 4 else 0
  if want v = want (s.get (K (laneIdx l) 9)) then s else s.emit (.prbs l (want v))

/-- Effect of a write of the PRBS control: test mode is refused on a lane of an enabled endpoint, or of the twin link in twin operation; the bit
count restarts, and the lane is in test mode while a pattern is set (R350). -/
def effPrbs (l : Nat) : Effect := fun s v =>
  let k := laneIdx l
  let used := if l < 16 then (List.range 8).any fun e => s.ep e 1 == 1 && (s.portLanes e).contains l else s.get (K 0x8600 1) == 1
  let off := field v 7 4 == 0
  if used && !off then (s, (0x0402, 0))
  else
    let was := s.get (K k 1)
    let t := (s.putLane l { s.lane l with prbsAt := s.now }).prbsOut l v
    (((((t.set (K k 9) v).set (K k 0x0A) 0).set (K k 0x0B) (s.get (K k 0x0B) % 4)).set (K k 0x0D) (if was = 6 ∨ off = false then 0 else s.get (K k 0x0D))).set
      (K k 1) (if off then (if was = 6 then 0 else was) else 6), ok)

/-- Brings the PRBS counts of a lane up to date while its checker runs: of the bits that have passed since, it has checked those after it locked to
the pattern, and found errors among them, of which a relock counts 32 more; how many, the bits that arrive decide. The error count saturates (R350,
R354). [DESIGN CHOICE, log entry 94] -/
def State.prbsRead (s : State) (l : Nat) : State :=
  let k := laneIdx l
  let v := s.get (K k 9)
  if field v 7 4 ≠ 0 ∧ bit v 1 = true then
    let passed := (s.now - (s.lane l).prbsAt) * (2 ^ s.get (K k 2) * 16) / 10
    let (a, t1) := s.fresh
    let (b, t2) := t1.fresh
    let (lock, t3) := t2.fresh
    let bits := a % (passed + 1)
    let errs := s.get (K k 0x0D) + b % (2 * bits + 1)
    let st := s.get (K k 0x0B)
    let t := t3.putLane l { t3.lane l with prbsAt := s.now }
    ((t.set (K k 0x0A) ((s.get (K k 0x0A) + bits) % 2 ^ 64)).set (K k 0x0D) (satN 0xFFFFFFFF errs)).set (K k 0x0B)
      (st % 4 + 4 * (lock % 2) + 8 * b2n (bit st 3 || decide (0xFFFFFFFF < errs)))
  else s

/-- A write of the PRBS control of a lane. -/
def execPrbsControl (dt : Nat) (rq : Rq) (l : Fin 18) (v : Nat) (s : State) : Res :=
  done ((s.tick dt).command rq (K (laneIdx l) 9) v (effPrbs l))

end Sys2Proof.Machine
end

