-- ==== Sys2Proof/Machine/Dap.lean ====
section
/-! DEFINITION. The dictionary server as a whole (R39–R49, R54, R562): what each entry reads as, what a write to it does, what a downloaded
value does, and the requests of a client. -/

namespace Sys2Proof.Machine

/-! ### Writes -/

/-- A plain write: the entry takes the value. -/
def plainWrite (k : Nat) : Effect := fun s v => (s.set k v, ok)

/-- Effects of writes to entries of chapters 02 and 12 to 15. -/
def sysWrite (k : Nat) : Option Effect :=
  let i := k / 256
  let u := k % 256
  if k = K 0x2000 2 then some effStateRequest
  else if k = K 0x2010 1 then some effStore
  else if k = K 0x2200 1 then some effUpdate
  else if k = K 0x2300 1 then some effPowerRequest
  else if i = 0x2301 then some (effRequested (u - 1))
  else if k = K 0x2400 1 then some effCalibration
  else if k = K 0x2500 8 then some effDerate
  else if k = K 0x8010 2 then some effPinMask
  else if k = K 0x8100 3 then some effAcknowledge
  else if i = 0x8120 then some (effRule (u - 1))
  else if k = K 0x8600 9 then some effHandover
  else none

/-- Effects of writes to entries of the light path. -/
def lightWrite (k : Nat) : Option Effect :=
  let i := k / 256
  let u := k % 256
  if 0x3100 ≤ i ∧ i ≤ 0x3103 ∧ u = 2 then some (effMeshCommit (i - 0x3100))
  else if 0x3400 ≤ i ∧ i ≤ 0x3406 ∧ u = 0x12 then some (effMemoryQuota (i - 0x3400))
  else if 0x3400 ≤ i ∧ i ≤ 0x3406 ∧ u = 0x14 then some (effLayerCommit (i - 0x3400))
  else if k = K 0x3410 1 then some effGroupCommit
  else if k = K 0x3420 1 then some effAllocate
  else if k = K 0x3420 2 then some effFree
  else if 0x3440 ≤ i ∧ i ≤ 0x345F ∧ u = 5 then some (effContentReady (i - 0x3440))
  else if 0x4200 ≤ i ∧ i ≤ 0x4203 ∧ u = 3 then some (effGainMesh (i - 0x4200))
  else if 0x4210 ≤ i ∧ i ≤ 0x4213 ∧ u = 5 then some (effClearReported (i - 0x4210))
  else if 0x4220 ≤ i ∧ i ≤ 0x4223 ∧ u = 7 then some (effDoseReset (i - 0x4220))
  else if 0x4240 ≤ i ∧ i ≤ 0x4243 ∧ u = 1 then some (effHostBudget (i - 0x4240))
  else if k = K 0x4300 0x1C then some effScanOut
  else if k = K 0x4410 3 then some effWindowAddr
  else if k = K 0x4410 4 then some effWindowData
  else if 0x4500 ≤ i ∧ i ≤ 0x4503 ∧ u = 4 then some (effPlaneCommit (i - 0x4500))
  else if 0x4530 ≤ i ∧ i ≤ 0x4533 ∧ u = 3 then some (effColourCommit (i - 0x4530))
  else none

/-- Effects of writes to entries of drivers, loops, lanes, ports, time and instruments. -/
def ioWrite (k : Nat) : Option Effect :=
  let i := k / 256
  let u := k % 256
  let lane := if i ≤ 0x701F then i - 0x7010 else i - 0x7032 + 16
  let isLane := (0x7010 ≤ i ∧ i ≤ 0x701F) ∨ (0x7032 ≤ i ∧ i ≤ 0x7033)
  if 0xA000 ≤ i ∧ i ≤ 0xA07F ∧ u = 4 then some (effLevel (i - 0xA000))
  else if 0xA000 ≤ i ∧ i ≤ 0xA07F ∧ u = 0x0E then some (effClearFaults (i - 0xA000))
  else if 0x5100 ≤ i ∧ i ≤ 0x5107 ∧ u = 4 then some (effEngine (i - 0x5100))
  else if 0x6010 ≤ i ∧ i ≤ 0x6017 ∧ u = 6 then some (effHostSetpoint (i - 0x6010))
  else if 0x6010 ≤ i ∧ i ≤ 0x6017 ∧ u = 0x17 then some (effGainCommit (i - 0x6010))
  else if 0x6010 ≤ i ∧ i ≤ 0x6017 ∧ u = 0x27 then some (effSlotCommand (i - 0x6010))
  else if isLane ∧ u = 4 then some (effBitSlip lane)
  else if isLane ∧ u = 9 then some (effPrbs lane)
  else if isLane ∧ u = 0x0C then some (effEyeScan lane)
  else if 0x7120 ≤ i ∧ i ≤ 0x7121 ∧ u = 9 then some (effStreamCommit (i - 0x7120))
  else if 0x7140 ≤ i ∧ i ≤ 0x7143 ∧ u = 6 then some (effAutoRecover (i - 0x7140))
  else if 0x7140 ≤ i ∧ i ≤ 0x7143 ∧ u = 7 then some (effRecover (i - 0x7140))
  else if k = K 0x7180 0x0D then some effTimeCommand
  else if 0x71A0 ≤ i ∧ i ≤ 0x71A3 ∧ u = 1 then some (effTpoMode (i - 0x71A0))
  else if 0x71A0 ≤ i ∧ i ≤ 0x71A3 ∧ 2 ≤ u ∧ u ≤ 5 then some (effTpoParam k)
  else if 0x9000 ≤ i ∧ i ≤ 0x9007 ∧ u = 1 then some (effCrcClaim (i - 0x9000))
  else if 0x9000 ≤ i ∧ i ≤ 0x9007 ∧ u = 8 then some (effCrc (i - 0x9000))
  else if 0x9000 ≤ i ∧ i ≤ 0x9007 ∧ (u ≤ 6 ∨ u = 0x0A) then some (effCrcParam (i - 0x9000) u)
  else if 0x9100 ≤ i ∧ i ≤ 0x910B ∧ u = 1 then some (effPcg (i - 0x9100))
  else if 0x9100 ≤ i ∧ i ≤ 0x910B ∧ 0x0B ≤ u ∧ u ≤ 0x12 then some (effPcgEvent k)
  else if k = K 0x9200 1 then some effTrace
  else if (i = 0x9200 ∧ 3 ≤ u ∧ u ≤ 8) ∨ (0x9210 ≤ i ∧ i ≤ 0x921F ∧ u ≤ 4) then some (effTraceSet k)
  else none

/-- What a write to an entry does: the effect of its chapter, else the entry takes the value (R41). -/
def writeOf (k : Nat) : Effect := ((sysWrite k).orElse fun _ => (lightWrite k).orElse fun _ => ioWrite k).getD (plainWrite k)

/-! ### Reads -/

/-- A log's entries that satisfy a predicate. -/
def State.logCount (s : State) (p : LogE → Bool) : Nat := (s.safe.log.filter fun e => match e with | some x => p x | none => false).length

/-- Budget unit of a source by its type (R153). [DEDUCED, log entry 63] -/
def State.budgetUnit (s : State) (i : Nat) : Nat :=
  let las := (List.range 3).any fun e => field (s.act (K (0x4530 + i) (0x0B + e))) 31 24 == 2
  match s.srcType i with | 4 => 2 | 3 => 3 | 2 => if las then 3 else 2 | _ => 1

/-- State of a video stream (R387). [DEDUCED, log entry 107] -/
def State.streamState (s : State) (n : Nat) : Nat :=
  if s.act (K (0x7120 + n) 1) = 0 then 0
  else match (s.vs n).asm, (s.vs n).newest with
    | .filling, _ => 2
    | _, some _ => 3
    | _, none => 1

/-- A claim record as 0x2041 shows it: a bank that a region lies in is owned by the lowest such region (R66). [DEDUCED, log entry 66] -/
def State.claimShown (s : State) (r : Nat) : Nat :=
  if (claimClass r).1 = 0x0A ∧ s.owner r = 0 then
    let b := r - 0x9B
    let lies (n : Nat) : Bool :=
      let a := s.get (K (0x3440 + n) 3) / 65536
      s.get (K (0x3440 + n) 1) != 0 && decide (a < 8 * b + 8 ∧ 8 * b < a + s.get (K (0x3440 + n) 4))
    match (List.range 32).find? lies with
    | some n => s.claimWord r + 0x0900 + n
    | none => s.claimWord r
  else s.claimWord r

/-- Numbers that an entry of chapters 02 and 12 to 16 shows and that no entry holds. [DEDUCED, log entries 27, 155] -/
def State.sysValue (s : State) (k : Nat) : Option Nat :=
  let i := k / 256
  let u := k % 256
  if k = K 0x2000 1 then some s.mode.code
  else if k = K 0x1230 2 then some s.sys.xfers.length
  else if i = 0x2041 then some (s.claimShown u)
  else if k = K 0x2202 6 then some s.guardsOn
  else if k = K 0x2320 4 then some (if !s.pwr.pinLow && decide (s.pwr.highSince + 1000000 ≤ s.now) then 0 else s.get k)
  else if k = K 0x8100 1 then some (s.logCount LogE.active)
  else if k = K 0x8100 2 then some (s.logCount LogE.latched)
  else if k = K 0x7180 0x12 then some s.timeNs
  else none

/-- Gain map status of a source, which follows its mode (R145, R146). -/
def State.gainStatus (s : State) (i : Nat) : Nat :=
  match s.get (K (0x4200 + i) 1) with
  | 1 => s.get (K (0x4200 + i) 5)
  | 2 => 2 * b2n (s.src i).gmesh.isSome
  | 3 => 2 * b2n (s.dom (K (0x4200 + i) 4)).isSome
  | _ => 0

/-- Numbers that an entry of the light path or of a driver shows and that no entry holds. [DEDUCED, log entry 27] -/
def State.lightValue (s : State) (k : Nat) : Option Nat :=
  let i := k / 256
  let u := k % 256
  if 0x3100 ≤ i ∧ i ≤ 0x3103 ∧ u = 3 then
    let b := s.meshBytes s.activeDoms (i - 0x3100)
    some (beAt b (b.length - 4) 4)
  else if 0x4210 ≤ i ∧ i ≤ 0x4213 ∧ u = 2 then
    let c := i - 0x4210
    some ((List.range (s.actW c * s.actH c)).filter (s.deadNow c)).length
  else if 0x4200 ≤ i ∧ i ≤ 0x4203 ∧ u = 5 then some (s.gainStatus (i - 0x4200))
  else if 0x4220 ≤ i ∧ i ≤ 0x4223 ∧ u = 8 then some (((s.src (i - 0x4220)).dose.map (·.2)).foldl max 0)
  else if 0x4240 ≤ i ∧ i ≤ 0x4243 ∧ u = 3 then some (s.budgetUnit (i - 0x4240))
  else if k = K 0x4300 0x14 then some (leadMin s.com)
  else if k = K 0x4310 6 then some s.freeUnits
  else if k = K 0x4310 7 then some s.largestFree
  else if k = K 0x4310 8 then some s.poolStart
  else if 0x4400 ≤ i ∧ i ≤ 0x4407 ∧ u = 0x0D then
    let (a, b) := s.peakLoad s.com (i - 0x4400)
    some (if s.epOn (i - 0x4400) then satN 0xFFFF (roundDiv (1000 * a) b) else 0)
  else if 0x5100 ≤ i ∧ i ≤ 0x5107 ∧ u = 9 then some (s.engValue (i - 0x5100))
  else if 0x5200 ≤ i ∧ i ≤ 0x5201 ∧ u = 0x0B then some (s.shiftNs (i - 0x5200))
  else if 0xA000 ≤ i ∧ i ≤ 0xA07F ∧ u = 0x0C then some (s.owner (i - 0xA000 + 1) / 256)
  else if 0x6010 ≤ i ∧ i ≤ 0x6017 ∧ u = 0x28 then some (s.shownSlot (i - 0x6010))
  else if 0x6010 ≤ i ∧ i ≤ 0x6017 ∧ u = 6 then some (s.hostSetpoint (i - 0x6010)).toNat
  else if 0x7120 ≤ i ∧ i ≤ 0x7121 ∧ u = 0x0B then some (s.streamState (i - 0x7120))
  else none

/-- The value that a read of a numeric entry returns (R41); sub-index 0x00 is a constant (R38). [DEDUCED, log entry 27] -/
def State.readNum (s : State) (k : Nat) : Nat :=
  if k % 256 = 0 then dflt k else ((s.sysValue k).orElse fun _ => s.lightValue k).getD (s.get k)

/-- The lane whose sync headers, PRBS counts or receive equaliser an entry shows (R354). -/
def measuredLane (k : Nat) : Option Nat :=
  if 5 ≤ k % 256 ∧ k % 256 ≤ 0x0E ∧ [7, 8, 9, 0x0C].contains (k % 256) = false then (List.range 18).find? fun l => laneIdx l == k / 256 else none

/-- What a read brings up to date before it: check-value units, cycle counters, PRBS checkers and equalisers that run (R342, R350, R522,
R526). -/
def State.upToDate (s : State) (k : Nat) : State :=
  let i := k / 256
  if 0x9000 ≤ i ∧ i ≤ 0x9007 then s.crcProgress (i - 0x9000)
  else if 0x9100 ≤ i ∧ i ≤ 0x910B then s.pcgSync (i - 0x9100)
  else match measuredLane k with | some l => if k % 256 = 0x0E then s.eqRead l else if k % 256 < 7 then s.headersRead l else s.prbsRead l | none => s

/-! ### Values of DOM entries -/

/-- Bytes with one bit for each pixel, bit 7 of byte 0 first. -/
def bitBytes (n : Nat) (p : Nat → Bool) : List Byte :=
  (List.range ((n + 7) / 8)).map fun b => BitVec.ofNat 8 ((List.range 8).foldl (fun a j => 2 * a + b2n (decide (8 * b + j < n) && p (8 * b + j))) 0)

/-- The default ageing curve: efficiency 1.0 at 32 points, whose doses are this model's choice (R152; log entry 6). -/
def curveDefault : List Byte :=
  let body := (List.range 32).flatMap fun d => toBe 4 d ++ toBe 2 0xFFFF
  body ++ toBe 4 (crc32c body)

/-- The Default column of a DOM entry. -/
def State.domDefault (s : State) (k : Nat) : List Byte :=
  let i := k / 256
  let u := k % 256
  if 0x3100 ≤ i ∧ i ≤ 0x3103 then identityMesh (s.srcW (i - 0x3100)) (s.srcH (i - 0x3100))
  else if i = 0x3020 then cutoffDefault
  else if 0x3400 ≤ i ∧ i ≤ 0x3406 then (List.range 1024).flatMap fun n => toBe 2 (lutEntry none n)
  else if 0x4200 ≤ i ∧ i ≤ 0x4203 ∧ u = 2 then gainMeshDefault
  else if 0x4220 ≤ i ∧ i ≤ 0x4223 then curveDefault
  else if 0x4500 ≤ i ∧ i ≤ 0x4503 then planeBytes planeDefault
  else if 0x4530 ≤ i ∧ i ≤ 0x4533 then colourDefault
  else if i = 0x5000 then (List.range 128).map (BitVec.ofNat 8)
  else if 0x5100 ≤ i ∧ i ≤ 0x5107 ∧ u = 1 then toBe 4 0x30000000
  else if 0x5200 ≤ i ∧ i ≤ 0x5201 ∧ u = 5 then List.replicate (2 * s.chainOuts (i - 0x5200)) 0
  else if 0x5200 ≤ i ∧ i ≤ 0x5201 then List.replicate (6 * s.get (K i 2)) 0
  else if 0x6010 ≤ i ∧ i ≤ 0x6017 then tableDefault
  else if i = 0x2410 then nth [] s.nv.fuses.trims (u - 1)
  else []

/-- The bytes that an upload of a DOM entry returns, at most those of a DOM (R35), or why it is refused (R133, R432, R492, R533).
[DEDUCED, log entries 29, 30] -/
def State.domValue (s : State) (k : Nat) : Except Code (List Byte) :=
  let i := k / 256
  let u := k % 256
  if 0x3440 ≤ i ∧ i ≤ 0x345F then
    if s.get (K i 1) = 3 then .error (0x0406, 0) else .ok (memSlice s.fs.mem (s.get (K i 3)) (min 16777216 (s.get (K i 4) * 65536)))
  else if 0x4210 ≤ i ∧ i ≤ 0x4213 ∧ u = 3 then
    let c := i - 0x4210
    .ok (bitBytes (s.actW c * s.actH c) (s.deadNow c))
  else if i = 0x8110 then
    .ok (match nth none s.safe.log (u - 1) with | some e => e.bytes | none => List.replicate 24 0)
  else if k = K 0x2110 5 then
    let a := s.nv.faults
    .ok ((nth [] a.halves (1 - a.half)).flatten ++ (nth [] a.halves a.half).flatten)
  else if k = K 0x9200 0x0D then
    if s.trace = 3 then .ok (s.ins.ring.flatMap TRec.bytes) else .error (0x0402, 0)
  else .ok ((s.dom k).getD (s.domDefault k))

/-- The words of the frame store that an upload of an entry reads are checked (R158). -/
def State.domRead (s : State) (k n : Nat) : State :=
  let i := k / 256
  if 0x3440 ≤ i ∧ i ≤ 0x345F then s.badStretch (s.get (K i 3)) n
  else if 0x4200 ≤ i ∧ i ≤ 0x4203 ∧ k % 256 = 4 ∧ s.fs.gainArea = true then s.badStretch (s.gainByte (i - 0x4200) 0) n
  else s

/-- Lengths that the Range column accepts (R42 rule 4), with those that depend on other entries. -/
def State.lengthOk (s : State) (e : Ent) (k n : Nat) : Bool :=
  let i := k / 256
  let u := k % 256
  let col := match e.rng with
    | .len lo hi mult => decide (lo ≤ n ∧ n ≤ hi) && n % max 1 mult == 0
    | _ => true
  col && decide (n ≤ 16777216) && (
    if 0x3440 ≤ i ∧ i ≤ 0x345F then s.get (K i 1) == 0 || decide (n ≤ s.get (K i 4) * 65536)
    else if 0x4200 ≤ i ∧ i ≤ 0x4203 ∧ u = 4 then n == 2 * s.srcW (i - 0x4200) * s.srcH (i - 0x4200)
    else if 0x4210 ≤ i ∧ i ≤ 0x4213 ∧ u = 4 then n == 0 || n == (s.srcW (i - 0x4210) * s.srcH (i - 0x4210) + 7) / 8
    else if 0x5200 ≤ i ∧ i ≤ 0x5201 ∧ u = 5 then n == 2 * s.chainOuts (i - 0x5200)
    else true)

/-- The content of a region is written: a prefix of it (R133, R134). [DEDUCED, log entry 30] -/
def State.regionWrite (s : State) (n : Nat) (b : List Byte) : State × Code :=
  let k := 0x3440 + n
  let base := s.get (K k 3)
  match s.get (K k 1) with
  | 0 => (s, (0x0301, 0))
  | 1 =>
    if s.get (K k 4) * 65536 < b.length then (s, (0x0301, 0))
    else ({ s with fs := { s.fs with
      mem := memPutAll s.fs.mem base b,
      bad := s.fs.bad.filter fun w => !decide (base ≤ 8 * w ∧ 8 * w + 8 ≤ base + b.length) } }, ok)
  | _ => (s, (0x0406, 0))

/-- What a downloaded value does: it is checked, and replaces the old one (R42 rules 3 and 7). -/
def domWrite : DomEffect := fun s k b =>
  let i := k / 256
  let u := k % 256
  if k = K 0x3020 1 then s.polyline b
  else if 0x3440 ≤ i ∧ i ≤ 0x345F then s.regionWrite (i - 0x3440) b
  else if k = K 0x4100 1 then (if s.comp.kerb.loading.isSome then (s, (0x0402, 0)) else (s.setDom k b, ok))
  else if 0x4200 ≤ i ∧ i ≤ 0x4203 ∧ u = 4 ∧ s.fs.gainArea = true then ((s.setDom k b).rewritten (s.gainByte (i - 0x4200) 0) b.length, ok)
  else if 0x4220 ≤ i ∧ i ≤ 0x4223 then (if curveOk b then (s.setDom k b, ok) else (s, (0x0403, 0x4007)))
  else if 0x4500 ≤ i ∧ i ≤ 0x4503 then (if byteAt b 7 = 0 then (s.setDom k b, ok) else (s, (0x0301, 0)))
  else if k = K 0x5000 5 then (if b.all fun x => decide (x.toNat ≤ 127) then (s.setDom k b, ok) else (s, (0x0301, 0)))
  else if 0x5100 ≤ i ∧ i ≤ 0x5107 ∧ u = 1 then s.programWrite (i - 0x5100) b
  else if 0x5100 ≤ i ∧ i ≤ 0x5107 ∧ u = 2 then s.targetWrite (i - 0x5100) b
  else if 0x6010 ≤ i ∧ i ≤ 0x6017 then s.tableWrite (i - 0x6010) b
  else if k = K 0x2200 3 then effChunk s k b
  else if 0x9000 ≤ i ∧ i ≤ 0x9007 then s.crcPlace (i - 0x9000) b
  else (s.setDom k b, ok)

/-! ### Requests -/

/-- A Read (R41). -/
def State.serveRead (s : State) (c : Client) (req : List Byte) (tag : Byte) (k : Nat) : State :=
  match s.checkUse k .read with
  | .error r => s.answer c req (abortPdu tag k r)
  | .ok e => match s.gateOf k with
    | .refuse r => (s.touch k).answer c req (abortPdu tag k r)
    | .stall d => s.stall c req k d
    | .open_ =>
      let t := s.upToDate k
      t.answer c req (Pdu.bytes ⟨0x81, tag, k, 0, e.ty.size, 0, toBe e.ty.size (t.readNum k)⟩)

/-- A transfer of a client opens, unless eight are open or the client has one (R44). -/
def State.openXfer (s : State) (c : Client) (x : Xfer) : Option State :=
  if decide (8 ≤ s.sys.xfers.length) || (s.xferOf c).isSome then none
  else some { s with sys := { s.sys with xfers := s.sys.xfers ++ [x] } }

/-- The client's transfer is replaced by its next state. -/
def State.putXfer (s : State) (c : Client) (x : Xfer) : State :=
  { s with sys := { s.sys with xfers := s.sys.xfers.map fun y => if sameClient y.client c then x else y } }

/-- An Upload initiate (R42). -/
def State.serveUpload (s : State) (c : Client) (req : List Byte) (tag : Byte) (k : Nat) : State :=
  let no (t : State) (r : Code) : State := t.answer c req (abortPdu tag k r)
  match s.checkUse k .upload with
  | .error r => no s r
  | .ok _ => match s.gateOf k with
    | .refuse r => no (s.touch k) r
    | .stall d => s.stall c req k d
    | .open_ => match s.openXfer c ⟨c, tag, true, k, [], 0, 0, false, s.now⟩ with
      | none => no s (0x0402, 0)
      | some t => match s.domValue k with
        | .error r => no s r
        | .ok b => ((t.domRead k b.length).putXfer c ⟨c, tag, true, k, b, b.length, 0, false, s.now⟩).answer c req (Pdu.bytes ⟨0x83, tag, k, 0, 0, b.length, []⟩)

/-- A Download initiate (R42, R44). -/
def State.serveDownload (s : State) (c : Client) (req : List Byte) (tag : Byte) (k total : Nat) : State :=
  let no (t : State) (r : Code) : State := t.answer c req (abortPdu tag k r)
  match s.checkUse k .download with
  | .error r => no s r
  | .ok e => match s.gateOf k with
    | .refuse r => no (s.touch k) r
    | .stall d => s.stall c req k d
    | .open_ =>
      let held := s.sys.xfers.any (fun x => !x.upload && x.key == k && !sameClient x.client c) || (k == K 0x4100 1 && s.comp.kerb.loading.isSome)
      if !s.lengthOk e k total then no s (0x0107, 0)
      else if held then no s (0x0402, 0)
      else match s.openXfer c ⟨c, tag, false, k, [], total, 0, false, s.now⟩ with
        | none => no s (0x0402, 0)
        | some t => t.answer c req (Pdu.bytes ⟨0x85, tag, k, 0, 0, 0, []⟩)

/-- A segment that no open transfer of its kind takes: an abort, and the end of any other transfer of the client (R42 rules 9 and 10). -/
def State.strayed (s : State) (c : Client) (req : List Byte) (tag : Byte) (k : Nat) : State :=
  (s.closeXfer c).answer c req (abortPdu tag k (0x0103, 0xFFFF))

/-- An Upload segment request (R42). -/
def State.serveUpSegment (s : State) (c : Client) (req : List Byte) (tag : Byte) (k seg : Nat) : State :=
  match s.xferOf c with
  | none => s.strayed c req tag k
  | some x =>
    if !x.upload then s.strayed c req tag k
    else if seg ≠ x.next then (s.closeXfer c).answer c req (abortPdu tag k (0x0103, x.next % 65536))
    else
      let p := payloadOf c
      let part := slice x.data (seg * p) (min p (x.total - seg * p))
      let final := decide (x.total ≤ (seg + 1) * p)
      let t := if final then s.closeXfer c else s.putXfer c { x with next := seg + 1, at_ := s.now }
      t.answer c req (Pdu.bytes ⟨0x84, tag, k, if final then 0x80 else 0, part.length, seg, part⟩)

/-- Segments of a client whose acknowledgement 0x86 still waits to leave on its transport (R42 rule 2). [DEDUCED, log entry 19] -/
def State.unacked (s : State) (c : Client) : Nat :=
  let ack (b : List Byte) : Bool := byteAt b 0 == 0x86
  match c with
  | .can _ => ((nth [] s.net.canTx (s.get (K 0x1200 1))).filter fun x => !x.guard && ack x.data).length
  | .udp n a p _ => ((nth [] s.net.ethTx n).filter fun x => x.addr == a && x.port == p && ack x.data).length
  | .hspi => (s.pins.hspiHeld.filter ack).length
  | .window _ => 0

/-- A Download segment (R42): one beyond the window ends the transfer, and the LAST one waits for the check of the value, which answers it.
[DEDUCED, log entry 19; DESIGN CHOICE, log entry 21] -/
def State.serveDownSegment (s : State) (c : Client) (req : List Byte) (tag : Byte) (k seg : Nat) (last : Bool) (data : List Byte) : State :=
  match s.xferOf c with
  | none => s.strayed c req tag k
  | some x =>
    if x.upload || x.last then s.strayed c req tag k
    else if seg ≠ x.next then (s.closeXfer c).answer c req (abortPdu tag k (0x0103, x.next % 65536))
    else if windowOf c ≤ s.unacked c then (s.closeXfer c).answer c req (abortPdu tag k (0x0105, 0))
    else
      let t := s.putXfer c { x with tag := tag, data := x.data ++ data, next := seg + 1, last := last, at_ := s.now }
      if last then t.asked c req else t.answer c req (Pdu.bytes ⟨0x86, tag, k, 0, 0, seg, []⟩)

/-- A PDU whose form is right is served by its command; an abort ends the client's transfer (R40, R42 rule 6). -/
def State.serve (s : State) (c : Client) (p : Pdu) (req : List Byte) : State :=
  match p.cmd with
  | 1 => s.serveRead c req p.tag p.key
  | 2 => s.serveWrite c req p.tag p.key p.data (writeOf p.key)
  | 3 => s.serveUpload c req p.tag p.key
  | 4 => s.serveUpSegment c req p.tag p.key p.arg
  | 5 => s.serveDownload c req p.tag p.key p.arg
  | 6 => s.serveDownSegment c req p.tag p.key p.arg (bit p.flags 7) p.data
  | _ => s.answer c req (abortPdu p.tag p.key (0x0101, 0))

/-- What a request wants of its entry, for the recovery loader. -/
def Pdu.use (p : Pdu) : Option (Use × Nat) :=
  match p.cmd with
  | 1 => some (.read, 0) | 2 => some (.write, be p.data) | 3 => some (.upload, 0) | 5 => some (.download, 0) | _ => none

/-- A request PDU arrives from a client as bytes (R39–R46, R54, R562). [DEDUCED, log entries 17, 18] -/
def State.servePdu (s : State) (c : Client) (b : List Byte) : State :=
  let p := parsePdu b
  let form := formOk c b && emptyOk p
  let req := if formOk c b then b.take (12 + p.len) else b
  let away := match p.use with
    | some (u, v) => s.outsideRecovery p.key u v
    | none => s.sys.recovery && !((p.cmd == 4 || p.cmd == 6) && (s.xferOf c).isSome)
  if p.cmd = 0x7F ∧ form = true then s.closeXfer c
  else if !s.serverUp then s.deliver c (abortPdu p.tag p.key (0x0409, 0))
  else match s.repeated c req with
    | some resp => s.again c resp
    | none =>
      if away then s.deliver c (abortPdu p.tag p.key (0x0409, 0))
      else if !form then s.answer c req (abortPdu p.tag p.key (0x0102, 0))
      else s.serve c p req

/-- The bytes of a PDU as the client's transport carries them: CAN FD pads (R43). -/
def framed (c : Client) (b : List Byte) : List Byte :=
  match c with
  | .can _ => b ++ List.replicate (canLength b.length - b.length) 0
  | _ => b

/-- A request with a given header arrives. -/
def State.request (s : State) (rq : Rq) (cmd k flags arg : Nat) (data : List Byte) : State :=
  s.servePdu rq.client (framed rq.client (Pdu.bytes ⟨cmd, rq.tag, k, flags, data.length, arg, data⟩))

/-- A Read. -/
def execRead (dt : Nat) (rq : Rq) (key : Nat) (s : State) : Res := done ((s.tick dt).request rq 1 key 0 0 [])

/-- A Write. -/
def execWrite (dt : Nat) (rq : Rq) (key : Nat) (data : List Byte) (s : State) : Res := done ((s.tick dt).request rq 2 key 0 0 data)

/-- An Upload initiate. -/
def execUploadInitiate (dt : Nat) (rq : Rq) (key : Nat) (s : State) : Res := done ((s.tick dt).request rq 3 key 0 0 [])

/-- An Upload segment request. -/
def execUploadSegmentRequest (dt : Nat) (rq : Rq) (key seg : Nat) (s : State) : Res := done ((s.tick dt).request rq 4 key 0 seg [])

/-- A Download initiate. -/
def execDownloadInitiate (dt : Nat) (rq : Rq) (key total : Nat) (s : State) : Res := done ((s.tick dt).request rq 5 key 0 total [])

/-- A Download segment. -/
def execDownloadSegment (dt : Nat) (rq : Rq) (key seg : Nat) (last : Bool) (data : List Byte) (s : State) : Res :=
  done ((s.tick dt).request rq 6 key (if last then 0x80 else 0) seg data)

/-- The LAST segment of a client's download is in, and the value is checked (R42 rule 7). [DESIGN CHOICE, log entry 21] -/
def execDownloadComplete (dt : Nat) (c : Client) (s : State) : Res := done ((s.tick dt).complete c (fun _ => true) domWrite)

/-- An abort from a client ends its transfer (R42 rule 6). [DEDUCED, log entry 18] -/
def execAbort (dt : Nat) (rq : Rq) (key code detail : Nat) (s : State) : Res :=
  done ((s.tick dt).request rq 0x7F key 0 (code * 65536 + detail % 65536) [])

/-- The next segment, or its request, has not come within the segment timeout (R42 rule 5). -/
def State.segmentTimeout (s : State) (c : Client) : State :=
  match s.xferOf c with
  | some x =>
    if !x.last && decide (x.at_ + s.get (K 0x1230 1) * 1000000 ≤ s.now) then (s.closeXfer c).deliver c (abortPdu x.tag x.key (0x0104, 0)) else s
  | none => s

/-- The segment timeout of a client. [DESIGN CHOICE, log entry 7] -/
def execTransferTimeout (dt : Nat) (c : Client) (s : State) : Res := done ((s.tick dt).segmentTimeout c)

/-- The stored response of a client is discarded 1 s after it was sent (R45); a request that still waits for its answer stays. -/
def State.forget (s : State) (c : Client) : State :=
  let keep (r : ClientRec) : Bool := !(sameClient r.client c && !r.response.isEmpty && decide (r.sentAt + 1000000000 ≤ s.now))
  { s with sys := { s.sys with clients := s.sys.clients.filter keep } }

/-- The repeat window of a client ends. -/
def execRepeatWindowExpiry (dt : Nat) (c : Client) (s : State) : Res := done ((s.tick dt).forget c)

/-- A request with a command code that R40 does not define. -/
def execUnknownCommand (dt : Nat) (rq : Rq) (cmd key arg : Nat) (data : List Byte) (s : State) : Res :=
  let t := s.tick dt
  done (if (1 ≤ cmd ∧ cmd ≤ 6) ∨ cmd = 0x7F ∨ 256 ≤ cmd then t else t.request rq cmd key 0 arg data)

/-! ### Requests that wait for a domain (R498) -/

/-- A request of a client that waited is no longer its last one, so that it is no repeat of itself (R45). -/
def State.unasked (s : State) (c : Client) (req : List Byte) : State :=
  let keep (r : ClientRec) : Bool := !(sameClient r.client c && r.request == req && r.response.isEmpty)
  { s with sys := { s.sys with clients := s.sys.clients.filter keep } }

/-- A domain has woken: the requests that wait for it are served (R496, R498, R501). [DEDUCED, log entry 25; DESIGN CHOICE, log entry 152] -/
def State.wakeComplete (s : State) (d upset : Nat) : State :=
  let t := s.domainWoken d upset
  if t.domState d ≠ 0 then t
  else
    let mine := t.pwr.stalled.filter fun x => x.dom == d
    let u : State := { t with pwr := { t.pwr with stalled := t.pwr.stalled.filter fun x => x.dom != d } }
    (mine.foldl (fun v x => (v.unasked x.client x.pdu).servePdu x.client (framed x.client x.pdu)) u).calResume

/-- A waking domain is ready; `upset` marks retention banks whose content changed. -/
def execDomainWakeComplete (dt : Nat) (d : Fin 38) (upset : Fin 16) (s : State) : Res := done ((s.tick dt).wakeComplete d upset)

/-- An access that has waited 200 µs is answered, with a record; the domain wakes on (R498). [DEDUCED, log entry 25] -/
def State.stallLimit (s : State) : State :=
  let late := s.pwr.stalled.filter fun x => decide (x.since + 200000 ≤ s.now)
  let t : State := { s with pwr := { s.pwr with stalled := s.pwr.stalled.filter fun x => !decide (x.since + 200000 ≤ s.now) } }
  late.foldl (fun u x =>
    let p := parsePdu x.pdu
    (u.answer x.client x.pdu (codePdu (if p.cmd = 2 then 0x82 else 0x7F) p.tag p.key (0x0407, x.dom))).event 0x16 4 x.dom) t

/-- The stall limit passes. [DESIGN CHOICE, log entry 7] -/
def execStallLimit (dt : Nat) (s : State) : Res := done (s.tick dt).stallLimit

end Sys2Proof.Machine
end

