-- ==== Sys2Proof/Machine/Host.lean ====
section
/-! DEFINITION. The host serial port and the debug port (R552–R554). -/

namespace Sys2Proof.Machine

/-- The IO domain serves the port: it is on, and the device has left reset (R500, R553). -/
def State.hspiOn (s : State) : Bool := s.domState 0x24 == 0 && decide (3 ≤ s.sys.bootStep) && !s.pwr.inReset

/-- READY (R552). -/
def State.hspiReady (s : State) : Bool :=
  s.hspiOn && s.get (K 0x1220 1) == 1 && s.pins.hspiHeld.isEmpty && !s.pins.hspiBusy

/-- The status byte of a transaction: READY in bit 7, WAITING in bit 0 (R552). -/
def State.hspiStatus (s : State) : Byte := BitVec.ofNat 8 (128 * b2n s.hspiReady + b2n !s.pins.hspiHeld.isEmpty)

/-- A transaction starts: the fall of `HSPI_CS_N` is a wake event for the domains of its row that are not on (R500, R553), and with the IO
domain on the port counts it (R527). [DEDUCED, log entry 168] -/
def State.hspiBegin (s : State) : State := (if s.hspiOn then s.count 11 3 1 else s).wakeFor 4 0 false

/-- A request transaction: served when READY, discarded otherwise (R552, R553). [DEDUCED, log entry 169] -/
def State.hspiRequest (s : State) (b : List Byte) : State :=
  let t := (s.emit (.hspi (s.hspiStatus :: List.replicate b.length 0))).hspiBegin
  if s.hspiReady then
    let u := ({ t with pins := { t.pins with hspiBusy := true } }).servePdu .hspi b
    if (parsePdu b).cmd = 0x7F then { u with pins := { u.pins with hspiBusy := false } } else u
  else t

/-- An HSPI transaction with opcode 0x0D and the bytes that follow it. -/
def execHspiRequest (dt : Nat) (b : List Byte) (s : State) : Res := done ((s.tick dt).hspiRequest b)

/-- A poll of n bytes after the opcode: the length and the oldest held response, which stays held unless all of it has gone (R553).
[DEDUCED, log entry 168] -/
def State.hspiPoll (s : State) (n : Nat) : State :=
  let r := match s.hspiOn, s.pins.hspiHeld with | true, r :: _ => r | _, _ => []
  let bytes := (toBe 2 r.length ++ r ++ List.replicate n 0).take n
  let t := (s.emit (.hspi (s.hspiStatus :: bytes))).hspiBegin
  if s.hspiOn = true ∧ r.length + 2 ≤ n then { t with pins := { t.pins with hspiHeld := s.pins.hspiHeld.drop 1 } } else t

/-- An HSPI transaction with opcode 0x0E, of n further bytes. -/
def execHspiPoll (dt n : Nat) (s : State) : Res := done ((s.tick dt).hspiPoll n)

/-- A transaction with another opcode is ignored (R552). -/
def State.hspiOther (s : State) (n : Nat) : State := (s.emit (.hspi (s.hspiStatus :: List.replicate n 0xFF))).hspiBegin

/-- An HSPI transaction with another opcode, of n further bytes. -/
def execHspiOtherOpcode (dt n : Nat) (s : State) : Res := done ((s.tick dt).hspiOther n)

/-! ### The debug port -/

/-- An instruction is in force. -/
def State.setJtag (s : State) (i : Nat) : State := { s with pins := { s.pins with jtag := i } }.boundaryMoved s.cellsDrive

/-- EXTEST or CLAMP: BYPASS unless both balls read asserted (R554). -/
def State.jtagDrive (s : State) (i : Nat) : State := s.setJtag (if s.ballsAsserted then i else 0)

/-- Whatever the scan data, the cells of the light-path outputs hold their reset state (R554). -/
def heldCells (cells : List Bool) : List Bool :=
  cells.zipIdx.map fun p => if Config.lightCell p.2 then Config.cellReset p.2 else p.1

/-- SAMPLE/PRELOAD: the levels of the balls leave by the scan path, and the cells take the scan data (R554).
[DESIGN CHOICE, log entry 170] -/
def State.jtagSample (s : State) (cells : List Bool) : State :=
  let (v, t) := s.fresh
  let u := t.emit (.jtag (v % 2 ^ cells.length))
  { u with pins := { u.pins with jtag := 2, cells := heldCells cells } }.boundaryMoved s.cellsDrive

/-- The BYPASS instruction. -/
def execBypass (dt : Nat) (s : State) : Res := done ((s.tick dt).setJtag 0)

/-- The IDCODE instruction, which returns the device identification (R554). -/
def execIdcode (dt : Nat) (s : State) : Res := done (((s.tick dt).emit (.jtag 0xB2048B5F)).setJtag 1)

/-- The SAMPLE/PRELOAD instruction with its scan data. -/
def execSamplePreload (dt : Nat) (cells : List Bool) (s : State) : Res := done ((s.tick dt).jtagSample cells)

/-- The EXTEST instruction. -/
def execExtest (dt : Nat) (s : State) : Res := done ((s.tick dt).jtagDrive 3)

/-- The CLAMP instruction. -/
def execClamp (dt : Nat) (s : State) : Res := done ((s.tick dt).jtagDrive 4)

end Sys2Proof.Machine
end

