-- ==== Sys2Proof/Machine/Objects.lean ====
section
/-! DEFINITION. Object lists: fragments, acceptance, visibility, snapshots (R27, R96–R103, R115). -/

namespace Sys2Proof.Machine

/-- The entry at an offset of a fragment (R98). -/
def parseObj (b : List Byte) (o : Nat) : ObjE :=
  { oid := beAt b o 2, cls := beAt b (o + 2) 1, flags := beAt b (o + 3) 1, tso := beAt b (o + 4) 4, hl := beAt b (o + 8) 2,
    hr := beAt b (o + 10) 2, vb := beAt b (o + 12) 2, vt := beAt b (o + 14) 2, hrate := beAt b (o + 16) 2,
    vrate := beAt b (o + 18) 2, range := beAt b (o + 20) 2, rrate := beAt b (o + 22) 2 }

/-- A datagram payload as a fragment: header of R96; bytes after it are the list header and entries, or entries. -/
def parseFrag (p : List Byte) : Frag :=
  { fidx := byteAt p 4, fcnt := byteAt p 5, first := byteAt p 6, nent := byteAt p 7, bytes := p.drop 8 }

/-- Offset of the first entry in a fragment's bytes. -/
def Frag.base (f : Frag) : Nat := if f.fidx = 0 then 64 else 0

/-- The fields of a fragment agree with one another and with its length (R96). [DESIGN CHOICE, log entry 217] -/
def Frag.sound (f : Frag) : Bool :=
  decide (1 ≤ f.fcnt ∧ f.fcnt ≤ 4 ∧ f.fidx < f.fcnt ∧ f.first + f.nent ≤ 64) && f.bytes.length == f.base + 32 * f.nent

/-- Two fragments place an entry at a common index. -/
def Frag.overlaps (f g : Frag) : Bool :=
  decide (0 < f.nent ∧ 0 < g.nent ∧ f.first < g.first + g.nent ∧ g.first < f.first + f.nent)

/-- The bytes of entry n, from the fragment that places it. -/
def entryBytes (fs : List Frag) (n : Nat) : Option (List Byte) :=
  match fs.find? fun f => decide (f.first ≤ n ∧ n < f.first + f.nent) with
  | some f => some (slice f.bytes (f.base + 32 * (n - f.first)) 32)
  | none => none

/-- A list is dropped whole (R100). -/
def State.rejectList (s : State) (reason : Nat) : State := (s.inc (K 0x3200 0x0A)).set (K 0x3200 0x0B) reason

/-- The checks of R100 on a list whose fragments are all here: the reason of a failure, or the list. The reasons of a header LSEQ that
differs from the fragments' (0x02), of VS_ONLY with objects (0x03) and of a pitch beyond ±90.0° (R71, 0x05) are the model's choice.
[DESIGN CHOICE, log entry 182] -/
def State.checkList (s : State) (a : Assembly) : Except Nat ObjList :=
  let h := match a.frags.find? fun f => f.fidx == 0 with | some f => f.bytes.take 64 | none => []
  let nobj := beAt h 0x26 1
  let ents := (List.range nobj).map fun n => entryBytes a.frags n
  let bytes := ents.filterMap id
  let objs := bytes.map fun b => parseObj b 0
  let lf := beAt h 3 1
  let ingress := a.ingress.getD s.timeNs
  let byIngress := s.get (K 0x3000 6) == 1
  let stamp := ingress - s.get (K 0x3000 7) * 1000
  let tlist := if byIngress then stamp else beAt h 8 8
  let tvs := if byIngress then stamp else beAt h 0x10 8
  let vsOnly := bit lf 0
  let placed := (a.frags.map Frag.nent).foldl (· + ·) 0
  if a.start + s.get (K 0x3200 5) * 1000000 < s.now then .error 1
  else if beAt h 0 2 ≠ 0x4F4C ∨ beAt h 2 1 ≠ 1 ∨ beAt h 4 4 ≠ a.lseq ∨ 8 ≤ lf ∨ (slice h 0x27 21).all (· == 0) = false
      ∨ (bytes.any fun b => !((slice b 0x18 8).all (· == 0)) || decide (8 ≤ byteAt b 3)) = true then .error 2
  else if 64 < nobj ∨ placed ≠ nobj ∨ bytes.length ≠ nobj ∨ (vsOnly = true ∧ nobj ≠ 0) then .error 3
  else if beAt h 0x3C 4 ≠ crc32c (h.take 0x3C ++ bytes.flatten) then .error 4
  else if (bit lf 1 = true ∧ 90 * 65536 < (sgn 32 (beAt h 0x1C 4)).natAbs) ∨ (objs.any fun o => decide (0x0F < o.cls) || decide (sgn 16 o.hl < sgn 16 o.hr) || decide (sgn 16 o.vt < sgn 16 o.vb)
      || decide (500000000 < (sgn 32 o.tso).natAbs)) = true then .error 5
  else if (match s.geo.lastLseq with | some l => !seqNewer a.lseq l | none => false) = true then .error 6
  else if (objs.any fun o => decide ((ingress : Int) + (s.get (K 0x3200 8) * 1000000 : Nat) < (tlist : Int) + sgn 32 o.tso)) = true then .error 7
  else
    let yawV := bit lf 2
    let pitV := bit lf 1
    .ok ⟨a.lseq, tlist, vsOnly, ⟨tvs, yawV, pitV, if yawV then beAt h 0x18 4 else 0, if pitV then beAt h 0x1C 4 else 0,
      if pitV then beAt h 0x20 4 else 0, beAt h 0x24 2⟩, objs⟩

/-- The list under assembly is judged: accepted, or dropped with its reason (R100). -/
def State.judgeList (s : State) (a : Assembly) : State :=
  let t : State := { s with geo := { s.geo with asm := none } }
  match t.checkList a with
  | .error r => t.rejectList r
  | .ok l =>
    let u : State := { t with geo := { t.geo with lastLseq := some a.lseq, accepted := t.geo.accepted ++ [l] } }
    u.inc (K 0x3200 9)

/-- A fragment joins the list under assembly; with the last one the list is judged. The list's ingress time is that of fragment 0 (R99, R377). -/
def State.addFrag (s : State) (port : Nat) (a : Assembly) (f : Frag) : State :=
  let a1 : Assembly := { a with frags := a.frags ++ [f], ingress := if f.fidx = 0 then some (s.ingressNs port) else a.ingress }
  if a1.frags.length = f.fcnt then s.judgeList a1
  else { s with geo := { s.geo with asm := some a1 } }

/-- The list under assembly is dropped. -/
def State.dropAsm (s : State) (reason : Nat) : State :=
  { s with geo := { s.geo with asm := none } }.rejectList reason

/-- A new list begins with a fragment. -/
def State.beginList (s : State) (port lseq : Nat) (f : Frag) : State :=
  if f.sound then s.addFrag port ⟨lseq, s.now, none, []⟩ f else s.rejectList 3

/-- A fragment arrives at a port (R101). A datagram without a whole fragment header names no list and is ignored. -/
def State.fragment (s : State) (port : Nat) (p : List Byte) : State :=
  if p.length < 8 then s else
  let lseq := beAt p 0 4
  let f := parseFrag p
  let old := match s.geo.lastLseq with | some l => lseq != l && !seqNewer lseq l | none => false
  let older := match s.geo.asm with | some a => lseq != a.lseq && !seqNewer lseq a.lseq | none => false
  if s.geo.lastLseq = some lseq then s.inc (K 0x3200 0x10)
  else if old || older then
    if s.geo.counted.contains lseq then s
    else { s with geo := { s.geo with counted := s.geo.counted ++ [lseq] } }.rejectList 6
  else
    match s.geo.asm with
    | none => s.beginList port lseq f
    | some a =>
      if a.lseq ≠ lseq then (s.dropAsm 1).beginList port lseq f
      else match a.frags.find? fun g => g.fidx == f.fidx with
        | some g => if g = f then s.inc (K 0x3200 0x10) else s.dropAsm 3
        | none =>
          if f.sound = false ∨ (a.frags.any fun g => g.overlaps f || g.fcnt != f.fcnt) = true then s.dropAsm 3
          else s.addFrag port a f

/-- An object-list datagram on a port that is up and that `0x3200:02` enables (R28, R96, R101). -/
def execObjectListFragment (dt : Nat) (port : Fin 2) (payload : List Byte) (s : State) : Res :=
  let t := s.tick dt
  done (if t.netUp port && bit (t.get (K 0x3200 2)) port then t.fragment port payload else t)

/-- The fragment window of the list under assembly ends (R100 reason 0x01). -/
def execFragmentWindowExpiry (dt : Nat) (s : State) : Res :=
  let t := s.tick dt
  done (match t.geo.asm with
    | some a => if a.start + t.get (K 0x3200 5) * 1000000 ≤ t.now then t.dropAsm 1 else t
    | none => t)

/-- The object-store slot that a new list takes (R27): a slot that holds no list, else, of those that the snapshot does
not read, the one with the oldest list. -/
def State.freeSlot (s : State) : Nat :=
  let cand := (List.range 4).filter fun n => s.geo.inUse != some n
  match cand.find? fun n => (nth none s.geo.slots n).isNone with
  | some n => n
  | none =>
    cand.foldl (fun b n =>
      match nth none s.geo.slots b, nth none s.geo.slots n with
      | some x, some y => if seqNewer x.lseq y.lseq then n else b
      | _, _ => b) (nth 0 cand 0)

/-- A cycle of the CORE clock, 1.25 ns, by the clock in ns (R28). -/
def coreCycle (t : Nat) : Nat := t * 4 / 5

/-- A list has become visible in the CORE cycle of now (R27). -/
def State.justVisible (s : State) : Bool :=
  match s.geo.visAt with | some t => coreCycle t == coreCycle s.now | none => false

/-- What the step of visibility of now replaces stays the newest for a snapshot of the same CORE cycle (R27). -/
def State.noteVisible (s : State) : Geo :=
  if s.justVisible then s.geo
  else { s.geo with visAt := some s.now, newestBefore := s.geo.newest, vehicleBefore := s.geo.vehicle }

/-- An accepted list becomes visible with its vehicle state; a list with VS_ONLY brings the vehicle state only (R102). A
list that is fresh in its slot counts toward the end of FALL-BACK (R115). -/
def State.makeVisible (s : State) : State :=
  match s.geo.accepted with
  | [] => s
  | l :: rest =>
    let g : Geo := { s.noteVisible with
      accepted := rest, vehicle := some l.veh,
      pitched := if l.veh.pitchValid then some l.veh else s.geo.pitched }
    let slot := s.freeSlot
    let g1 : Geo := if l.vsOnly then g else { g with slots := putNth none g.slots slot (some l), newest := some slot }
    let young := decide (s.timeNs ≤ l.tlist + s.get (K 0x3200 3) * 1000000) && !(s.get (K 0x3000 6) == 0 && !s.timeGood)
    let cnt := if l.vsOnly then s.geo.fresh else if young then s.geo.fresh + 1 else 0
    let back := s.get (K 0x3200 0x0C) == 1
    let t : State := { s with geo := { g1 with fresh := if back then cnt else 0 } }
    let t1 := t.setFlag (K 0x3010 9) 3 (!l.veh.pitchValid)
    if back && !l.vsOnly && decide (s.get (K 0x3200 6) ≤ cnt) then
      { t1 with geo := { t1.geo with fresh := 0, rampStart := none, rampWait := some l.lseq } }.set (K 0x3200 0x0C) 2
    else t1

/-- An accepted list becomes visible in a slot of the object store (R27, R102). -/
def execObjectListVisible (dt : Nat) (s : State) : Res := done ((s.tick dt).makeVisible)

/-- The BGE takes a snapshot of the newest visible list and the vehicle state; what became visible in the same CORE cycle waits for
the next snapshot (R27, R103). CORE must be on (R28). -/
def State.snapshot (s : State) : State :=
  if s.domState 2 ≠ 0 then s else
  let n := if s.justVisible then s.geo.newestBefore else s.geo.newest
  let l := match n with | some n => nth none s.geo.slots n | none => none
  let t : State := { s with geo := { s.geo with
    snap := l, inUse := n, snapVeh := if s.justVisible then s.geo.vehicleBefore else s.geo.vehicle, snapAt := s.timeNs,
    rampWait := match s.geo.rampWait, l with
      | some q, some x => if !s.justVisible || x.lseq == q || seqNewer x.lseq q then none else some q
      | w, _ => w } }
  match l with
  | none => t.count 0 2 1
  | some x =>
    let u := (t.set (K 0x3200 0x0D) x.lseq).count 0 2 1
    u.srcs.foldl (fun u i => x.objs.foldl (fun u o =>
      u.probe 4 (fun sel => sel % 4 == i) (o.cls * 65536 + o.oid) x.lseq) u) u

/-- At each snapshot interval the BGE takes the newest visible list and vehicle state (R27, R103). -/
def execObjectSnapshot (dt : Nat) (s : State) : Res := done ((s.tick dt).snapshot)

end Sys2Proof.Machine
end

