-- ==== Sys2Proof/Machine/Receive.lean ====
section
/-! DEFINITION. Reception: Ethernet frames are checked, classified, delivered, forwarded or dropped (R357–R364), and CAN frames are
stored for their consumer (R371, R373). -/

namespace Sys2Proof.Machine

/-- An accepted Ethernet frame without its FCS: offset of the EtherType, tag if any, addresses, EtherType. -/
structure Eth where
  dst : Nat
  src : Nat
  tag : Option (Nat × Nat)
  ethertype : Nat
  /-- Offset of what follows the EtherType. -/
  off : Nat
  deriving DecidableEq, Repr

/-- The fields of a frame; a tag is its VLAN identifier and PCP (R360). [PRESUMED, log entry 95] -/
def parseEth (b : List Byte) : Eth :=
  let tagged := beAt b 12 2 == 0x8100
  let o := if tagged then 16 else 12
  { dst := beAt b 0 6, src := beAt b 6 6, tag := if tagged then some (beAt b 14 2 % 4096, beAt b 14 2 / 8192) else none,
    ethertype := beAt b o 2, off := o + 2 }

/-- The frame passes R357: FCS, length with its FCS, and no PAUSE or priority flow control. [DEDUCED, log entry 96] -/
def macOk (fcsOk : Bool) (b : List Byte) : Bool :=
  fcsOk && decide (64 ≤ b.length + 4 ∧ b.length + 4 ≤ 1522) && (parseEth b).ethertype != 0x8808

/-- The tag agrees with the VLAN mode (R360); time-protocol messages are accepted untagged in every mode. -/
def State.vlanOk (s : State) (p : Nat) (f : Eth) : Bool :=
  let vid := s.act (K (0x7100 + p) 5)
  match s.act (K (0x7100 + p) 4), f.tag with
  | 0, none => true
  | 0, some t => t.1 == 0
  | 1, some t => t.1 == vid
  | 1, none => f.ethertype == 0x88F7
  | _, none => true
  | _, some t => t.1 == vid

/-- A frame is dropped and counted (R357, R361). [DEDUCED, log entry 97] -/
def State.ethDrop (s : State) (p : Nat) : State := (s.inc (K (0x7100 + p) 0x0F)).count 7 2 1

/-- An IP datagram is dropped with a reason (R359). [DEDUCED, log entry 97] -/
def State.ipDrop (s : State) (r : Nat) : State := ((s.inc (K 0x7110 8)).set (K 0x7110 9) r).count 7 2 1

/-! ### IP (R359) -/

/-- The sum of the 16-bit words of a byte string. -/
def wordSum (b : List Byte) : Nat := (List.range ((b.length + 1) / 2)).foldl (fun a j => a + beAt b (2 * j) 2) 0

/-- A one's-complement checksum holds over bytes that include it. -/
def sumOk (b : List Byte) : Bool := wordSum b % 65535 == 0

/-- The one's-complement checksum of bytes. -/
def checksum (b : List Byte) : Nat := 65535 - wordSum b % 65535

/-- A UDP datagram that was taken. -/
structure Datagram where
  /-- Source MAC of its frame. -/
  mac : Nat
  src : Nat
  sport : Nat
  dport : Nat
  data : List Byte
  deriving DecidableEq, Repr

/-- A UDP segment under its pseudo-header, or the reason why it is dropped: a checksum that is wrong, or absent where `need` (R359).
[PRESUMED, log entry 95] -/
def parseUdp (pre : List Byte) (need : Bool) (mac src : Nat) (b : List Byte) : Except Nat Datagram :=
  let n := beAt b 4 2
  let seg := b.take n
  if n < 8 ∨ b.length < n then .error 4
  else if beAt b 6 2 = 0 ∧ need = true then .error 4
  else if beAt b 6 2 ≠ 0 ∧ sumOk (pre ++ toBe 4 n ++ [0, 0, 0, 17] ++ seg) = false then .error 4
  else .ok ⟨mac, src, beAt b 0 2, beAt b 2 2, seg.drop 8⟩

/-- IPv4 destinations of the device: its address, the limited broadcast address, the multicast group (R359). -/
def State.mine4 (s : State) (dst : Nat) : Bool :=
  dst == s.act (K 0x7110 1) || dst == 0xFFFFFFFF || (s.act (K 0x7110 2) != 0 && dst == s.act (K 0x7110 2))

/-- The IPv6 address of the device. -/
def State.addr6 (s : State) : Nat := s.act (K 0x7110 3) * 2 ^ 64 + s.act (K 0x7110 4)

/-- The link-local address of a port, by modified EUI-64 (R359). -/
def State.linkLocal (s : State) (p : Nat) : Nat :=
  let mac := s.act (K (0x7100 + p) 3)
  0xFE80 * 2 ^ 112 + (mac / 2 ^ 24 * 2 ^ 40 + 0xFFFE * 2 ^ 24 + mac % 2 ^ 24) ^^^ 2 ^ 57

/-- IPv6 addresses that the device answers on at a port. -/
def State.mine6 (s : State) (p dst : Nat) : Bool := dst == s.addr6 || dst == s.linkLocal p

/-- An IPv4 datagram to the device: what it carries, or the reason of its drop. The outer none is a datagram that is not the device's or
is not UDP (R359). -/
def State.ip4 (s : State) (mac : Nat) (b : List Byte) : Option (Except Nat Datagram) :=
  let ihl := byteAt b 0 % 16 * 4
  if s.act (K 0x7110 1) = 0 then (if byteAt b 9 = 17 then some (.error 5) else none)
  else if byteAt b 0 / 16 ≠ 4 ∨ s.mine4 (beAt b 16 4) = false then none
  else if beAt b 6 2 % 0x4000 ≠ 0 then some (.error 1)
  else if ihl ≠ 20 then some (.error 2)
  else if sumOk (b.take 20) = false then some (.error 3)
  else if byteAt b 9 ≠ 17 then none
  else some (parseUdp (slice b 12 8) false mac (beAt b 12 4) ((b.take (beAt b 2 2)).drop 20))

/-- What follows the header of an IPv6 datagram and its hop-by-hop, routing, destination and authentication headers: the next header, and the rest
from there (R359). -/
def past6 : Nat → Nat → List Byte → Nat × List Byte
  | 0, nh, b => (nh, b)
  | n + 1, nh, b =>
    if nh = 0 ∨ nh = 43 ∨ nh = 60 then past6 n (byteAt b 0) (b.drop (8 * byteAt b 1 + 8))
    else if nh = 51 then past6 n (byteAt b 0) (b.drop (4 * byteAt b 1 + 8))
    else (nh, b)

/-- The same for IPv6, at a port. -/
def State.ip6 (s : State) (p mac : Nat) (b : List Byte) : Option (Except Nat Datagram) :=
  let body := (b.drop 40).take (beAt b 4 2)
  let (nh, rest) := past6 (body.length / 8 + 1) (byteAt b 6) body
  if s.addr6 = 0 then (if nh = 17 then some (.error 5) else none)
  else if byteAt b 0 / 16 ≠ 6 ∨ s.mine6 p (beAt b 24 16) = false then none
  else if nh = 44 then some (.error 1)
  else if nh ≠ 17 then none
  else some (parseUdp (slice b 8 32) true mac (beAt b 8 16) rest)

/-- Requests of a kind of client that wait at a sleeping domain, and so hold buffers of the dictionary server. -/
def State.waiting (s : State) (mine : Client → Bool) : Nat := (s.pwr.stalled.filter fun x => mine x.client).length

/-- A DAP datagram goes to the dictionary server, whose buffer holds 16; a full one drops it with reason 0x06 (R361, R386). -/
def State.dapDatagram (s : State) (p : Nat) (d : Datagram) : State :=
  if 16 ≤ s.waiting (fun c => match c with | .udp .. => true | _ => false) then s.ipDrop 6
  else s.servePdu (.udp p d.src d.sport d.mac) d.data

/-- The service of a datagram, by its destination port, in the order of R361; none where no service takes it. -/
def State.service (s : State) (p : Nat) (d : Datagram) : Option State :=
  if d.dport = s.get (K 0x7110 5) then some (s.guardIn (.udp p (d.src / 2 ^ 64) (d.src % 2 ^ 64) d.sport) d.data)
  else if d.dport = s.get (K 0x3200 1) ∧ bit (s.get (K 0x3200 2)) p = true then some (s.fragment p d.data)
  else if d.dport = s.get (K 0x1210 1) ∧ bit (s.get (K 0x1210 2)) p = true then some (s.dapDatagram p d)
  else if d.dport = s.get (K 0x7110 6) ∧ bit (s.get (K 0x2200 0x10)) p = true then some (s.updDatagram p ⟨d.src, d.mac⟩ d.sport d.data)
  else none

/-- An IP datagram goes to its service, or is dropped with its reason; one that only passes to the other port is not counted.
[DEDUCED, log entry 98; DESIGN CHOICE, log entry 101] -/
def State.datagram (s : State) (p : Nat) (passes : Bool) (r : Option (Except Nat Datagram)) : State :=
  match r with
  | none => if passes then s else s.ethDrop p
  | some (.error e) => if passes ∧ e = 5 then s else s.ipDrop e
  | some (.ok d) => (s.service p d).getD (if passes then s else s.ipDrop 5)

/-! ### The hardware responder (R359) -/

/-- The device's own frame on a port: addresses, its tag under R360, EtherType and content, padded to the least length.
[DEDUCED, log entry 100] -/
def State.ownFrame (s : State) (p dst ethertype : Nat) (body : List Byte) : List Byte :=
  let tag := match s.vlanTag p 7 with
    | some (vid, pcp) => toBe 2 0x8100 ++ toBe 2 (pcp * 8192 + vid)
    | none => []
  let f := toBe 6 dst ++ toBe 6 (s.act (K (0x7100 + p) 3)) ++ tag ++ toBe 2 ethertype ++ body
  f ++ List.replicate (60 - f.length) 0

/-- A whole frame waits at a port, in a class and a queue. -/
def State.queueFrame (s : State) (p cls q : Nat) (b : List Byte) : State :=
  let x : EthTx := ⟨cls, q, true, 0, 0, b, none⟩
  { s with net := { s.net with ethTx := modNth [] s.net.ethTx p fun l => l ++ [x] } }

/-- An ARP request for the device's address is answered. [PRESUMED, log entries 95, 102] -/
def State.arpIn (s : State) (p src : Nat) (b : List Byte) : State :=
  let ip := s.act (K 0x7110 1)
  if ip ≠ 0 ∧ beAt b 0 8 = 0x0001080006040001 ∧ beAt b 24 4 = ip then
    let body := toBe 8 0x0001080006040002 ++ toBe 6 (s.act (K (0x7100 + p) 3)) ++ toBe 4 ip ++ slice b 8 10
    s.queueFrame p 3 0 (s.ownFrame p src 0x0806 body)
  else s

/-- The bytes are a neighbour solicitation. -/
def isSolicit (b : List Byte) : Bool := byteAt b 0 / 16 == 6 && byteAt b 6 == 58 && byteAt b 40 == 135

/-- A neighbour solicitation for an address of the device is answered. [PRESUMED, log entries 95, 102] -/
def State.solicitIn (s : State) (p src : Nat) (b : List Byte) : State :=
  let target := beAt b 48 16
  let pkt := (b.drop 40).take (beAt b 4 2)
  let pre := slice b 8 32 ++ toBe 4 pkt.length ++ toBe 4 58
  if s.addr6 ≠ 0 ∧ s.mine6 p target = true ∧ byteAt b 7 = 255 ∧ byteAt b 41 = 0 ∧ sumOk (pre ++ pkt) = true then
    let asker := beAt b 8 16
    let peer := if asker = 0 then 0xFF02 * 2 ^ 112 + 1 else asker
    let flags := if asker = 0 then 0x20000000 else 0x60000000
    let tail := toBe 4 flags ++ toBe 16 target ++ [2, 1] ++ toBe 6 (s.act (K (0x7100 + p) 3))
    let sum := checksum (toBe 16 target ++ toBe 16 peer ++ toBe 4 32 ++ toBe 4 58 ++ toBe 4 0x88000000 ++ tail)
    let body := toBe 4 0x60000000 ++ toBe 2 32 ++ [58, 255] ++ toBe 16 target ++ toBe 16 peer ++ toBe 2 0x8800 ++ toBe 2 sum ++ tail
    s.queueFrame p 3 0 (s.ownFrame p (if asker = 0 then 0x333300000001 else src) 0x86DD body)
  else s

/-! ### Classification (R361) and forwarding (R363) -/

/-- Destination 01-80-C2-00-00-00 to 01-80-C2-00-00-0F. -/
def linkLocalMac (dst : Nat) : Bool := dst / 16 == 0x0180C200000

/-- A time-protocol message of the first class. [DEDUCED, log entry 100] -/
def State.isPtp (s : State) (f : Eth) : Bool :=
  f.ethertype == 0x88F7 && (f.dst == 0x0180C200000E || (f.dst == 0x011B19000000 && s.act (K 0x7180 1) == 1))

/-- A frame goes to the other port in line mode: not one to this port or to a link-local group, nor Sync and Follow_Up on the slave
port, which are relayed (R363). -/
def State.passes (s : State) (p : Nat) (f : Eth) (b : List Byte) : Bool :=
  let sync := s.isPtp f && (byteAt b f.off % 16 == 0 || byteAt b f.off % 16 == 8) && decide (s.slavePort = some p)
  s.lineUp && f.dst != s.act (K (0x7100 + p) 3) && !linkLocalMac f.dst && !sync && s.act (K (0x7100 + (1 - p)) 1) == 1

/-- The egress queue of a forwarded frame, 0 the highest (R363). [DESIGN CHOICE, log entry 99] -/
def queueOf (f : Eth) : Nat := match f.tag with | some t => 3 - t.2 / 2 | none => 3

/-- A frame is forwarded; a full queue drops it (R363). [DEDUCED, log entry 96; DESIGN CHOICE, log entry 99] -/
def State.forward (s : State) (p : Nat) (f : Eth) (b : List Byte) : State :=
  let o := 1 - p
  let q := queueOf f
  let held := (nth [] s.net.ethTx o).filter fun x => x.cls == 2 && x.queue == q
  if Config.queueDepth o q ≤ held.length then (s.inc (K (0x7100 + o) 0x10)).count 7 2 1 else (s.queueFrame o 2 q b).count 7 3 1

/-- Local delivery by class. Time-protocol messages and stream PDUs go to their blocks, whose own commands say what they do.
[DEDUCED, log entry 98] -/
def State.classify (s : State) (p : Nat) (passes : Bool) (f : Eth) (b : List Byte) : State :=
  let r := b.drop f.off
  if s.isPtp f then s
  else if f.ethertype = 0x22F0 ∧ (s.vsMatch p (beAt r 4 8) f.dst).isSome = true then s
  else if f.ethertype = 0x0806 then s.arpIn p f.src r
  else if f.ethertype = 0x86DD ∧ isSolicit r = true then s.solicitIn p f.src r
  else if f.ethertype = 0x0800 then s.datagram p passes (s.ip4 f.src r)
  else if f.ethertype = 0x86DD then s.datagram p passes (s.ip6 p f.src r)
  else if passes then s else s.ethDrop p

/-- A frame arrives at a port (R357, R360, R361, R363). -/
def State.ethIn (s : State) (p : Nat) (fcsOk : Bool) (b : List Byte) : State :=
  let f := parseEth b
  if !s.netUp p then s
  else if !macOk fcsOk b then s.ethDrop p
  else
    let t := (s.inc (K (0x7100 + p) 0x0D)).count 7 1 1
    if !t.vlanOk p f then t.ethDrop p
    else
      let fwd := t.passes p f b
      let here := f.dst == t.act (K (0x7100 + p) 3) || f.dst / 2 ^ 40 % 2 == 1
      let u := if here then t.classify p fwd f b else if fwd then t else t.ethDrop p
      if fwd then u.forward p f b else u

/-- An Ethernet frame arrives at a port: whether its FCS holds, and its bytes without the FCS. -/
def execEthernetFrame (dt : Nat) (p : Fin 2) (fcsOk : Bool) (b : List Byte) (s : State) : Res := done ((s.tick dt).ethIn p fcsOk b)

/-! ### CAN (R371, R373) -/

/-- A frame with an identifier of a consumer is stored and counted; the others take no buffer (R373); a stored one that no consumer matches, as a
classical frame of Guardrail, is dropped and counted (R412). A controller for classical CAN only takes no CAN FD
frame (R371). A DAP frame that finds the receive buffer of four frames full is dropped and counted (R373). [DEDUCED, log entries 103, 117] -/
def State.canIn (s : State) (c ident : Nat) (fd : Bool) (b : List Byte) : State :=
  let stored (t : State) : State := (t.inc (K (0x7140 + c) 0x0A)).count 11 1 1
  let dap := s.get (K 0x1200 1) == c && s.get (K 0x1200 2) == ident
  if !s.canUp c || (fd && s.act (K (0x7140 + c) 2) == 1) then s
  else
  let s := s.goodFrame c false
  if dap then
    if 4 ≤ s.waiting (fun x => match x with | .can _ => true | _ => false) then s.inc (K (0x7140 + c) 0x0C)
    else (stored s).servePdu (.can ident) b
  else if s.guardIdent c ident then
    if fd then (stored s).guardIn (.can c ident) b
    else (stored s).inc (K 0x1410 2)
  else s

/-- A CAN frame arrives at a controller: identifier as 0x1200:02 writes it, whether it is a CAN FD frame, and its data. -/
def execCanFrame (dt : Nat) (c : Fin 4) (ident : Nat) (fd : Bool) (b : List Byte) (s : State) : Res := done ((s.tick dt).canIn c ident fd b)

end Sys2Proof.Machine
end

