-- ==== Sys2Proof/Machine/Dispatch.lean ====
section
/-! DEFINITION. One arm per command: the meaning it calls. -/

namespace Sys2Proof.Machine

/-- The effect of a command on everything but the queue of commands. -/
def exec (i : Instr) (s : State) : Host.Outcome State Fault Refusal :=
  match i with
  | .powerGood dt clk beats => Sys2Proof.Machine.execPowerGood dt clk beats s
  | .pllRetry dt clk beats => Sys2Proof.Machine.execPllRetry dt clk beats s
  | .firstLight dt => Sys2Proof.Machine.execFirstLight dt s
  | .endOfBoot dt => Sys2Proof.Machine.execEndOfBoot dt s
  | .read dt rq key => Sys2Proof.Machine.execRead dt rq key s
  | .write dt rq key data => Sys2Proof.Machine.execWrite dt rq key data s
  | .repeatWindowExpiry dt c => Sys2Proof.Machine.execRepeatWindowExpiry dt c s
  | .uploadInitiate dt rq key => Sys2Proof.Machine.execUploadInitiate dt rq key s
  | .uploadSegmentRequest dt rq key seg => Sys2Proof.Machine.execUploadSegmentRequest dt rq key seg s
  | .downloadInitiate dt rq key total => Sys2Proof.Machine.execDownloadInitiate dt rq key total s
  | .downloadSegment dt rq key seg last data => Sys2Proof.Machine.execDownloadSegment dt rq key seg last data s
  | .downloadComplete dt c => Sys2Proof.Machine.execDownloadComplete dt c s
  | .abort dt rq key code detail => Sys2Proof.Machine.execAbort dt rq key code detail s
  | .transferTimeout dt c => Sys2Proof.Machine.execTransferTimeout dt c s
  | .hspiRequest dt b => Sys2Proof.Machine.execHspiRequest dt b s
  | .hspiPoll dt n => Sys2Proof.Machine.execHspiPoll dt n s
  | .hspiOtherOpcode dt n => Sys2Proof.Machine.execHspiOtherOpcode dt n s
  | .stateRequestPreop dt rq => Sys2Proof.Machine.execStateRequestPreop dt rq s
  | .stateRequestOperate dt rq => Sys2Proof.Machine.execStateRequestOperate dt rq s
  | .save dt rq => Sys2Proof.Machine.execSave dt rq s
  | .saveComplete dt good => Sys2Proof.Machine.execSaveComplete dt good s
  | .restoreDefaults dt rq => Sys2Proof.Machine.execRestoreDefaults dt rq s
  | .reloadStoredCopy dt rq => Sys2Proof.Machine.execReloadStoredCopy dt rq s
  | .meshCommit dt rq c => Sys2Proof.Machine.execMeshCommit dt rq c s
  | .objectListFragment dt port payload => Sys2Proof.Machine.execObjectListFragment dt port payload s
  | .fragmentWindowExpiry dt => Sys2Proof.Machine.execFragmentWindowExpiry dt s
  | .objectListVisible dt => Sys2Proof.Machine.execObjectListVisible dt s
  | .objectSnapshot dt => Sys2Proof.Machine.execObjectSnapshot dt s
  | .composeStart dt released => Sys2Proof.Machine.execComposeStart dt released s
  | .composeRow dt c field row => Sys2Proof.Machine.execComposeRow dt c field row s
  | .layerCommit dt rq l => Sys2Proof.Machine.execLayerCommit dt rq l s
  | .groupCommit dt rq mask => Sys2Proof.Machine.execGroupCommit dt rq mask s
  | .allocateRequest dt rq word => Sys2Proof.Machine.execAllocateRequest dt rq word s
  | .freeRequest dt rq n => Sys2Proof.Machine.execFreeRequest dt rq n s
  | .contentReady dt rq n v => Sys2Proof.Machine.execContentReady dt rq n v s
  | .memoryQuota dt rq l v => Sys2Proof.Machine.execMemoryQuota dt rq l v s
  | .gainMeshCommit dt rq c => Sys2Proof.Machine.execGainMeshCommit dt rq c s
  | .clearReported dt rq c => Sys2Proof.Machine.execClearReported dt rq c s
  | .doseReset dt rq c => Sys2Proof.Machine.execDoseReset dt rq c s
  | .ageingFold dt => Sys2Proof.Machine.execAgeingFold dt s
  | .hostBudget dt rq c v => Sys2Proof.Machine.execHostBudget dt rq c v s
  | .kerbComplementCheck dt differ => Sys2Proof.Machine.execKerbComplementCheck dt differ s
  | .frameMilestone dt phi pdBad watch => Sys2Proof.Machine.execFrameMilestone dt phi pdBad watch s
  | .commitMilestone dt => Sys2Proof.Machine.execCommitMilestone dt s
  | .scanOutCommit dt rq => Sys2Proof.Machine.execScanOutCommit dt rq s
  | .scanOutRow dt c r => Sys2Proof.Machine.execScanOutRow dt c r s
  | .fallBackRelease dt c => Sys2Proof.Machine.execFallBackRelease dt c s
  | .scrubAccess dt w result => Sys2Proof.Machine.execScrubAccess dt w result s
  | .syncInEdge dt falling => Sys2Proof.Machine.execSyncInEdge dt falling s
  | .syncInLoss dt => Sys2Proof.Machine.execSyncInLoss dt s
  | .holdoverEnd dt => Sys2Proof.Machine.execHoldoverEnd dt s
  | .milestone dt => Sys2Proof.Machine.execMilestone dt s
  | .retransmitTimeout dt e seq => Sys2Proof.Machine.execRetransmitTimeout dt e seq s
  | .ack dt e head crc => Sys2Proof.Machine.execAck dt e head crc s
  | .regRsp dt e head words crc => Sys2Proof.Machine.execRegRsp dt e head words crc s
  | .status dt e head words crc => Sys2Proof.Machine.execStatus dt e head words crc s
  | .statusMissing dt e => Sys2Proof.Machine.execStatusMissing dt e s
  | .fmap dt e head words crc => Sys2Proof.Machine.execFmap dt e head words crc s
  | .gmap dt e head words crc => Sys2Proof.Machine.execGmap dt e head words crc s
  | .gainMapTimeout dt e => Sys2Proof.Machine.execGainMapTimeout dt e s
  | .registerWindowRead dt rq ep reg => Sys2Proof.Machine.execRegisterWindowRead dt rq ep reg s
  | .registerWindowWrite dt rq v => Sys2Proof.Machine.execRegisterWindowWrite dt rq v s
  | .tseSettleExpiry dt g => Sys2Proof.Machine.execTseSettleExpiry dt g s
  | .planeTableCommit dt rq c => Sys2Proof.Machine.execPlaneTableCommit dt rq c s
  | .colourCommit dt rq c => Sys2Proof.Machine.execColourCommit dt rq c s
  | .planeSlot dt c k => Sys2Proof.Machine.execPlaneSlot dt c k s
  | .laserLine dt c h => Sys2Proof.Machine.execLaserLine dt c h s
  | .senseSample dt m hCode vCode turn limit fault dll => Sys2Proof.Machine.execSenseSample dt m hCode vCode turn limit fault dll s
  | .delayLineUnlock dt c => Sys2Proof.Machine.execDelayLineUnlock dt c s
  | .scanGuardStabilised dt m => Sys2Proof.Machine.execScanGuardStabilised dt m s
  | .pwmPeriodBoundary dt v0 v1 v2 v3 => Sys2Proof.Machine.execPwmPeriodBoundary dt v0 v1 v2 v3 s
  | .ownPeriodStart dt c => Sys2Proof.Machine.execOwnPeriodStart dt c s
  | .sinkSample dt c code reg dropped => Sys2Proof.Machine.execSinkSample dt c code reg dropped s
  | .pinHigh dt c => Sys2Proof.Machine.execPinHigh dt c s
  | .clearFaults dt rq c => Sys2Proof.Machine.execClearFaults dt rq c s
  | .level dt rq c v => Sys2Proof.Machine.execLevel dt rq c v s
  | .program dt c e => Sys2Proof.Machine.execProgram dt c e s
  | .targetTable dt c e => Sys2Proof.Machine.execTargetTable dt c e s
  | .engineStart dt rq e => Sys2Proof.Machine.execEngineStart dt rq e s
  | .engineStop dt rq e => Sys2Proof.Machine.execEngineStop dt rq e s
  | .set dt e => Sys2Proof.Machine.execSet dt e s
  | .ramp dt e => Sys2Proof.Machine.execRamp dt e s
  | .hold dt e => Sys2Proof.Machine.execHold dt e s
  | .loop dt e => Sys2Proof.Machine.execLoop dt e s
  | .jump dt e => Sys2Proof.Machine.execJump dt e s
  | .waitMs dt e => Sys2Proof.Machine.execWaitMs dt e s
  | .waitTime dt e => Sys2Proof.Machine.execWaitTime dt e s
  | .timedInstructionEnd dt e => Sys2Proof.Machine.execTimedInstructionEnd dt e s
  | .chainUpdate dt n rb => Sys2Proof.Machine.execChainUpdate dt n rb s
  | .matrixSlot dt r => Sys2Proof.Machine.execMatrixSlot dt r s
  | .loopSample dt n code aux fault => Sys2Proof.Machine.execLoopSample dt n code aux fault s
  | .gainCommit dt rq n => Sys2Proof.Machine.execGainCommit dt rq n s
  | .table dt c n => Sys2Proof.Machine.execTable dt c n s
  | .slotStart dt rq n => Sys2Proof.Machine.execSlotStart dt rq n s
  | .slotStop dt rq n => Sys2Proof.Machine.execSlotStop dt rq n s
  | .enterDetour dt rq n => Sys2Proof.Machine.execEnterDetour dt rq n s
  | .leaveDetour dt rq n => Sys2Proof.Machine.execLeaveDetour dt rq n s
  | .startTimeout dt n => Sys2Proof.Machine.execStartTimeout dt n s
  | .currentLoopPeriod dt a ia ib ic => Sys2Proof.Machine.execCurrentLoopPeriod dt a ia ib ic s
  | .positionCount dt a lines => Sys2Proof.Machine.execPositionCount dt a lines s
  | .stoNAssert dt => Sys2Proof.Machine.execStoNAssert dt s
  | .stoPathMismatch dt a path => Sys2Proof.Machine.execStoPathMismatch dt a path s
  | .travelExcess dt a => Sys2Proof.Machine.execTravelExcess dt a s
  | .bitSlip dt rq l => Sys2Proof.Machine.execBitSlip dt rq l s
  | .train dt l b => Sys2Proof.Machine.execTrain dt l b s
  | .trainingStart dt p => Sys2Proof.Machine.execTrainingStart dt p s
  | .trainingComplete dt p => Sys2Proof.Machine.execTrainingComplete dt p s
  | .trainingTimeout dt p => Sys2Proof.Machine.execTrainingTimeout dt p s
  | .trainingRetry dt p => Sys2Proof.Machine.execTrainingRetry dt p s
  | .rateSwitch dt p => Sys2Proof.Machine.execRateSwitch dt p s
  | .rateCheck dt p invalid => Sys2Proof.Machine.execRateCheck dt p invalid s
  | .blockLockLoss dt l => Sys2Proof.Machine.execBlockLockLoss dt l s
  | .loss dt l b => Sys2Proof.Machine.execLoss dt l b s
  | .returnLoss dt e => Sys2Proof.Machine.execReturnLoss dt e s
  | .electricalIdle dt l => Sys2Proof.Machine.execElectricalIdle dt l s
  | .eidle dt l b => Sys2Proof.Machine.execEidle dt l b s
  | .restripeTimeout dt g => Sys2Proof.Machine.execRestripeTimeout dt g s
  | .failedLaneRetry dt l => Sys2Proof.Machine.execFailedLaneRetry dt l s
  | .eyeScan dt rq l v => Sys2Proof.Machine.execEyeScan dt rq l v s
  | .eyeScanDone dt l n => Sys2Proof.Machine.execEyeScanDone dt l n s
  | .prbsControl dt rq l v => Sys2Proof.Machine.execPrbsControl dt rq l v s
  | .ethernetFrame dt p fcsOk b => Sys2Proof.Machine.execEthernetFrame dt p fcsOk b s
  | .frameTransmit dt p => Sys2Proof.Machine.execFrameTransmit dt p s
  | .linkStateChange dt p st => Sys2Proof.Machine.execLinkStateChange dt p st s
  | .videoPdu dt p form sid mac seq b => Sys2Proof.Machine.execVideoPdu dt p form sid mac seq b s
  | .streamCommit dt rq n => Sys2Proof.Machine.execStreamCommit dt rq n s
  | .canFrame dt c ident fd b => Sys2Proof.Machine.execCanFrame dt c ident fd b s
  | .canFrameTransmit dt c => Sys2Proof.Machine.execCanFrameTransmit dt c s
  | .busOff dt c => Sys2Proof.Machine.execBusOff dt c s
  | .busOffRecovery dt c => Sys2Proof.Machine.execBusOffRecovery dt c s
  | .recover dt rq c => Sys2Proof.Machine.execRecover dt rq c s
  | .sync dt p domain seq twoStep logInt => Sys2Proof.Machine.execSync dt p domain seq twoStep logInt s
  | .followUp dt p seq t1 c cum gm => Sys2Proof.Machine.execFollowUp dt p seq t1 c cum gm s
  | .followUpTimeout dt => Sys2Proof.Machine.execFollowUpTimeout dt s
  | .pdelayReqSend dt p => Sys2Proof.Machine.execPdelayReqSend dt p s
  | .pdelayReq dt p seq => Sys2Proof.Machine.execPdelayReq dt p seq s
  | .pdelayResp dt p seq t2 t3 => Sys2Proof.Machine.execPdelayResp dt p seq t2 t3 s
  | .syncTimeout dt => Sys2Proof.Machine.execSyncTimeout dt s
  | .holdoverLimit dt => Sys2Proof.Machine.execHoldoverLimit dt s
  | .stepAtNextSample dt rq => Sys2Proof.Machine.execStepAtNextSample dt rq s
  | .setTime dt rq => Sys2Proof.Machine.execSetTime dt rq s
  | .oneShot dt rq n => Sys2Proof.Machine.execOneShot dt rq n s
  | .periodic dt rq n => Sys2Proof.Machine.execPeriodic dt rq n s
  | .tpoOff dt rq n => Sys2Proof.Machine.execTpoOff dt rq n s
  | .tpoPulse dt n => Sys2Proof.Machine.execTpoPulse dt n s
  | .roadblockNAssert dt ball => Sys2Proof.Machine.execRoadblockNAssert dt ball s
  | .roadblockBallMismatch dt => Sys2Proof.Machine.execRoadblockBallMismatch dt s
  | .roadblockPathMismatch dt path => Sys2Proof.Machine.execRoadblockPathMismatch dt path s
  | .vehicle dt from_ f => Sys2Proof.Machine.execVehicle dt from_ f s
  | .glare dt from_ f => Sys2Proof.Machine.execGlare dt from_ f s
  | .beamMode dt from_ f => Sys2Proof.Machine.execBeamMode dt from_ f s
  | .kerbLoad dt from_ f => Sys2Proof.Machine.execKerbLoad dt from_ f s
  | .roadblockRequest dt from_ f => Sys2Proof.Machine.execRoadblockRequest dt from_ f s
  | .roadblockRelease dt from_ f => Sys2Proof.Machine.execRoadblockRelease dt from_ f s
  | .torqueRequest dt from_ f => Sys2Proof.Machine.execTorqueRequest dt from_ f s
  | .torqueRelease dt from_ f => Sys2Proof.Machine.execTorqueRelease dt from_ f s
  | .swWrite dt from_ f => Sys2Proof.Machine.execSwWrite dt from_ f s
  | .safeAck dt from_ f => Sys2Proof.Machine.execSafeAck dt from_ f s
  | .safeAckAll dt from_ f => Sys2Proof.Machine.execSafeAckAll dt from_ f s
  | .guardrailDeadline dt n => Sys2Proof.Machine.execGuardrailDeadline dt n s
  | .producedFrameSend dt n => Sys2Proof.Machine.execProducedFrameSend dt n s
  | .faultRecord dt src kind arg standing => Sys2Proof.Machine.execFaultRecord dt src kind arg standing s
  | .faultCauseCleared dt src kind arg => Sys2Proof.Machine.execFaultCauseCleared dt src kind arg s
  | .faultAcknowledge dt rq n => Sys2Proof.Machine.execFaultAcknowledge dt rq n s
  | .faultAcknowledgeAll dt rq => Sys2Proof.Machine.execFaultAcknowledgeAll dt rq s
  | .rule dt rq n v => Sys2Proof.Machine.execRule dt rq n v s
  | .aliveToggle dt votes => Sys2Proof.Machine.execAliveToggle dt votes s
  | .coreResyncComplete dt c => Sys2Proof.Machine.execCoreResyncComplete dt c s
  | .aliveSilence dt => Sys2Proof.Machine.execAliveSilence dt s
  | .aliveReadbackMismatch dt pin => Sys2Proof.Machine.execAliveReadbackMismatch dt pin s
  | .configurationIntegrityCheck dt bad => Sys2Proof.Machine.execConfigurationIntegrityCheck dt bad s
  | .latentTest dt failed => Sys2Proof.Machine.execLatentTest dt failed s
  | .milepostBeat dt => Sys2Proof.Machine.execMilepostBeat dt s
  | .milepost dt head words crc => Sys2Proof.Machine.execMilepost dt head words crc s
  | .beatInEdge dt => Sys2Proof.Machine.execBeatInEdge dt s
  | .beatPathLoss dt b => Sys2Proof.Machine.execBeatPathLoss dt b s
  | .claimInFall dt => Sys2Proof.Machine.execClaimInFall dt s
  | .claimInRise dt => Sys2Proof.Machine.execClaimInRise dt s
  | .claimReleaseFilterExpiry dt => Sys2Proof.Machine.execClaimReleaseFilterExpiry dt s
  | .tieBreakYield dt => Sys2Proof.Machine.execTieBreakYield dt s
  | .claimWatchdog dt => Sys2Proof.Machine.execClaimWatchdog dt s
  | .deferredClaim dt => Sys2Proof.Machine.execDeferredClaim dt s
  | .takeoverCheck dt bad => Sys2Proof.Machine.execTakeoverCheck dt bad s
  | .copy dt crcOk frame cfg kseq cls rb torque body => Sys2Proof.Machine.execCopy dt crcOk frame cfg kseq cls rb torque body s
  | .commit dt crcOk landing item vals doms => Sys2Proof.Machine.execCommit dt crcOk landing item vals doms s
  | .signature dt head words crc => Sys2Proof.Machine.execSignature dt head words crc s
  | .kerb dt head words crc => Sys2Proof.Machine.execKerb dt head words crc s
  | .bulk dt head words crc => Sys2Proof.Machine.execBulk dt head words crc s
  | .bulkSyncComplete dt vals doms cells maps => Sys2Proof.Machine.execBulkSyncComplete dt vals doms cells maps s
  | .handoverCommand dt rq => Sys2Proof.Machine.execHandoverCommand dt rq s
  | .swapDrill dt => Sys2Proof.Machine.execSwapDrill dt s
  | .handoverOffer dt head words crc => Sys2Proof.Machine.execHandoverOffer dt head words crc s
  | .handoverGrant dt head words crc => Sys2Proof.Machine.execHandoverGrant dt head words crc s
  | .handoverRefuse dt head words crc => Sys2Proof.Machine.execHandoverRefuse dt head words crc s
  | .updateStart dt rq => Sys2Proof.Machine.execUpdateStart dt rq s
  | .updateAbandon dt rq => Sys2Proof.Machine.execUpdateAbandon dt rq s
  | .updateVerify dt rq => Sys2Proof.Machine.execUpdateVerify dt rq s
  | .verificationComplete dt corrected bad => Sys2Proof.Machine.execVerificationComplete dt corrected bad s
  | .updateActivate dt rq => Sys2Proof.Machine.execUpdateActivate dt rq s
  | .endOfRollingRestart dt => Sys2Proof.Machine.execEndOfRollingRestart dt s
  | .updateActivateWithReset dt rq => Sys2Proof.Machine.execUpdateActivateWithReset dt rq s
  | .updateConfirm dt rq => Sys2Proof.Machine.execUpdateConfirm dt rq s
  | .autoConfirm dt => Sys2Proof.Machine.execAutoConfirm dt s
  | .updateFallBack dt rq => Sys2Proof.Machine.execUpdateFallBack dt rq s
  | .recoveryActivate dt rq => Sys2Proof.Machine.execRecoveryActivate dt rq s
  | .chunk dt c => Sys2Proof.Machine.execChunk dt c s
  | .manifestFragment dt p addr port frag image data => Sys2Proof.Machine.execManifestFragment dt p addr port frag image data s
  | .chunkFragment dt p addr port frag image chunk data => Sys2Proof.Machine.execChunkFragment dt p addr port frag image chunk data s
  | .statusQuery dt p addr port image chunk => Sys2Proof.Machine.execStatusQuery dt p addr port image chunk s
  | .updateFragmentTimeout dt => Sys2Proof.Machine.execUpdateFragmentTimeout dt s
  | .refreshBlock dt corrected bad => Sys2Proof.Machine.execRefreshBlock dt corrected bad s
  | .doseArchive dt => Sys2Proof.Machine.execDoseArchive dt s
  | .faultArchive dt => Sys2Proof.Machine.execFaultArchive dt s
  | .powerRequestCommit dt rq => Sys2Proof.Machine.execPowerRequestCommit dt rq s
  | .domainStateReached dt d => Sys2Proof.Machine.execDomainStateReached dt d s
  | .domainWakeComplete dt d upset => Sys2Proof.Machine.execDomainWakeComplete dt d upset s
  | .stallLimit dt => Sys2Proof.Machine.execStallLimit dt s
  | .wakeDetect dt w n pat => Sys2Proof.Machine.execWakeDetect dt w n pat s
  | .supplyMonitorTrip dt rail => Sys2Proof.Machine.execSupplyMonitorTrip dt rail s
  | .resetNAssert dt => Sys2Proof.Machine.execResetNAssert dt s
  | .resetNRelease dt => Sys2Proof.Machine.execResetNRelease dt s
  | .stuckReset dt => Sys2Proof.Machine.execStuckReset dt s
  | .clockMonitorFault dt check => Sys2Proof.Machine.execClockMonitorFault dt check s
  | .temperatureSample dt r mv => Sys2Proof.Machine.execTemperatureSample dt r mv s
  | .graceTimeEnd dt => Sys2Proof.Machine.execGraceTimeEnd dt s
  | .stepIntervalEnd dt => Sys2Proof.Machine.execStepIntervalEnd dt s
  | .releaseTimeEnd dt => Sys2Proof.Machine.execReleaseTimeEnd dt s
  | .calibrationRun dt rq => Sys2Proof.Machine.execCalibrationRun dt rq s
  | .calibrationRunComplete dt a b => Sys2Proof.Machine.execCalibrationRunComplete dt a b s
  | .calibrationRetry dt => Sys2Proof.Machine.execCalibrationRetry dt s
  | .calibrationSave dt rq => Sys2Proof.Machine.execCalibrationSave dt rq s
  | .calibrationReload dt rq => Sys2Proof.Machine.execCalibrationReload dt rq s
  | .crcStart dt rq u => Sys2Proof.Machine.execCrcStart dt rq u s
  | .crcContinue dt rq u => Sys2Proof.Machine.execCrcContinue dt rq u s
  | .crcAbort dt rq u => Sys2Proof.Machine.execCrcAbort dt rq u s
  | .crcRunEnd dt u => Sys2Proof.Machine.execCrcRunEnd dt u s
  | .dapClaim dt rq u => Sys2Proof.Machine.execDapClaim dt rq u s
  | .dapClaimRelease dt rq u => Sys2Proof.Machine.execDapClaimRelease dt rq u s
  | .pcgStart dt rq g => Sys2Proof.Machine.execPcgStart dt rq g s
  | .pcgStop dt rq g => Sys2Proof.Machine.execPcgStop dt rq g s
  | .pcgClear dt rq g => Sys2Proof.Machine.execPcgClear dt rq g s
  | .pcgStopAndRelease dt rq g => Sys2Proof.Machine.execPcgStopAndRelease dt rq g s
  | .traceArm dt rq => Sys2Proof.Machine.execTraceArm dt rq s
  | .traceForceTrigger dt rq => Sys2Proof.Machine.execTraceForceTrigger dt rq s
  | .traceStop dt rq => Sys2Proof.Machine.execTraceStop dt rq s
  | .traceRelease dt rq => Sys2Proof.Machine.execTraceRelease dt rq s
  | .traceWrite dt => Sys2Proof.Machine.execTraceWrite dt s
  | .bypass dt => Sys2Proof.Machine.execBypass dt s
  | .idcode dt => Sys2Proof.Machine.execIdcode dt s
  | .samplePreload dt cells => Sys2Proof.Machine.execSamplePreload dt cells s
  | .extest dt => Sys2Proof.Machine.execExtest dt s
  | .clamp dt => Sys2Proof.Machine.execClamp dt s
  | .roadblockNRelease dt ball => Sys2Proof.Machine.execRoadblockNRelease dt ball s
  | .stoNRelease dt => Sys2Proof.Machine.execStoNRelease dt s
  | .calibrationSaveComplete dt good => Sys2Proof.Machine.execCalibrationSaveComplete dt good s
  | .kerbMapsArmed dt => Sys2Proof.Machine.execKerbMapsArmed dt s
  | .apcPairRestarted dt p => Sys2Proof.Machine.execApcPairRestarted dt p s
  | .unknownCommand dt rq cmd key arg data => Sys2Proof.Machine.execUnknownCommand dt rq cmd key arg data s
  | .canBusError dt c tec rec => Sys2Proof.Machine.execCanBusError dt c tec rec s
  | .idle dt e head crc => Sys2Proof.Machine.execIdle dt e head crc s

end Sys2Proof.Machine
end

