-- ==== Sys2Proof/WellFormed.lean ====
section
/-! DEFINITION. Which commands are well formed: each operand lies in the width that its place gives it. -/

namespace Sys2Proof

/-- An identity that a transport can give a client (R43): a CAN identifier as 0x1200:02 writes it, a port with its 128-bit address and UDP port,
one of the two APC pairs. -/
def Client.wf : Client → Bool
  | .can ident => decide (ident < 2 ^ 11 ∨ (2 ^ 31 ≤ ident ∧ ident < 2 ^ 31 + 2 ^ 29))
  | .udp net addr port mac => decide (net < 2 ∧ addr < 2 ^ 128 ∧ port < 2 ^ 16 ∧ mac < 2 ^ 48)
  | .hspi => true
  | .window pair => decide (pair < 2)

/-- A domain and a sequence number of a time-protocol message (R376). -/
def PtpId.wf (i : PtpId) : Bool := decide (i.domain < 128 ∧ i.seq < 2 ^ 16)

/-- The common-header fields of a video PDU: subtype, sv and version (R365). -/
def Avtp.wf (a : Avtp) : Bool := decide (a.subtype < 2 ^ 8 ∧ a.version < 2 ^ 3)

/-- Currents measured on the illumination of the sources fit their entries (R404). -/
def Watch.wf (w : Watch) : Bool := w.amps.all fun a => (a.getD 0) < 2 ^ 16

/-- A source that a Guardrail frame can have (R412). -/
def GcSrc.wf : GcSrc → Bool
  | .udp net hi lo port => decide (net < 2 ∧ hi < 2 ^ 64 ∧ lo < 2 ^ 64 ∧ port < 2 ^ 16)
  | .can ctl ident => decide (ctl < 4 ∧ (ident < 2 ^ 11 ∨ (2 ^ 31 ≤ ident ∧ ident < 2 ^ 31 + 2 ^ 29)))

/-- A Guardrail payload holds at most 32 bytes (R413). -/
def GFrame.wf (f : GFrame) : Bool := decide (f.payload.length ≤ 32)

/-- Payload words of a packet are 64-bit words (R195). -/
def wordsWf (w : List Nat) : Bool := w.all fun x => decide (x < 2 ^ 64)

/-- A loop slot of a state copy: a state code, and eight notch delays (R302, R322). -/
def LoopCopy.wf (x : LoopCopy) : Bool := decide (x.state ≤ 7) && x.notch.length == 8

/-- An engine of a state copy: a state code, a place in the program, a U0.16 value, two loop counters (R274, R290). -/
def EngineCopy.wf (x : EngineCopy) : Bool := decide (x.state ≤ 3 ∧ x.pc < 32 ∧ x.value < 65536) && x.counters.length == 2

/-- A state copy has an item for every layer, source, slot, engine, channel and rail (R451). -/
def CopyBody.wf (b : CopyBody) : Bool :=
  decide (b.tse < 16 ∧ b.tfm < 2 ^ 64 ∧ b.period < 2 ^ 64 ∧ b.lseq < 2 ^ 32 ∧ b.shade ≤ 2) && b.layers.length == 7 && b.budgets.length == 4 && b.steps.length == 4
    && b.loops.length == 8 && b.loops.all LoopCopy.wf && b.engines.length == 8 && b.engines.all EngineCopy.wf && b.levels.length == 128
    && b.levels.all (fun v => decide (v < 65536)) && b.trk.length == 4 && b.trk.all (fun v => decide (v < 1024)) && b.guards.length == 2

/-- The operands of a command lie in their widths. -/
def Instr.wf (i : Instr) : Bool :=
  match i with
  | .powerGood _ _ _ => true
  | .pllRetry _ _ _ => true
  | .firstLight _ => true
  | .endOfBoot _ => true
  | .read _ rq key => rq.client.wf && decide (key < 2 ^ 24)
  | .write _ rq key data => rq.client.wf && decide (data.length ≤ 4096) && decide (key < 2 ^ 24)
  | .repeatWindowExpiry _ c => c.wf
  | .uploadInitiate _ rq key => rq.client.wf && decide (key < 2 ^ 24)
  | .uploadSegmentRequest _ rq key seg => rq.client.wf && decide (key < 2 ^ 24 ∧ seg < 2 ^ 32)
  | .downloadInitiate _ rq key total => rq.client.wf && decide (key < 2 ^ 24 ∧ total < 2 ^ 32)
  | .downloadSegment _ rq key seg _ data => rq.client.wf && decide (data.length ≤ 4096) && decide (key < 2 ^ 24 ∧ seg < 2 ^ 32)
  | .downloadComplete _ c => c.wf
  | .abort _ rq key code detail => rq.client.wf && decide (key < 2 ^ 24 ∧ code < 2 ^ 16 ∧ detail < 2 ^ 16)
  | .transferTimeout _ c => c.wf
  | .hspiRequest _ _ => true
  | .hspiPoll _ _ => true
  | .hspiOtherOpcode _ _ => true
  | .stateRequestPreop _ rq => rq.client.wf
  | .stateRequestOperate _ rq => rq.client.wf
  | .save _ rq => rq.client.wf
  | .saveComplete _ _ => true
  | .restoreDefaults _ rq => rq.client.wf
  | .reloadStoredCopy _ rq => rq.client.wf
  | .meshCommit _ rq _ => rq.client.wf
  | .objectListFragment _ _ payload => decide (payload.length ≤ 4096)
  | .fragmentWindowExpiry _ => true
  | .objectListVisible _ => true
  | .objectSnapshot _ => true
  | .composeStart _ _ => true
  | .composeRow _ _ _ row => decide (row < 2048)
  | .layerCommit _ rq _ => rq.client.wf
  | .groupCommit _ rq mask => rq.client.wf && decide (mask < 128)
  | .allocateRequest _ rq word => rq.client.wf && decide (word < 2 ^ 32)
  | .freeRequest _ rq _ => rq.client.wf
  | .contentReady _ rq _ v => rq.client.wf && decide (v < 2 ^ 32)
  | .memoryQuota _ rq _ v => rq.client.wf && decide (v < 2 ^ 32)
  | .gainMeshCommit _ rq _ => rq.client.wf
  | .clearReported _ rq _ => rq.client.wf
  | .doseReset _ rq _ => rq.client.wf
  | .ageingFold _ => true
  | .hostBudget _ rq _ v => rq.client.wf && decide (v < 2 ^ 32)
  | .kerbComplementCheck _ _ => true
  | .frameMilestone _ _ pdBad watch => decide (pdBad < 16) && watch.wf
  | .commitMilestone _ => true
  | .scanOutCommit _ rq => rq.client.wf
  | .scanOutRow _ _ r => decide (r < 2048)
  | .fallBackRelease _ _ => true
  | .scrubAccess _ _ _ => true
  | .syncInEdge _ _ => true
  | .syncInLoss _ => true
  | .holdoverEnd _ => true
  | .milestone _ => true
  | .retransmitTimeout _ _ seq => decide (seq < 2 ^ 16)
  | .ack _ _ head crc => decide (head < 2 ^ 64 ∧ crc < 2 ^ 32)
  | .regRsp _ _ head words crc => wordsWf words && decide (head < 2 ^ 64 ∧ crc < 2 ^ 32)
  | .status _ _ head words crc => wordsWf words && decide (head < 2 ^ 64 ∧ crc < 2 ^ 32)
  | .statusMissing _ _ => true
  | .fmap _ _ head words crc => wordsWf words && decide (head < 2 ^ 64 ∧ crc < 2 ^ 32)
  | .gmap _ _ head words crc => wordsWf words && decide (head < 2 ^ 64 ∧ crc < 2 ^ 32)
  | .gainMapTimeout _ _ => true
  | .registerWindowRead _ rq _ reg => rq.client.wf && decide (reg < 2 ^ 16)
  | .registerWindowWrite _ rq v => rq.client.wf && decide (v < 2 ^ 32)
  | .tseSettleExpiry _ _ => true
  | .planeTableCommit _ rq _ => rq.client.wf
  | .colourCommit _ rq _ => rq.client.wf
  | .planeSlot _ _ _ => true
  | .laserLine _ _ h => decide (h < 2048)
  | .senseSample _ _ _ _ _ _ _ _ => true
  | .delayLineUnlock _ _ => true
  | .scanGuardStabilised _ _ => true
  | .pwmPeriodBoundary _ _ _ _ _ => true
  | .ownPeriodStart _ _ => true
  | .sinkSample _ _ code _ _ => decide (code < 2 ^ 16)
  | .pinHigh _ _ => true
  | .clearFaults _ rq _ => rq.client.wf
  | .level _ rq _ v => rq.client.wf && decide (v < 2 ^ 32)
  | .program _ c _ => c.wf
  | .targetTable _ c _ => c.wf
  | .engineStart _ rq _ => rq.client.wf
  | .engineStop _ rq _ => rq.client.wf
  | .set _ _ => true
  | .ramp _ _ => true
  | .hold _ _ => true
  | .loop _ _ => true
  | .jump _ _ => true
  | .waitMs _ _ => true
  | .waitTime _ _ => true
  | .timedInstructionEnd _ _ => true
  | .chainUpdate _ _ _ => true
  | .matrixSlot _ _ => true
  | .loopSample _ _ _ _ _ => true
  | .gainCommit _ rq _ => rq.client.wf
  | .table _ c _ => c.wf
  | .slotStart _ rq _ => rq.client.wf
  | .slotStop _ rq _ => rq.client.wf
  | .enterDetour _ rq _ => rq.client.wf
  | .leaveDetour _ rq _ => rq.client.wf
  | .startTimeout _ _ => true
  | .currentLoopPeriod _ _ _ _ _ => true
  | .positionCount _ _ lines => decide (lines < 2 ^ 32)
  | .stoNAssert _ => true
  | .stoPathMismatch _ _ _ => true
  | .travelExcess _ _ => true
  | .bitSlip _ rq _ => rq.client.wf
  | .train _ _ _ => true
  | .trainingStart _ _ => true
  | .trainingComplete _ _ => true
  | .trainingTimeout _ _ => true
  | .trainingRetry _ _ => true
  | .rateSwitch _ _ => true
  | .rateCheck _ _ _ => true
  | .blockLockLoss _ _ => true
  | .loss _ _ _ => true
  | .returnLoss _ _ => true
  | .electricalIdle _ _ => true
  | .eidle _ _ _ => true
  | .restripeTimeout _ _ => true
  | .failedLaneRetry _ _ => true
  | .eyeScan _ rq _ v => rq.client.wf && decide (v < 2 ^ 32)
  | .eyeScanDone _ _ _ => true
  | .prbsControl _ rq _ v => rq.client.wf && decide (v < 2 ^ 32)
  | .ethernetFrame _ _ _ _ => true
  | .frameTransmit _ _ => true
  | .linkStateChange _ _ _ => true
  | .videoPdu _ _ form sid mac _ _ => form.wf && decide (sid < 2 ^ 64 ∧ mac < 2 ^ 48)
  | .streamCommit _ rq _ => rq.client.wf
  | .canFrame _ _ ident _ _ => decide ((ident < 2 ^ 11 ∨ (2 ^ 31 ≤ ident ∧ ident < 2 ^ 31 + 2 ^ 29)))
  | .canFrameTransmit _ _ => true
  | .busOff _ _ => true
  | .busOffRecovery _ _ => true
  | .recover _ rq _ => rq.client.wf
  | .sync _ _ domain seq _ _ => decide (domain < 128 ∧ seq < 2 ^ 16)
  | .followUp _ _ id _ _ _ gm => id.wf && decide (gm < 2 ^ 64)
  | .followUpTimeout _ => true
  | .pdelayReqSend _ _ => true
  | .pdelayReq _ _ id => id.wf
  | .pdelayResp _ _ id _ _ => id.wf
  | .syncTimeout _ => true
  | .holdoverLimit _ => true
  | .stepAtNextSample _ rq => rq.client.wf
  | .setTime _ rq => rq.client.wf
  | .oneShot _ rq _ => rq.client.wf
  | .periodic _ rq _ => rq.client.wf
  | .tpoOff _ rq _ => rq.client.wf
  | .tpoPulse _ _ => true
  | .roadblockNAssert _ _ => true
  | .roadblockBallMismatch _ => true
  | .roadblockPathMismatch _ _ => true
  | .vehicle _ from_ f => from_.wf && f.wf
  | .glare _ from_ f => from_.wf && f.wf
  | .beamMode _ from_ f => from_.wf && f.wf
  | .kerbLoad _ from_ f => from_.wf && f.wf
  | .roadblockRequest _ from_ f => from_.wf && f.wf
  | .roadblockRelease _ from_ f => from_.wf && f.wf
  | .torqueRequest _ from_ f => from_.wf && f.wf
  | .torqueRelease _ from_ f => from_.wf && f.wf
  | .swWrite _ from_ f => from_.wf && f.wf
  | .safeAck _ from_ f => from_.wf && f.wf
  | .safeAckAll _ from_ f => from_.wf && f.wf
  | .guardrailDeadline _ _ => true
  | .producedFrameSend _ _ => true
  | .faultRecord _ _ _ _ _ => true
  | .faultCauseCleared _ _ _ _ => true
  | .faultAcknowledge _ rq _ => rq.client.wf
  | .faultAcknowledgeAll _ rq => rq.client.wf
  | .rule _ rq _ v => rq.client.wf && decide (v < 2 ^ 32)
  | .aliveToggle _ _ => true
  | .coreResyncComplete _ _ => true
  | .aliveSilence _ => true
  | .aliveReadbackMismatch _ _ => true
  | .configurationIntegrityCheck _ _ => true
  | .latentTest _ _ => true
  | .milepostBeat _ => true
  | .milepost _ head words crc => wordsWf words && decide (head < 2 ^ 64 ∧ crc < 2 ^ 32)
  | .beatInEdge _ => true
  | .beatPathLoss _ _ => true
  | .claimInFall _ => true
  | .claimInRise _ => true
  | .claimReleaseFilterExpiry _ => true
  | .tieBreakYield _ => true
  | .claimWatchdog _ => true
  | .deferredClaim _ => true
  | .takeoverCheck _ _ => true
  | .copy _ _ frame cfg kseq cls rb torque body => body.wf && decide (frame < 2 ^ 32 ∧ cfg < 2 ^ 32 ∧ kseq < 2 ^ 32 ∧ cls < 2 ^ 32 ∧ rb < 2 ^ 32 ∧ torque < 2 ^ 32)
  | .commit _ _ _ item _ _ => decide (item < 2 ^ 24)
  | .signature _ head words crc => wordsWf words && decide (head < 2 ^ 64 ∧ crc < 2 ^ 32)
  | .kerb _ head words crc => wordsWf words && decide (head < 2 ^ 64 ∧ crc < 2 ^ 32)
  | .bulk _ head words crc => wordsWf words && decide (head < 2 ^ 64 ∧ crc < 2 ^ 32)
  | .bulkSyncComplete _ _ _ _ _ => true
  | .handoverCommand _ rq => rq.client.wf
  | .swapDrill _ => true
  | .handoverOffer _ head words crc => wordsWf words && decide (head < 2 ^ 64 ∧ crc < 2 ^ 32)
  | .handoverGrant _ head words crc => wordsWf words && decide (head < 2 ^ 64 ∧ crc < 2 ^ 32)
  | .handoverRefuse _ head words crc => wordsWf words && decide (head < 2 ^ 64 ∧ crc < 2 ^ 32)
  | .updateStart _ rq => rq.client.wf
  | .updateAbandon _ rq => rq.client.wf
  | .updateVerify _ rq => rq.client.wf
  | .verificationComplete _ _ _ => true
  | .updateActivate _ rq => rq.client.wf
  | .endOfRollingRestart _ => true
  | .updateActivateWithReset _ rq => rq.client.wf
  | .updateConfirm _ rq => rq.client.wf
  | .autoConfirm _ => true
  | .updateFallBack _ rq => rq.client.wf
  | .recoveryActivate _ rq => rq.client.wf
  | .chunk _ c => c.wf
  | .manifestFragment _ _ addr port _ _ data => decide (data.length ≤ 4096) && decide (addr.addr < 2 ^ 128 ∧ port < 2 ^ 16 ∧ addr.mac < 2 ^ 48)
  | .chunkFragment _ _ addr port _ _ _ data => decide (data.length ≤ 4096) && decide (addr.addr < 2 ^ 128 ∧ port < 2 ^ 16 ∧ addr.mac < 2 ^ 48)
  | .statusQuery _ _ addr port _ _ => decide (addr.addr < 2 ^ 128 ∧ port < 2 ^ 16 ∧ addr.mac < 2 ^ 48)
  | .updateFragmentTimeout _ => true
  | .refreshBlock _ _ _ => true
  | .doseArchive _ => true
  | .faultArchive _ => true
  | .powerRequestCommit _ rq => rq.client.wf
  | .domainStateReached _ _ => true
  | .domainWakeComplete _ _ _ => true
  | .stallLimit _ => true
  | .wakeDetect _ _ _ _ => true
  | .supplyMonitorTrip _ _ => true
  | .resetNAssert _ => true
  | .resetNRelease _ => true
  | .stuckReset _ => true
  | .clockMonitorFault _ _ => true
  | .temperatureSample _ _ _ => true
  | .graceTimeEnd _ => true
  | .stepIntervalEnd _ => true
  | .releaseTimeEnd _ => true
  | .calibrationRun _ rq => rq.client.wf
  | .calibrationRunComplete _ _ _ => true
  | .calibrationRetry _ => true
  | .calibrationSave _ rq => rq.client.wf
  | .calibrationReload _ rq => rq.client.wf
  | .crcStart _ rq _ => rq.client.wf
  | .crcContinue _ rq _ => rq.client.wf
  | .crcAbort _ rq _ => rq.client.wf
  | .crcRunEnd _ _ => true
  | .dapClaim _ rq _ => rq.client.wf
  | .dapClaimRelease _ rq _ => rq.client.wf
  | .pcgStart _ rq _ => rq.client.wf
  | .pcgStop _ rq _ => rq.client.wf
  | .pcgClear _ rq _ => rq.client.wf
  | .pcgStopAndRelease _ rq _ => rq.client.wf
  | .traceArm _ rq => rq.client.wf
  | .traceForceTrigger _ rq => rq.client.wf
  | .traceStop _ rq => rq.client.wf
  | .traceRelease _ rq => rq.client.wf
  | .traceWrite _ => true
  | .bypass _ => true
  | .idcode _ => true
  | .samplePreload _ _ => true
  | .extest _ => true
  | .clamp _ => true
  | .roadblockNRelease _ _ => true
  | .stoNRelease _ => true
  | .calibrationSaveComplete _ _ => true
  | .kerbMapsArmed _ => true
  | .apcPairRestarted _ _ => true
  | .unknownCommand _ rq cmd key arg data => rq.client.wf && decide (data.length ≤ 4096) && decide (cmd < 256 ∧ key < 2 ^ 24 ∧ arg < 2 ^ 32)
  | .canBusError _ _ tec rec => decide (tec < 2 ^ 16 ∧ rec < 2 ^ 16)
  | .idle _ _ head crc => decide (head < 2 ^ 64 ∧ crc < 2 ^ 32)

end Sys2Proof
end

