-- ==== Sys2Proof/Safety.lean ====
section
/-! DEFINITION. The terms in which statements are made: what a safe state is, which requests the dictionary server serves, what a command
leaves unchanged, and what a command does. -/

namespace Sys2Proof.Machine

/-! ### Safe states -/

/-- With a Roadblock latched on every enabled source the device is in SAFE, or still in BOOT (R52, R53). -/
def State.blockedIsSafe (s : State) : Prop := s.allBlocked = true → s.mode = .safe ∨ s.mode = .boot

/-- While a stop is in force ALIVE_P is low and ALIVE reads as stopped (R434). -/
def State.stopHolds (s : State) : Prop := s.aliveStop ≠ 0 → s.safe.aliveP = false ∧ s.get (K 0x8400 1) = 0

/-- What every step keeps. -/
def State.Safe (s : State) : Prop := s.blockedIsSafe ∧ s.stopHolds

/-! ### Frames -/

/-- Entries that observe the device: counts of the counter groups, trace state and drops, ALIVE state, log counters, and the cause of the
last state change. Every command may change them beside its own effect (R52, R432, R434, R526–R532). -/
def observer (k : Nat) : Bool :=
  decide (0x9100 ≤ k / 256 ∧ k / 256 ≤ 0x910B ∧ (3 ≤ k % 256 ∧ k % 256 ≤ 0x0A ∨ k % 256 = 0x13))
    || decide (0x9210 ≤ k / 256 ∧ k / 256 ≤ 0x921F ∧ k % 256 = 5)
    || [K 0x9200 2, K 0x9200 0x0B, K 0x9200 0x0C, K 0x9200 0x0E, K 0x2000 4, K 0x8400 1, K 0x8400 2, K 0x8400 3, K 0x8100 4, K 0x8100 5,
        K 0x8100 6].contains k

/-- Parts of the state that a command leaves as they are unless its effect names them. -/
inductive Part where
  /-- The queue of commands, the clock rate and the JTAG port. -/
  | queue | rate | jtag
  /-- Values of STR and DOM entries, values in force, and configurations armed. -/
  | doms | active | activeDoms | armed
  /-- Claims, transfers, the save in progress, the boot step. -/
  | claims | xfers | save | boot
  /-- Chapters as their own records hold them. -/
  | pwr | geo | comp | fs | tl | prj | skb | lpe | ln | nv | upd
  /-- Streams, Time Unit and pulse outputs of chapter 11. -/
  | streams | tmu | tpo | recovering
  /-- Roadblock paths, output masks, Beam Limit Checker, connections and cores of chapter 12. -/
  | paths | masks | limits | blc | conns | cores | cmdRes
  /-- The twin link of chapter 13 but for CLAIM_OUT. -/
  | twin
  /-- Check-value units, counter starts, application RAM and the trace ring of chapter 16. -/
  | crc | pcg | ram | ring
  /-- The balls of ROADBLOCK_N. -/
  | balls
  /-- The laser enables, which the interlock lowers without the claim (R444). -/
  | lasers
  /-- The fault log; what waits to leave the ports; the clients of the dictionary server; the cores that run. -/
  | log | ports | clients | apc
  /-- A chip reset reaction of the instant, which none stays. -/
  | due
  deriving DecidableEq, Repr

/-- The twin link but for CLAIM_OUT, which an ALIVE stop lowers (R444). -/
def Tw.rest (x : Tw) : Tw := { x with claimOut := false }

/-- Two states agree on a part. -/
def Part.same (p : Part) (s t : State) : Prop :=
  match p with
  | .queue => t.pending = s.pending
  | .rate => t.rate = s.rate
  | .jtag => t.pins.jtag = s.pins.jtag ∧ t.pins.cells = s.pins.cells
  | .doms => t.doms = s.doms
  | .active => t.active = s.active
  | .activeDoms => t.activeDoms = s.activeDoms
  | .armed => t.armed = s.armed
  | .claims => t.sys.claims = s.sys.claims
  | .xfers => t.sys.xfers = s.sys.xfers
  | .save => t.sys.save = s.sys.save
  | .boot => t.sys.bootStep = s.sys.bootStep ∧ t.sys.recovery = s.sys.recovery
  | .pwr => t.pwr = s.pwr
  | .geo => t.geo = s.geo
  | .comp => t.comp = s.comp
  | .fs => t.fs = s.fs
  | .tl => t.tl = s.tl
  | .prj => t.prj = s.prj
  | .skb => t.skb = s.skb
  | .lpe => t.lpe = s.lpe
  | .ln => t.ln = s.ln
  | .nv => t.nv = s.nv
  | .upd => t.upd = s.upd
  | .due => s.due = none → t.due = none
  | .streams => t.net.streams = s.net.streams
  | .tmu => t.net.tmu = s.net.tmu
  | .tpo => t.net.tpo = s.net.tpo
  | .recovering => t.net.recovering = s.net.recovering
  | .paths => t.safe.path1 = s.safe.path1 ∧ t.safe.path2 = s.safe.path2 ∧ t.safe.path1Ending = s.safe.path1Ending
  | .masks => t.safe.masks = s.safe.masks ∧ t.safe.pendMasks = s.safe.pendMasks
  | .limits => t.safe.limits = s.safe.limits ∧ t.safe.limReady = s.safe.limReady ∧ t.safe.limNext = s.safe.limNext
  | .blc => t.safe.blc = s.safe.blc
  | .conns => t.safe.conns = s.safe.conns
  | .cores => t.safe.cores = s.safe.cores ∧ t.safe.voterFailed = s.safe.voterFailed
  | .cmdRes => t.safe.cmdRes = s.safe.cmdRes ∧ t.safe.cmdConn = s.safe.cmdConn ∧ t.safe.cmdSeq = s.safe.cmdSeq
  | .twin => t.tw.rest = s.tw.rest
  | .crc => t.ins.crc = s.ins.crc
  | .pcg => t.ins.pcgSince = s.ins.pcgSince
  | .ram => t.ins.ram = s.ins.ram
  | .ring => t.ins.ring = s.ins.ring ∧ t.ins.ringAt = s.ins.ringAt ∧ t.ins.turn = s.ins.turn
  | .balls => t.pins.rbBalls = s.pins.rbBalls
  | .lasers => t.pins.las = s.pins.las ∨ t.pins.las = 0
  | .log => t.safe.log = s.safe.log
  | .ports => t.net.ethTx = s.net.ethTx ∧ t.net.canTx = s.net.canTx ∧ t.pins.hspiHeld = s.pins.hspiHeld ∧ t.pins.hspiBusy = s.pins.hspiBusy
  | .clients => t.sys.clients = s.sys.clients
  | .apc => t.sys.apc = s.sys.apc

/-- Between two states nothing but the named parts, the named entries and the observers has changed. -/
def Frame (parts : List Part) (keys : Nat → Prop) (s t : State) : Prop :=
  (∀ p, p ∉ parts → p.same s t) ∧ ∀ k, observer k = false → ¬ keys k → t.get k = s.get k

/-- Parts that the light path changes from frame to frame; a command of the light path leaves every other part. -/
def lightParts : List Part :=
  [.active, .activeDoms, .armed, .claims, .geo, .comp, .fs, .tl, .prj, .lasers, .skb, .lpe, .ln, .streams, .paths, .masks, .limits, .blc, .twin, .ring,
   .log, .pcg]

/-- A command completes: it answers a next state of which `post` holds, and which differs from the state before only in the named parts,
the named entries and the observers. -/
def Does (c : Instr) (s : State) (parts : List Part) (keys : Nat → Prop) (post : State → Prop) : Prop :=
  ∃ t, exec c s = .next t ∧ post t ∧ Frame parts keys s t

/-- A command completes: it answers a next state of which `post` holds. -/
def Gives (c : Instr) (s : State) (post : State → Prop) : Prop := ∃ t, exec c s = .next t ∧ post t

/-! ### Requests -/

/-- The dictionary server takes a write of the bytes v to entry k from a client: checks 1 to 8 and 10 of R562 pass, the domain of the entry
is on (R498), and it is no repeat (R45). -/
def State.serves (s : State) (c : Client) (tag : Byte) (k : Nat) (v : List Byte) : Bool :=
  s.serverUp && (s.repeated c (writePdu tag k v)).isNone && !s.outsideRecovery k .write (be v) &&
  (match s.checkUse k .write with | .ok e => v.length == e.ty.size && rangeOk e (be v) | .error _ => false) &&
  decide (s.gateOf k = .open_) && !(s.sys.xfers.any fun x => !x.upload && x.key == k && !sameClient x.client c) && s.rangeMore k (be v)

/-- The twin link after a packet whose CRC fails or not: the link counts a failure (R448). -/
def State.tallied (s : State) (bad : Bool) : Tw :=
  { s.tw with crcBad := s.tw.crcBad + b2n (bad && s.twinOn && s.get (K 0x7030 3) != 0) }

/-- A request PDU with these fields reaches the dictionary server in its form, is no repeat, and is not one that the recovery loader turns
away (R39, R40, R45, R54). -/
def State.hears (s : State) (rq : Rq) (cmd k flags arg : Nat) (data : List Byte) : Bool :=
  let b := framed rq.client (Pdu.bytes ⟨cmd, rq.tag, k, flags, data.length, arg, data⟩)
  let p := parsePdu b
  s.serverUp && (s.repeated rq.client (b.take (12 + p.len))).isNone && formOk rq.client b && emptyOk p &&
  !(match p.use with | some (u, v) => s.outsideRecovery p.key u v | none => false) &&
  p == ⟨cmd, rq.tag, k, flags, data.length, arg, data⟩

/-- The domains that the block of a command without a request needs on (R28): with one of them not on, nothing happens. -/
def needsOn (i : Instr) : List Nat :=
  match i with
  | .fallBackRelease _ _ | .crcRunEnd _ _ | .ageingFold _ => [2]
  | .scanOutRow _ _ _ | .scrubAccess _ _ _ | .syncInEdge _ _ | .syncInLoss _ | .holdoverEnd _ | .traceWrite _ | .planeSlot _ _ _ |
    .laserLine _ _ _ | .delayLineUnlock _ _ | .scanGuardStabilised _ _ => [0x17]
  | .loopSample _ _ _ _ _ | .startTimeout _ _ | .currentLoopPeriod _ _ _ _ _ | .positionCount _ _ _ => [0x22]
  | .linkStateChange _ _ _ | .frameTransmit _ _ => [0x20]
  | .canFrameTransmit _ _ | .busOff _ _ | .busOffRecovery _ _ | .canBusError _ _ _ _ => [0x24]
  | .senseSample _ _ _ _ _ _ _ _ => [0x17, 0x22]
  | .pwmPeriodBoundary _ _ _ _ _ | .ownPeriodStart _ _ | .sinkSample _ _ _ _ _ | .set _ _ | .ramp _ _ | .hold _ _ | .loop _ _ |
    .jump _ _ | .waitMs _ _ | .waitTime _ _ | .timedInstructionEnd _ _ => [0x22, 0x23]
  | .pinHigh _ _ => [0x23]
  | .chainUpdate _ _ _ => [0x23, 0x24]
  | .matrixSlot _ _ => [0x17, 0x22, 0x23]
  | .tpoPulse _ _ | .sync _ _ _ _ _ _ | .followUp _ _ _ _ _ _ _ | .followUpTimeout _ | .pdelayReqSend _ _ | .pdelayReq _ _ _ |
    .pdelayResp _ _ _ _ _ | .syncTimeout _ => [0x21]
  | .bulkSyncComplete _ _ _ _ _ => [0x25]
  | _ => []

/-- The write that a command of the table stands for: its time, client, entry and number. -/
def writeMeant (i : Instr) : Option (Nat × Rq × Nat × Nat) :=
  match i with
  | .stateRequestPreop dt rq => some (dt, rq, K 0x2000 2, 1)
  | .stateRequestOperate dt rq => some (dt, rq, K 0x2000 2, 2)
  | .save dt rq => some (dt, rq, K 0x2010 1, 1)
  | .restoreDefaults dt rq => some (dt, rq, K 0x2010 1, 2)
  | .reloadStoredCopy dt rq => some (dt, rq, K 0x2010 1, 3)
  | .meshCommit dt rq i => some (dt, rq, K (0x3100 + i) 2, 1)
  | .layerCommit dt rq l => some (dt, rq, K (0x3400 + l) 0x14, 1)
  | .groupCommit dt rq mask => some (dt, rq, K 0x3410 1, mask)
  | .allocateRequest dt rq word => some (dt, rq, K 0x3420 1, word)
  | .freeRequest dt rq n => some (dt, rq, K 0x3420 2, n)
  | .contentReady dt rq n v => some (dt, rq, K (0x3440 + n) 5, v)
  | .memoryQuota dt rq l v => some (dt, rq, K (0x3400 + l) 0x12, v)
  | .gainMeshCommit dt rq i => some (dt, rq, K (0x4200 + i) 3, 1)
  | .clearReported dt rq i => some (dt, rq, K (0x4210 + i) 5, 1)
  | .doseReset dt rq i => some (dt, rq, K (0x4220 + i) 7, 1)
  | .hostBudget dt rq i v => some (dt, rq, K (0x4240 + i) 1, v)
  | .scanOutCommit dt rq => some (dt, rq, K 0x4300 0x1C, 1)
  | .registerWindowRead dt rq ep reg => some (dt, rq, K 0x4410 3, 2 ^ 31 + ep * 65536 + reg % 65536)
  | .registerWindowWrite dt rq v => some (dt, rq, K 0x4410 4, v)
  | .planeTableCommit dt rq i => some (dt, rq, K (0x4500 + i) 4, 1)
  | .colourCommit dt rq i => some (dt, rq, K (0x4530 + i) 3, 1)
  | .clearFaults dt rq c => some (dt, rq, K (SK c) 0x0E, 1)
  | .level dt rq c v => some (dt, rq, K (SK c) 4, v)
  | .engineStart dt rq e => some (dt, rq, K (0x5100 + e) 4, 1)
  | .engineStop dt rq e => some (dt, rq, K (0x5100 + e) 4, 2)
  | .gainCommit dt rq n => some (dt, rq, K (LS n) 0x17, 1)
  | .slotStart dt rq n => some (dt, rq, K (LS n) 0x27, 1)
  | .slotStop dt rq n => some (dt, rq, K (LS n) 0x27, 2)
  | .enterDetour dt rq n => some (dt, rq, K (LS n) 0x27, 3)
  | .leaveDetour dt rq n => some (dt, rq, K (LS n) 0x27, 4)
  | .bitSlip dt rq l => some (dt, rq, K (laneIdx l) 4, 1)
  | .eyeScan dt rq l v => some (dt, rq, K (laneIdx l) 0x0C, v)
  | .prbsControl dt rq l v => some (dt, rq, K (laneIdx l) 9, v)
  | .streamCommit dt rq n => some (dt, rq, K (0x7120 + n) 9, 1)
  | .recover dt rq c => some (dt, rq, K (0x7140 + c) 7, 1)
  | .stepAtNextSample dt rq => some (dt, rq, K 0x7180 0x0D, 1)
  | .setTime dt rq => some (dt, rq, K 0x7180 0x0D, 2)
  | .oneShot dt rq n => some (dt, rq, K (0x71A0 + n) 1, 1)
  | .periodic dt rq n => some (dt, rq, K (0x71A0 + n) 1, 2)
  | .tpoOff dt rq n => some (dt, rq, K (0x71A0 + n) 1, 0)
  | .faultAcknowledge dt rq n => some (dt, rq, K 0x8100 3, n)
  | .faultAcknowledgeAll dt rq => some (dt, rq, K 0x8100 3, 0xFF)
  | .rule dt rq n v => some (dt, rq, K 0x8120 (n + 1), v)
  | .handoverCommand dt rq => some (dt, rq, K 0x8600 9, 1)
  | .updateStart dt rq => some (dt, rq, K 0x2200 1, 1)
  | .updateAbandon dt rq => some (dt, rq, K 0x2200 1, 2)
  | .updateVerify dt rq => some (dt, rq, K 0x2200 1, 3)
  | .updateActivate dt rq => some (dt, rq, K 0x2200 1, 4)
  | .updateActivateWithReset dt rq => some (dt, rq, K 0x2200 1, 7)
  | .updateConfirm dt rq => some (dt, rq, K 0x2200 1, 5)
  | .updateFallBack dt rq => some (dt, rq, K 0x2200 1, 6)
  | .powerRequestCommit dt rq => some (dt, rq, K 0x2300 1, 1)
  | .calibrationRun dt rq => some (dt, rq, K 0x2400 1, 1)
  | .calibrationSave dt rq => some (dt, rq, K 0x2400 1, 2)
  | .calibrationReload dt rq => some (dt, rq, K 0x2400 1, 3)
  | .crcStart dt rq u => some (dt, rq, K (CU u) 8, 1)
  | .crcContinue dt rq u => some (dt, rq, K (CU u) 8, 2)
  | .crcAbort dt rq u => some (dt, rq, K (CU u) 8, 3)
  | .dapClaim dt rq u => some (dt, rq, K (CU u) 1, 1)
  | .dapClaimRelease dt rq u => some (dt, rq, K (CU u) 1, 0)
  | .pcgStart dt rq g => some (dt, rq, K (PG g) 1, 1)
  | .pcgStop dt rq g => some (dt, rq, K (PG g) 1, 2)
  | .pcgClear dt rq g => some (dt, rq, K (PG g) 1, 3)
  | .pcgStopAndRelease dt rq g => some (dt, rq, K (PG g) 1, 4)
  | .traceArm dt rq => some (dt, rq, K 0x9200 1, 1)
  | .traceForceTrigger dt rq => some (dt, rq, K 0x9200 1, 2)
  | .traceStop dt rq => some (dt, rq, K 0x9200 1, 3)
  | .traceRelease dt rq => some (dt, rq, K 0x9200 1, 4)
  | .recoveryActivate dt rq => some (dt, rq, K 0x2200 1, 4)
  | _ => none

/-- The last answer to a client (R45). -/
def State.lastReply (t : State) (c : Client) : Option (List Byte) := (t.clientRec c).map ClientRec.response

/-- The server takes a write of a number to entry k, and no fall-back waits (R489). -/
def Served (s : State) (dt : Nat) (rq : Rq) (k n : Nat) : Prop :=
  (s.tick dt).serves rq.client rq.tag k (toBe (widthOf k / 8) n) = true ∧ n < 2 ^ widthOf k ∧ s.upd.waits = none

/-- The last answer to a client is a write response with a result code (R40). -/
def State.answered (t : State) (rq : Rq) (k : Nat) (r : Code) : Prop := t.lastReply rq.client = some (codePdu 0x82 rq.tag k r)

/-- No rule that a record of this block and kind meets resets the device or the application cores (R430). -/
def State.mild (s : State) (src kind : Nat) : Bool := (s.rulesFor src kind).all fun r => !bit r 3 && !(bit r 2 && resetBlocks.contains src)

/-- No fall-back waits (R489), and the records of these blocks and kinds, which the command may raise, reset nothing. -/
def Calm (s : State) (l : List (Nat × Nat)) : Prop := s.upd.waits = none ∧ ∀ p ∈ l, s.mild p.1 p.2 = true

/-- No fall-back waits (R489), and the rules in force with a chip reset name block 0x16, as the default ones do (R430). -/
def Steady (s : State) : Prop := s.upd.waits = none ∧ ∀ r ∈ s.rules, bit r 7 = true → bit r 3 = true → field r 31 24 = 0x16

/-- The SSV accepts a Guardrail frame of type `ty` on connection n (R28, R412, R416): its port or controller is up, which needs step 5 of R56, the
frame matches the connection, and every check holds; `pre` are payload bytes that the command fixes. -/
def State.accepts (s : State) (src : GcSrc) (n ty : Nat) (pre : List Byte) (f : GFrame) : Bool :=
  s.carries src && s.guardMatch src == some n && s.guardReason n src (guardBytes f ty pre) == 0 &&
  byteAt (guardBytes f ty pre) 1 % 64 == pre.length + f.payload.length

/-- Record of connection n. -/
def State.conn (s : State) (n : Nat) : Conn := nth Conn.init s.safe.conns n

/-- Entries that follow an accepted frame of connection n: its state and count, the mask of valid connections, and what the SSV combines
from all connections (R417, R419–R421, R437). -/
def guardKeys (n k : Nat) : Bool :=
  k == K (0x1400 + n) 0x12 || k == K (0x1400 + n) 0x13 || k == K 0x1410 1 || (decide (K 0x8020 1 ≤ k) && decide (k ≤ K 0x8020 7)) ||
  (decide (0x8200 ≤ k / 256) && decide (k / 256 ≤ 0x8203) && k % 256 == 0x10)

end Sys2Proof.Machine
end

