-- ==== Sys2Proof/Certificates/Slice0/Obligations.lean ====
section
/-! DEFINITION. The statements for the provers. -/

open Sys2Proof Sys2Proof.Machine

/-- The queue: step takes the command at the front and answers what exec answers on the state with the queue's rest; on an empty queue the
state stays as it is, which is the model's choice (log entry 1). -/
def Obligations.StepRunsFront : Prop :=
  (∀ c rest s, s.pending = c :: rest → step s = exec c { s with pending := rest }) ∧ (∀ s, s.pending = [] → step s = .next s)

/-- Every command of the table completes, with whatever operands and in every state: exec answers a next state, and so does step. The
device answers, records or ignores, and no command stops it. It rests on choices of the model where the spec leaves room: log entry 7. -/
def Obligations.NoCommandStops : Prop := (∀ (i : Instr) (s : State), ∃ t, exec i s = .next t) ∧ (∀ s, ∃ t, step s = .next t)

/-- Reset (R20, R51, R394, R434): the device is in BOOT with no command waiting, every entry at the default of its table, no application
core running, no claim held, nothing armed or in force, an empty fault log, no source blocked, the outputs not enabled and ALIVE stopped.
It rests on choices of the model where the spec leaves room: log entries 2, 28. -/
def Obligations.ResetState : Prop :=
  State.reset.mode = .boot ∧ State.reset.pending = [] ∧ (∀ k, State.reset.get k = dflt k) ∧ (∀ k, State.reset.act k = dflt k) ∧
  State.reset.serverUp = false ∧ (∀ r, State.reset.owner r = 0) ∧ State.reset.armed = [] ∧ (∀ k, State.reset.dom k = none) ∧
  (∀ e ∈ State.reset.safe.log, e = none) ∧ State.reset.latched = 0 ∧ State.reset.outputsOn = false ∧ State.reset.aliveStop ≠ 0 ∧
  State.reset.safe.aliveP = false

/-- The state after reset is safe. It rests on choices of the model where the spec leaves room: log entry 8. -/
def Obligations.ResetIsSafe : Prop := State.reset.Safe

/-- Every step keeps the safe states (R52, R53, R434): a Roadblock latched on every enabled source has the device in SAFE or in BOOT, and
while a stop is in force ALIVE_P is low and ALIVE reads as stopped. It rests on choices of the model where the spec leaves room: log entry
8. -/
def Obligations.StepKeepsSafe : Prop := ∀ s t, s.Safe → step s = .next t → t.Safe

/-- Content of a region (R133, R134): a download to an allocated region, no longer than it, puts the bytes at the region's start and
leaves every other byte of the pool, of which an upload answers them and what lay behind them; the pool keeps its canonical form. One to a
FREE region is answered 0x0301, and one to a region being released or lost 0x0406, and neither changes anything. Completion: Does and
Gives conclude that exec answers a next state, with what it holds, under conditions on the state and the operands alone; this statement
concludes it for downloadComplete. It rests on choices of the model where the spec leaves room: log entries 4, 30. -/
def Obligations.RegionContent : Prop :=
  (∀ dt (c : Client) (n : Fin 32) x s, s.xferOf c = some x → x.upload = false → x.last = true → s.serverUp = true → s.gateOf x.key = .open_ → s.upd.waits = none →
    x.data.length = x.total → x.key = K (0x3440 + n) 6 → s.get (K (0x3440 + n) 1) = 1 → x.total ≤ s.get (K (0x3440 + n) 4) * 65536 →
    Does (.downloadComplete dt c) s [.fs, .xfers, .ports, .clients] (fun _ => False) fun t =>
      t.lastReply c = some (codePdu 0x87 x.tag x.key ok) ∧ t.xferOf c = none ∧
      (∀ a, memGet t.fs.mem a = if s.get (K (0x3440 + n) 3) ≤ a ∧ a < s.get (K (0x3440 + n) 3) + x.total
        then nth 0 x.data (a - s.get (K (0x3440 + n) 3)) else memGet s.fs.mem a) ∧
      (memWf s.fs.mem = true → memWf t.fs.mem = true) ∧
      t.domValue x.key = .ok (x.data ++ memSlice s.fs.mem (s.get (K (0x3440 + n) 3) + x.total) (min 16777216 (s.get (K (0x3440 + n) 4) * 65536) - x.total))) ∧
  (∀ dt (c : Client) (n : Fin 32) x s, s.xferOf c = some x → x.upload = false → x.last = true → s.serverUp = true → s.gateOf x.key = .open_ → s.upd.waits = none →
    x.data.length = x.total → x.key = K (0x3440 + n) 6 → s.get (K (0x3440 + n) 1) = 0 →
    Does (.downloadComplete dt c) s [.xfers, .ports, .clients] (fun _ => False) fun t =>
      t.lastReply c = some (codePdu 0x87 x.tag x.key (0x0301, 0)) ∧ t.xferOf c = none) ∧
  (∀ dt (c : Client) (n : Fin 32) x s, s.xferOf c = some x → x.upload = false → x.last = true → s.serverUp = true → s.gateOf x.key = .open_ → s.upd.waits = none →
    x.data.length = x.total → x.key = K (0x3440 + n) 6 → 2 ≤ s.get (K (0x3440 + n) 1) →
    Does (.downloadComplete dt c) s [.xfers, .ports, .clients] (fun _ => False) fun t =>
      t.lastReply c = some (codePdu 0x87 x.tag x.key (0x0406, 0)) ∧ t.xferOf c = none)

/-- The host budget (R156): a write below the floor requirement of the last frame stores the floor requirement and answers 0x0404, any
other in range stores its value, one above 10,000 answers 0x0301; a frame whose floor requirement has risen changes no stored value, and
its effective budget is not below the requirement. Completion: Does and Gives conclude that exec answers a next state, with what it holds,
under conditions on the state and the operands alone; this statement concludes it for hostBudget. -/
def Obligations.HostBudget : Prop :=
  (∀ dt rq (i : Fin 4) v s, Served s dt rq (K (0x4240 + i) 1) v →
    Does (.hostBudget dt rq i v) s [.ports, .clients] (fun k => k = K (0x4240 + i) 1) fun t =>
      (F32.lt (F32.ofNat v) (F32.ofNat (s.get (K (0x4240 + i) 0x0A))) = false →
        t.answered rq (K (0x4240 + i) 1) ok ∧ t.get (K (0x4240 + i) 1) = v) ∧
      (F32.lt (F32.ofNat v) (F32.ofNat (s.get (K (0x4240 + i) 0x0A))) = true →
        t.answered rq (K (0x4240 + i) 1) (0x0404, 0) ∧ t.get (K (0x4240 + i) 1) = s.get (K (0x4240 + i) 0x0A) % 2 ^ 32)) ∧
  (∀ dt rq (i : Fin 4) v e s, (s.tick dt).hears rq 2 (K (0x4240 + i) 1) 0 0 (toBe 4 v) = true → s.upd.waits = none →
    (s.tick dt).checkUse (K (0x4240 + i) 1) .write = .ok e → (s.tick dt).gateOf (K (0x4240 + i) 1) = .open_ → s.sys.xfers = [] → v < 2 ^ 32 →
    F32.lt 0x461C4000 (F32.ofNat v) = true →
    Does (.hostBudget dt rq i v) s [.ports, .clients] (fun _ => False) fun t => t.answered rq (K (0x4240 + i) 1) (0x0301, 0)) ∧
  (∀ (s : State) i n, i < 4 → (s.budgetSrc i n).get (K (0x4240 + i) 1) = s.get (K (0x4240 + i) 1) ∧
    F32.lt (F32.ofNat ((s.budgetSrc i n).get (K (0x4240 + i) 9))) (F32.ofNat ((s.budgetSrc i n).get (K (0x4240 + i) 0x0A))) = false)

/-- PDUs (R39): the fields that a PDU's bytes spell are those it was made of, whatever follows them on the transport. -/
def Obligations.PduRoundTrip : Prop :=
  (∀ cmd key flags arg (tag : Byte) (data pad : List Byte), cmd < 256 → key < 2 ^ 24 → flags < 256 → arg < 2 ^ 32 → data.length < 65536 →
    parsePdu (Pdu.bytes ⟨cmd, tag, key, flags, data.length, arg, data⟩ ++ pad) = ⟨cmd, tag, key, flags, data.length, arg, data⟩)

/-- Reads and writes (R41): a Read answers the entry's value, of the entry's size; a Write puts the value and answers success; a Write
whose length is not the entry's is answered 0x0107, one outside the Range column 0x0301, and one of a read-only entry 0x0204, and change
nothing. A read of a check-value unit, of a counter group, or of the PRBS counts of a lane whose checker runs, brings it up to date first.
Completion: Does and Gives conclude that exec answers a next state, with what it holds, under conditions on the state and the operands
alone; this statement concludes it for read, write. It rests on choices of the model where the spec leaves room: log entries 22, 27, 94.
-/
def Obligations.ReadAndWrite : Prop :=
  (∀ dt rq k e s, (s.tick dt).hears rq 1 k 0 0 [] = true → s.upd.waits = none → (s.tick dt).checkUse k .read = .ok e →
    (s.tick dt).gateOf k = .open_ → ¬ (0x9000 ≤ k / 256 ∧ k / 256 ≤ 0x9007) → measuredLane k = none →
    Does (.read dt rq k) s [.pcg, .ports, .clients] (fun j => j / 256 = k / 256 ∧ 0x9100 ≤ j / 256 ∧ j / 256 ≤ 0x910B) fun t =>
      t.lastReply rq.client = some (Pdu.bytes ⟨0x81, rq.tag, k, 0, e.ty.size, 0, toBe e.ty.size (((s.tick dt).upToDate k).readNum k)⟩)) ∧
  (∀ dt rq (u : Fin 8) n e s, (s.tick dt).hears rq 1 (K (CU u) n) 0 0 [] = true → Calm s [(0x1D, 1), (0x1D, 2), (0x16, 2), (0x0D, 1)] →
    (s.tick dt).checkUse (K (CU u) n) .read = .ok e → (s.tick dt).gateOf (K (CU u) n) = .open_ → 0 < n → n < 256 →
    Does (.read dt rq (K (CU u) n)) s [.crc, .claims, .log, .pwr, .ports, .clients]
      (fun j => j / 256 = CU u ∨ j / 256 = 0x4310 ∨ j / 256 = 0x2302) fun t =>
      t.lastReply rq.client = some (Pdu.bytes ⟨0x81, rq.tag, K (CU u) n, 0, e.ty.size, 0, toBe e.ty.size (t.get (K (CU u) n))⟩)) ∧
  (∀ dt rq (l : Fin 18) k e s, (s.tick dt).hears rq 1 k 0 0 [] = true → s.upd.waits = none → (s.tick dt).checkUse k .read = .ok e →
    (s.tick dt).gateOf k = .open_ → measuredLane k = some l.val →
    Does (.read dt rq k) s [.ln, .pcg, .ports, .clients] (fun j => measuredLane j = some l.val) fun t =>
      t.lastReply rq.client = some (Pdu.bytes ⟨0x81, rq.tag, k, 0, e.ty.size, 0, toBe e.ty.size (t.get k)⟩) ∧
      t.get (K (laneIdx l) 0x0B) % 4 = s.get (K (laneIdx l) 0x0B) % 4 ∧
      (field (s.get (K (laneIdx l) 9)) 7 4 = 0 ∨ bit (s.get (K (laneIdx l) 9)) 1 = false → t.get k = s.get k)) ∧
  (∀ dt rq k data s, (s.tick dt).hears rq 2 k 0 0 data = true → (s.tick dt).serves rq.client rq.tag k data = true → s.upd.waits = none →
    sysWrite k = none → lightWrite k = none → ioWrite k = none →
    Does (.write dt rq k data) s [.ports, .clients] (fun j => j = k) fun t =>
      t.answered rq k ok ∧ t.get k = be data) ∧
  (∀ dt rq k data e s, (s.tick dt).hears rq 2 k 0 0 data = true → s.upd.waits = none → (s.tick dt).checkUse k .write = .ok e →
    (s.tick dt).gateOf k = .open_ → data.length ≠ e.ty.size →
    Does (.write dt rq k data) s [.ports, .clients] (fun _ => False) fun t => t.answered rq k (0x0107, 0)) ∧
  (∀ dt rq k data e s, (s.tick dt).hears rq 2 k 0 0 data = true → s.upd.waits = none → (s.tick dt).checkUse k .write = .ok e →
    (s.tick dt).gateOf k = .open_ → data.length = e.ty.size → s.sys.xfers = [] → rangeOk e (be data) = false →
    Does (.write dt rq k data) s [.ports, .clients] (fun _ => False) fun t => t.answered rq k (0x0301, 0)) ∧
  (∀ dt rq k data e s, (s.tick dt).hears rq 2 k 0 0 data = true → s.upd.waits = none → findObj (k / 256) ≠ none → findEnt k = some e →
    e.ty.segmented = false → e.acc = .ro → (findObj (k / 256)).all (fun o => k % 256 ≤ o.hi) = true →
    Does (.write dt rq k data) s [.ports, .clients] (fun _ => False) fun t => t.answered rq k (0x0204, 0))

/-- Uploads (R42): the initiate answers the length and opens a transfer, each segment request answers the next part, and the last part
closes it. Completion: Does and Gives conclude that exec answers a next state, with what it holds, under conditions on the state and the
operands alone; this statement concludes it for uploadInitiate, uploadSegmentRequest. -/
def Obligations.Uploads : Prop :=
  (∀ dt rq k e b s, (s.tick dt).hears rq 3 k 0 0 [] = true → s.upd.waits = none → (s.tick dt).checkUse k .upload = .ok e →
    (s.tick dt).gateOf k = .open_ → (s.tick dt).domValue k = .ok b → s.sys.xfers.length < 8 → s.xferOf rq.client = none →
    Does (.uploadInitiate dt rq k) s [.xfers, .ports, .clients] (fun _ => False) fun t =>
      t.lastReply rq.client = some (Pdu.bytes ⟨0x83, rq.tag, k, 0, 0, b.length, []⟩) ∧
      t.sys.xfers = s.sys.xfers ++ [⟨rq.client, rq.tag, true, k, b, b.length, 0, false, s.now + dt⟩]) ∧
  (∀ dt rq k seg x s, (s.tick dt).hears rq 4 k 0 seg [] = true → s.upd.waits = none → s.xferOf rq.client = some x → x.upload = true →
    seg = x.next → (seg + 1) * payloadOf rq.client < x.total →
    Does (.uploadSegmentRequest dt rq k seg) s [.xfers, .ports, .clients] (fun _ => False) fun t =>
      t.lastReply rq.client = some (Pdu.bytes ⟨0x84, rq.tag, k, 0, (slice x.data (seg * payloadOf rq.client) (payloadOf rq.client)).length, seg,
        slice x.data (seg * payloadOf rq.client) (payloadOf rq.client)⟩) ∧
      t.xferOf rq.client = some { x with next := seg + 1, at_ := s.now + dt }) ∧
  (∀ dt rq k seg x s, (s.tick dt).hears rq 4 k 0 seg [] = true → s.upd.waits = none → s.xferOf rq.client = some x → x.upload = true →
    seg = x.next → x.total ≤ (seg + 1) * payloadOf rq.client → x.total = x.data.length → seg * payloadOf rq.client ≤ x.total →
    Does (.uploadSegmentRequest dt rq k seg) s [.xfers, .ports, .clients] (fun _ => False) fun t =>
      t.lastReply rq.client = some (Pdu.bytes ⟨0x84, rq.tag, k, 0x80, x.total - seg * payloadOf rq.client, seg,
        x.data.drop (seg * payloadOf rq.client)⟩) ∧
      t.xferOf rq.client = none)

/-- Downloads (R42): the initiate opens a transfer, a segment within the window is kept and answered, one beyond the window ends the
transfer with 0x0105, the LAST segment waits for the check of the value, and then the value is put and answered with 0x87, or refused with
0x0107 when its length is not the announced one. Completion: Does and Gives conclude that exec answers a next state, with what it holds,
under conditions on the state and the operands alone; this statement concludes it for downloadInitiate, downloadSegment, downloadComplete.
It rests on choices of the model where the spec leaves room: log entries 19, 21. -/
def Obligations.Downloads : Prop :=
  (∀ dt rq k total e s, (s.tick dt).hears rq 5 k 0 total [] = true → s.upd.waits = none → (s.tick dt).checkUse k .download = .ok e →
    (s.tick dt).gateOf k = .open_ → s.lengthOk e k total = true → s.sys.xfers = [] → s.comp.kerb.loading = none →
    Does (.downloadInitiate dt rq k total) s [.xfers, .ports, .clients] (fun _ => False) fun t =>
      t.lastReply rq.client = some (Pdu.bytes ⟨0x85, rq.tag, k, 0, 0, 0, []⟩) ∧
      t.sys.xfers = [⟨rq.client, rq.tag, false, k, [], total, 0, false, s.now + dt⟩]) ∧
  (∀ dt rq k seg data x s, (s.tick dt).hears rq 6 k 0 seg data = true → s.upd.waits = none → s.xferOf rq.client = some x →
    x.upload = false → x.last = false → seg = x.next → s.unacked rq.client < windowOf rq.client →
    Does (.downloadSegment dt rq k seg false data) s [.xfers, .ports, .clients] (fun _ => False) fun t =>
      t.lastReply rq.client = some (Pdu.bytes ⟨0x86, rq.tag, k, 0, 0, seg, []⟩) ∧
      t.xferOf rq.client = some { x with tag := rq.tag, data := x.data ++ data, next := seg + 1, at_ := s.now + dt }) ∧
  (∀ dt rq k seg data x s, (s.tick dt).hears rq 6 k 0x80 seg data = true → s.upd.waits = none → s.xferOf rq.client = some x →
    x.upload = false → x.last = false → seg = x.next → s.unacked rq.client < windowOf rq.client →
    Does (.downloadSegment dt rq k seg true data) s [.xfers, .clients] (fun _ => False) fun t =>
      t.lastReply rq.client = some [] ∧
      t.xferOf rq.client = some { x with tag := rq.tag, data := x.data ++ data, next := seg + 1, last := true, at_ := s.now + dt }) ∧
  (∀ dt rq k seg (last : Bool) data x s, (s.tick dt).hears rq 6 k (if last then 0x80 else 0) seg data = true → s.upd.waits = none →
    s.xferOf rq.client = some x → x.upload = false → x.last = false → seg = x.next → windowOf rq.client ≤ s.unacked rq.client →
    Does (.downloadSegment dt rq k seg last data) s [.xfers, .ports, .clients] (fun _ => False) fun t =>
      t.lastReply rq.client = some (abortPdu rq.tag k (0x0105, 0)) ∧ t.xferOf rq.client = none) ∧
  (∀ dt (c : Client) x s, s.xferOf c = some x → x.upload = false → x.last = true → s.serverUp = true → s.upd.waits = none → x.data.length = x.total →
    (s.tick dt).gateOf x.key = .open_ → 0x3100 ≤ x.key / 256 ∧ x.key / 256 ≤ 0x3103 →
    Does (.downloadComplete dt c) s [.doms, .xfers, .ports, .clients] (fun _ => False) fun t =>
      t.dom x.key = some x.data ∧ t.xferOf c = none ∧ t.lastReply c = some (codePdu 0x87 x.tag x.key ok)) ∧
  (∀ dt (c : Client) x s, s.xferOf c = some x → x.upload = false → x.last = true → s.serverUp = true → s.upd.waits = none → x.data.length ≠ x.total →
    (s.tick dt).gateOf x.key = .open_ →
    Does (.downloadComplete dt c) s [.xfers, .ports, .clients] (fun _ => False) fun t =>
      t.xferOf c = none ∧ t.lastReply c = some (codePdu 0x87 x.tag x.key (0x0107, 0)))

/-- Ends of transfers and requests (R40, R42, R45): an abort and the segment timeout close the client's transfer, the stored response is
discarded after 1 s, and a command code that R40 does not define is answered with an abort. Completion: Does and Gives conclude that exec
answers a next state, with what it holds, under conditions on the state and the operands alone; this statement concludes it for abort,
transferTimeout, repeatWindowExpiry, unknownCommand. It rests on choices of the model where the spec leaves room: log entries 17, 18. -/
def Obligations.TransferEnds : Prop :=
  (∀ dt rq k code detail s, k < 2 ^ 24 → s.upd.waits = none →
    Does (.abort dt rq k code detail) s [.xfers] (fun _ => False) fun t => t.xferOf rq.client = none) ∧
  (∀ dt (c : Client) x s, s.xferOf c = some x → x.last = false → x.at_ + s.get (K 0x1230 1) * 1000000 ≤ s.now + dt → s.upd.waits = none →
    Does (.transferTimeout dt c) s [.xfers, .ports] (fun _ => False) fun t =>
      t.xferOf c = none ∧ t.out.contains (.dap c (abortPdu x.tag x.key (0x0104, 0))) = true) ∧
  (∀ dt (c : Client) (r : ClientRec) s, s.clientRec c = some r → r.response ≠ [] → (∀ y ∈ s.sys.clients, sameClient y.client c = true → y = r) →
    r.sentAt + 1000000000 ≤ s.now + dt → s.upd.waits = none →
    Does (.repeatWindowExpiry dt c) s [.clients] (fun _ => False) fun t => t.clientRec c = none) ∧
  (∀ dt rq cmd k arg data s, (s.tick dt).hears rq cmd k 0 arg data = true → cmd = 0 ∨ 7 ≤ cmd → cmd ≠ 0x7F → s.sys.recovery = false → s.upd.waits = none →
    Does (.unknownCommand dt rq cmd k arg data) s [.ports, .clients] (fun _ => False) fun t =>
      t.lastReply rq.client = some (abortPdu rq.tag k (0x0101, 0)))

/-- Sub-indices (R38): sub-index 0x00 of every index is a U8 CONST with the highest sub-index defined for the index, which a Read answers;
values start at 0x01; and a request to a sub-index above the highest is refused with 0x0202 and changes nothing. Completion: Does and
Gives conclude that exec answers a next state, with what it holds, under conditions on the state and the operands alone; this statement
concludes it for read, write, uploadInitiate, downloadInitiate. -/
def Obligations.SubIndexes : Prop :=
  (∀ o ∈ objs, (∀ x ∈ o.ents, 1 ≤ x.sub ∧ x.sub + x.cnt ≤ o.hi + 1) ∧ ∃ x ∈ o.ents, x.sub + x.cnt = o.hi + 1) ∧
  (∀ i o, findObj i = some o → ∃ x, findEnt (K i 0) = some x ∧ x.ty = .u8 ∧ x.acc = .const ∧ x.dflt = o.hi) ∧
  (∀ dt rq i (o : Obj) s, (s.tick dt).hears rq 1 (K i 0) 0 0 [] = true → s.upd.waits = none → findObj i = some o → (s.tick dt).gateOf (K i 0) = .open_ →
    ¬ (0x9000 ≤ i ∧ i ≤ 0x9007) →
    Does (.read dt rq (K i 0)) s [.pcg, .ports, .clients] (fun j => j / 256 = i ∧ 0x9100 ≤ i ∧ i ≤ 0x910B) fun t =>
      t.lastReply rq.client = some (Pdu.bytes ⟨0x81, rq.tag, K i 0, 0, 1, 0, [BitVec.ofNat 8 o.hi]⟩)) ∧
  (∀ dt rq k (o : Obj) s, (s.tick dt).hears rq 1 k 0 0 [] = true → s.upd.waits = none → findObj (k / 256) = some o → o.hi < k % 256 →
    Does (.read dt rq k) s [.ports, .clients] (fun _ => False) fun t => t.lastReply rq.client = some (abortPdu rq.tag k (0x0202, 0))) ∧
  (∀ dt rq k data (o : Obj) s, (s.tick dt).hears rq 2 k 0 0 data = true → s.upd.waits = none → findObj (k / 256) = some o → o.hi < k % 256 →
    Does (.write dt rq k data) s [.ports, .clients] (fun _ => False) fun t => t.answered rq k (0x0202, 0)) ∧
  (∀ dt rq k (o : Obj) s, (s.tick dt).hears rq 3 k 0 0 [] = true → s.upd.waits = none → findObj (k / 256) = some o → o.hi < k % 256 →
    Does (.uploadInitiate dt rq k) s [.ports, .clients] (fun _ => False) fun t => t.lastReply rq.client = some (abortPdu rq.tag k (0x0202, 0))) ∧
  (∀ dt rq k total (o : Obj) s, (s.tick dt).hears rq 5 k 0 total [] = true → s.upd.waits = none → findObj (k / 256) = some o → o.hi < k % 256 →
    Does (.downloadInitiate dt rq k total) s [.ports, .clients] (fun _ => False) fun t =>
      t.lastReply rq.client = some (abortPdu rq.tag k (0x0202, 0)))

/-- Server unavailable (R46): while no APC pair runs, every request, by a DAP message, as a command of the table, or as an HSPI
transaction, is answered with an abort 0x0409 and changes nothing, but for the domains that a transaction wakes (R500); what the SSV makes
of a Guardrail frame does not depend on the pairs. Completion: Does and Gives conclude that exec answers a next state, with what it holds,
under conditions on the state and the operands alone; this statement concludes it for read, write, uploadInitiate, uploadSegmentRequest,
downloadInitiate, downloadSegment, hspiRequest. -/
def Obligations.ServerUnavailable : Prop :=
  (∀ dt rq k s, s.sys.apc.any id = false → s.upd.waits = none → k < 2 ^ 24 →
    Does (.read dt rq k) s [.ports] (fun _ => False) fun t => Out.dap rq.client (abortPdu rq.tag k (0x0409, 0)) ∈ t.out) ∧
  (∀ dt rq k data s, s.sys.apc.any id = false → s.upd.waits = none → k < 2 ^ 24 → data.length ≤ 4096 →
    Does (.write dt rq k data) s [.ports] (fun _ => False) fun t => Out.dap rq.client (abortPdu rq.tag k (0x0409, 0)) ∈ t.out) ∧
  (∀ dt rq k s, s.sys.apc.any id = false → s.upd.waits = none → k < 2 ^ 24 →
    Does (.uploadInitiate dt rq k) s [.ports] (fun _ => False) fun t => Out.dap rq.client (abortPdu rq.tag k (0x0409, 0)) ∈ t.out) ∧
  (∀ dt rq k seg s, s.sys.apc.any id = false → s.upd.waits = none → k < 2 ^ 24 →
    Does (.uploadSegmentRequest dt rq k seg) s [.ports] (fun _ => False) fun t => Out.dap rq.client (abortPdu rq.tag k (0x0409, 0)) ∈ t.out) ∧
  (∀ dt rq k total s, s.sys.apc.any id = false → s.upd.waits = none → k < 2 ^ 24 →
    Does (.downloadInitiate dt rq k total) s [.ports] (fun _ => False) fun t => Out.dap rq.client (abortPdu rq.tag k (0x0409, 0)) ∈ t.out) ∧
  (∀ dt rq k seg (last : Bool) data s, s.sys.apc.any id = false → s.upd.waits = none → k < 2 ^ 24 → data.length ≤ 4096 →
    Does (.downloadSegment dt rq k seg last data) s [.ports] (fun _ => False) fun t =>
      Out.dap rq.client (abortPdu rq.tag k (0x0409, 0)) ∈ t.out) ∧
  (∀ (s : State) rq k n eff, s.sys.apc.any id = false → widthOf k ≤ 64 → k < 2 ^ 24 →
    s.command rq k n eff = s.deliver rq.client (abortPdu rq.tag k (0x0409, 0))) ∧
  (∀ dt b s, s.sys.apc.any id = false → s.upd.waits = none → (s.tick dt).hspiReady = true → (parsePdu b).cmd ≠ 0x7F →
    Does (.hspiRequest dt b) s [.pcg, .ports, .pwr] (fun k => k = K 0x2300 6 ∨ k / 256 = 0x2302) fun t =>
      Out.dap .hspi (abortPdu (parsePdu b).tag (parsePdu b).key (0x0409, 0)) ∈ t.out ∧
      t.pins.hspiHeld = s.pins.hspiHeld ++ [abortPdu (parsePdu b).tag (parsePdu b).key (0x0409, 0)]) ∧
  (∀ (s : State) a src n ty pre f, ({ s with sys := { s.sys with apc := a } } : State).accepts src n ty pre f = s.accepts src n ty pre f)

/-- Every command of the table that stands for a write of one number to one entry does exactly what that write does as a DAP message
(R41). It rests on choices of the model where the spec leaves room: log entry 22. -/
def Obligations.TypedWrites : Prop :=
  ∀ i s dt rq k n, writeMeant i = some (dt, rq, k, n) → (s.tick dt).hears rq 2 k 0 0 (toBe (widthOf k / 8) n) = true →
    exec i s = exec (.write dt rq k (toBe (widthOf k / 8) n)) s

/-- State requests (R52): accepted, the request waits for its milestone; a check that fails refuses it and changes nothing. Completion:
Does and Gives conclude that exec answers a next state, with what it holds, under conditions on the state and the operands alone; this
statement concludes it for stateRequestPreop, stateRequestOperate. It rests on choices of the model where the spec leaves room: log
entries 46, 50, 68. -/
def Obligations.StateRequests : Prop :=
  (∀ dt rq s, Served s dt rq (K 0x2000 2) 1 → s.mode = .operate → s.sys.stateReq = none →
    Does (.stateRequestPreop dt rq) s [.ports, .clients] (fun k => k = K 0x2000 2) fun t =>
      t.answered rq (K 0x2000 2) ok ∧ t.sys.stateReq = some ⟨1, 3, []⟩) ∧
  (∀ dt rq u s, Served s dt rq (K 0x2000 2) 2 → s.mode = .preop → s.sys.stateReq = none → (s.tick dt).mayLeave = .ok u →
    Does (.stateRequestOperate dt rq) s [.claims, .ports, .clients] (fun k => k = K 0x2000 2) fun t =>
      t.answered rq (K 0x2000 2) ok ∧ t.sys.stateReq = some ⟨2, 3, []⟩ ∧ t.sys.claims = u.sys.claims ∧ t.get (K 0x2000 2) = 2) ∧
  (∀ dt rq r s, Served s dt rq (K 0x2000 2) 2 → s.mode = .preop → s.sys.stateReq = none → (s.tick dt).mayLeave = .error r →
    Does (.stateRequestOperate dt rq) s [.ports, .clients] (fun _ => False) fun t =>
      t.answered rq (K 0x2000 2) r ∧ t.sys.stateReq = none ∧ t.mode = s.mode) ∧
  (∀ dt rq s, Served s dt rq (K 0x2000 2) 2 → s.mode = .operate →
    Does (.stateRequestOperate dt rq) s [.ports, .clients] (fun _ => False) fun t =>
      t.answered rq (K 0x2000 2) ok ∧ t.sys.stateReq = s.sys.stateReq)

/-- Store commands (R61–R64): Save holds the values of its instant for the copy that is not in use, and marks that copy as not whole until
it is written; Restore defaults leaves no persistent entry but the transports and the grade's temperature limits off its default; Reload
puts the values of the copy in use; the end of a save makes the copy the one in use, or fails after the second attempt. Completion: Does
and Gives conclude that exec answers a next state, with what it holds, under conditions on the state and the operands alone; this
statement concludes it for save, restoreDefaults, reloadStoredCopy, saveComplete. It rests on choices of the model where the spec leaves
room: log entries 54, 55, 56, 179, 181. -/
def Obligations.Store : Prop :=
  (∀ dt rq s, Served s dt rq (K 0x2010 1) 1 → s.sys.save = none → s.onTrial = false →
    Does (.save dt rq) s [.nv, .save, .ports, .clients] (fun k => K 0x2010 2 ≤ k ∧ k ≤ K 0x2010 3 ∨ K 0x2011 2 ≤ k ∧ k ≤ K 0x2011 4) fun t =>
      t.answered rq (K 0x2010 1) ok ∧ t.get (K 0x2010 2) = 1 ∧
      t.sys.save = some ⟨match s.confInUse with | some n => 1 - n | none => 0, (s.tick dt).confCopy, 1⟩ ∧
      t.copyValid (match s.confInUse with | some n => 1 - n | none => 0) = false) ∧
  (∀ dt rq s, Served s dt rq (K 0x2010 1) 1 → s.sys.save ≠ none → s.onTrial = false →
    Does (.save dt rq) s [.ports, .clients] (fun _ => False) fun t => t.answered rq (K 0x2010 1) (0x0402, 0)) ∧
  (∀ dt rq s, Served s dt rq (K 0x2010 1) 2 → s.sys.save = none → s.mode = .preop → s.leaving = false →
    Does (.restoreDefaults dt rq) s [.doms, .ports, .clients]
      (fun k => persistent k = true ∧ isTransport k = false ∨ K 0x2010 2 ≤ k ∧ k ≤ K 0x2010 3) fun t =>
      t.answered rq (K 0x2010 1) ok ∧ t.get (K 0x2010 2) = 2 ∧
      (∀ p ∈ t.dict, persistent p.1 = true → isTransport p.1 = true ∨ p.1 = K 0x2500 1 ∨ p.1 = K 0x2500 2) ∧
      ∀ p ∈ t.doms, persistent p.1 = false ∨ isTransport p.1 = true) ∧
  (∀ dt rq n s, Served s dt rq (K 0x2010 1) 3 → s.sys.save = none → s.mode = .preop → s.leaving = false → s.confInUse = some n →
    ((nth ConfCopy.empty s.nv.confs n).vals.map Prod.fst).Pairwise (· < ·) →
    Does (.reloadStoredCopy dt rq) s [.doms, .ports, .clients]
      (fun k => persistent k = true ∧ isTransport k = false ∨ K 0x2010 2 ≤ k ∧ k ≤ K 0x2010 3) fun t =>
      t.answered rq (K 0x2010 1) ok ∧ t.get (K 0x2010 2) = 2 ∧
      ∀ p ∈ (nth ConfCopy.empty s.nv.confs n).vals, persistent p.1 = true → isTransport p.1 = false → t.get p.1 = p.2) ∧
  (∀ dt j s, s.sys.save = some j → s.upd.waits = none → j.target < 2 → s.upd.doseDue = false →
    Does (.saveComplete dt true) s [.nv, .save] (fun k => k / 256 = 0x2010 ∨ k / 256 = 0x2011) fun t =>
      t.sys.save = none ∧ t.confInUse = some j.target ∧ nth ConfCopy.empty t.nv.confs j.target = j.copy ∧ t.get (K 0x2010 2) = 2 ∧
      t.get (K 0x2010 3) = 0) ∧
  (∀ dt j s, s.sys.save = some j → Calm s [(0x15, 3)] → j.attempt = 2 → s.upd.doseDue = false →
    Does (.saveComplete dt false) s [.save, .log] (fun k => K 0x2010 2 ≤ k ∧ k ≤ K 0x2010 3) fun t =>
      t.sys.save = none ∧ t.get (K 0x2010 2) = 3 ∧ t.get (K 0x2010 3) = 0x0601)

/-- Start-up (R56, R469, R506, R565): without the PLL the device stays in BOOT at step 2; with it and no valid boot record the recovery
loader runs; with one the device reaches step 7, where the raster runs; at first light step 8 is reached; the end of BOOT leads to SAFE
with every enabled source blocked, and to PREOP without a stored configuration, or with one that does not start of itself. Completion:
Does and Gives conclude that exec answers a next state, with what it holds, under conditions on the state and the operands alone; this
statement concludes it for powerGood, pllRetry, firstLight, endOfBoot. It rests on choices of the model where the spec leaves room: log
entries 2, 32, 36, 39, 42, 180. -/
def Obligations.StartUp : Prop :=
  (∀ dt (clk : Fin 2048) beats s, s.mode = .boot → s.sys.bootStep = 0 → s.pwr.inReset = false → s.upd.waits = none →
    bit clk 0 = false ∨ bit clk 1 = false →
    Does (.powerGood dt clk beats) s [.boot] (fun k => K 0x2330 1 ≤ k ∧ k ≤ K 0x2330 2) fun t =>
      t.mode = .boot ∧ t.sys.bootStep = 2 ∧ t.get (K 0x2330 1) = clk ∧ t.pins.supplies = true) ∧
  (∀ dt (clk : Fin 2048) beats s, s.mode = .boot → s.sys.bootStep = 0 → s.pwr.inReset = false → s.upd.waits = none → s.sys.recovery = false →
    bit clk 0 = true → bit clk 1 = true → s.bootNo = none →
    Gives (.powerGood dt clk beats) s fun t =>
      t.mode = .boot ∧ t.sys.bootStep = 4 ∧ t.sys.recovery = true ∧ t.serverUp = true ∧ t.get (K 0x8600 2) = s.tw.strap % 256) ∧
  (∀ dt (clk : Fin 2048) beats s, s.mode = .boot → s.sys.bootStep = 2 → s.pwr.inReset = false → s.upd.waits = none →
    bit clk 0 = false ∨ bit clk 1 = false →
    Does (.pllRetry dt clk beats) s [] (fun k => K 0x2330 1 ≤ k ∧ k ≤ K 0x2330 2) fun t =>
      t.mode = .boot ∧ t.sys.bootStep = 2 ∧ t.get (K 0x2330 1) = clk) ∧
  (∀ dt (clk : Fin 2048) beats s, s.mode = .boot → s.sys.bootStep = 2 → s.pwr.inReset = false → s.upd.waits = none → s.sys.recovery = false →
    bit clk 0 = true → bit clk 1 = true → s.bootNo = none →
    Gives (.pllRetry dt clk beats) s fun t =>
      t.mode = .boot ∧ t.sys.bootStep = 4 ∧ t.sys.recovery = true ∧ t.serverUp = true) ∧
  (∀ dt (clk : Fin 2048) beats s, s.mode = .boot → s.sys.bootStep = 0 → s.pwr.inReset = false → s.upd.waits = none → s.sys.recovery = false →
    bit clk 0 = true → bit clk 1 = true → s.bootNo ≠ none →
    Gives (.powerGood dt clk beats) s fun t =>
      t.mode = .boot ∧ t.sys.bootStep = 7 ∧ t.sys.recovery = false ∧ t.fs.running = true ∧ t.pins.supplies = true ∧ t.tw.ident = s.tw.strap ∧
      t.tw.step7At = s.now + dt) ∧
  (∀ dt (clk : Fin 2048) beats s, s.mode = .boot → s.sys.bootStep = 2 → s.pwr.inReset = false → s.upd.waits = none → s.sys.recovery = false →
    bit clk 0 = true → bit clk 1 = true → s.bootNo ≠ none →
    Gives (.pllRetry dt clk beats) s fun t =>
      t.mode = .boot ∧ t.sys.bootStep = 7 ∧ t.sys.recovery = false ∧ t.fs.running = true ∧ t.tw.ident = s.tw.strap ∧ t.tw.step7At = s.now + dt) ∧
  (∀ dt s, s.mode = .boot → s.sys.bootStep = 7 → s.fs.running = true → s.upd.waits = none →
    Does (.firstLight dt) s [.boot, .fs] (fun _ => False) fun t =>
      t.mode = .boot ∧ t.sys.bootStep = 7 ∧ t.fs = { s.fs with lightDue := true }) ∧
  (∀ dt s, s.mode = .boot → s.sys.bootStep = 8 → s.pwr.inReset = false → s.upd.waits = none → s.onTrial = false → s.allBlocked = true →
    s.confInUse = none →
    Gives (.endOfBoot dt) s fun t => t.mode = .safe ∧ t.get (K 0x2000 4) = 5 ∧ t.sys.bootStep = 9 ∧ t.sys.apc = [true, true]) ∧
  (∀ dt s, s.mode = .boot → s.sys.bootStep = 8 → s.pwr.inReset = false → s.upd.waits = none → s.onTrial = false → s.allBlocked = false →
    s.confInUse = none → s.tw.single = true →
    Gives (.endOfBoot dt) s fun t => t.mode = .preop ∧ t.get (K 0x2000 4) = 0x0A ∧ t.sys.bootStep = 9 ∧ t.sys.apc = [true, true]) ∧
  (∀ dt n s, s.mode = .boot → s.sys.bootStep = 8 → s.pwr.inReset = false → s.upd.waits = none → s.onTrial = false → s.allBlocked = false →
    s.confInUse = some n → s.sys.bootRefused = none → s.get (K 0x2000 3) = 0 →
    Gives (.endOfBoot dt) s fun t => t.mode = .preop ∧ t.sys.bootStep = 9 ∧ t.sys.apc = [true, true])

/-- Commits (R80, R81, R128–R130, R145, R175, R187): a commit whose checks pass arms its configuration for its landing frame and answers
success; one whose checks fail is refused with 0x0403 and its detail, and arms nothing. Completion: Does and Gives conclude that exec
answers a next state, with what it holds, under conditions on the state and the operands alone; this statement concludes it for
layerCommit, groupCommit, meshCommit, gainMeshCommit, scanOutCommit. -/
def Obligations.Commits : Prop :=
  (∀ dt rq (l : Fin 7) s, Served s dt rq (K (0x3400 + l) 0x14) 1 →
    (s.layerCheck l fun k => if k = l.val then s.shadow k else s.comingCfg k).1 = 0 →
    Does (.layerCommit dt rq l) s [.armed, .ln, .ports, .clients] (fun k => K (0x3400 + l) 0x15 ≤ k ∧ k ≤ K (0x3400 + l) 0x17 ∨ k = K (0x3300 + l) 0x14) fun t =>
      t.answered rq (K (0x3400 + l) 0x14) ok ∧ t.get (K (0x3400 + l) 0x16) = 0 ∧
      t.armed.any (fun a => a.item == K (0x3400 + l) 0x14 && a.landing == s.landingFrame) = true) ∧
  (∀ dt rq (l : Fin 7) s, Served s dt rq (K (0x3400 + l) 0x14) 1 →
    (s.layerCheck l fun k => if k = l.val then s.shadow k else s.comingCfg k).1 ≠ 0 →
    Does (.layerCommit dt rq l) s [.ports, .clients] (fun k => k = K (0x3400 + l) 0x16) fun t =>
      t.answered rq (K (0x3400 + l) 0x14) (0x0403, (s.layerCheck l fun k => if k = l.val then s.shadow k else s.comingCfg k).1)) ∧
  (∀ dt rq mask s, Served s dt rq (K 0x3410 1) mask → mask ≠ 0 →
    (∀ l ∈ List.range 7, bit mask l = true → (s.layerCheck l fun k => if bit mask k then s.shadow k else s.comingCfg k).1 = 0) →
    Does (.groupCommit dt rq mask) s [.armed, .ln, .ports, .clients]
      (fun k => k = K 0x3410 2 ∨ k = K 0x3410 3 ∨ 0x3400 ≤ k / 256 ∧ k / 256 ≤ 0x3406 ∧ 0x15 ≤ k % 256 ∧ k % 256 ≤ 0x17 ∨
        0x3300 ≤ k / 256 ∧ k / 256 ≤ 0x3306 ∧ k % 256 = 0x14) fun t =>
      t.answered rq (K 0x3410 1) ok ∧ t.get (K 0x3410 2) = 0 ∧
      ∀ l ∈ List.range 7, bit mask l = true → t.armed.any (fun a => a.item == K (0x3400 + l) 0x14 && a.landing == s.landingFrame) = true) ∧
  (∀ dt rq (i : Fin 4) s, Served s dt rq (K (0x3100 + i) 2) 1 →
    Does (.meshCommit dt rq i) s [.armed, .ln, .ports, .clients] (fun k => k = K (0x3100 + i) 4 ∨ k = K (0x3100 + i) 5) fun t =>
      if meshCheck ((s.dom (K (0x3100 + i) 1)).getD (identityMesh (s.srcW i) (s.srcH i))) (s.srcW i) (s.srcH i) = 0 then
        t.answered rq (K (0x3100 + i) 2) ok ∧ t.get (K (0x3100 + i) 5) = 0 ∧ t.get (K (0x3100 + i) 4) = s.landingFrame % 2 ^ 32 ∧
        t.armed.any (fun a => a.item == K (0x3100 + i) 2 && a.landing == s.landingFrame) = true
      else
        t.answered rq (K (0x3100 + i) 2)
          (0x0403, meshCheck ((s.dom (K (0x3100 + i) 1)).getD (identityMesh (s.srcW i) (s.srcH i))) (s.srcW i) (s.srcH i)) ∧
        t.armed = s.armed ∧ t.ln = s.ln ∧ t.get (K (0x3100 + i) 4) = s.get (K (0x3100 + i) 4)) ∧
  (∀ dt rq (i : Fin 4) s, Served s dt rq (K (0x4200 + i) 3) 1 → ((s.dom (K (0x4200 + i) 2)).getD gainMeshDefault).length = 4294 →
    beAt ((s.dom (K (0x4200 + i) 2)).getD gainMeshDefault) 4290 4 = crc32c (((s.dom (K (0x4200 + i) 2)).getD gainMeshDefault).take 4290) →
    Does (.gainMeshCommit dt rq i) s [.armed, .ln, .ports, .clients] (fun _ => False) fun t =>
      t.answered rq (K (0x4200 + i) 3) ok ∧
      t.armed.any (fun a => a.item == K (0x4200 + i) 3 && a.landing == s.landingFrame &&
        a.doms == [(K (0x4200 + i) 2, (s.dom (K (0x4200 + i) 2)).getD gainMeshDefault)]) = true) ∧
  (∀ dt rq u s, Served s dt rq (K 0x4300 0x1C) 1 → s.scanCheck s.scanCfg = 0 → s.takeScanClaims s.scanCfg = .ok u →
    Does (.scanOutCommit dt rq) s [.claims, .fs, .ports, .clients]
      (fun k => k = K 0x4300 0x14 ∨ k = K 0x4300 0x1D ∨ 0x4330 ≤ k / 256 ∧ k / 256 ≤ 0x4333 ∧ k % 256 = 5) fun t =>
      t.answered rq (K 0x4300 0x1C) ok ∧ t.get (K 0x4300 0x1D) = 0 ∧ t.sys.claims = u.sys.claims ∧ t.fs.accepted.isSome = true ∧
      ∀ i ∈ List.range 4, t.get (K (0x4330 + i) 5) = dimsOf s.scanCfg i) ∧
  (∀ dt rq s, Served s dt rq (K 0x4300 0x1C) 1 → s.scanCheck s.scanCfg ≠ 0 →
    Does (.scanOutCommit dt rq) s [.ports, .clients] (fun k => k = K 0x4300 0x1D) fun t =>
      t.answered rq (K 0x4300 0x1C) (0x0403, s.scanCheck s.scanCfg))

/-- Regions of the frame store (R132–R135): an allocate request takes the lowest free region and the place that fits, or is refused; a
free request frees a region that no frame uses; the content-ready flag and a quota take their value. Completion: Does and Gives conclude
that exec answers a next state, with what it holds, under conditions on the state and the operands alone; this statement concludes it for
allocateRequest, freeRequest, contentReady, memoryQuota. -/
def Obligations.Regions : Prop :=
  (∀ dt rq word n (u : Nat) s, Served s dt rq (K 0x3420 1) word → field word 31 28 = 7 →
    (List.range 32).find? (fun n => s.get (K (0x3440 + n) 1) == 0) = some n → s.firstFit 7 (field word 15 0) = some u → u < 2 ^ 16 →
    Does (.allocateRequest dt rq word) s [.ports, .clients] (fun k => k = K 0x3420 3 ∨ k = K 0x3420 4 ∨ k / 256 = 0x3440 + n) fun t =>
      t.answered rq (K 0x3420 1) ok ∧ t.get (K 0x3420 3) = n ∧ t.get (K 0x3420 4) = 0 ∧ t.get (K (0x3440 + n) 1) = 1 ∧
      t.get (K (0x3440 + n) 2) = 7 ∧ t.get (K (0x3440 + n) 3) = u * 65536 ∧ t.get (K (0x3440 + n) 4) = field word 15 0) ∧
  (∀ dt rq word s, Served s dt rq (K 0x3420 1) word → field word 31 28 = 7 → (∀ n ∈ List.range 32, s.get (K (0x3440 + n) 1) ≠ 0) →
    Does (.allocateRequest dt rq word) s [.ports, .clients] (fun k => k = K 0x3420 4) fun t => t.answered rq (K 0x3420 1) (0x0402, 0)) ∧
  (∀ dt rq n s, Served s dt rq (K 0x3420 2) n → n < 32 → s.get (K (0x3440 + n) 1) = 1 → s.regionRead n = false →
    mapGet s.fs.lastUse n = none →
    Does (.freeRequest dt rq n) s [.fs, .ports, .clients]
      (fun k => k = K 0x3420 4 ∨ k / 256 = 0x3440 + n ∨ 0x3400 ≤ k / 256 ∧ k / 256 ≤ 0x3406 ∧ k % 256 = 0x13) fun t =>
      t.answered rq (K 0x3420 2) ok ∧ t.get (K 0x3420 4) = 0 ∧ t.get (K (0x3440 + n) 1) = 0) ∧
  (∀ dt rq n s, Served s dt rq (K 0x3420 2) n → n < 32 → s.get (K (0x3440 + n) 1) = 0 →
    Does (.freeRequest dt rq n) s [.ports, .clients] (fun k => k = K 0x3420 4) fun t => t.answered rq (K 0x3420 2) (0x0301, 0)) ∧
  (∀ dt rq (n : Fin 32) v s, Served s dt rq (K (0x3440 + n) 5) v → s.get (K (0x3440 + n) 1) = 1 → s.regionRead n = false →
    Does (.contentReady dt rq n v) s [.ports, .clients] (fun k => k = K (0x3440 + n) 5) fun t =>
      t.answered rq (K (0x3440 + n) 5) ok ∧ t.get (K (0x3440 + n) 5) = v) ∧
  (∀ dt rq (l : Fin 7) v s, Served s dt rq (K (0x3400 + l) 0x12) v → s.charged l ≤ v →
    Does (.memoryQuota dt rq l v) s [.ports, .clients] (fun k => k = K (0x3400 + l) 0x12) fun t =>
      t.answered rq (K (0x3400 + l) 0x12) ok ∧ t.get (K (0x3400 + l) 0x12) = v)

/-- Correction of the light (R142, R147, R151, R152): reported dead pixels and the dose of a source are cleared by command, the ageing
curves are folded while an APC pair runs, and differing Kerb words are rewritten. Completion: Does and Gives conclude that exec answers a
next state, with what it holds, under conditions on the state and the operands alone; this statement concludes it for clearReported,
doseReset, ageingFold, kerbComplementCheck. It rests on choices of the model where the spec leaves room: log entries 6, 187. -/
def Obligations.LightCorrection : Prop :=
  (∀ dt rq (i : Fin 4) s, Served s dt rq (K (0x4210 + i) 5) 1 →
    Does (.clearReported dt rq i) s [.comp, .ports, .clients] (fun _ => False) fun t =>
      t.answered rq (K (0x4210 + i) 5) ok ∧ t.src i = { s.src i with reported := [] } ∧
      ∀ j ∈ List.range 4, j ≠ i.val → t.src j = s.src j) ∧
  (∀ dt rq (i : Fin 4) s, Served s dt rq (K (0x4220 + i) 7) 1 →
    Does (.doseReset dt rq i) s [.comp, .fs, .ports, .clients] (fun k => k = K (0x4220 + i) 8) fun t =>
      t.fs = { s.fs with bad := t.fs.bad } ∧ (∀ w ∈ t.fs.bad, w ∈ s.fs.bad) ∧
      t.answered rq (K (0x4220 + i) 7) ok ∧ t.src i = { s.src i with dose := [], again := [] } ∧ t.get (K (0x4220 + i) 8) = 0 ∧
      ∀ j ∈ List.range 4, j ≠ i.val → t.src j = s.src j) ∧
  (∀ dt s, s.upd.waits = none →
    Does (.ageingFold dt) s [.comp] (fun k => 0x4220 ≤ k / 256 ∧ k / 256 ≤ 0x4223 ∧ 5 ≤ k % 256 ∧ k % 256 ≤ 8) fun t =>
      (s.sys.apc.any id = false → t.comp = s.comp) ∧
      (s.sys.apc.any id = true → ∀ i ∈ s.srcs, s.srcType i = 1 ∨ s.srcType i = 4 → t.get (K (0x4220 + i) 5) = (s.tick dt).timeNs % 2 ^ 64)) ∧
  (∀ dt img s, s.comp.kerb.ram = some img → s.comp.kerb.active < 2 → s.upd.waits = none →
    Does (.kerbComplementCheck dt true) s [.comp, .fs] (fun _ => False) fun t =>
      nth ⟨KerbImg.zero, []⟩ t.comp.kerb.banks s.comp.kerb.active = ⟨img, img.maps.map fun b => ~~~b⟩ ∧ t.comp.src = s.comp.src)

/-- Composition (R121, R131, R132, R143, R167, R406): a frame starts when the raster runs and the next frame is not dark, each row of it
is composed once, the commit milestone takes what is armed for it, and a low-beam fall-back ends after its release time. Completion: Does
and Gives conclude that exec answers a next state, with what it holds, under conditions on the state and the operands alone; this
statement concludes it for composeStart, composeRow, fallBackRelease, commitMilestone. It rests on choices of the model where the spec
leaves room: log entries 65, 67, 184, 187. -/
def Obligations.Composition : Prop :=
  (∀ dt released s, s.fs.running = true → s.composeHeld = false → Steady s → s.domState 2 = 0 →
    Does (.composeStart dt released) s lightParts (fun k => 0x3000 ≤ k / 256) fun t =>
      t.fs.compFrame = s.nextToCompose ∧ t.fs.composing = true ∧ t.fs.cmTaken = false) ∧
  (∀ dt released s, s.fs.running = false ∨ s.composeHeld = true → s.upd.waits = none →
    Does (.composeStart dt released) s [] (fun _ => False) fun t => t.mode = s.mode ∨ t.mode = .safe) ∧
  (∀ dt (i : Fin 4) (field : Fin 4) row s, s.fs.composing = true → (s.viewFor s.fs.compFrame).srcOn i = true →
    field.val < (s.viewFor s.fs.compFrame).fieldsOf i → row < (s.viewFor s.fs.compFrame).actH i → 0 < (s.viewFor s.fs.compFrame).actW i →
    mapGet (s.src i).pRows (field * 2048 + row) = none → mapGet (s.src i).back (field * 2048 + row) = none → Steady s → s.domState 2 = 0 →
    Does (.composeRow dt i field row) s [.comp, .geo, .log] (fun k => k / 256 = 0x3200 ∨ 0x3300 ≤ k / 256 ∧ k / 256 ≤ 0x3306 ∧ k % 256 = 0x15) fun t =>
      (mapGet (t.src i).pRows (field * 2048 + row)).isSome = true ∨ (mapGet (t.src i).back (field * 2048 + row)).isSome = true) ∧
  (∀ dt (i : Fin 4) a s, (s.blcOf i).fallBack = true → (s.blcOf i).calmSince = some a → a + s.get (K (0x8200 + i) 9) * 1000000 ≤ s.now + dt →
    s.upd.waits = none → s.domState 2 = 0 →
    Does (.fallBackRelease dt i) s [.blc, .masks, .log] (fun k => K 0x8020 4 ≤ k ∧ k ≤ K 0x8020 7 ∨ 0x8200 ≤ k / 256 ∧ k / 256 ≤ 0x8203) fun t =>
      (t.blcOf i).fallBack = false) ∧
  (∀ dt s, s.fs.running = true → s.fs.cmTaken = false → Steady s →
    Does (.commitMilestone dt) s lightParts (fun k => 0x3000 ≤ k / 256) fun t => t.fs.cmTaken = true)

/-- Scan-out and the frame store (R158–R160, R177–R179, R182): a row of an enabled source is read, a word is scrubbed and counted as
sound, corrected or uncorrectable, and the lock to SYNC_IN takes edges near the nominal period, falls into holdover and ends it.
Completion: Does and Gives conclude that exec answers a next state, with what it holds, under conditions on the state and the operands
alone; this statement concludes it for scanOutRow, scrubAccess, syncInEdge, syncInLoss, holdoverEnd. It rests on choices of the model
where the spec leaves room: log entries 58, 69, 70, 71. -/
def Obligations.RasterAndStore : Prop :=
  (∀ dt (i : Fin 4) (r : Nat) s, s.fs.running = true → s.srcOn i = true → r < s.actH i → Steady s →
    Does (.scanOutRow dt i r) s lightParts (fun k => 0x3000 ≤ k / 256) fun t => t.fs.running = true) ∧
  (∀ dt (i : Fin 4) (r : Nat) s, s.fs.running = false ∨ s.srcOn i = false ∨ s.actH i ≤ r → s.upd.waits = none →
    Does (.scanOutRow dt i r) s [] (fun _ => False) fun t => t.pins = s.pins) ∧
  (∀ dt (w : Fin 4194304) s, s.bankOn (w / 65536) = true → s.fs.bad.contains w.val = false → s.upd.waits = none → s.domState 0x17 = 0 →
    Does (.scrubAccess dt w 1) s [.fs] (fun k => k = K 0x4310 2 ∨ k = K 0x4310 9) fun t =>
      t.get (K 0x4310 2) = (s.get (K 0x4310 2) + 1) % 2 ^ 32 ∧ t.fs.bad = s.fs.bad) ∧
  (∀ dt (w : Fin 4194304) s, s.bankOn (w / 65536) = true → Calm s [(0x0D, 1)] → s.domState 0x17 = 0 →
    Does (.scrubAccess dt w 2) s [.fs, .geo, .comp, .ring, .log] (fun k => K 0x4310 3 ≤ k ∧ k ≤ K 0x4310 5 ∨ k = K 0x4310 9) fun t =>
      t.get (K 0x4310 3) = (s.get (K 0x4310 3) + 1) % 2 ^ 32 ∧ t.get (K 0x4310 4) = 8 * w) ∧
  (∀ dt falling s, s.act (K 0x4300 7) = 1 → falling = (s.act (K 0x4300 9) == 1) → s.fs.running = true → s.fs.lock.lastEdge = none →
    s.upd.waits = none → s.domState 0x17 = 0 →
    Does (.syncInEdge dt falling) s [.fs] (fun _ => False) fun t =>
      t.fs = { s.fs with lock := { s.fs.lock with lastEdge := some (s.now + dt), edges := 1, inPhase := 0 } }) ∧
  (∀ dt falling a s, s.act (K 0x4300 7) = 1 → falling = (s.act (K 0x4300 9) == 1) → s.fs.running = true → s.fs.lock.lastEdge = some a →
    s.now + dt - a < 2 * s.syncNs → s.syncNs * 95 ≤ (s.now + dt - a) * 100 → (s.now + dt - a) * 100 ≤ s.syncNs * 105 → Calm s [(5, 0x0E)] → s.domState 0x17 = 0 →
    Does (.syncInEdge dt falling) s [.fs, .log] (fun k => K 0x4300 0x0E ≤ k ∧ k ≤ K 0x4300 0x10) fun t =>
      t.fs.lock.lastEdge = some (s.now + dt) ∧ t.fs.lock.edges = s.fs.lock.edges + 1 ∧ t.fs.lock.measured = s.now + dt - a ∧
      t.get (K 0x4300 0x10) = (s.now + dt - a) % 2 ^ 32) ∧
  (∀ dt a s, s.act (K 0x4300 7) = 1 → s.get (K 0x4300 0x0E) = 1 ∨ s.get (K 0x4300 0x0E) = 2 → s.fs.lock.lastEdge = some a →
    a + 2 * s.syncNs ≤ s.now + dt → Calm s [(5, 0x0E)] → s.domState 0x17 = 0 →
    Does (.syncInLoss dt) s [.fs, .log] (fun k => k = K 0x4300 0x0E) fun t =>
      t.get (K 0x4300 0x0E) = 3 ∧ t.fs.lock = { s.fs.lock with edges := 0, inPhase := 0, heldAt := s.now + dt }) ∧
  (∀ dt s, s.get (K 0x4300 0x0E) = 3 → s.fs.lock.heldAt + s.get (K 0x4300 0x0B) * 1000000 ≤ s.now + dt → Calm s [(5, 0x0E)] → s.domState 0x17 = 0 →
    Does (.holdoverEnd dt) s [.fs, .log] (fun k => k = K 0x4300 0x0E) fun t =>
      t.get (K 0x4300 0x0E) = 0 ∧ t.fs.lock = { s.fs.lock with lastEdge := none })

/-- The frame milestone (R52, R165, R175, R565): FRAME# counts up and the raster goes on from now; a request for PREOP takes effect at it,
and one for OPERATE with the entry frame; a raster that stands has no milestone. Completion: Does and Gives conclude that exec answers a
next state, with what it holds, under conditions on the state and the operands alone; this statement concludes it for frameMilestone. It
rests on choices of the model where the spec leaves room: log entry 68. -/
def Obligations.FrameMilestone : Prop :=
  (∀ dt phi pdBad watch s, s.fs.running = true → s.tw.joinFrame = false → Steady s →
    Gives (.frameMilestone dt phi pdBad watch) s fun t =>
      t.get (K 0x4300 0x11) = (s.get (K 0x4300 0x11) + 1) % 2 ^ 32 ∧ t.fs.fmAt = s.now + dt ∧ t.fs.rowU = s.rowUAt 1 ∧
      t.fs.running = true ∧ (s.fs.entryFrame = none → t.fs.entryFrame = none)) ∧
  (∀ dt phi pdBad watch (r : StateReq) s, s.fs.running = true → Steady s → s.sys.stateReq = some r → r.target = 1 → s.mode = .operate →
    Gives (.frameMilestone dt phi pdBad watch) s fun t =>
      (t.mode = .preop ∧ t.get (K 0x2000 4) = r.cause % 256 ∨ t.mode = .safe) ∧ t.sys.stateReq = none ∧
      ∀ e ∈ List.range 8, t.get (K (0x5100 + e) 7) = 0) ∧
  (∀ dt phi pdBad watch (r : StateReq) s, s.fs.running = true → Steady s → s.sys.stateReq = some r → r.target = 2 → s.mode = .preop → s.fs.entryFrame = some ((s.get (K 0x4300 0x11) + 1) % 2 ^ 32) →
    s.tw.single = true →
    Gives (.frameMilestone dt phi pdBad watch) s fun t =>
      (t.mode = .operate ∧ t.get (K 0x2000 4) = r.cause % 256 ∨ t.mode = .safe) ∧ t.sys.stateReq = none ∧ t.fs.accepted = none ∧ t.fs.entryFrame = none) ∧
  (∀ dt phi pdBad watch s, s.fs.running = false → s.upd.waits = none →
    Does (.frameMilestone dt phi pdBad watch) s [] (fun _ => False) fun t => t.fs = s.fs) ∧
  (∀ dt phi pdBad watch s, s.fs.running = true → s.tw.joinFrame = false → s.fs.accepted = none → s.lineMode = true → s.mode = .boot →
    s.sys.bootStep = 7 → s.fs.lightDue = true → s.fs.lightFrame = some ((s.get (K 0x4300 0x11) + 1) % 2 ^ 32) → Steady s →
    Gives (.frameMilestone dt phi pdBad watch) s fun t => t.sys.bootStep = 8 ∧ t.fs.firstLight = true ∧ t.fs.lightDue = false)

/-- Tile Link, answers (R197–R200, R212, R215, R220–R222, R224): a return packet that fails its checks is discarded and counted; IDLE and
every valid packet keep the return lane live; an ACK ends the packet it answers, and that of TCONFIG makes the endpoint ready; a REG_RSP
delivers the registers; a STATUS the endpoint's state; a whole map is taken, and a packet of one that is not whole is kept. Completion:
Does and Gives conclude that exec answers a next state, with what it holds, under conditions on the state and the operands alone; this
statement concludes it for ack, idle, regRsp, status, statusMissing, fmap, gmap, gainMapTimeout. It rests on choices of the model where
the spec leaves room: log entry 190. -/
def Obligations.TileLinkReturns : Prop :=
  (∀ dt (e : Fin 8) head crc s, s.returnOk e 0xA head [] crc 0 0 = false → s.upd.waits = none →
    Does (.ack dt e head crc) s [.pcg] (fun k => k = K (0x4400 + e) 0x12) fun t =>
      t.get (K (0x4400 + e) 0x12) = (s.get (K (0x4400 + e) 0x12) + 1) % 2 ^ 32 ∧ t.tl = s.tl) ∧
  (∀ dt (e : Fin 8) head crc (u : Unans) s, s.returnOk e 0xA head [] crc 0 0 = true → (s.port e).unans = [u] → u.seq = field head 31 24 →
    u.typ = 5 → u.op = none → s.upd.waits = none →
    Does (.ack dt e head crc) s [.tl] (fun _ => False) fun t =>
      (t.port e).unans = [] ∧ (t.port e).lastRet = s.now + dt ∧ (t.port e).retSeq = field head 55 48) ∧
  (∀ dt (e : Fin 8) head crc (u : Unans) (op : RegOp) s, s.returnOk e 0xA head [] crc 0 0 = true → (s.port e).unans = [u] → u.seq = field head 31 24 →
    u.typ = 7 → u.op = some op → op.why = .config → field head 23 16 = 0 → Steady s →
    Does (.ack dt e head crc) s lightParts (fun k => 0x3000 ≤ k / 256) fun t => (t.port e).ready = true) ∧
  (∀ dt (e : Fin 8) head crc s, s.returnOk e 0 head [] crc 0 0 = true → s.upd.waits = none →
    Does (.idle dt e head crc) s [.tl] (fun _ => False) fun t =>
      (t.port e).lastRet = s.now + dt ∧ (t.port e).retSeq = some (field head 55 48) ∧ (t.port e).unans = (s.port e).unans) ∧
  (∀ dt (e : Fin 8) head crc s, s.returnOk e 0 head [] crc 0 0 = false → s.upd.waits = none →
    Does (.idle dt e head crc) s [.pcg] (fun k => k = K (0x4400 + e) 0x12) fun t => t.tl = s.tl) ∧
  (∀ dt (e : Fin 8) head crc w (u : Unans) (op : RegOp) s, s.returnOk e 0xB head [w] crc 1 32 = true → (s.port e).unans = [u] →
    u.seq = field head 31 24 → u.typ = 8 → u.op = some op → op.why = .window → op.count = 1 → (s.port e).regq = [] → field head 23 16 = 0 →
    s.upd.waits = none →
    Does (.regRsp dt e head [w] crc) s [.tl] (fun k => k = K 0x4410 4 ∨ k = K 0x4410 5) fun t =>
      t.get (K 0x4410 4) = w / 2 ^ 32 % 2 ^ 32 ∧ t.get (K 0x4410 5) = 2 ∧ (t.port e).unans = []) ∧
  (∀ dt (e : Fin 8) head crc a (b : Nat) c d (u : Unans) (op : RegOp) s, s.returnOk e 0xB head [a * 2 ^ 32 + b, c * 2 ^ 32 + d] crc 1 32 = true →
    (s.port e).unans = [u] → u.seq = field head 31 24 → u.typ = 8 → u.op = some op → op.why = .ident → op.count = 4 → field head 23 16 = 0 →
    a < 2 ^ 32 → b < 2 ^ 32 → c < 2 ^ 32 → d < 2 ^ 32 → Steady s →
    Does (.regRsp dt e head [a * 2 ^ 32 + b, c * 2 ^ 32 + d] crc) s lightParts (fun k => 0x3000 ≤ k / 256) fun t =>
      t.get (K (0x4400 + e) 0x15) = a ∧ t.get (K (0x4400 + e) 0x16) = b ∧ t.get (K (0x4400 + e) 0x17) = c ∧ (t.port e).tlver = d) ∧
  (∀ dt (e : Fin 8) head crc a (b : Nat) c s, s.returnOk e 0xC head [a, b, c] crc 3 3 = true → (s.train e).check = none →
    s.upd.waits = none →
    Does (.status dt e head [a, b, c] crc) s [.tl, .ln, .prj]
      (fun k => k / 256 = 0x4400 + e ∧ (k % 256 = 0x0B ∨ k % 256 = 0x0C ∨ k % 256 = 0x0F ∨ k % 256 = 0x13 ∨ k % 256 = 0x14)) fun t =>
      (field a 63 56 = 3 → t.prj = s.prj) ∧
      t.get (K (0x4400 + e) 0x0B) = field a 63 56 ∧ t.get (K (0x4400 + e) 0x0C) = field a 15 0 ∧
      t.get (K (0x4400 + e) 0x13) = field c 63 32 ∧ t.get (K (0x4400 + e) 0x14) = field c 31 0 ∧
      (t.port e).gotStatus = true ∧ (t.port e).missing = 0 ∧ (t.port e).lastRet = s.now + dt) ∧
  (∀ dt (e : Fin 8) s, 2 ≤ (s.port e).missing → Calm s [(6, 4)] →
    Does (.statusMissing dt e) s [.tl, .log] (fun _ => False) fun t => t.port e = { s.port e with missing := 0 }) ∧
  (∀ dt (e : Fin 8) s, (s.port e).missing < 2 → s.upd.waits = none →
    Does (.statusMissing dt e) s [] (fun _ => False) fun t => t.tl = s.tl) ∧
  (∀ dt (e : Fin 8) head crc w s, s.returnOk e 0xD head [w] crc 1 32 = true → field head 31 30 = 1 → bit head 29 = false →
    s.upd.waits = none →
    Does (.fmap dt e head [w] crc) s [.tl] (fun _ => False) fun t =>
      (t.port e).openMap.bytes = mapPut (s.port e).openMap.bytes (field head 28 0) (wordBytes w)) ∧
  (∀ dt (e : Fin 8) head crc w s, s.returnOk e 0xD head [w] crc 1 32 = true → field head 31 30 = 1 → bit head 29 = true → field head 28 0 = 0 →
    (s.port e).openMap.bytes = [] → s.ep e 0x18 = 8 → s.ep e 0x19 = 4 → s.ep e 3 = 1 → s.ep e 6 = 0 → s.ep e 7 = 0 → s.actW (s.ep e 2) = 8 →
    s.ep e 2 < 4 → s.upd.waits = none →
    Does (.fmap dt e head [w] crc) s [.tl, .comp] (fun _ => False) fun t =>
      (t.port e).openMap = MapRx.empty ∧ ∀ n ∈ List.range 32, bit w (63 - n) = true → n ∈ (t.src (s.ep e 2)).reported) ∧
  (∀ dt (e : Fin 8) head crc w s, s.returnOk e 0xE head [w] crc 1 32 = true → field head 31 30 = 0 → bit head 29 = false →
    (s.port e).gainAsked ≠ none → s.upd.waits = none →
    Does (.gmap dt e head [w] crc) s [.tl] (fun _ => False) fun t =>
      (t.port e).gainMap.bytes = mapPut (s.port e).gainMap.bytes (field head 28 0) (wordBytes w)) ∧
  (∀ dt (e : Fin 8) a s, (s.port e).gainAsked = some a → a + 50000000 ≤ s.now + dt → Calm s [(4, 3)] →
    Does (.gainMapTimeout dt e) s [.tl, .log] (fun k => k = K (0x4200 + s.ep e 2) 5) fun t =>
      (t.port e).gainAsked = none ∧ (t.port e).gainDone = (s.port e).gainDone) ∧
  (∀ dt (e : Fin 8) s, (s.port e).gainAsked = none → s.upd.waits = none →
    Does (.gainMapTimeout dt e) s [] (fun _ => False) fun t => t.tl = s.tl)

/-- Tile Link, what the device sends (R200, R212, R228, R231): MILESTONE N leaves on the port of every enabled endpoint that is ready and
none leaves while the raster stands or the outputs are not enabled; an unanswered packet is sent again up to the limit, but a MILESTONE
never; the register window reads and writes one register of an endpoint, and is refused while it is busy; the ports of a tile supply train
once it has settled. Completion: Does and Gives conclude that exec answers a next state, with what it holds, under conditions on the state
and the operands alone; this statement concludes it for milestone, retransmitTimeout, registerWindowRead, registerWindowWrite,
tseSettleExpiry. It rests on choices of the model where the spec leaves room: log entries 92, 188, 192. -/
def Obligations.TileLinkSends : Prop :=
  (∀ dt s, s.fs.running = true → s.outputsOn = true → Steady s →
    (∀ e ∈ List.range 8, (s.train e).switch = none ∧ s.wantsStep e = false) →
    Does (.milestone dt) s lightParts (fun k => 0x3000 ≤ k / 256) fun t =>
      ∀ e ∈ List.range 8, s.epOn e = true → (s.port e).ready = true → (s.port e).trained = true → (s.port e).mute = false →
        (t.port e).unans.any (fun u => u.typ == 4 && u.arg == (s.get (K 0x4300 0x11) + 1) % 2 ^ 32) = true ∧
        (t.port e).missing = if (s.port e).due = true ∧ (s.port e).gotStatus = false then (s.port e).missing + 1 else 0) ∧
  (∀ dt s, s.fs.running = false ∨ s.outputsOn = false → s.upd.waits = none →
    Does (.milestone dt) s [] (fun _ => False) fun t => t.tl = s.tl) ∧
  (∀ dt (e : Fin 8) (u : Unans) s, (s.port e).unans = [u] → u.typ ≠ 4 → (s.port e).txq = [] → u.sends ≤ s.get (K 0x4410 2) → s.upd.waits = none →
    Does (.retransmitTimeout dt e u.seq) s [.tl, .pcg] (fun k => k = K (0x4400 + e) 0x11) fun t =>
      (t.port e).unans = [{ u with sends := u.sends + 1 }] ∧ t.get (K (0x4400 + e) 0x11) = (s.get (K (0x4400 + e) 0x11) + 1) % 2 ^ 32) ∧
  (∀ dt (e : Fin 8) (u : Unans) s, (s.port e).unans = [u] → u.typ = 4 → Calm s [(6, 4)] →
    Does (.retransmitTimeout dt e u.seq) s [.tl, .log] (fun k => k = K (0x4400 + e) 0x10) fun t =>
      (t.port e).unans = [] ∧ t.get (K (0x4400 + e) 0x10) = (s.get (K (0x4400 + e) 0x10) + 1) % 2 ^ 32) ∧
  (∀ dt (e : Fin 8) n s, (∀ u ∈ (s.port e).unans, u.seq ≠ n) → (s.port e).txq = [] → s.upd.waits = none →
    Does (.retransmitTimeout dt e n) s [] (fun _ => False) fun t => t.tl = s.tl) ∧
  (∀ dt rq (e : Fin 8) reg s, reg < 2 ^ 16 → Served s dt rq (K 0x4410 3) (2 ^ 31 + e * 65536 + reg) → s.get (K 0x4410 5) ≠ 1 →
    Does (.registerWindowRead dt rq e reg) s [.tl, .pcg, .ports, .clients] (fun k => k = K 0x4410 3 ∨ k = K 0x4410 5) fun t =>
      t.answered rq (K 0x4410 3) ok ∧ t.get (K 0x4410 3) = 2 ^ 31 + e * 65536 + reg ∧
      t.get (K 0x4410 5) = if (s.port e).trained = true ∧ (s.tick dt).txAllowed e 8 = true then 1 else 3) ∧
  (∀ dt rq (e : Fin 8) reg s, reg < 2 ^ 16 → Served s dt rq (K 0x4410 3) (2 ^ 31 + e * 65536 + reg) → s.get (K 0x4410 5) = 1 →
    Does (.registerWindowRead dt rq e reg) s [.ports, .clients] (fun _ => False) fun t => t.answered rq (K 0x4410 3) (0x0402, 0)) ∧
  (∀ dt rq v s, Served s dt rq (K 0x4410 4) v → s.get (K 0x4410 5) ≠ 1 → s.epOn (field (s.get (K 0x4410 3)) 18 16) = false →
    Does (.registerWindowWrite dt rq v) s [.tl, .pcg, .ports, .clients] (fun k => k = K 0x4410 4 ∨ k = K 0x4410 5) fun t =>
      t.answered rq (K 0x4410 4) ok ∧ t.get (K 0x4410 4) = v) ∧
  (∀ dt rq v s, Served s dt rq (K 0x4410 4) v → s.epOn (field (s.get (K 0x4410 3)) 18 16) = true → field (s.get (K 0x4410 3)) 15 0 ≤ 0x1FF →
    Does (.registerWindowWrite dt rq v) s [.ports, .clients] (fun _ => False) fun t => t.answered rq (K 0x4410 4) (0x0402, 0)) ∧
  (∀ dt (g : Fin 4) a s, mapGet s.tl.settling g = some a → a + s.get (K 0x4410 7) * 1000000 ≤ s.now + dt → (∀ p ∈ s.tl.settling, p.1 < 8) →
    s.upd.waits = none →
    Does (.tseSettleExpiry dt g) s [.tl, .ln]
      (fun k => k = K 0x4410 5 ∨ 0x4400 ≤ k / 256 ∧ k / 256 ≤ 0x4407 ∧ k % 256 = 0x0A ∨ 0x7010 ≤ k / 256 ∧ k / 256 ≤ 0x701F ∧ (k % 256 = 1 ∨ k % 256 = 2)) fun t =>
      ∀ e ∈ s.epsOfGroup g, (t.train e).since = some (s.now + dt) ∧ (t.port e).trained = false ∧ t.get (K (0x4400 + e) 0x0A) = 1) ∧
  (∀ dt (g : Fin 4) s, mapGet s.tl.settling g = none → s.upd.waits = none →
    Does (.tseSettleExpiry dt g) s [] (fun _ => False) fun t => t.tl = s.tl)

/-- Projection (R234, R235, R240, R245, R252): a plane-table or colour commit arms its table when the checks pass and is refused with its
detail when they do not; a plane slot or scan line of a running source puts its light; a source that stands shows nothing. Completion:
Does and Gives conclude that exec answers a next state, with what it holds, under conditions on the state and the operands alone; this
statement concludes it for planeTableCommit, colourCommit, planeSlot, laserLine. It rests on choices of the model where the spec leaves
room: log entries 14, 73. -/
def Obligations.Projection : Prop :=
  (∀ dt rq (i : Fin 4) s, Served s dt rq (K (0x4500 + i) 4) 1 →
    planeCheck s.com i ((s.dom (K (0x4500 + i) 3)).getD (planeBytes planeDefault)) = 0 →
    Does (.planeTableCommit dt rq i) s [.armed, .ln, .ports, .clients] (fun k => k = K (0x4500 + i) 5 ∨ k = K (0x4500 + i) 6) fun t =>
      t.answered rq (K (0x4500 + i) 4) ok ∧ t.get (K (0x4500 + i) 5) = s.landingFrame % 2 ^ 32 ∧ t.get (K (0x4500 + i) 6) = 0 ∧
      t.armed.any (fun a => a.item == K (0x4500 + i) 4 && a.landing == s.landingFrame &&
        a.doms == [(K (0x4500 + i) 3, (s.dom (K (0x4500 + i) 3)).getD (planeBytes planeDefault))]) = true) ∧
  (∀ dt rq (i : Fin 4) s, Served s dt rq (K (0x4500 + i) 4) 1 →
    planeCheck s.com i ((s.dom (K (0x4500 + i) 3)).getD (planeBytes planeDefault)) ≠ 0 →
    Does (.planeTableCommit dt rq i) s [.ports, .clients] (fun k => k = K (0x4500 + i) 6) fun t =>
      t.answered rq (K (0x4500 + i) 4) (0x0403, planeCheck s.com i ((s.dom (K (0x4500 + i) 3)).getD (planeBytes planeDefault)))) ∧
  (∀ dt rq (i : Fin 4) s, Served s dt rq (K (0x4530 + i) 3) 1 →
    colourCheck s.com i ((s.dom (K (0x4530 + i) 2)).getD colourDefault) ((s.snap (keys (0x4530 + i) 4 0x0A)).map (·.2)) = 0 →
    Does (.colourCommit dt rq i) s [.armed, .ln, .ports, .clients] (fun k => k = K (0x4530 + i) 0x1C) fun t =>
      t.answered rq (K (0x4530 + i) 3) ok ∧ t.get (K (0x4530 + i) 0x1C) = 0 ∧
      t.armed.any (fun a => a.item == K (0x4530 + i) 3 && a.landing == s.landingFrame && a.vals == s.snap (keys (0x4530 + i) 4 0x0A)) = true) ∧
  (∀ dt rq (i : Fin 4) s, Served s dt rq (K (0x4530 + i) 3) 1 →
    colourCheck s.com i ((s.dom (K (0x4530 + i) 2)).getD colourDefault) ((s.snap (keys (0x4530 + i) 4 0x0A)).map (·.2)) ≠ 0 →
    Does (.colourCommit dt rq i) s [.ports, .clients] (fun k => k = K (0x4530 + i) 0x1C) fun t =>
      t.answered rq (K (0x4530 + i) 3)
        (0x0403, colourCheck s.com i ((s.dom (K (0x4530 + i) 2)).getD colourDefault) ((s.snap (keys (0x4530 + i) 4 0x0A)).map (·.2)))) ∧
  (∀ dt (i : Fin 4) (k : Fin 32) s, s.srcOn i = true → s.srcType i = 2 → s.fs.running = true → k.val < (s.planes4 i).length →
    s.upd.waits = none → s.domState 0x17 = 0 →
    Does (.planeSlot dt i k) s [.prj, .ln, .pcg]
      (fun j => j = K (0x4500 + i) 0x0B ∨ j = K (0x4530 + i) 0x1B ∨ 0x4400 ≤ j / 256 ∧ j / 256 ≤ 0x4407) fun t =>
      (t.ptu i).slot = some k.val ∧ (t.ptu i).pulses = [] ∧ (s.emits i = false → (t.ptu i).drive = [])) ∧
  (∀ dt (i : Fin 4) (h : Nat) s, s.srcOn i = true → s.srcType i = 3 → s.fs.running = true → h < 2 * s.act (K (0x4520 + i) 1) →
    s.upd.waits = none → s.domState 0x17 = 0 →
    Does (.laserLine dt i h) s [.prj, .pcg] (fun j => 0x4520 + i = j / 256 ∧ (j % 256 = 0x0B ∨ j % 256 = 0x0C ∨ j % 256 = 0x0E) ∨ j = K (0x4530 + i) 0x1B) fun t =>
      (t.ptu i).slot = some h ∧ (t.ptu i).drive = [] ∧ (s.emits i = false → (t.ptu i).pulses = [])) ∧
  (∀ dt (i : Fin 4) (k : Fin 32) s, s.fs.running = false ∨ s.srcOn i = false → s.upd.waits = none →
    Does (.planeSlot dt i k) s [] (fun _ => False) fun t => t.prj = s.prj) ∧
  (∀ dt (i : Fin 4) (h : Nat) s, s.fs.running = false ∨ s.srcOn i = false → s.upd.waits = none →
    Does (.laserLine dt i h) s [] (fun _ => False) fun t => t.prj = s.prj)

/-- Scan Guard (R255–R257): an enabled guard trips at a failed condition, with its cause, its count and the time, and is latched at the
third trip within 10 s; a stabilising guard starts again; one whose conditions have held for T_stab is enabled. Completion: Does and Gives
conclude that exec answers a next state, with what it holds, under conditions on the state and the operands alone; this statement
concludes it for delayLineUnlock, senseSample, scanGuardStabilised. It rests on choices of the model where the spec leaves room: log entry
75. -/
def Obligations.ScanGuard : Prop :=
  (∀ dt (i : Fin 4) m s, s.srcOn i = true → s.srcType i = 3 → s.act (K (0x4520 + i) 0x0A) = m → m < 2 → s.get (K (0x4540 + m) 7) = 2 →
    (s.guard m).trips = [] → Steady s → s.domState 0x17 = 0 →
    Does (.delayLineUnlock dt i) s lightParts (fun k => 0x3000 ≤ k / 256) fun t =>
      t.get (K (0x4520 + i) 0x0F) = 0 ∧ t.get (K (0x4540 + m) 7) = 0 ∧ t.get (K (0x4540 + m) 9) = 7 ∧
      t.get (K (0x4540 + m) 8) = (s.get (K (0x4540 + m) 8) + 1) % 2 ^ 32) ∧
  (∀ dt (i : Fin 4) m s, s.srcOn i = true → s.srcType i = 3 → s.act (K (0x4520 + i) 0x0A) = m → m < 2 → s.get (K (0x4540 + m) 7) = 2 →
    (s.guard m).trips = [s.now, s.now] → dt < 10000000000 → Steady s → s.domState 0x17 = 0 →
    Does (.delayLineUnlock dt i) s lightParts (fun k => 0x3000 ≤ k / 256) fun t => t.get (K (0x4540 + m) 7) = 3) ∧
  (∀ dt (i : Fin 4) m s, s.srcOn i = true → s.srcType i = 3 → s.act (K (0x4520 + i) 0x0A) = m → m < 2 → s.get (K (0x4540 + m) 7) = 1 →
    s.upd.waits = none → s.domState 0x17 = 0 →
    Does (.delayLineUnlock dt i) s [.prj] (fun k => k = K (0x4520 + i) 0x0F ∨ k = K (0x4540 + m) 7) fun t =>
      t.get (K (0x4520 + i) 0x0F) = 0 ∧ t.get (K (0x4540 + m) 7) = 0) ∧
  (∀ dt (m : Fin 2) (i : Fin 4) h v (limit fault : Fin 4) dll s, limit.val ≠ 0 ∨ fault.val ≠ 0 → s.scanner m = some i.val → s.get (K (0x4540 + m) 7) = 2 → s.act (K (0x4520 + i) 0x0A) = m.val →
    (s.guard m).trips = [] → Steady s → s.domState 0x17 = 0 → s.domState 0x22 = 0 →
    Does (.senseSample dt m h v false limit fault dll) s lightParts (fun k => 0x3000 ≤ k / 256) fun t =>
      t.get (K (0x4540 + m) 7) = 0 ∧ t.get (K (0x4540 + m) 9) = 5 ∧ t.get (K (0x4540 + m) 8) = (s.get (K (0x4540 + m) 8) + 1) % 2 ^ 32) ∧
  (∀ dt (m : Fin 2) h v turn (limit fault : Fin 4) dll s, s.scanner m = none → Steady s →
    Does (.senseSample dt m h v turn limit fault dll) s lightParts (fun k => 0x3000 ≤ k / 256) fun t => t.prj.guards = s.prj.guards) ∧
  (∀ dt (m : Fin 2) a s, (s.guard m).okSince = some a → a + s.get (K (0x4540 + m) 6) * 1000000 ≤ s.now + dt → s.get (K (0x4540 + m) 7) = 1 →
    s.upd.waits = none → s.domState 0x17 = 0 →
    Does (.scanGuardStabilised dt m) s [.prj] (fun k => k = K (0x4540 + m) 7) fun t => t.get (K (0x4540 + m) 7) = 2) ∧
  (∀ dt (m : Fin 2) s, (s.guard m).okSince = none → s.upd.waits = none →
    Does (.scanGuardStabilised dt m) s [] (fun _ => False) fun t => t.prj = s.prj)

/-- Sinks (R261–R273, R280–R288): a period boundary steers the rails in use and gives a rail without tracking code 0; an own period takes
the level of its string for its whole length, and none where the string is off; a sample shows the pin and sets OPEN after its debounce; a
pin that lies high switches its string off until the faults are cleared; a level is taken by a head with host level only. A chain shifts
the levels of the frame milestone, a zero stream in PREOP, and a matrix slot shows its row. Completion: Does and Gives conclude that exec
answers a next state, with what it holds, under conditions on the state and the operands alone; this statement concludes it for
pwmPeriodBoundary, ownPeriodStart, sinkSample, pinHigh, clearFaults, level, chainUpdate, matrixSlot. It rests on choices of the model
where the spec leaves room: log entries 76, 77, 78. -/
def Obligations.Sinks : Prop :=
  (∀ dt v0 v1 v2 v3 s, Calm s [(9, 0x16)] → s.domState 0x22 = 0 → s.domState 0x23 = 0 →
    Does (.pwmPeriodBoundary dt v0 v1 v2 v3) s [.skb, .log, .pcg]
      (fun k => 0x5100 ≤ k / 256 ∧ k / 256 ≤ 0x5107 ∧ k % 256 = 9 ∨ 0x5020 ≤ k / 256 ∧ k / 256 ≤ 0x5023 ∧ 9 ≤ k % 256 ∧ k % 256 ≤ 0x0C) fun t =>
      (∀ n ∈ List.range 4, s.get (K (0x5020 + n) 1) = 0 → t.get (K (0x5020 + n) 9) = 0 ∧ t.get (K (0x5020 + n) 0x0C) = 0) ∧
      (s.railsOn = true → s.get (K 0x5020 1) = 1 → v0 < 1000 ∨ 28000 < v0 → t.get (K 0x5020 9) = s.get (K 0x5020 6) % 2 ^ 16) ∧
      ∀ c ∈ List.range 128, (t.chan c).sampled = false) ∧
  (∀ dt (c : Fin 128) s, s.chanFn c ≠ 0 → s.fs.running = true → s.upd.waits = none →
    Does (.ownPeriodStart dt c) s [.skb] (fun k => k = K (SK c) 0x0D) fun t =>
      (t.chan c).level = (if s.stringsOn c then s.stringLevel (s.headOf c) else 0) ∧
      (bit (s.get (K (SK c) 0x0D)) 5 = true → (t.chan c).amp = 0 ∧ (t.chan c).on = 0) ∧
      (bit (s.get (K (SK c) 0x0D)) 5 = false → (t.chan c).amp = (s.stringDrive (s.headOf c) (t.chan c).level).1) ∧
      bit (t.get (K (SK c) 0x0D)) 4 = false) ∧
  (∀ dt (c : Fin 128) s, s.chanFn c = 0 ∨ s.fs.running = false → s.upd.waits = none →
    Does (.ownPeriodStart dt c) s [] (fun _ => False) fun t => t.skb = s.skb) ∧
  (∀ dt (c : Fin 128) code (reg : Bool) dropped s, 5 * (s.lightWindow c).1 < 4000 → s.upd.waits = none →
    Does (.sinkSample dt c code reg dropped) s [] (fun _ => False) fun t => t.skb = s.skb) ∧
  (∀ dt (c : Fin 128) code (reg : Bool) s, 4000 ≤ 5 * (s.lightWindow c).1 → s.upd.waits = none → s.domState 0x22 = 0 → s.domState 0x23 = 0 →
    Does (.sinkSample dt c code reg true) s [.pcg] (fun k => k = K (SK c) 0x0D) fun t =>
      t.get (K (SK c) 0x0D) = setBit (s.get (K (SK c) 0x0D)) 4 true % 256) ∧
  (∀ dt (c : Fin 128) code s, 4000 ≤ 5 * (s.lightWindow c).1 → (s.lightWindow c).2 = none →
    roundDiv (code % 4096 * 684) 100 < s.get (K (SK c) 7) → s.get (K (SK c) 9) ≤ nth 0 (s.chan c).fails 0 + 1 → 1 ≤ s.get (K (SK c) 9) →
    Calm s [(9, 8)] → s.domState 0x22 = 0 → s.domState 0x23 = 0 →
    Does (.sinkSample dt c code false false) s [.skb, .comp, .log, .pcg] (fun k => 0xA000 ≤ k / 256 ∧ k / 256 ≤ 0xA07F ∧ 0x0A ≤ k % 256 ∧ k % 256 ≤ 0x0D) fun t =>
      t.get (K (SK c) 0x0A) = roundDiv (code % 4096 * 684) 100 ∧ bit (t.get (K (SK c) 0x0D)) 0 = true ∧ (t.chan c).sampled = true) ∧
  (∀ dt (c : Fin 128) s, Calm s [(9, 8)] → s.domState 0x23 = 0 →
    Does (.pinHigh dt c) s [.skb, .log] (fun k => 0xA000 ≤ k / 256 ∧ k / 256 ≤ 0xA07F ∧ k % 256 = 0x0D) fun t =>
      (t.chan c).amp = 0 ∧ (t.chan c).on = 0 ∧ bit (t.get (K (SK c) 0x0D)) 2 = true ∧
      ∀ d ∈ (if s.chanFn c = 0 then [c.val] else s.string (s.headOf c)), bit (t.get (K (SK d) 0x0D)) 5 = true) ∧
  (∀ dt rq (c : Fin 128) s, Served s dt rq (K (SK c) 0x0E) 1 →
    Does (.clearFaults dt rq c) s [.skb, .log, .ports, .clients] (fun k => 0xA000 ≤ k / 256 ∧ k / 256 ≤ 0xA07F ∧ k % 256 = 0x0D) fun t =>
      t.answered rq (K (SK c) 0x0E) ok ∧ field (t.get (K (SK c) 0x0D)) 3 0 = 0 ∧
      ∀ d ∈ (if s.chanFn c = 0 then [c.val] else s.string (s.headOf c)), bit (t.get (K (SK d) 0x0D)) 5 = false) ∧
  (∀ dt rq (c : Fin 128) v s, Served s dt rq (K (SK c) 4) v → s.chanFn c = 1 →
    Does (.level dt rq c v) s [.ports, .clients] (fun k => k = K (SK c) 4) fun t => t.answered rq (K (SK c) 4) ok ∧ t.get (K (SK c) 4) = v) ∧
  (∀ dt rq (c : Fin 128) v s, Served s dt rq (K (SK c) 4) v → s.chanFn c ≠ 1 →
    Does (.level dt rq c v) s [.ports, .clients] (fun _ => False) fun t => t.answered rq (K (SK c) 4) (0x0402, 0)) ∧
  (∀ dt (n : Fin 2) rb s, s.chainMode n ≠ 0 → s.mode ≠ .safe → Calm s [(9, 9)] → s.domState 0x23 = 0 → s.domState 0x24 = 0 →
    Does (.chainUpdate dt n rb) s [.skb, .doms, .log, .pcg] (fun k => k = K (0x5200 + n) 9 ∨ k = K (0x5200 + n) 0x0A) fun t =>
      ((nth ⟨[], none, 0⟩ t.skb.chains n).stream = some (if s.chainMode n = 1 then List.replicate (6 * s.get (K (0x5200 + n) 2)) 0
        else s.chainStream n (nth ⟨[], none, 0⟩ s.skb.chains n).levels)) ∧
      t.dom (K (0x5200 + n) 8) = some (slice rb 0 (6 * s.get (K (0x5200 + n) 2))) ∧ bit (t.get (K (0x5200 + n) 9)) 0 = true) ∧
  (∀ dt (r : Fin 16) i s, s.matrixSrc = some i → r.val < s.matRows → s.fs.running = true → s.upd.waits = none → s.domState 0x17 = 0 → s.domState 0x22 = 0 → s.domState 0x23 = 0 →
    Does (.matrixSlot dt r) s [.skb]
      (fun k => k = K 0x5300 8 ∨ k = K 0x5300 0x0A ∨ 0xA000 ≤ k / 256 ∧ k / 256 ≤ 0xA07F ∧ k % 256 = 0x0D) fun t =>
      (t.skb.show_.map (·.row)) = some r.val ∧ (s.matEmits i = false → ∀ m ∈ t.skb.show_, ∀ c ∈ m.cols, c.1 = 0 ∧ c.2.1 = 0)) ∧
  (∀ dt (r : Fin 16) s, s.matrixSrc = none → s.upd.waits = none → Does (.matrixSlot dt r) s [] (fun _ => False) fun t => t.skb = s.skb)

/-- Tables that a download brings (R278, R304): a program of valid instructions, a target table of outputs that exist and are free, and a
slot's table are taken and in force; an invalid one is refused with its detail and leaves the old one. Completion: Does and Gives conclude
that exec answers a next state, with what it holds, under conditions on the state and the operands alone; this statement concludes it for
program, targetTable, table. -/
def Obligations.EngineTables : Prop :=
  (∀ dt (c : Client) (e : Fin 8) x s, s.xferOf c = some x → x.upload = false → x.last = true → x.key = K (0x5100 + e) 1 → s.serverUp = true →
    (s.tick dt).gateOf x.key = .open_ → s.upd.waits = none → x.data.length = x.total → s.engState e ≠ 1 → programOk x.data (s.get (K (0x5100 + e) 3)) = true →
    Does (.program dt c e) s [.doms, .activeDoms, .xfers, .ports, .clients] (fun _ => False) fun t =>
      t.program e = x.data ∧ t.dom (K (0x5100 + e) 1) = some x.data ∧ t.xferOf c = none ∧ t.lastReply c = some (codePdu 0x87 x.tag x.key ok)) ∧
  (∀ dt (c : Client) (e : Fin 8) x s, s.xferOf c = some x → x.upload = false → x.last = true → x.key = K (0x5100 + e) 1 → s.serverUp = true →
    (s.tick dt).gateOf x.key = .open_ → s.upd.waits = none → x.data.length = x.total → s.engState e ≠ 1 → programOk x.data (s.get (K (0x5100 + e) 3)) = false →
    Does (.program dt c e) s [.xfers, .ports, .clients] (fun _ => False) fun t =>
      t.lastReply c = some (codePdu 0x87 x.tag x.key (0x0403, 0x5006))) ∧
  (∀ dt (c : Client) (e : Fin 8) x s, s.xferOf c = some x → x.upload = false → x.last = true → x.key = K (0x5100 + e) 2 → s.serverUp = true →
    (s.tick dt).gateOf x.key = .open_ → s.upd.waits = none → x.data.length = x.total → s.engState e ≠ 1 → (targetsOf x.data (x.data.length / 10)).all s.targetOk = true →
    (targetsOf x.data (x.data.length / 10)).all (fun u => u.kind == 1) = true →
    s.claimBlock (s.targetClaims e (targetsOf x.data (x.data.length / 10))) (0x300 + e) = none →
    Does (.targetTable dt c e) s [.claims, .doms, .activeDoms, .xfers, .ports, .clients] (fun _ => False) fun t =>
      t.targets e = targetsOf x.data (x.data.length / 10) ∧ t.lastReply c = some (codePdu 0x87 x.tag x.key ok) ∧
      (s.targetClaims e (targetsOf x.data (x.data.length / 10))).all (fun r => t.owner r == 0x300 + e) = true) ∧
  (∀ dt (c : Client) (e : Fin 8) x s, s.xferOf c = some x → x.upload = false → x.last = true → x.key = K (0x5100 + e) 2 → s.serverUp = true →
    (s.tick dt).gateOf x.key = .open_ → s.upd.waits = none → x.data.length = x.total → s.engState e ≠ 1 → (targetsOf x.data (x.data.length / 10)).all s.targetOk = false →
    Does (.targetTable dt c e) s [.xfers, .ports, .clients] (fun _ => False) fun t =>
      t.lastReply c = some (codePdu 0x87 x.tag x.key (0x0403, 0x5007))) ∧
  (∀ dt (c : Client) (n : Fin 8) x s, s.xferOf c = some x → x.upload = false → x.last = true → x.key = K (LS n) 0x18 → s.serverUp = true →
    (s.tick dt).gateOf x.key = .open_ → s.upd.waits = none → x.data.length = x.total →
    Does (.table dt c n) s [.doms, .lpe, .xfers, .ports, .clients] (fun _ => False) fun t =>
      if tableOk x.data = true then (t.slot n).table = some x.data ∧ t.lastReply c = some (codePdu 0x87 x.tag x.key ok)
      else t.lpe = s.lpe ∧ t.dom x.key = s.dom x.key ∧ t.lastReply c = some (codePdu 0x87 x.tag x.key (0x0403, 0x6005)))

/-- Pattern engines (R274–R276, R279): a start runs the program from its first instruction with counters and value cleared, and a stop
ends it; an instruction that takes no time acts and moves the program counter, more than 32 of them in a row make a FAULT; one that takes
time waits, and its end goes on; an engine that does not stand at the instruction is left as it is. Completion: Does and Gives conclude
that exec answers a next state, with what it holds, under conditions on the state and the operands alone; this statement concludes it for
engineStart, engineStop, set, ramp, hold, loop, jump, waitMs, waitTime, timedInstructionEnd. It rests on choices of the model where the
spec leaves room: log entries 79, 80. -/
def Obligations.Engines : Prop :=
  (∀ dt rq (e : Fin 8) s, Served s dt rq (K (0x5100 + e) 4) 1 → s.mode ≠ .preop →
    Does (.engineStart dt rq e) s [.skb, .ports, .clients] (fun k => k / 256 = 0x5100 + e ∧ 7 ≤ k % 256 ∧ k % 256 ≤ 9) fun t =>
      t.answered rq (K (0x5100 + e) 4) ok ∧ t.engState e = 1 ∧ t.pc e = 0 ∧ (t.engine e).value = 0 ∧ (t.engine e).counters = [none, none] ∧
      (t.engine e).wait = .none) ∧
  (∀ dt rq (e : Fin 8) s, Served s dt rq (K (0x5100 + e) 4) 1 → s.mode = .preop →
    Does (.engineStart dt rq e) s [.ports, .clients] (fun _ => False) fun t => t.answered rq (K (0x5100 + e) 4) (0x0401, s.mode.code)) ∧
  (∀ dt rq (e : Fin 8) s, Served s dt rq (K (0x5100 + e) 4) 2 →
    Does (.engineStop dt rq e) s [.skb, .ports, .clients] (fun k => k / 256 = 0x5100 + e ∧ (k % 256 = 7 ∨ k % 256 = 9)) fun t =>
      t.answered rq (K (0x5100 + e) 4) ok ∧ t.engState e = 0) ∧
  (∀ dt (e : Fin 8) s, s.engDue e 1 = true → (s.engine e).untimed < 32 → s.pc e + 1 < (s.program e).length / 4 → s.pc e < 255 →
    s.upd.waits = none → s.domState 0x22 = 0 → s.domState 0x23 = 0 →
    Does (.set dt e) s [.skb] (fun k => k / 256 = 0x5100 + e ∧ (k % 256 = 8 ∨ k % 256 = 9)) fun t =>
      (t.engine e).value = field (s.instrAt e) 15 0 ∧ t.pc e = s.pc e + 1 ∧ (t.engine e).untimed = (s.engine e).untimed + 1) ∧
  (∀ dt (e : Fin 8) s, s.engDue e 1 = true → 32 ≤ (s.engine e).untimed → Calm s [(9, 0x14)] → s.domState 0x22 = 0 → s.domState 0x23 = 0 →
    Does (.set dt e) s [.skb, .log] (fun k => k / 256 = 0x5100 + e ∧ 7 ≤ k % 256 ∧ k % 256 ≤ 9) fun t =>
      (t.engine e).value = field (s.instrAt e) 15 0 ∧ t.engState e = 3) ∧
  (∀ dt (e : Fin 8) s, s.engDue e 2 = true → s.upd.waits = none → s.domState 0x22 = 0 → s.domState 0x23 = 0 →
    Does (.ramp dt e) s [.skb] (fun k => k = K (0x5100 + e) 9) fun t =>
      (t.engine e).wait = .ramp (s.engine e).value (field (s.instrAt e) 15 0) (s.now + dt) (field (s.instrAt e) 27 16 * 1000000) ∧
      t.pc e = s.pc e) ∧
  (∀ dt (e : Fin 8) s, s.engDue e 3 = true → s.upd.waits = none → s.domState 0x22 = 0 → s.domState 0x23 = 0 →
    Does (.hold dt e) s [.skb] (fun k => k = K (0x5100 + e) 7 ∨ k = K (0x5100 + e) 9) fun t =>
      if field (s.instrAt e) 27 0 = 0 then t.engState e = 2
      else t.engState e = 1 ∧ (t.engine e).wait = .hold (s.now + dt) (field (s.instrAt e) 27 0 * 1000000)) ∧
  (∀ dt (e : Fin 8) s, s.engDue e 4 = true → nth none (s.engine e).counters (field (s.instrAt e) 27 27) = none →
    2 ≤ field (s.instrAt e) 26 16 → field (s.instrAt e) 4 0 < (s.program e).length / 4 → (s.engine e).untimed < 32 →
    s.upd.waits = none → s.domState 0x22 = 0 → s.domState 0x23 = 0 →
    Does (.loop dt e) s [.skb] (fun k => k / 256 = 0x5100 + e ∧ (k % 256 = 8 ∨ k % 256 = 9)) fun t =>
      t.pc e = field (s.instrAt e) 4 0 ∧ nth none (t.engine e).counters (field (s.instrAt e) 27 27) = some (field (s.instrAt e) 26 16 - 1)) ∧
  (∀ dt (e : Fin 8) s, s.engDue e 4 = true → nth none (s.engine e).counters (field (s.instrAt e) 27 27) = some 1 →
    s.pc e + 1 < (s.program e).length / 4 → s.pc e < 255 → (s.engine e).untimed < 32 → s.upd.waits = none → s.domState 0x22 = 0 → s.domState 0x23 = 0 →
    Does (.loop dt e) s [.skb] (fun k => k / 256 = 0x5100 + e ∧ (k % 256 = 8 ∨ k % 256 = 9)) fun t =>
      t.pc e = s.pc e + 1 ∧ nth none (t.engine e).counters (field (s.instrAt e) 27 27) = none) ∧
  (∀ dt (e : Fin 8) s, s.engDue e 5 = true → field (s.instrAt e) 4 0 < (s.program e).length / 4 → (s.engine e).untimed < 32 → s.upd.waits = none → s.domState 0x22 = 0 → s.domState 0x23 = 0 →
    Does (.jump dt e) s [.skb] (fun k => k / 256 = 0x5100 + e ∧ (k % 256 = 8 ∨ k % 256 = 9)) fun t => t.pc e = field (s.instrAt e) 4 0) ∧
  (∀ dt (e : Fin 8) s, s.engDue e 6 = true → 1 ≤ field (s.instrAt e) 15 0 → s.upd.waits = none → s.domState 0x22 = 0 → s.domState 0x23 = 0 →
    Does (.waitMs dt e) s [.skb] (fun k => k = K (0x5100 + e) 9) fun t => (t.engine e).wait = .frames (field (s.instrAt e) 15 0)) ∧
  (∀ dt (e : Fin 8) s, s.engDue e 7 = true → s.upd.waits = none → s.domState 0x22 = 0 → s.domState 0x23 = 0 →
    Does (.waitTime dt e) s [.skb] (fun k => k = K (0x5100 + e) 9) fun t => (t.engine e).wait = .time (field (s.instrAt e) 23 0)) ∧
  (∀ dt (e : Fin 8) a v (b : Nat) l s, s.engState e = 1 → (s.engine e).wait = .ramp a v b l → b + l ≤ s.now + dt → s.pc e + 1 < (s.program e).length / 4 →
    s.pc e < 255 → s.upd.waits = none → s.domState 0x22 = 0 → s.domState 0x23 = 0 →
    Does (.timedInstructionEnd dt e) s [.skb] (fun k => k / 256 = 0x5100 + e ∧ (k % 256 = 8 ∨ k % 256 = 9)) fun t =>
      (t.engine e).value = v ∧ (t.engine e).wait = .none ∧ t.pc e = s.pc e + 1) ∧
  (∀ dt (e : Fin 8) (b : Nat) l s, s.engState e = 1 → (s.engine e).wait = .hold b l → s.now + dt < b + l → s.upd.waits = none →
    Does (.timedInstructionEnd dt e) s [] (fun _ => False) fun t => t.skb = s.skb) ∧
  (∀ dt (e : Fin 8) op s, s.engState e ≠ 1 → s.upd.waits = none →
    op ∈ [Instr.set dt e, .ramp dt e, .hold dt e, .loop dt e, .jump dt e, .waitMs dt e, .waitTime dt e, .timedInstructionEnd dt e] →
    Does op s [] (fun _ => False) fun t => t.skb = s.skb)

/-- Loop slots (R297–R310, R313, R322): slot command 1 checks the configuration and starts the slot with its claims, command 2 stops it at
its next boundary, command 3 sends a CLOSED slot into DETOUR at its next boundary with cause 5, command 4 asks for the return; at a
boundary the output computed before is applied, and a stop sets it to 0 and frees the slot; between boundaries nothing is sampled; a slot
whose computation does not complete because the slots need more cycles than the LOOP clock has holds its output and enters FAULT; a slot
that has not closed in time enters FAULT; a gain commit waits for the boundary. Completion: Does and Gives conclude that exec answers a
next state, with what it holds, under conditions on the state and the operands alone; this statement concludes it for slotStart, slotStop,
enterDetour, leaveDetour, gainCommit, loopSample, startTimeout. It rests on choices of the model where the spec leaves room: log entries
193, 194, 195, 196. -/
def Obligations.LoopSlots : Prop :=
  (∀ dt rq (n : Fin 8) s, Served s dt rq (K (LS n) 0x27) 1 → s.mode = .preop ∨ s.mode = .operate ∨ s.mode = .safe → s.slotRuns n = false →
    s.slotCheckCfg n = 0 → s.claimBlock (s.slotRecs n) (slotOwner n) = none →
    Does (.slotStart dt rq n) s [.claims, .lpe, .ports, .clients]
      (fun k => k = K (LS n) 0x28 ∨ k = K 0x6000 1 ∨ 0x6040 ≤ k / 256 ∧ k / 256 ≤ 0x6041 ∧ k % 256 = 0x0A ∨
        k / 256 = 0x6030 + s.lsPort n ∧ (k % 256 = 0x12 ∨ k % 256 = 0x14)) fun t =>
      t.answered rq (K (LS n) 0x27) ok ∧ (t.slotState n = 1 ∨ t.slotState n = 2 ∨ t.slotState n = 5) ∧ (t.slot n).startAt = s.now + dt ∧
      (t.slot n).k = 0 ∧ (t.slot n).gains = gainSubs.map (fun u => (u, s.get (K (LS n) u))) ∧
      (s.slotRecs n).all (fun r => t.owner r == slotOwner n) = true) ∧
  (∀ dt rq (n : Fin 8) s, Served s dt rq (K (LS n) 0x27) 1 → s.mode = .preop ∨ s.mode = .operate ∨ s.mode = .safe → s.slotRuns n = true →
    Does (.slotStart dt rq n) s [.ports, .clients] (fun _ => False) fun t => t.answered rq (K (LS n) 0x27) (0x0402, 0)) ∧
  (∀ dt rq (n : Fin 8) s, Served s dt rq (K (LS n) 0x27) 1 → s.mode = .preop ∨ s.mode = .operate ∨ s.mode = .safe → s.slotRuns n = false →
    s.slotCheckCfg n ≠ 0 →
    Does (.slotStart dt rq n) s [.ports, .clients] (fun _ => False) fun t => t.answered rq (K (LS n) 0x27) (0x0403, s.slotCheckCfg n)) ∧
  (∀ dt rq (n : Fin 8) s, Served s dt rq (K (LS n) 0x27) 2 → s.slotRuns n = true → s.slotSrc n = none → s.get (K 0x3010 0x0A) ≠ n →
    Does (.slotStop dt rq n) s [.lpe, .ports, .clients] (fun _ => False) fun t =>
      t.answered rq (K (LS n) 0x27) ok ∧ (t.slot n) = { s.slot n with stop := true }) ∧
  (∀ dt rq (n : Fin 8) s, Served s dt rq (K (LS n) 0x27) 2 → s.slotSrc n ≠ none →
    Does (.slotStop dt rq n) s [.ports, .clients] (fun _ => False) fun t => t.answered rq (K (LS n) 0x27) (0x0402, 0)) ∧
  (∀ dt rq (n : Fin 8) s, Served s dt rq (K (LS n) 0x27) 3 → s.slotState n = 2 →
    Does (.enterDetour dt rq n) s [.lpe, .ports, .clients] (fun _ => False) fun t =>
      t.answered rq (K (LS n) 0x27) ok ∧ (t.slot n).detour = some 5) ∧
  (∀ dt rq (n : Fin 8) s, Served s dt rq (K (LS n) 0x27) 3 → s.slotState n ≠ 2 →
    Does (.enterDetour dt rq n) s [.ports, .clients] (fun _ => False) fun t => t.answered rq (K (LS n) 0x27) (0x0402, 0)) ∧
  (∀ dt rq (n : Fin 8) s, Served s dt rq (K (LS n) 0x27) 4 → s.slotState n = 3 ∨ s.slotState n = 4 →
    Does (.leaveDetour dt rq n) s [.lpe, .ports, .clients] (fun _ => False) fun t =>
      if (s.slot n).failed = 0 ∧ (s.slot n).persists = false then t.answered rq (K (LS n) 0x27) ok ∧ (t.slot n).leave = true
      else t.answered rq (K (LS n) 0x27) (0x0402, 0) ∧ t.lpe = s.lpe) ∧
  (∀ dt rq (n : Fin 8) s, Served s dt rq (K (LS n) 0x17) 1 → s.slotCheckCfg n = 0 → s.slotRuns n = true →
    Does (.gainCommit dt rq n) s [.lpe, .ports, .clients] (fun _ => False) fun t =>
      t.answered rq (K (LS n) 0x17) ok ∧ (t.slot n).newGains = some (gainSubs.map fun u => (u, s.get (K (LS n) u)))) ∧
  (∀ dt rq (n : Fin 8) s, Served s dt rq (K (LS n) 0x17) 1 → s.slotCheckCfg n ≠ 0 →
    Does (.gainCommit dt rq n) s [.ports, .clients] (fun _ => False) fun t => t.answered rq (K (LS n) 0x17) (0x0403, s.slotCheckCfg n)) ∧
  (∀ dt (n : Fin 8) code aux fault s, s.slotRuns n = true → (s.slot n).stop = true → (s.tick dt).atBoundary n = true →
    (s.tick dt).lpeLoad (s.tick dt).slotRuns ≤ 200000000 * 2 ^ 24 → s.domState 0x22 = 0 → s.upd.waits = none →
    Does (.loopSample dt n code aux fault) s [.claims, .lpe]
      (fun k => k = K (LS n) 0x2B ∨ k = K (LS n) 0x28 ∨ k = K 0x6000 1 ∨ 0x6040 ≤ k / 256 ∧ k / 256 ≤ 0x6041 ∧ k % 256 = 0x0A) fun t =>
      t.slotState n = 0 ∧ t.get (K (LS n) 0x2B) = 0 ∧ (t.slot n).u = 0 ∧ (t.slot n).next = 0) ∧
  (∀ dt (n : Fin 8) code aux fault s, s.slotRuns n = true → (s.slot n).stop = false → (s.tick dt).atBoundary n = true →
    (s.tick dt).lpeLoad (s.tick dt).slotRuns ≤ 200000000 * 2 ^ 24 → s.domState 0x22 = 0 → Steady s →
    Does (.loopSample dt n code aux fault) s lightParts (fun k => 0x3000 ≤ k / 256) fun t =>
      t.get (K (LS n) 0x2B) = (s.slot n).next.toNat ∧ (t.slot n).k = (if s.kind n = 1 ∨ s.kind n = 3 then (s.slot n).k else (s.tick dt).boundary n) + 1) ∧
  (∀ dt (n : Fin 8) code aux fault s, s.slotRuns n = true → (s.tick dt).atBoundary n = true →
    200000000 * 2 ^ 24 < (s.tick dt).lpeLoad (s.tick dt).slotRuns → s.domState 0x22 = 0 → Calm s [(0x0A, 0x0C)] →
    Does (.loopSample dt n code aux fault) s [.lpe, .log]
      (fun k => k = K (LS n) 0x28 ∨ k = K 0x6000 1 ∨ 0x6040 ≤ k / 256 ∧ k / 256 ≤ 0x6041 ∧ k % 256 = 0x0A) fun t =>
      t.slotState n = 6 ∧ (t.slot n).u = (s.slot n).u ∧ (t.slot n).next = (s.slot n).u) ∧
  (∀ dt (n : Fin 8) code aux fault s, s.slotRuns n = false ∨ (s.tick dt).atBoundary n = false → s.upd.waits = none →
    Does (.loopSample dt n code aux fault) s [] (fun _ => False) fun t => t.lpe = s.lpe) ∧
  (∀ dt (n : Fin 8) s, s.slotState n = 1 → (s.slot n).startAt + s.get (K (LS n) 0x26) * 1000000 ≤ s.now + dt →
    Calm s [(0x0A, 4)] → s.domState 0x22 = 0 →
    Does (.startTimeout dt n) s [.lpe, .log]
      (fun k => k = K (LS n) 0x28 ∨ k = K 0x6000 1 ∨ 0x6040 ≤ k / 256 ∧ k / 256 ≤ 0x613F ∧ k % 256 = 0x0A) fun t =>
      t.slotState n = 6 ∧ (t.slot n).u = 0 ∧ (t.slot n).next = 0) ∧
  (∀ dt (n : Fin 8) s, s.slotState n ≠ 1 ∨ s.now + dt < (s.slot n).startAt + s.get (K (LS n) 0x26) * 1000000 → s.upd.waits = none →
    Does (.startTimeout dt n) s [] (fun _ => False) fun t => t.lpe = s.lpe)

/-- Actuators and Safe Torque Off (R316, R317, R319, R398): an actuator PWM period runs the current loop, two in a row with a phase above
1.5 times the limit put the slot in FAULT; a change of the sensor lines moves the count by one step, and lines that no sensor gives fail
the sensor; STO_N, and a position beyond its travel for 10 ms, put torque off on the member ports; the release alone frees none; a path
that disagrees is counted. Completion: Does and Gives conclude that exec answers a next state, with what it holds, under conditions on the
state and the operands alone; this statement concludes it for currentLoopPeriod, positionCount, stoNAssert, stoNRelease, stoPathMismatch,
travelExcess. It rests on choices of the model where the spec leaves room: log entries 84, 85, 87. -/
def Obligations.ActuatorsAndTorqueOff : Prop :=
  (∀ dt (a : Fin 4) ia ib ic n s, s.actSlot a = some n → (s.actr a).overRun = 0 → s.upd.waits = none →
    Does (.currentLoopPeriod dt a ia ib ic) s [.lpe] (fun k => k = K (0x6030 + a) 0x13 ∨ k = K (0x6030 + a) 0x14) fun t =>
      t.lpe.slots = s.lpe.slots ∧ (t.actr a).count = (s.actr a).count ∧
      (bit (s.get (K 0x6000 5)) a = true → (t.actr a).duty = [0, 0, 0] ∧ bit (t.get (K (0x6030 + a) 0x14)) 3 = false)) ∧
  (∀ dt (a : Fin 4) ia ib ic n s, s.actSlot a = some n → (s.actr a).overRun = 1 →
    F32.lt (F32.mul (s.f (K (0x6030 + a) 0x0E)) 0x3FC00000) (F32.abs (F32.mul (F32.ofInt ia) (s.f (K (0x6030 + a) 0x0D)))) = true →
    Calm s [(0x0A, 0x0B)] → s.domState 0x22 = 0 →
    Does (.currentLoopPeriod dt a ia ib ic) s [.lpe, .log] (fun k => k = K (0x6030 + a) 0x14 ∨ k = K (LS n) 0x28 ∨ k = K 0x6000 1) fun t =>
      t.slotState n = 6 ∧ (t.actr a).duty = [0, 0, 0] ∧ (t.slot n).u = 0 ∧ bit (t.get (K (0x6030 + a) 0x14)) 2 = true) ∧
  (∀ dt (a : Fin 4) ia ib ic s, s.actSlot a = none → s.upd.waits = none →
    Does (.currentLoopPeriod dt a ia ib ic) s [] (fun _ => False) fun t => t.lpe = s.lpe) ∧
  (∀ dt (a : Fin 4) lines s, s.get (K (0x6030 + a) 1) = 1 → s.actSlot a = none → (s.actr a).lines = 0 → lines = 1 ∨ lines = 2 →
    s.upd.waits = none → s.domState 0x22 = 0 →
    Does (.positionCount dt a lines) s [.lpe] (fun k => k = K (0x6030 + a) 0x12 ∨ k = K (0x6030 + a) 0x14) fun t =>
      (t.actr a).count = (s.actr a).count + (if lines = 1 then 1 else -1) ∧ (t.actr a).lines = lines ∧
      bit (t.get (K (0x6030 + a) 0x14)) 1 = false) ∧
  (∀ dt (a : Fin 4) lines s, s.get (K (0x6030 + a) 1) = 0 → lines = 0 ∨ lines = 7 →
    s.upd.waits = none → s.domState 0x22 = 0 →
    Does (.positionCount dt a lines) s [.lpe] (fun k => k = K (0x6030 + a) 0x12 ∨ k = K (0x6030 + a) 0x14) fun t =>
      (t.actr a).count = (s.actr a).count ∧ bit (t.get (K (0x6030 + a) 0x14)) 1 = true ∧
      ∀ n ∈ s.actSlot a, s.slotChecks n = true → (t.slot n).failed ≠ 0) ∧
  (∀ dt s, s.upd.waits = none →
    Does (.stoNAssert dt) s [.lpe]
      (fun k => k = K 0x6000 2 ∨ k = K 0x6000 5 ∨ 0x6030 ≤ k / 256 ∧ k / 256 ≤ 0x6033 ∧ k % 256 = 0x14 ∨
        0x6010 ≤ k / 256 ∧ k / 256 ≤ 0x6017 ∧ k % 256 = 0x28) fun t =>
      t.lpe.sto = true ∧ t.get (K 0x6000 2) = 1 ∧
      ∀ a ∈ s.members, bit (t.get (K 0x6000 5)) a = true ∧ (t.actr a).duty = [0, 0, 0] ∧ bit (t.actr a).causes 0 = true ∧
        ∀ n ∈ s.actSlot a, t.slotState n = 5 ∧ (t.slot n).u = 0) ∧
  (∀ dt s, s.upd.waits = none →
    Does (.stoNRelease dt) s [.lpe] (fun k => k = K 0x6000 2) fun t =>
      t.get (K 0x6000 2) = 0 ∧ t.lpe = { s.lpe with sto := false, stoHighSince := s.now + dt }) ∧
  (∀ dt (a : Fin 4) path s, s.get (K (0x6030 + a) 0x11) = 1 → Calm s [(0x0B, 9)] →
    Does (.stoPathMismatch dt a path) s [.log] (fun k => k = K 0x6000 6) fun t =>
      t.get (K 0x6000 6) = (s.get (K 0x6000 6) + 1) % 2 ^ widthOf (K 0x6000 6)) ∧
  (∀ dt (a : Fin 4) path s, s.get (K (0x6030 + a) 0x11) ≠ 1 → s.upd.waits = none →
    Does (.stoPathMismatch dt a path) s [] (fun _ => False) fun t => t.safe.log = s.safe.log) ∧
  (∀ dt (a : Fin 4) (b : Nat) s, (s.actr a).excessSince = some b → b + 10000000 ≤ s.now + dt → s.ssvOn = true → s.get (K (0x6030 + a) 0x11) = 1 →
    s.upd.waits = none →
    Does (.travelExcess dt a) s [.lpe]
      (fun k => k = K 0x6000 5 ∨ k = K (0x6030 + a) 0x14 ∨ 0x6010 ≤ k / 256 ∧ k / 256 ≤ 0x6017 ∧ k % 256 = 0x28) fun t =>
      bit (t.get (K 0x6000 5)) a = true ∧ bit (t.actr a).causes 2 = true ∧ (t.actr a).duty = [0, 0, 0]) ∧
  (∀ dt (a : Fin 4) s, (s.actr a).excessSince = none → s.upd.waits = none →
    Does (.travelExcess dt a) s [] (fun _ => False) fun t => t.lpe = s.lpe)

/-- Training (R331–R335, R342, R348): a port that may train and is down sends TRAIN on its lanes; a TRAIN block with LOCKED and READY is
counted, one of another form is discarded; the port comes up when every lane has completed, or at its timeout on those that have; with
none it tries again 1 s later; a failed lane is tried alone once every second; a host bit slip moves the block boundary in host mode only.
Completion: Does and Gives conclude that exec answers a next state, with what it holds, under conditions on the state and the operands
alone; this statement concludes it for trainingStart, train, trainingComplete, trainingTimeout, trainingRetry, failedLaneRetry, bitSlip.
It rests on choices of the model where the spec leaves room: log entries 91, 198. -/
def Obligations.Training : Prop :=
  (∀ dt (p : Fin 9) s, s.mayTrain p = true → s.portUp p = false → (s.train p).since = none →
    s.upd.waits = none →
    Does (.trainingStart dt p) s [.tl, .ln] (fun k => k = K 0x4410 5 ∨ 0x4400 ≤ k / 256 ∧ k / 256 ≤ 0x4407 ∧ k % 256 = 0x0A ∨ 0x7010 ≤ k / 256 ∧ k / 256 ≤ 0x7033) fun t =>
      (t.train p).since = some (s.now + dt) ∧ t.portUp p = false ∧
      ∀ l ∈ s.portLanes p, l < 18 → t.laneState l = 2 ∧ (t.lane l).run = 0) ∧
  (∀ dt (p : Fin 9) s, s.mayTrain p = false ∨ s.portUp p = true → s.upd.waits = none →
    Does (.trainingStart dt p) s [] (fun _ => False) fun t => t.ln = s.ln) ∧
  (∀ dt (l : Fin 18) b p s, s.portOfLane l = some p → trainForm b = true → s.laneState l = 2 → s.upd.waits = none →
    Does (.train dt l b) s [.ln] (fun k => k = K (laneIdx l) 5) fun t =>
      (t.lane l).locked = true ∧ (t.lane l).preset = byteAt b 3 ∧ (t.lane l).rates = byteAt b 1 ∧
      (t.lane l).run = (if byteAt b 4 = 3 then (s.lane l).run + 1 else 0) ∧ t.get (K (laneIdx l) 5) = 64) ∧
  (∀ dt (l : Fin 18) b s, trainForm b = false → s.upd.waits = none →
    Does (.train dt l b) s [] (fun _ => False) fun t => t.ln = s.ln) ∧
  (∀ dt (p : Fin 9) s, (s.train p).since ≠ none → (s.train p).switch = none → (s.portLanes p).all (fun l => s.laneState l == 2 && s.laneDone l) = true →
    s.portLanes p ≠ [] → Steady s →
    Does (.trainingComplete dt p) s [.tl, .ln, .log, .pcg]
      (fun k => 0x4400 ≤ k / 256 ∧ k / 256 ≤ 0x4407 ∧ (k % 256 = 0x0A ∨ k % 256 = 0x0E) ∨ 0x7010 ≤ k / 256 ∧ k / 256 ≤ 0x7033) fun t =>
      (t.train p).since = none ∧ t.portUp p = true ∧ ∀ l ∈ s.portLanes p, t.laneState l = 3) ∧
  (∀ dt (p : Fin 9) s, (s.train p).since = none → s.upd.waits = none →
    Does (.trainingComplete dt p) s [] (fun _ => False) fun t => t.ln = s.ln) ∧
  (∀ dt (p : Fin 9) a s, (s.train p).since = some a → a + s.get (K 0x7000 3) * 1000000 ≤ s.now + dt → (s.train p).switch = none →
    s.ln.lanes = Lanes.init.lanes → Calm s [(0x0C, 4)] →
    Does (.trainingTimeout dt p) s [.ln, .log] (fun k => k = K (0x4400 + p) 0x0A) fun t =>
      (t.train p).since = none ∧ (t.train p).retryAt = some (s.now + dt + 1000000000)) ∧
  (∀ dt (p : Fin 9) a s, (s.train p).since = some a → s.now + dt < a + s.get (K 0x7000 3) * 1000000 → s.upd.waits = none →
    Does (.trainingTimeout dt p) s [] (fun _ => False) fun t => t.ln = s.ln) ∧
  (∀ dt (p : Fin 9) a s, (s.train p).retryAt = some a → a ≤ s.now + dt → s.mayTrain p = true → s.upd.waits = none →
    Does (.trainingRetry dt p) s [.tl, .ln] (fun k => k = K 0x4410 5 ∨ 0x4400 ≤ k / 256 ∧ k / 256 ≤ 0x4407 ∧ k % 256 = 0x0A ∨ 0x7010 ≤ k / 256 ∧ k / 256 ≤ 0x7033) fun t =>
      (t.train p).since = some (s.now + dt) ∧ (t.train p).retryAt = none) ∧
  (∀ dt (p : Fin 9) s, (s.train p).retryAt = none → s.upd.waits = none →
    Does (.trainingRetry dt p) s [] (fun _ => False) fun t => t.ln = s.ln) ∧
  (∀ dt (l : Fin 18) p s, s.portOfLane l = some p → s.laneState l = 5 → (s.lane l).triedAt + 1000000000 ≤ s.now + dt →
    s.upd.waits = none →
    Does (.failedLaneRetry dt l) s [.ln] (fun k => k = K (laneIdx l) 2 ∨ k = K (laneIdx l) 5) fun t =>
      (t.lane l).alone = true ∧ (t.lane l).triedAt = s.now + dt ∧ (t.lane l).run = 0) ∧
  (∀ dt (l : Fin 18) s, s.laneState l ≠ 5 ∨ s.portOfLane l = none → s.upd.waits = none →
    Does (.failedLaneRetry dt l) s [] (fun _ => False) fun t => t.ln = s.ln) ∧
  (∀ dt rq (l : Fin 18) s, Served s dt rq (K (laneIdx l) 4) 1 → s.get (K (laneIdx l) 3) = 1 →
    Does (.bitSlip dt rq l) s [.ln, .ports, .clients] (fun k => k = K (laneIdx l) 5) fun t =>
      t.answered rq (K (laneIdx l) 4) ok ∧ t.lane l = { s.lane l with slips := ((s.lane l).slips + 1) % 66, locked := false, run := 0 }) ∧
  (∀ dt rq (l : Fin 18) s, Served s dt rq (K (laneIdx l) 4) 1 → s.get (K (laneIdx l) 3) ≠ 1 →
    Does (.bitSlip dt rq l) s [.ports, .clients] (fun _ => False) fun t => t.answered rq (K (laneIdx l) 4) (0x0402, 0))

/-- Rates (R337–R339): a port switches its rate after the ACK of its BLANK MILESTONE, and its lanes train at the new one; a rate check
window with few enough errors waits for the STATUS after it, one that fails makes the port fall back one rate and step up no more.
Completion: Does and Gives conclude that exec answers a next state, with what it holds, under conditions on the state and the operands
alone; this statement concludes it for rateSwitch, rateCheck. It rests on choices of the model where the spec leaves room: log entry 199.
-/
def Obligations.LaneRates : Prop :=
  (∀ dt (p : Fin 8) (w : Switch) s, (s.train p).switch = some w → w.step = 2 →
    s.upd.waits = none →
    Does (.rateSwitch dt p.castSucc) s [.tl, .ln] (fun k => 0x7010 ≤ k / 256 ∧ k / 256 ≤ 0x7033) fun t =>
      (t.port p).rate = w.target ∧ (t.train p).switch = some { w with step := 3 } ∧ (t.train p).since = some (s.now + dt) ∧
      ∀ l ∈ s.portLanes p, s.laneState l ≠ 5 → t.laneState l = 2) ∧
  (∀ dt (p : Fin 9) s, (s.train p).switch = none → s.wantsStep p = false → s.upd.waits = none →
    Does (.rateSwitch dt p) s [] (fun _ => False) fun t => t.ln = s.ln) ∧
  (∀ dt (p : Fin 8) invalid a s, (s.train p).check = some a → a + s.get (K 0x7000 1) * 1000 ≤ s.now + dt → (s.train p).checkBad = false →
    (s.train p).checkOver = false → invalid ≤ s.get (K 0x7000 2) → s.upd.waits = none →
    Does (.rateCheck dt p invalid) s [.ln] (fun k => k % 256 = 6 ∧ 0x7010 ≤ k / 256 ∧ k / 256 ≤ 0x7033) fun t =>
      t.train p = (if a + s.get (K 0x7000 1) * 1000 ≤ (s.train p).statusAt then { s.train p with check := none } else { s.train p with checkOver := true }) ∧
      t.tl = s.tl) ∧
  (∀ dt (p : Fin 8) invalid a s, (s.train p).check = some a → a + s.get (K 0x7000 1) * 1000 ≤ s.now + dt → (s.train p).checkOver = false → s.get (K 0x7000 2) < invalid →
    1 ≤ s.portRate p → s.upd.waits = none →
    Does (.rateCheck dt p invalid) s [.ln] (fun k => k = K 0x7000 5 ∨ k % 256 = 6 ∧ 0x7010 ≤ k / 256 ∧ k / 256 ≤ 0x7033) fun t =>
      (t.train p).check = none ∧ (t.train p).noStepUp = true ∧ (t.train p).switch.map (·.target) = some (s.portRate p - 1) ∧
      t.get (K 0x7000 5) = (s.get (K 0x7000 5) + 1) % 2 ^ 32) ∧
  (∀ dt (p : Fin 8) invalid s, (s.train p).check = none ∨ (s.train p).checkOver = true → s.upd.waits = none →
    Does (.rateCheck dt p invalid) s [] (fun _ => False) fun t => t.ln = s.ln)

/-- Lane faults and tests (R183, R332, R343–R350): a return lane that loses block lock or delivers nothing for 8 µs, a lane in use that
goes idle without EIDLE, and a forward lane that a LOSS names have failed, each with its cause; EIDLE puts a spare receiver to lane idle;
a re-stripe not complete after 1 ms leaves its group blank. An eye scan runs and ends with its count; a PRBS pattern is refused on a lane
in use, and a lane without one is not in test mode. Completion: Does and Gives conclude that exec answers a next state, with what it
holds, under conditions on the state and the operands alone; this statement concludes it for blockLockLoss, loss, returnLoss,
electricalIdle, eidle, restripeTimeout, eyeScan, eyeScanDone, prbsControl. It rests on choices of the model where the spec leaves room:
log entries 90, 189. -/
def Obligations.LaneFaultsAndTests : Prop :=
  (∀ dt (l : Fin 18) p s, s.portOfLane l = some p → s.portUp p = true → (s.train p).switch = none → s.laneState l = 3 → s.isReturn p l = true →
    Steady s →
    Does (.blockLockLoss dt l) s lightParts (fun k => 0x3000 ≤ k / 256) fun t =>
      t.get (K (laneIdx l) 8) = 1 ∧ t.get (K (laneIdx l) 7) = satN 0xFFFFFFFF (s.get (K (laneIdx l) 7) + 1) ∧
      t.get (K 0x7000 4) = (s.get (K 0x7000 4) + 1) % 2 ^ 32) ∧
  (∀ dt (l : Fin 18) s, s.portOfLane l = none → s.upd.waits = none →
    Does (.blockLockLoss dt l) s [.ln] (fun k => k = K (laneIdx l) 7) fun t => (t.lane l).locked = false ∧ (t.lane l).run = 0) ∧
  (∀ dt (l : Fin 18) n p s, s.portOfLane l = some p → p < 8 → s.portUp p = true → s.isReturn p l = false → n < 4 →
    (s.portLanes p).contains (4 * s.ep p 4 + n) = true → s.laneState (4 * s.ep p 4 + n) = 3 →
    s.portOfLane (4 * s.ep p 4 + n) = some p → Steady s →
    Does (.loss dt l [BitVec.ofNat 8 n, 0, 0, 0, 0, 0, 0]) s lightParts (fun k => 0x3000 ≤ k / 256) fun t =>
      t.get (K (laneIdx (4 * s.ep p 4 + n)) 8) = 2 ∧ (t.lane l).idle = false) ∧
  (∀ dt (l : Fin 18) b s, 4 ≤ byteAt b 0 ∨ s.portOfLane l = none → s.upd.waits = none →
    Does (.loss dt l b) s [] (fun _ => False) fun t => t.ln = s.ln) ∧
  (∀ dt (e : Fin 8) s, (s.port e).trained = true → (s.train e).switch = none → (s.port e).lastRet + 8000 ≤ s.now + dt →
    s.portOfLane (4 * s.ep e 4 + (s.port e).ret) = some e.val → s.laneState (4 * s.ep e 4 + (s.port e).ret) ≠ 5 → Steady s →
    Does (.returnLoss dt e) s lightParts (fun k => 0x3000 ≤ k / 256) fun t => t.get (K (laneIdx (4 * s.ep e 4 + (s.port e).ret)) 8) = 3) ∧
  (∀ dt (e : Fin 8) s, (s.port e).trained = false ∨ s.now + dt < (s.port e).lastRet + 8000 → s.upd.waits = none →
    Does (.returnLoss dt e) s [] (fun _ => False) fun t => t.ln = s.ln) ∧
  (∀ dt (l : Fin 18) p s, s.portOfLane l = some p → s.laneState l = 3 → (s.lane l).idle = false → Steady s →
    Does (.electricalIdle dt l) s lightParts (fun k => 0x3000 ≤ k / 256) fun t => t.get (K (laneIdx l) 8) = 4) ∧
  (∀ dt (l : Fin 18) s, s.laneState l ≠ 3 ∨ (s.lane l).idle = true → s.upd.waits = none →
    Does (.electricalIdle dt l) s [] (fun _ => False) fun t => t.ln = s.ln) ∧
  (∀ dt (l : Fin 18) p s, s.portOfLane l = some p → s.portUp p = true → s.isReturn p l = false → s.upd.waits = none →
    Does (.eidle dt l [0, 0, 0, 0, 0, 0, 0]) s [.ln] (fun k => k = K (laneIdx l) 1) fun t =>
      t.lane l = { s.lane l with idle := true } ∧ t.laneState l = if s.laneState l = 4 ∧ s.get (K (0x7020 + l / 4) 6) = 1 then 1 else s.laneState l) ∧
  (∀ dt (l : Fin 18) b s, b.any (· != 0) = true ∨ s.portOfLane l = none → s.upd.waits = none →
    Does (.eidle dt l b) s [] (fun _ => False) fun t => t.ln = s.ln) ∧
  (∀ dt (g : Fin 4) a n s, s.fs.restripe.find? (fun r => r.1 == g.val) = some (g.val, a, n) → a + 1000000 ≤ s.now + dt → Steady s →
    Does (.restripeTimeout dt g) s lightParts (fun k => 0x3000 ≤ k / 256) fun t =>
      t.fs.restripe.all (fun r => r.1 != g.val) = true ∧ ∀ e ∈ s.epsOfGroup g, t.get (K (0x4400 + e) 0x0A) = 5) ∧
  (∀ dt (g : Fin 4) s, s.fs.restripe = [] → s.upd.waits = none →
    Does (.restripeTimeout dt g) s [] (fun _ => False) fun t => t.fs = s.fs) ∧
  (∀ dt rq (l : Fin 18) v s, Served s dt rq (K (laneIdx l) 0x0C) v → s.get (K (laneIdx l) 0x0B) % 4 ≠ 1 →
    Does (.eyeScan dt rq l v) s [.ports, .clients] (fun k => k = K (laneIdx l) 0x0B ∨ k = K (laneIdx l) 0x0C) fun t =>
      t.answered rq (K (laneIdx l) 0x0C) ok ∧ t.get (K (laneIdx l) 0x0C) = v ∧ t.get (K (laneIdx l) 0x0B) % 4 = 1) ∧
  (∀ dt rq (l : Fin 18) v s, Served s dt rq (K (laneIdx l) 0x0C) v → s.get (K (laneIdx l) 0x0B) % 4 = 1 →
    Does (.eyeScan dt rq l v) s [.ports, .clients] (fun _ => False) fun t => t.answered rq (K (laneIdx l) 0x0C) (0x0402, 0)) ∧
  (∀ dt (l : Fin 18) n s, s.get (K (laneIdx l) 0x0B) % 4 = 1 → s.upd.waits = none →
    Does (.eyeScanDone dt l n) s [] (fun k => k = K (laneIdx l) 0x0B ∨ k = K (laneIdx l) 0x0D) fun t =>
      t.get (K (laneIdx l) 0x0D) = satN 0xFFFFFFFF n ∧ t.get (K (laneIdx l) 0x0B) % 4 = 2) ∧
  (∀ dt (l : Fin 18) n s, s.get (K (laneIdx l) 0x0B) % 4 ≠ 1 → s.upd.waits = none →
    Does (.eyeScanDone dt l n) s [] (fun _ => False) fun t => t.ln = s.ln) ∧
  (∀ dt rq (l : Fin 18) v s, Served s dt rq (K (laneIdx l) 9) v → (∀ e ∈ List.range 8, s.ep e 1 ≠ 1) ∧ s.get (K 0x8600 1) ≠ 1 ∨ field v 7 4 = 0 →
    Does (.prbsControl dt rq l v) s [.ln, .ports, .clients] (fun k => k / 256 = laneIdx l ∧ (k % 256 = 1 ∨ k % 256 = 9 ∨ k % 256 = 0x0A ∨ k % 256 = 0x0B ∨ k % 256 = 0x0D)) fun t =>
      t.answered rq (K (laneIdx l) 9) ok ∧ t.get (K (laneIdx l) 9) = v ∧ t.get (K (laneIdx l) 0x0A) = 0 ∧
      t.get (K (laneIdx l) 0x0B) = s.get (K (laneIdx l) 0x0B) % 4 ∧
      t.get (K (laneIdx l) 0x0D) = (if s.laneState l = 6 ∨ field v 7 4 ≠ 0 then 0 else s.get (K (laneIdx l) 0x0D)) ∧
      t.laneState l = if field v 7 4 ≠ 0 then 6 else if s.laneState l = 6 then 0 else s.laneState l) ∧
  (∀ dt rq (l : Fin 18) v (e : Nat) s, Served s dt rq (K (laneIdx l) 9) v → e < 8 → s.ep e 1 = 1 → l.val < 16 → (s.portLanes e).contains l.val = true →
    field v 7 4 ≠ 0 →
    Does (.prbsControl dt rq l v) s [.ports, .clients] (fun _ => False) fun t => t.answered rq (K (laneIdx l) 9) (0x0402, 0))

/-- Ethernet and video (R356–R370): a port's in-band word shows in its entry; the frame that leaves a port is counted; a frame that fails
the checks of R357 is dropped and counted; a video frame of one PDU is taken whole, one with another format or sequence is dropped with
its reason; a stream commit waits for the entry milestone and is refused while both streams would have one stream ID. Completion: Does and
Gives conclude that exec answers a next state, with what it holds, under conditions on the state and the operands alone; this statement
concludes it for linkStateChange, frameTransmit, ethernetFrame, videoPdu, streamCommit. It rests on choices of the model where the spec
leaves room: log entries 97, 106. -/
def Obligations.EthernetAndVideo : Prop :=
  (∀ dt (p : Fin 2) st s, s.upd.waits = none → s.domState 0x20 = 0 →
    Does (.linkStateChange dt p st) s [] (fun k => k = K (0x7100 + p) 0x0B) fun t => t.get (K (0x7100 + p) 0x0B) = st) ∧
  (∀ dt (p : Fin 2) (x : EthTx) s, nextTx (nth [] s.net.ethTx p) = some x → s.netUp p = true → s.upd.waits = none →
    Does (.frameTransmit dt p) s [.ports, .pcg] (fun k => k = K (0x7100 + p) 0x0E) fun t =>
      nth [] t.net.ethTx p = (nth [] s.net.ethTx p).erase x ∧ t.get (K (0x7100 + p) 0x0E) = (s.get (K (0x7100 + p) 0x0E) + 1) % 2 ^ 32 ∧
      t.net.canTx = s.net.canTx ∧ t.pins.hspiHeld = s.pins.hspiHeld) ∧
  (∀ dt (p : Fin 2) s, s.netUp p = false → s.upd.waits = none →
    Does (.frameTransmit dt p) s [] (fun _ => False) fun t => t.net = s.net) ∧
  (∀ dt (p : Fin 2) fcs b s, s.netUp p = true → macOk fcs b = false → s.upd.waits = none →
    Does (.ethernetFrame dt p fcs b) s [.pcg] (fun k => k = K (0x7100 + p) 0x0F) fun t =>
      t.get (K (0x7100 + p) 0x0F) = (s.get (K (0x7100 + p) 0x0F) + 1) % 2 ^ 32 ∧ t.net = s.net) ∧
  (∀ dt (p : Fin 2) b s, s.netUp p = true → macOk true b = true → s.vlanOk p (parseEth b) = true → s.passes p (parseEth b) b = false →
    (parseEth b).dst = s.act (K (0x7100 + p) 3) → (parseEth b).ethertype = 0x0806 → s.act (K 0x7110 1) ≠ 0 →
    beAt (b.drop (parseEth b).off) 0 8 = 0x0001080006040001 → beAt (b.drop (parseEth b).off) 24 4 = s.act (K 0x7110 1) →
    s.upd.waits = none →
    Does (.ethernetFrame dt p true b) s [.pcg, .ports] (fun k => k = K (0x7100 + p) 0x0D) fun t =>
      t.get (K (0x7100 + p) 0x0D) = (s.get (K (0x7100 + p) 0x0D) + 1) % 2 ^ 32 ∧
      (nth [] t.net.ethTx p).length = (nth [] s.net.ethTx p).length + 1) ∧
  (∀ dt (p : Fin 2) fcs b s, s.netUp p = false → s.upd.waits = none →
    Does (.ethernetFrame dt p fcs b) s [] (fun _ => False) fun t => t.net = s.net) ∧
  (∀ dt (p : Fin 2) sid mac seq b n s, s.netUp p = true → s.vsMatch p sid mac = some n → (s.vs n).asm = .idle → s.videoForm n b = true → (parseVideo b).fs = true →
    (parseVideo b).fe = true → (parseVideo b).line = 0 → (parseVideo b).pix0 = 0 → (parseVideo b).npix = s.act (K (0x7120 + n) 5) →
    s.act (K (0x7120 + n) 6) = 1 → 2 < s.act (K (0x7120 + n) 7) → (parseVideo b).data.length = 2 * s.act (K (0x7120 + n) 5) →
    1 ≤ s.act (K (0x7120 + n) 5) → (s.vs n).newest = none → s.upd.waits = none → s.domState 0x20 = 0 →
    Does (.videoPdu dt p ⟨0x6F, true, 0⟩ sid mac seq b) s [.streams] (fun k => k = K (0x7120 + n) 0x0C ∨ k = K (0x7120 + n) 0x0F) fun t =>
      (t.vs n).newest = some 0 ∧ (t.vs n).asm = .idle ∧ t.get (K (0x7120 + n) 0x0C) = (s.get (K (0x7120 + n) 0x0C) + 1) % 2 ^ 32 ∧
      (t.vs n).doneAt = (s.tick dt).ingressNs p) ∧
  (∀ dt (p : Fin 2) sid mac seq b n s, s.netUp p = true → s.vsMatch p sid mac = some n → (s.vs n).asm = .filling → (parseVideo b).fs = false →
    seq.toNat ≠ ((s.vs n).lastSeq + 1) % 256 → s.upd.waits = none → s.domState 0x20 = 0 →
    Does (.videoPdu dt p ⟨0x6F, true, 0⟩ sid mac seq b) s [.streams] (fun k => k = K (0x7120 + n) 0x0D ∨ k = K (0x7120 + n) 0x0E) fun t =>
      (t.vs n).asm = .skipping ∧ t.get (K (0x7120 + n) 0x0D) = (s.get (K (0x7120 + n) 0x0D) + 1) % 2 ^ 32 ∧ t.get (K (0x7120 + n) 0x0E) = 1 ∧
      (t.vs n).newest = (s.vs n).newest) ∧
  (∀ dt (p : Fin 2) (form : Avtp) sid mac seq b s, form ≠ ⟨0x6F, true, 0⟩ ∨ s.vsMatch p sid mac = none ∨ s.netUp p = false → s.upd.waits = none →
    Does (.videoPdu dt p form sid mac seq b) s [] (fun _ => False) fun t => t.net = s.net) ∧
  (∀ dt rq (n : Fin 2) s, Served s dt rq (K (0x7120 + n) 9) 1 → s.fs.accepted = none → s.act (K (0x7121 - n) 1) = 0 → s.get (K (0x7120 + n) 1) = 0 →
    fixedUnits (s.fixedOf s.act) ≤ s.poolLow → (∀ k ∈ streamKeys n, s.get k = s.act k) →
    Does (.streamCommit dt rq n) s [.fs, .ports, .clients] (fun k => k = K (0x7120 + n) 0x0A ∨ k = K 0x4300 0x14) fun t =>
      t.answered rq (K (0x7120 + n) 9) ok ∧ t.get (K (0x7120 + n) 0x0A) = 0 ∧ t.fs.accepted.isSome = true) ∧
  (∀ dt rq (n : Fin 2) s, Served s dt rq (K (0x7120 + n) 9) 1 → s.fs.accepted = none → s.get (K (0x7120 + n) 1) = 1 → s.act (K (0x7121 - n) 1) = 1 →
    s.get (K (0x7120 + n) 2) = s.act (K (0x7121 - n) 2) →
    Does (.streamCommit dt rq n) s [.ports, .clients] (fun k => k = K (0x7120 + n) 0x0A) fun t =>
      t.answered rq (K (0x7120 + n) 9) (0x0403, 0x7101) ∧ t.get (K (0x7120 + n) 0x0A) = 0x7101)

/-- CAN (R371–R374): the frame that leaves a controller is counted, and none leaves in listen-only mode or bus-off; a frame of a consumer
is counted, one of none takes no buffer; bus-off is recorded and recovers by itself or by command; bus errors move the error counters and
the state, and a transmit counter above 255 means bus-off. Completion: Does and Gives conclude that exec answers a next state, with what
it holds, under conditions on the state and the operands alone; this statement concludes it for canFrameTransmit, canFrame, busOff,
busOffRecovery, recover, canBusError. It rests on choices of the model where the spec leaves room: log entries 103, 104, 105. -/
def Obligations.CanControllers : Prop :=
  (∀ dt (c : Fin 4) (x : CanTx) s, nextCan (s.canQueue c) = some x → s.canUp c = true → s.act (K (0x7140 + c) 2) < 2 →
    s.upd.waits = none →
    Does (.canFrameTransmit dt c) s [.ports, .pcg] (fun k => K (0x7140 + c) 8 ≤ k ∧ k ≤ K (0x7140 + c) 9 ∨ k = K (0x7140 + c) 0x0B) fun t =>
      nth [] t.net.canTx c = (nth [] s.net.canTx c).erase x ∧ t.get (K (0x7140 + c) 0x0B) = (s.get (K (0x7140 + c) 0x0B) + 1) % 2 ^ 32 ∧
      t.out = [.can c x.ident x.data]) ∧
  (∀ dt (c : Fin 4) s, s.canUp c = false ∨ 2 ≤ s.act (K (0x7140 + c) 2) → s.upd.waits = none →
    Does (.canFrameTransmit dt c) s [] (fun _ => False) fun t => t.net = s.net) ∧
  (∀ dt (c : Fin 4) ident b s, s.canUp c = true → s.get (K 0x1200 1) = c.val → s.get (K 0x1200 2) = ident → s.serverUp = false → s.upd.waits = none →
    Does (.canFrame dt c ident false b) s [.pcg, .ports] (fun k => K (0x7140 + c) 8 ≤ k ∧ k ≤ K (0x7140 + c) 0x0A) fun t =>
      t.get (K (0x7140 + c) 0x0A) = (s.get (K (0x7140 + c) 0x0A) + 1) % 2 ^ 32) ∧
  (∀ dt (c : Fin 4) ident fd b s, s.canUp c = false ∨ (fd = true ∧ s.act (K (0x7140 + c) 2) = 1) ∨
      (s.get (K 0x1200 2) ≠ ident ∧ s.guardIdent c ident = false) → s.upd.waits = none →
    Does (.canFrame dt c ident fd b) s [] (fun k => K (0x7140 + c) 8 ≤ k ∧ k ≤ K (0x7140 + c) 9) fun t => t.net = s.net) ∧
  (∀ dt (c : Fin 4) s, s.canUp c = true → Calm s [(0x1B, 7)] →
    Does (.busOff dt c) s [.recovering, .log] (fun k => k = K (0x7140 + c) 8 ∨ k = K (0x7140 + c) 0x0D) fun t =>
      t.get (K (0x7140 + c) 8) = 2 ∧ t.get (K (0x7140 + c) 0x0D) = (s.get (K (0x7140 + c) 0x0D) + 1) % 2 ^ 32 ∧
      nth false t.net.recovering c = (s.get (K (0x7140 + c) 6) == 0) ∧ t.canUp c = false) ∧
  (∀ dt (c : Fin 4) s, s.get (K (0x7140 + c) 8) = 2 → nth false s.net.recovering c = true → s.upd.waits = none → s.domState 0x24 = 0 →
    Does (.busOffRecovery dt c) s [.recovering, .log] (fun k => k = K (0x7140 + c) 8 ∨ k = K (0x7140 + c) 9) fun t =>
      t.get (K (0x7140 + c) 8) = 0 ∧ t.get (K (0x7140 + c) 9) = 0 ∧ nth false t.net.recovering c = false) ∧
  (∀ dt (c : Fin 4) s, nth false s.net.recovering c = false → s.upd.waits = none →
    Does (.busOffRecovery dt c) s [] (fun _ => False) fun t => t.net = s.net) ∧
  (∀ dt rq (c : Fin 4) s, Served s dt rq (K (0x7140 + c) 7) 1 →
    Does (.recover dt rq c) s [.recovering, .ports, .clients] (fun _ => False) fun t =>
      t.answered rq (K (0x7140 + c) 7) ok ∧
      nth false t.net.recovering c = (s.get (K (0x7140 + c) 8) == 2 || nth false s.net.recovering c)) ∧
  (∀ dt (c : Fin 4) tec errs s, s.canUp c = true → 255 < tec → Calm s [(0x1B, 7)] →
    Does (.canBusError dt c tec errs) s [.recovering, .log] (fun k => K (0x7140 + c) 8 ≤ k ∧ k ≤ K (0x7140 + c) 9 ∨ k = K (0x7140 + c) 0x0D) fun t =>
      t.get (K (0x7140 + c) 8) = 2 ∧ t.canUp c = false) ∧
  (∀ dt (c : Fin 4) tec errs s, s.canUp c = true → tec ≤ 255 → s.upd.waits = none →
    Does (.canBusError dt c tec errs) s [] (fun k => k = K (0x7140 + c) 8 ∨ k = K (0x7140 + c) 9) fun t =>
      t.get (K (0x7140 + c) 9) = tec * 256 + satN 255 errs ∧ t.get (K (0x7140 + c) 8) = if 127 < tec ∨ 127 < errs then 1 else 0) ∧
  (∀ dt (c : Fin 4) tec errs s, s.canUp c = false → s.upd.waits = none →
    Does (.canBusError dt c tec errs) s [] (fun _ => False) fun t => t.net = s.net)

/-- ROADBLOCK_N (R394, R395, R397, R557): an accepted low level latches a Roadblock of the sources of the pin mask, a rise latches nothing
and starts the release time, and differences of the balls or of a path from its command are recorded as standing. Completion: Does and
Gives conclude that exec answers a next state, with what it holds, under conditions on the state and the operands alone; this statement
concludes it for roadblockNAssert, roadblockNRelease, roadblockBallMismatch, roadblockPathMismatch. It rests on choices of the model where
the spec leaves room: log entry 125. -/
def Obligations.RoadblockPin : Prop :=
  (∀ dt (ball : Fin 2) s, s.rbPin = false → s.pwr.inReset = false → s.get (K 0x8010 2) ≠ 0 →
    Calm s [(0x12, 0x0E)] →
    Does (.roadblockNAssert dt ball) s [.balls, .paths, .tl, .prj, .lasers, .skb, .log] (fun k => k / 256 = 0x8010) fun t =>
      t.get (K 0x8010 1) = (s.get (K 0x8010 1) ||| s.get (K 0x8010 2)) ∧ t.get (K 0x8010 5) = 1 ∧ t.get (K 0x8010 6) = 1 ∧
      t.safe.path1 = (s.safe.path1 ||| s.get (K 0x8010 2)) ∧ t.safe.path2 = (s.safe.path2 ||| s.get (K 0x8010 2)) ∧
      (t.allBlocked = true → t.mode = .safe ∨ t.mode = .boot)) ∧
  (∀ dt (ball : Fin 2) s, s.pins.rbBalls = [decide (ball = 0), decide (ball = 1)] → s.upd.waits = none →
    Does (.roadblockNRelease dt ball) s [.balls, .log] (fun k => k = K 0x8010 6) fun t =>
      t.pins.rbBalls = [false, false] ∧ t.get (K 0x8010 6) = 0 ∧ t.safe.rbHighSince = s.now + dt ∧ t.get (K 0x8010 1) = s.get (K 0x8010 1)) ∧
  (∀ dt (ball : Fin 2) s, s.pins.rbBalls = [true, true] → s.upd.waits = none →
    Does (.roadblockNRelease dt ball) s [.balls, .log] (fun _ => False) fun t =>
      t.rbPin = true ∧ t.pins.ballsDiffer = some (s.pins.ballsDiffer.getD (s.now + dt))) ∧
  (∀ dt a s, s.pins.ballsDiffer = some a → a + 20000 ≤ s.now + dt → Calm s [(0x12, 6)] → (logSlot s.safe.log 0x12 6 (K 0x8010 6)).isSome = true →
    Does (.roadblockBallMismatch dt) s [.log] (fun _ => False) fun t => t.logActive 0x12 6 (K 0x8010 6) = true) ∧
  (∀ dt (path : Fin 2) s, Calm s [(0x12, 9)] → (logSlot s.safe.log 0x12 9 (path + 1)).isSome = true →
    Does (.roadblockPathMismatch dt path) s [.log] (fun k => k = K 0x8010 7) fun t =>
      t.logActive 0x12 9 (path + 1) = true ∧ t.get (K 0x8010 7) = (s.get (K 0x8010 7) + 1) % 2 ^ 32)

/-- Fault records (R430–R433): a record is logged, active while its cause stands, and stops ALIVE where a rule with ALIVE matches; a cause
that goes clears the active flag; an acknowledge clears latched flags, of safety records only through Guardrail; a rule that is no safety
rule takes a new value, and a safety rule does not. Completion: Does and Gives conclude that exec answers a next state, with what it
holds, under conditions on the state and the operands alone; this statement concludes it for faultRecord, faultCauseCleared,
faultAcknowledge, faultAcknowledgeAll, rule. It rests on choices of the model where the spec leaves room: log entries 13, 53. -/
def Obligations.FaultRecords : Prop :=
  (∀ dt (src kind : Byte) (arg : Word32) standing s, s.pwr.inReset = false → Calm s [(src.toNat, kind.toNat)] →
    (logSlot s.safe.log src.toNat kind.toNat arg.toNat).isSome = true →
    Does (.faultRecord dt src kind arg standing) s [.log] (fun _ => False) fun t =>
      t.logLatched src.toNat kind.toNat arg.toNat = true ∧ (standing = true → t.logActive src.toNat kind.toNat arg.toNat = true) ∧
      (standing = true → (s.rulesFor src.toNat kind.toNat).any (fun r => bit r 4) = true →
        t.safe.aliveP = false ∧ t.get (K 0x8400 1) = 0)) ∧
  (∀ dt (src kind : Byte) (arg : Word32) s, s.upd.waits = none →
    Does (.faultCauseCleared dt src kind arg) s [.log] (fun _ => False) fun t =>
      t.logActive src.toNat kind.toNat arg.toNat = false ∧
      t.logLatched src.toNat kind.toNat arg.toNat = s.logLatched src.toNat kind.toNat arg.toNat) ∧
  (∀ dt rq n (e : LogE) s, Served s dt rq (K 0x8100 3) n → n ≠ 0xFF → s.logEntry n = some e → e.safety = false →
    Does (.faultAcknowledge dt rq n) s [.log, .ports, .clients] (fun _ => False) fun t =>
      t.answered rq (K 0x8100 3) ok ∧ t.logEntry n = some { e with latched := false }) ∧
  (∀ dt rq n (e : LogE) s, Served s dt rq (K 0x8100 3) n → n ≠ 0xFF → s.logEntry n = some e → e.safety = true →
    Does (.faultAcknowledge dt rq n) s [.ports, .clients] (fun _ => False) fun t => t.answered rq (K 0x8100 3) (0x0205, 0)) ∧
  (∀ dt rq s, Served s dt rq (K 0x8100 3) 0xFF →
    Does (.faultAcknowledgeAll dt rq) s [.log, .ports, .clients] (fun _ => False) fun t =>
      t.answered rq (K 0x8100 3) ok ∧
      t.safe.log = s.safe.log.map (fun e => e.map fun x => if !x.active && !x.safety then { x with latched := false } else x) ∧
      t.get (K 0x8100 6) = if bit (s.get (K 0x8100 6)) 1 then s.get (K 0x8100 6) else 0) ∧
  (∀ dt rq (n : Fin 64) v s, Served s dt rq (K 0x8120 (n + 1)) v → bit (s.get (K 0x8120 (n + 1))) 6 = false → bit v 6 = false →
    bit v 2 = false →
    Does (.rule dt rq n v) s [.ports, .clients] (fun k => k = K 0x8120 (n + 1)) fun t =>
      t.answered rq (K 0x8120 (n + 1)) ok ∧ t.get (K 0x8120 (n + 1)) = v) ∧
  (∀ dt rq (n : Fin 64) v s, Served s dt rq (K 0x8120 (n + 1)) v → bit (s.get (K 0x8120 (n + 1))) 6 = true →
    Does (.rule dt rq n v) s [.ports, .clients] (fun _ => False) fun t => t.answered rq (K 0x8120 (n + 1)) (0x0301, 0))

/-- ALIVE, the voter and the diagnostics (R409, R410, R425, R426, R434): a voted toggle inverts ALIVE_P while no stop is in force, silence
and a readback difference stop it, a core that disagrees leaves the vote and rejoins it, the second failure is a Roadblock of every
source, and the checks leave their results. Completion: Does and Gives conclude that exec answers a next state, with what it holds, under
conditions on the state and the operands alone; this statement concludes it for aliveToggle, coreResyncComplete, aliveSilence,
aliveReadbackMismatch, configurationIntegrityCheck, latentTest. It rests on choices of the model where the spec leaves room: log entries
122, 123, 124, 203. -/
def Obligations.AliveAndVoter : Prop :=
  (∀ dt s, s.ssvOn = true → s.safe.lastToggle + 495000 ≤ s.now + dt → s.safe.voterFailed = false → s.safe.cores = [true, true, true] → s.aliveStop = 0 → s.allBlocked = false →
    s.upd.waits = none →
    Does (.aliveToggle dt [7]) s [] (fun _ => False) fun t =>
      t.safe.aliveP = !s.safe.aliveP ∧ t.safe.aliveN = s.safe.aliveP ∧ t.get (K 0x8400 1) = 1 ∧ t.get (K 0x8400 2) = 0 ∧ t.safe.lastToggle = s.now + dt) ∧
  (∀ dt s, s.ssvOn = true → s.safe.lastToggle + 495000 ≤ s.now + dt → s.safe.voterFailed = false → s.safe.cores = [true, true, true] → Calm s [(0x10, 0x0F)] →
    Does (.aliveToggle dt [3]) s [.cores, .log] (fun k => k / 256 = 0x8300) fun t =>
      t.safe.cores = [true, true, false] ∧ t.get (K 0x8300 1) = 1 ∧ t.get (K 0x8300 7) = (s.get (K 0x8300 7) + 1) % 2 ^ 32) ∧
  (∀ dt s, s.ssvOn = true → s.safe.lastToggle + 495000 ≤ s.now + dt → s.safe.voterFailed = false → s.safe.cores = [true, true, false] → Calm s [(0x10, 0x0F), (0x12, 0x13)] →
    Does (.aliveToggle dt [1]) s [.cores, .paths, .tl, .prj, .lasers, .skb, .log] (fun k => k / 256 = 0x8300 ∨ k / 256 = 0x8010) fun t =>
      t.safe.voterFailed = true ∧ t.get (K 0x8300 1) = 3 ∧ t.get (K 0x8010 1) = (s.get (K 0x8010 1) ||| 15) ∧ t.get (K 0x8010 5) = 4) ∧
  (∀ dt (c : Fin 3) s, s.safe.cores = [decide (c ≠ 0), decide (c ≠ 1), decide (c ≠ 2)] → s.safe.voterFailed = false → s.upd.roll = none →
    Calm s [(0x10, 0x12)] →
    Does (.coreResyncComplete dt c) s [.cores, .log] (fun k => k / 256 = 0x8300) fun t =>
      t.safe.cores = [true, true, true] ∧ t.get (K 0x8300 1) = 0 ∧ t.get (K 0x8300 4) = c ∧
      t.get (K 0x8300 3) = (s.get (K 0x8300 3) + 1) % 2 ^ 32) ∧
  (∀ dt s, s.ssvOn = true → s.safe.silent = false → s.safe.lastToggle + 600000 ≤ s.now + dt → Calm s [(0x1F, 4)] →
    Does (.aliveSilence dt) s [.log] (fun _ => False) fun t => t.safe.silent = true ∧ t.safe.aliveP = false ∧ t.safe.aliveN = false ∧ t.get (K 0x8400 1) = 0) ∧
  (∀ dt (pin : Fin 2) s, Calm s [(0x1F, 9)] →
    Does (.aliveReadbackMismatch dt pin) s [.log] (fun k => k = K 0x8400 4) fun t =>
      t.safe.aliveReadback = true ∧ t.safe.aliveP = false ∧ t.get (K 0x8400 1) = 0 ∧ t.get (K 0x8400 4) = (s.get (K 0x8400 4) + 1) % 2 ^ 32) ∧
  (∀ dt (b : Fin 6) a s, Calm s [(nth 3 checkedBlocks b, 0x17)] → a < 2 ^ 32 →
    (logSlot s.safe.log (nth 3 checkedBlocks b) 0x17 a).isSome = true → (∀ e ∈ s.safe.log, e.all (fun x => x.kind != 0x17) = true) →
    Does (.configurationIntegrityCheck dt [(b, a)]) s [.log] (fun _ => False) fun t => t.logActive (nth 3 checkedBlocks b) 0x17 a = true) ∧
  (∀ dt s, s.upd.waits = none →
    Does (.configurationIntegrityCheck dt []) s [.log] (fun _ => False) fun t =>
      ∀ b ∈ checkedBlocks, ∀ e ∈ t.safe.log, e.all (fun x => !(x.active && x.kind == 0x17 && x.src == b)) = true) ∧
  (∀ dt (failed : Fin 128) s, s.ssvOn = true → s.safe.latentAt.all (fun a => decide (a + s.get (K 0x8500 1) * 3600000000000 ≤ s.now + dt)) = true → Calm s (latentBlocks.map fun b => (b, 0x15)) →
    Does (.latentTest dt failed) s [.log, .prj] (fun k => k / 256 = 0x8500) fun t =>
      t.get (K 0x8500 4) = (s.get (K 0x8500 4) + 1) % 2 ^ 32 ∧
      t.get (K 0x8500 3) = (if s.mode = .boot ∧ s.sys.bootStep < 8 then failed.val else failed.val % 64)) ∧
  (∀ dt (failed : Fin 128) s, s.safe.latentAt.any (fun a => decide (s.now + dt < a + s.get (K 0x8500 1) * 3600000000000)) = true → s.upd.waits = none →
    Does (.latentTest dt failed) s [] (fun _ => False) fun t => t.safe = s.safe ∨ t.safe.aliveP = false)

/-- Guardrail inputs (R412, R416–R421): an accepted VEHICLE, GLARE or BEAM_MODE frame leaves its content with its connection, which counts
it, restarts its deadline and, unless it is LOST, is VALID; a frame that fails a check is counted with its reason and has no effect, one
that matches no connection is counted, and on a port or controller that is not up none arrives. Completion: Does and Gives conclude that
exec answers a next state, with what it holds, under conditions on the state and the operands alone; this statement concludes it for
vehicle, glare, beamMode. It rests on choices of the model where the spec leaves room: log entries 114, 116, 117. -/
def Obligations.GuardrailInputs : Prop :=
  (∀ dt src f n s, (s.tick dt).accepts src n 1 [] f = true → n < 16 → s.upd.waits = none →
    Does (.vehicle dt src f) s [.conns, .masks, .log] (fun k => guardKeys n k = true) fun t =>
      (t.conn n).vehicle = some (beAt f.payload 0 2, byteAt f.payload 2, byteAt f.payload 3) ∧ (t.conn n).lastSeq = some f.seq.toNat ∧
      (t.conn n).since = s.now + dt ∧ (s.get (K (0x1400 + n) 0x12) ≠ 3 → t.get (K (0x1400 + n) 0x12) = 2) ∧
      t.get (K (0x1400 + n) 0x13) = (s.get (K (0x1400 + n) 0x13) + 1) % 2 ^ 32) ∧
  (∀ dt src f n s, (s.tick dt).accepts src n 2 [] f = true → n < 16 → s.upd.waits = none →
    Does (.glare dt src f) s [.conns, .masks, .log] (fun k => guardKeys n k = true) fun t =>
      (t.conn n).glareMask = byteAt f.payload 0 ∧ (t.conn n).regions = glareRegions f.payload ∧ (t.conn n).lastSeq = some f.seq.toNat ∧
      (s.get (K (0x1400 + n) 0x12) ≠ 3 → t.get (K (0x1400 + n) 0x12) = 2)) ∧
  (∀ dt src f n s, (s.tick dt).accepts src n 3 [] f = true → n < 16 → s.upd.waits = none →
    Does (.beamMode dt src f) s [.conns, .masks, .log, .cmdRes] (fun k => guardKeys n k = true) fun t =>
      (∀ i ∈ List.range 4, bit (byteAt f.payload 0) i = true → nth 0 (t.conn n).beam i = byteAt f.payload 1) ∧
      (t.conn n).lastSeq = some f.seq.toNat ∧ t.safe.cmdRes = 0 ∧ t.safe.cmdConn = n ∧ t.safe.cmdSeq = f.seq.toNat) ∧
  (∀ dt src f n s, s.carries src = true → (s.tick dt).guardMatch src = some n →
    (s.tick dt).guardReason n src (guardBytes f 1 []) ≠ 0 → Calm s [(0x11, 3), (0x11, 5), (0x11, 6)] → n < 16 →
    Does (.vehicle dt src f) s [.conns, .log] (fun k => k = K (0x1400 + n) 0x14 ∨ k = K (0x1400 + n) 0x15) fun t =>
      t.get (K (0x1400 + n) 0x14) = (s.get (K (0x1400 + n) 0x14) + 1) % 2 ^ 32 ∧
      t.get (K (0x1400 + n) 0x15) = (s.tick dt).guardReason n src (guardBytes f 1 []) ∧ (t.conn n).vehicle = (s.conn n).vehicle) ∧
  (∀ dt net hi lo port f s, s.carries (.udp net hi lo port) = true → s.guardMatch (.udp net hi lo port) = none → s.upd.waits = none →
    Does (.vehicle dt (.udp net hi lo port) f) s [] (fun k => k = K 0x1410 2) fun t =>
      t.get (K 0x1410 2) = (s.get (K 0x1410 2) + 1) % 2 ^ 32) ∧
  (∀ dt src f s, s.carries src = false → s.upd.waits = none →
    Does (.vehicle dt src f) s [] (fun _ => False) fun t => t.safe = s.safe)

/-- Guardrail commands (R141, R319, R394, R397, R398, R418, R433, R564): each accepted command leaves its result, its connection and its
SEQ for the STATUS frame; a request latches the sources or ports of its mask, a release frees those that meet the conditions, a write of
an SW entry puts it, and an acknowledge clears latched flags, those of safety records included. Completion: Does and Gives conclude that
exec answers a next state, with what it holds, under conditions on the state and the operands alone; this statement concludes it for
kerbLoad, roadblockRequest, roadblockRelease, torqueRequest, torqueRelease, swWrite, safeAck, safeAckAll. It rests on choices of the model
where the spec leaves room: log entries 115, 119, 128. -/
def Obligations.GuardrailCommands : Prop :=
  (∀ dt src f n s, (s.tick dt).accepts src n 4 [] f = true → n < 16 → s.upd.waits = none → s.get (K 0x8600 3) ≠ 2 →
    Does (.kerbLoad dt src f) s [.conns, .masks, .log, .cmdRes, .comp] (fun k => guardKeys n k = true ∨ k = K 0x4100 5) fun t =>
      t.safe.cmdRes = (if t.get (K 0x4100 5) = 1 then 0 else 4) ∧ t.safe.cmdConn = n ∧ t.safe.cmdSeq = f.seq.toNat ∧
      (t.get (K 0x4100 5) = 1 → t.comp.kerb.loading.isSome = true) ∧ (t.get (K 0x4100 5) ≠ 1 → t.comp = s.comp)) ∧
  (∀ dt src f n s, (s.tick dt).accepts src n 5 [1] f = true → n < 16 → Calm s [(0x12, 0x0E)] → byteAt f.payload 0 ≠ 0 →
    Does (.roadblockRequest dt src f) s [.conns, .masks, .log, .cmdRes, .paths, .tl, .prj, .lasers, .skb]
      (fun k => guardKeys n k = true ∨ k / 256 = 0x8010) fun t =>
      t.get (K 0x8010 1) = (s.get (K 0x8010 1) ||| byteAt f.payload 0) ∧ t.get (K 0x8010 5) = 2 ∧ t.safe.cmdRes = 0 ∧
      t.safe.cmdConn = n ∧ t.safe.cmdSeq = f.seq.toNat) ∧
  (∀ dt src f n s, (s.tick dt).accepts src n 5 [2] f = true → n < 16 → Calm s [(0x12, 0x0E)] → (∀ i ∈ List.range 4, s.mayRelease i = true) →
    Does (.roadblockRelease dt src f) s [.conns, .masks, .log, .cmdRes, .paths, .tl, .blc]
      (fun k => guardKeys n k = true ∨ k = K 0x8010 1 ∨ 0x8200 ≤ k / 256 ∧ k / 256 ≤ 0x8203 ∧ (k % 256 = 0x0C ∨ k % 256 = 0x0D) ∨ 0x5100 ≤ k / 256 ∧ k / 256 ≤ 0x5107 ∧ k % 256 = 7) fun t =>
      (∀ i ∈ List.range 4, bit (t.get (K 0x8010 1)) i = (bit (s.get (K 0x8010 1)) i && !bit (byteAt f.payload 0) i)) ∧
      t.safe.cmdRes = 0 ∧ t.safe.cmdConn = n ∧ t.safe.cmdSeq = f.seq.toNat ∧
      (s.mode = .safe → s.srcs.all (fun i => !bit (t.get (K 0x8010 1)) i) = true → (∃ i ∈ List.range 4, bit (byteAt f.payload 0) i = true ∧ bit (s.get (K 0x8010 1)) i = true) → t.mode = .preop)) ∧
  (∀ dt src f n s, (s.tick dt).accepts src n 6 [1] f = true → n < 16 → s.upd.waits = none →
    Does (.torqueRequest dt src f) s [.conns, .masks, .log, .cmdRes, .lpe]
      (fun k => guardKeys n k = true ∨ k = K 0x6000 3 ∨ k = K 0x6000 5 ∨ 0x6010 ≤ k / 256 ∧ k / 256 ≤ 0x6017 ∧ k % 256 = 0x28 ∨
        0x6030 ≤ k / 256 ∧ k / 256 ≤ 0x6033 ∧ k % 256 = 0x14) fun t =>
      t.get (K 0x6000 3) = (s.get (K 0x6000 3) ||| byteAt f.payload 0) ∧
      (∀ a ∈ List.range 4, bit (byteAt f.payload 0) a = true → s.members.contains a = true →
        bit (t.get (K 0x6000 5)) a = true ∧ bit (t.actr a).causes 1 = true) ∧
      t.safe.cmdRes = 0 ∧ t.safe.cmdConn = n ∧ t.safe.cmdSeq = f.seq.toNat) ∧
  (∀ dt src f n s, (s.tick dt).accepts src n 6 [2] f = true → n < 16 → s.upd.waits = none → (∀ a ∈ List.range 4, s.torqueMayRelease a = true) →
    s.lpe.stoHighSince + 1000000 ≤ s.now →
    Does (.torqueRelease dt src f) s [.conns, .masks, .log, .cmdRes, .lpe]
      (fun k => guardKeys n k = true ∨ k = K 0x6000 3 ∨ k = K 0x6000 5 ∨ 0x6010 ≤ k / 256 ∧ k / 256 ≤ 0x6017 ∧ k % 256 = 0x28 ∨
        0x6030 ≤ k / 256 ∧ k / 256 ≤ 0x6033 ∧ k % 256 = 0x14) fun t =>
      (∀ a ∈ List.range 4, bit (t.get (K 0x6000 5)) a = (bit (s.get (K 0x6000 5)) a && !bit (byteAt f.payload 0) a)) ∧
      t.safe.cmdRes = 0 ∧ t.safe.cmdConn = n ∧ t.safe.cmdSeq = f.seq.toNat) ∧
  (∀ dt src f n e s, (s.tick dt).accepts src n 7 [] f = true → n < 16 → s.upd.waits = none → findEnt (beAt f.payload 0 3) = some e →
    e.acc = .sw → rangeOk e (be (f.payload.drop 4)) = true → K 0x8020 1 ≤ beAt f.payload 0 3 → beAt f.payload 0 3 ≤ K 0x8020 3 →
    (∀ m ∈ List.range 16, s.consumer m = true → s.permits m 1 = false) →
    Does (.swWrite dt src f) s [.conns, .masks, .log, .cmdRes] (fun k => guardKeys n k = true ∨ k = beAt f.payload 0 3) fun t =>
      t.get (beAt f.payload 0 3) = be (f.payload.drop 4) ∧ t.safe.cmdRes = 0 ∧ t.safe.cmdConn = n ∧ t.safe.cmdSeq = f.seq.toNat) ∧
  (∀ dt src f n s, (s.tick dt).accepts src n 7 [] f = true → n < 16 → Calm s [(0x12, 0x0E)] → beAt f.payload 0 3 = K 0x8010 3 →
    1 ≤ be (f.payload.drop 4) → be (f.payload.drop 4) ≤ 15 →
    Does (.swWrite dt src f) s [.conns, .masks, .log, .cmdRes, .paths, .tl, .prj, .lasers, .skb]
      (fun k => guardKeys n k = true ∨ k / 256 = 0x8010) fun t =>
      t.get (K 0x8010 1) = (s.get (K 0x8010 1) ||| be (f.payload.drop 4)) ∧ t.get (K 0x8010 5) = 2 ∧ t.safe.cmdRes = 0 ∧
      t.safe.cmdConn = n ∧ t.safe.cmdSeq = f.seq.toNat) ∧
  (∀ dt src f n e s, (s.tick dt).accepts src n 7 [] f = true → n < 16 → s.upd.waits = none → findEnt (beAt f.payload 0 3) = some e →
    e.acc ≠ .sw →
    Does (.swWrite dt src f) s [.conns, .masks, .log, .cmdRes] (fun k => guardKeys n k = true) fun t =>
      t.safe.cmdRes = 1 ∧ t.safe.cmdConn = n ∧ t.safe.cmdSeq = f.seq.toNat) ∧
  (∀ dt src f n s, (s.tick dt).accepts src n 8 [] f = true → n < 16 → s.upd.waits = none → 1 ≤ byteAt f.payload 0 → byteAt f.payload 0 ≤ 64 →
    (∀ x ∈ s.logEntry (byteAt f.payload 0), x.src ≠ 0x11) → s.logEntry (byteAt f.payload 0) ≠ none →
    Does (.safeAck dt src f) s [.conns, .masks, .log, .cmdRes] (fun k => guardKeys n k = true) fun t =>
      (∀ x ∈ t.logEntry (byteAt f.payload 0), x.latched = false) ∧ t.safe.cmdRes = 0 ∧ t.safe.cmdConn = n ∧ t.safe.cmdSeq = f.seq.toNat) ∧
  (∀ dt src f n s, (s.tick dt).accepts src n 8 [0xFF] f = true → n < 16 → s.upd.waits = none →
    Does (.safeAckAll dt src f) s [.conns, .masks, .log, .cmdRes] (fun k => guardKeys n k = true) fun t =>
      (∀ e ∈ t.safe.log, e.all (fun x => x.active || !x.latched) = true) ∧ t.get (K 0x8100 6) = 0 ∧ t.safe.cmdRes = 0 ∧
      t.safe.cmdConn = n ∧ t.safe.cmdSeq = f.seq.toNat)

/-- Guardrail time (R417, R420, R422): a deadline that passes leaves the connection LOST, counted and recorded, and a producing connection
sends its STATUS frame and moves its SEQ on. Completion: Does and Gives conclude that exec answers a next state, with what it holds, under
conditions on the state and the operands alone; this statement concludes it for guardrailDeadline, producedFrameSend. -/
def Obligations.GuardrailTime : Prop :=
  (∀ dt (n : Fin 16) s, s.consumer n = true → s.connValid n = true → (s.conn n).since + s.act (K (0x1400 + n) 0x0E) * 1000000 ≤ s.now + dt →
    Calm s [(0x11, 4)] →
    Does (.guardrailDeadline dt n) s [.conns, .masks, .log] (fun k => guardKeys n k = true ∨ k = K (0x1400 + n) 0x16) fun t =>
      t.get (K (0x1400 + n) 0x12) = 3 ∧ t.get (K (0x1400 + n) 0x16) = (s.get (K (0x1400 + n) 0x16) + 1) % 2 ^ 32 ∧
      (t.conn n).lastSeq = none ∧ bit (t.get (K 0x1410 1)) n = false) ∧
  (∀ dt (n : Fin 16) s, s.ssvOn = true → s.get (K (0x1400 + n) 0x12) ≠ 0 → s.act (K (0x1400 + n) 2) = 1 → s.act (K (0x1400 + n) 3) = 0 →
    (s.conn n).since + s.act (K (0x1400 + n) 0x0E) * 1000000 ≤ s.now + dt → s.upd.waits = none →
    Does (.producedFrameSend dt n) s [.conns, .ports] (fun _ => False) fun t =>
      t.conn n = { s.conn n with since := s.now + dt, txSeq := ((s.conn n).txSeq + 1) % 65536 } ∧
      ∀ p ∈ List.range 2, bit (s.act (K (0x1400 + n) 8)) p = true →
        nth [] t.net.ethTx p = nth [] s.net.ethTx p ++ [⟨1, 0, false, s.act (K (0x1400 + n) 5) * 2 ^ 64 + s.act (K (0x1400 + n) 6),
          s.act (K (0x1400 + n) 7), (s.tick dt).statusFrame n, none⟩]) ∧
  (∀ dt (n : Fin 16) (ctl : Fin 4) s, s.ssvOn = true → s.get (K (0x1400 + n) 0x12) ≠ 0 → s.act (K (0x1400 + n) 2) = 1 →
    s.act (K (0x1400 + n) 3) = 0x10 + ctl.val → (s.conn n).since + s.act (K (0x1400 + n) 0x0E) * 1000000 ≤ s.now + dt → s.upd.waits = none →
    Does (.producedFrameSend dt n) s [.conns, .ports] (fun _ => False) fun t =>
      t.conn n = { s.conn n with since := s.now + dt, txSeq := ((s.conn n).txSeq + 1) % 65536 } ∧
      nth [] t.net.canTx ctl = nth [] s.net.canTx ctl ++ [⟨true, s.act (K (0x1400 + n) 4), (s.tick dt).statusFrame n ++
        List.replicate (canLength ((s.tick dt).statusFrame n).length - ((s.tick dt).statusFrame n).length) 0⟩])

/-- Beats and claims (R442–R447, R454, R457, R459): a beat sends a MILEPOST and moves BEAT_OUT; the partner's MILEPOST and BEAT_IN edges
keep their paths; a path without a beat for three intervals is lost, recorded while the other stands, and with both gone the partner is;
the partner's claim is followed, a claim that meets a standing one is withdrawn, device 1 yields a simultaneous one, the watchdog lowers a
claim that no edge keeps, and device 1 claims late. Completion: Does and Gives conclude that exec answers a next state, with what it
holds, under conditions on the state and the operands alone; this statement concludes it for milepostBeat, milepost, beatInEdge,
beatPathLoss, claimInFall, claimInRise, claimReleaseFilterExpiry, tieBreakYield, claimWatchdog, deferredClaim, takeoverCheck. It rests on
choices of the model where the spec leaves room: log entries 135, 201. -/
def Obligations.TwinBeatsAndClaims : Prop :=
  (∀ dt s, s.beats = true → s.upd.waits = none →
    Does (.milepostBeat dt) s [.twin, .pcg] (fun k => k = K 0x8600 5) fun t =>
      t.tw.beatOut = (!s.tw.beatOut) ∧ t.tw.lastEdge = s.now + dt ∧ t.out.contains (.pin "BEAT_OUT" (!s.tw.beatOut)) = true) ∧
  (∀ dt s, s.beats = false → s.upd.waits = none → Does (.milepostBeat dt) s [] (fun _ => False) fun t => t.tw = s.tw) ∧
  (∀ dt head a (b : Nat) crc (p : Partner) s, s.twlOk 1 head [a, b] crc 2 2 = true → s.tw.lastTwl.any (fun l => decide (s.now + dt ≤ l + 150000)) = true → s.tw.partner = some p → (p.role = 0 → field a 23 16 ≠ 2) →
    s.upd.waits = none →
    Does (.milepost dt head [a, b] crc) s [.twin] (fun k => k = K 0x8600 4 ∨ k = K 0x8600 6 ∨ k = K 0x8600 7) fun t =>
      t.tw.partner = some { p with id := head % 2, state := field a 31 24, role := field a 23 16, ready := field a 15 0, frame := field a 63 32, tfm := b } ∧
      t.get (K 0x8600 4) = field a 31 24 ∧ t.get (K 0x8600 6) = field a 15 0 ∧ t.tw.lastTwl = some (s.now + dt) ∧
      t.tw.runTwl = s.tw.runTwl + 1 ∧ (10 ≤ s.tw.runTwl + 1 → bit (t.get (K 0x8600 7)) 0 = true)) ∧
  (∀ dt head words crc s, s.twlOk 1 head words crc 2 2 = false → s.upd.waits = none →
    Does (.milepost dt head words crc) s [.twin] (fun _ => False) fun t => t.tw = s.tallied (crc != packetCrc head words)) ∧
  (∀ dt a s, s.tw.lastIn = some a → a + 50000 ≤ s.now + dt → s.now + dt ≤ a + 150000 → s.twinOn = true → s.upd.waits = none →
    Does (.beatInEdge dt) s [.twin] (fun k => k = K 0x8600 7) fun t =>
      t.tw.runIn = s.tw.runIn + 1 ∧ t.tw.lastBeatIn = some (s.now + dt) ∧ (10 ≤ s.tw.runIn + 1 → bit (t.get (K 0x8600 7)) 1 = true)) ∧
  (∀ dt a s, s.tw.lastIn = some a → s.now + dt < a + 50000 ∨ a + 150000 < s.now + dt → s.twinOn = true → s.upd.waits = none →
    Does (.beatInEdge dt) s [.twin] (fun _ => False) fun t => t.tw.runIn = 0 ∧ t.tw.lastIn = some (s.now + dt) ∧ t.tw.lastBeatIn = s.tw.lastBeatIn) ∧
  (∀ dt a s, s.twinOn = true → s.tw.lastTwl = some a → a + 300000 ≤ s.now + dt → s.get (K 0x8600 7) = 3 → Calm s [(0x1A, 7)] →
    Does (.beatPathLoss dt 0) s [.twin, .log] (fun k => k = K 0x8600 7 ∨ k = K 0x8600 0x10) fun t =>
      t.get (K 0x8600 7) = 2 ∧ t.tw.runTwl = 0 ∧ t.get (K 0x8600 0x10) = (s.get (K 0x8600 0x10) + 1) % 2 ^ 32) ∧
  (∀ dt a (p : Partner) s, s.twinOn = true → s.tw.lastTwl = some a → a + 300000 ≤ s.now + dt → s.get (K 0x8600 7) = 1 → s.tw.partner = some p →
    p.role ≠ 1 → Calm s [(0x1A, 4)] →
    Does (.beatPathLoss dt 0) s [.twin, .log] (fun k => k = K 0x8600 7 ∨ k = K 0x8600 4 ∨ k = K 0x8600 6) fun t =>
      t.get (K 0x8600 7) = 0 ∧ t.tw.partner = none ∧ t.get (K 0x8600 4) = 0xFF ∧ t.get (K 0x8600 6) = 0) ∧
  (∀ dt (b : Fin 2) s, s.twinOn = false ∨ bit (s.get (K 0x8600 7)) b = false → s.upd.waits = none →
    Does (.beatPathLoss dt b) s [] (fun _ => False) fun t => t.tw = s.tw) ∧
  (∀ dt s, s.twinOn = true → s.tw.claimOut = false → s.tw.offerIn = false → s.upd.waits = none →
    Does (.claimInFall dt) s [.twin] (fun k => k = K 0x8600 5) fun t =>
      t.tw.claimIn = false ∧ t.tw.claimInAt = s.now + dt ∧ t.tw.blocked = false ∧ t.tw.claimOut = false) ∧
  (∀ dt s, s.twinOn = true → s.tw.claimOut = true → s.upd.waits = none →
    Does (.claimInRise dt) s [.twin, .prj] (fun _ => False) fun t =>
      t.tw.claimIn = true ∧ (t.tw.claimOut = true → t.tw.contested = decide (s.now + dt ≤ s.tw.claimAt + 50000))) ∧
  (∀ dt s, s.twinOn = true → s.tw.claimOut = false → s.get (K 0x8600 3) = 1 → s.mode = .operate → Steady s →
    Gives (.claimInRise dt) s fun t => t.get (K 0x8600 3) = 2 ∧ (t.mode = .standby ∨ t.mode = .safe) ∧ t.tw.claimIn = true ∧ t.tw.claimOut = false) ∧
  (∀ dt s, s.tw.claimIn = true ∨ s.tw.offerIn = true ∨ s.twinOn = false ∨ s.get (K 0x8600 3) ≠ 2 → s.upd.waits = none →
    Does (.claimReleaseFilterExpiry dt) s [] (fun _ => False) fun t => t.tw = s.tw) ∧
  (∀ dt s, s.tw.claimIn = false → s.tw.claimInAt + 18000 ≤ s.now + dt → s.tw.offerIn = false → s.twinOn = true → s.tw.claimOut = false →
    s.get (K 0x8600 3) = 2 → (s.tick dt).readiness = 0x3FF → s.mode = .standby → Steady s →
    Gives (.claimReleaseFilterExpiry dt) s fun t =>
      t.get (K 0x8600 3) = 1 ∧ t.get (K 0x8600 0x0B) = (s.get (K 0x8600 0x0B) + 1) % 2 ^ 32 ∧ (t.mode = .operate ∨ t.mode = .safe)) ∧
  (∀ dt s, s.twinOn = true → s.tw.claimOut = true → s.tw.claimIn = true → max s.tw.claimAt s.tw.claimInAt + 48000 ≤ s.now + dt → s.tw.meets = true →
    s.get (K 0x8600 3) = 2 → Calm s [(0x1A, 0x0B)] →
    Does (.tieBreakYield dt) s [.twin, .log] (fun k => k = K 0x8600 5) fun t => t.tw.claimOut = false ∧ t.tw.blocked = true ∧ t.tw.contested = false) ∧
  (∀ dt s, s.twinOn = true → s.tw.claimOut = true → s.tw.claimIn = true → max s.tw.claimAt s.tw.claimInAt + 48000 ≤ s.now + dt → s.tw.meets = true →
    s.get (K 0x8600 3) ≠ 2 → Steady s →
    Gives (.tieBreakYield dt) s fun t => t.tw.claimOut = false ∧ t.tw.blocked = true ∧ t.get (K 0x8600 3) = 2) ∧
  (∀ dt s, s.twinOn = true → s.tw.claimOut = true → s.tw.claimIn = true → max s.tw.claimAt s.tw.claimInAt + 48000 ≤ s.now + dt → s.tw.meets = false →
    s.tw.contested = true → s.tw.ident = 1 → Steady s →
    Gives (.tieBreakYield dt) s fun t => t.tw.claimOut = false ∧ t.get (K 0x8600 3) = 2) ∧
  (∀ dt s, s.twinOn = false ∨ s.tw.claimOut = false ∨ s.tw.claimIn = false → s.upd.waits = none →
    Does (.tieBreakYield dt) s [] (fun _ => False) fun t => t.tw = s.tw) ∧
  (∀ dt s, s.tw.single = false → s.tw.lastEdge + 240000 ≤ s.now + dt → s.upd.waits = none →
    Does (.claimWatchdog dt) s [.prj] (fun _ => False) fun t => t.tw.claimOut = false) ∧
  (∀ dt s, s.tw.single = true ∨ s.now + dt < s.tw.lastEdge + 240000 → s.upd.waits = none →
    Does (.claimWatchdog dt) s [] (fun _ => False) fun t => t.tw = s.tw) ∧
  (∀ dt s, s.twinOn = true → s.tw.ident = 1 → 7 ≤ s.sys.bootStep → s.tw.step7At + 20000000 ≤ s.now + dt → s.tw.claimIn = false →
    s.tw.claimOut = false → s.get (K 0x8600 3) = 0 → s.mode = .preop → s.aliveStop = 0 → s.upd.waits = none →
    Gives (.deferredClaim dt) s fun t => t.tw.claimOut = true ∧ t.tw.claimAt = s.now + dt ∧ t.get (K 0x8600 3) = 1 ∧ t.mode = .preop) ∧
  (∀ dt s, s.tw.ident = 0 ∨ s.tw.claimIn = true → s.upd.waits = none →
    Does (.deferredClaim dt) s [] (fun _ => False) fun t => t.tw = s.tw) ∧
  (∀ dt (i : Fin 4) s, s.twinOn = true → s.get (K 0x8600 3) = 1 → capable (s.get (K 0x8600 6)) = true → Calm s [(0x1A, 9)] →
    Does (.takeoverCheck dt (some i)) s [.log] (fun k => k = K 0x8600 0x12) fun t =>
      t.get (K 0x8600 0x12) = (s.get (K 0x8600 0x12) + 1) % 2 ^ 32) ∧
  (∀ dt (i : Fin 4) s, s.twinOn = true → s.get (K 0x8600 3) = 1 → capable (s.get (K 0x8600 6)) = false → s.srcOn i = true → Steady s →
    Gives (.takeoverCheck dt (some i)) s fun t => bit t.latched i = true) ∧
  (∀ dt s, (∀ p ∈ s.tl.ports, p.unans = []) → (∀ i ∈ List.range 4, s.srcType i ≠ 3) → s.upd.waits = none →
    Does (.takeoverCheck dt none) s [] (fun _ => False) fun t => t.tw = s.tw)

/-- Copies (R448–R455): a state copy brings the partner's latches, its TSE levels and its header; a forwarded commit is armed; signatures
are compared and a third mismatch in a row clears the agreement; a KERB packet and a BULK segment are kept; a completed bulk sync makes
the partner's configuration this device's own, but for its twin enable; the maps of an accepted Kerb load are armed in the bank that is
not in force. Completion: Does and Gives conclude that exec answers a next state, with what it holds, under conditions on the state and
the operands alone; this statement concludes it for copy, commit, signature, kerb, bulk, bulkSyncComplete, kerbMapsArmed. It rests on
choices of the model where the spec leaves room: log entries 131, 132, 134, 138, 200, 201. -/
def Obligations.TwinCopies : Prop :=
  (∀ dt frame cfg kseq cls (body : CopyBody) (p : Partner) s, s.twinOn = true → s.get (K 0x8600 3) = 2 → s.tw.partner = some p → Steady s →
    Does (.copy dt true frame cfg kseq cls 0 0 body) s lightParts (fun k => 0x3000 ≤ k / 256) fun t =>
      t.tw.partner = some { p with cfgCrc := cfg, kseq := kseq, cls := cls } ∧ t.get (K 0x8600 0x11) = frame % 2 ^ 32 ∧ t.tw.tse = body.tse % 16 ∧
      t.tw.copied = some body) ∧
  (∀ dt frame cfg kseq cls (rb : Nat) torque (body : CopyBody) (i : Fin 4) s, s.twinOn = true → s.get (K 0x8600 3) = 2 → bit rb i = true → s.srcOn i = true →
    Steady s →
    Gives (.copy dt true frame cfg kseq cls rb torque body) s fun t => bit t.latched i = true) ∧
  (∀ dt ok_ frame cfg kseq cls (rb : Nat) torque (body : CopyBody) s, ok_ = false ∨ s.twinOn = false ∨ s.get (K 0x8600 3) ≠ 2 → s.upd.waits = none →
    Does (.copy dt ok_ frame cfg kseq cls rb torque body) s [.twin] (fun _ => False) fun t => t.tw = s.tallied (!ok_)) ∧
  (∀ dt landing item vals doms s, s.twinOn = true → s.get (K 0x8600 3) = 2 → s.upd.waits = none →
    Does (.commit dt true landing item vals doms) s [.armed] (fun _ => False) fun t =>
      t.armed.any (fun a => a.item == item && a.vals == vals && a.doms == doms &&
        a.landing == (if seqNewer s.landingFrame landing then s.landingFrame else landing)) = true) ∧
  (∀ dt ok_ landing item vals doms s, ok_ = false ∨ s.twinOn = false ∨ s.get (K 0x8600 3) ≠ 2 → s.upd.waits = none →
    Does (.commit dt ok_ landing item vals doms) s [.twin] (fun _ => False) fun t => t.armed = s.armed ∧ t.tw = s.tallied (!ok_)) ∧
  (∀ dt head words crc own s, s.twlOk 4 head words crc 4 4 = true → mapGet s.tw.sigs (head % 2 ^ 32) = some own → own = words → s.upd.waits = none →
    Does (.signature dt head words crc) s [.twin] (fun k => k = K 0x8600 5) fun t => t.tw.sigRun = 0 ∧ t.tw.agreed = s.tw.agreed + 1) ∧
  (∀ dt head a (b : Nat) c d (e f : Nat) crc own s, s.twlOk 4 head [a, b, c, d] crc 4 4 = true → mapGet s.tw.sigs (head % 2 ^ 32) = some own →
    own = [e, f, c, d] → (a + 2 ^ 64 - e) % 2 ^ 32 = 0 → b % 2 ^ 32 = f % 2 ^ 32 → a / 2 ^ 32 % 2 ^ 32 ≠ e / 2 ^ 32 % 2 ^ 32 → a < 2 ^ 64 → e < 2 ^ 64 →
    Calm s [(0x1A, 3)] →
    Does (.signature dt head [a, b, c, d] crc) s [.twin, .log] (fun k => k = K 0x8600 5 ∨ k = K 0x8600 0x0E) fun t =>
      t.tw.sigRun = s.tw.sigRun + 1 ∧ t.get (K 0x8600 0x0E) = (s.get (K 0x8600 0x0E) + 1) % 2 ^ 32 ∧
      t.tw.agreed = if 2 ≤ s.tw.sigRun then 0 else s.tw.agreed) ∧
  (∀ dt head words crc s, s.twlOk 4 head words crc 4 4 = false ∨ s.tw.sigs = [] → s.upd.waits = none →
    Does (.signature dt head words crc) s [.twin] (fun _ => False) fun t => t.tw = s.tallied (crc != packetCrc head words)) ∧
  (∀ dt head words crc (k : KerbRx) s, s.twlOk 7 head words crc 1 512 = true → s.get (K 0x8600 3) = 2 → s.tw.kerb = some k →
    k.bytes.length + 8 * words.length < k.len → s.upd.waits = none →
    Does (.kerb dt head words crc) s [.twin] (fun _ => False) fun t => t.tw.kerb = some { k with bytes := k.bytes ++ words.flatMap wordBytes }) ∧
  (∀ dt head words crc s, s.twlOk 7 head words crc 1 512 = false ∨ s.get (K 0x8600 3) ≠ 2 → s.upd.waits = none →
    Does (.kerb dt head words crc) s [.twin] (fun _ => False) fun t => t.tw = s.tallied (crc != packetCrc head words)) ∧
  (∀ dt head words crc s, s.twlOk 6 head words crc 1 512 = true → s.get (K 0x8600 3) = 2 → s.upd.waits = none →
    Does (.bulk dt head words crc) s [.twin] (fun _ => False) fun t =>
      t.tw.bulk = true ∧ t.tw.bulkSegs = mapPut s.tw.bulkSegs (head % 2 ^ 32) words) ∧
  (∀ dt head words crc s, s.twlOk 6 head words crc 1 512 = false ∨ s.get (K 0x8600 3) ≠ 2 → s.upd.waits = none →
    Does (.bulk dt head words crc) s [.twin] (fun _ => False) fun t => t.tw = s.tallied (crc != packetCrc head words)) ∧
  (∀ dt k v doms (cells : List (Nat × Byte)) maps s, s.tw.bulk = true → s.get (K 0x8600 3) = 2 → 0x3000 ≤ k / 256 → k / 256 ≤ 0x7FFF → v < 2 ^ widthOf k →
    Steady s → s.domState 0x25 = 0 →
    Gives (.bulkSyncComplete dt [(k, v), (K 0x8600 1, 0)] doms cells maps) s fun t =>
      t.get k = v ∧ t.act k = v ∧ t.get (K 0x8600 1) = s.get (K 0x8600 1) ∧ t.doms = mapMerge s.doms doms ∧ t.tw.bulk = false ∧ t.tw.bulkSegs = [] ∧
      ∀ i ∈ List.range 4, (t.src i).dose = (nth ([], []) maps i).1 ∧ (t.src i).again = (nth ([], []) maps i).2) ∧
  (∀ dt vals doms (cells : List (Nat × Byte)) maps s, s.tw.bulk = false ∨ s.get (K 0x8600 3) ≠ 2 → s.upd.waits = none →
    Does (.bulkSyncComplete dt vals doms cells maps) s [] (fun _ => False) fun t => t.doms = s.doms) ∧
  (∀ dt img s, s.comp.kerb.loading = some img → s.comp.kerb.active < 2 → s.upd.waits = none →
    Does (.kerbMapsArmed dt) s [.comp, .twin] (fun k => k = K 0x4100 4 ∨ k = K 0x4100 8) fun t =>
      t.comp.kerb.loading = none ∧ t.comp.kerb.active = s.comp.kerb.active ∧ t.get (K 0x4100 4) = s.landingFrame % 2 ^ 32 ∧
      nth ⟨KerbImg.zero, []⟩ t.comp.kerb.banks (1 - s.comp.kerb.active) = ⟨img, img.maps.map fun b => ~~~b⟩ ∧
      nth ⟨KerbImg.zero, []⟩ t.comp.kerb.banks s.comp.kerb.active = nth ⟨KerbImg.zero, []⟩ s.comp.kerb.banks s.comp.kerb.active) ∧
  (∀ dt s, s.comp.kerb.loading = none → s.upd.waits = none →
    Does (.kerbMapsArmed dt) s [] (fun _ => False) fun t => t.comp = s.comp)

/-- Planned handover (R460, R461): a command of an active device in OPERATE with both sides ready is taken and its offer goes out at the
next commit milestone, any other is refused; a swap drill is a planned handover or another try in a minute; an offer is granted by a
standby that is ready; a grant and a refusal act on the offer that is out. Completion: Does and Gives conclude that exec answers a next
state, with what it holds, under conditions on the state and the operands alone; this statement concludes it for handoverCommand,
swapDrill, handoverOffer, handoverGrant, handoverRefuse. It rests on choices of the model where the spec leaves room: log entry 137. -/
def Obligations.Handover : Prop :=
  (∀ dt rq s, Served s dt rq (K 0x8600 9) 1 → s.get (K 0x8600 3) = 1 → s.mode = .operate → (s.tick dt).readiness = 0x3FF → s.get (K 0x8600 6) = 0x3FF →
    Does (.handoverCommand dt rq) s [.twin, .ports, .clients] (fun _ => False) fun t =>
      t.answered rq (K 0x8600 9) ok ∧ t.tw.wanted = true ∧ t.tw.drilling = false) ∧
  (∀ dt rq s, Served s dt rq (K 0x8600 9) 1 → s.get (K 0x8600 3) ≠ 1 ∨ s.mode ≠ .operate →
    Does (.handoverCommand dt rq) s [.ports, .clients] (fun _ => False) fun t => t.answered rq (K 0x8600 9) (0x0401, s.mode.code)) ∧
  (∀ dt rq s, Served s dt rq (K 0x8600 9) 1 → s.get (K 0x8600 3) = 1 → s.mode = .operate → (s.tick dt).readiness ≠ 0x3FF →
    Does (.handoverCommand dt rq) s [.ports, .clients] (fun _ => False) fun t => t.answered rq (K 0x8600 9) (0x0402, 0)) ∧
  (∀ dt s, s.twinOn = true → s.get (K 0x8600 8) ≠ 0 → s.tw.drillAt = none → s.get (K 0x8600 3) = 1 → (s.tick dt).handoverRefused = none →
    s.upd.waits = none →
    Does (.swapDrill dt) s [.twin] (fun _ => False) fun t =>
      t.tw.wanted = true ∧ t.tw.drilling = true ∧ t.tw.drillAt = some (s.now + dt + s.get (K 0x8600 8) * 60000000000)) ∧
  (∀ dt s, s.twinOn = true → s.get (K 0x8600 8) ≠ 0 → s.tw.drillAt = none → s.get (K 0x8600 3) = 1 → (s.tick dt).handoverRefused ≠ none →
    s.upd.waits = none →
    Does (.swapDrill dt) s [.twin] (fun k => k = K 0x8600 0x0D) fun t =>
      t.tw.wanted = s.tw.wanted ∧ t.tw.drillAt = some (s.now + dt + 60000000000) ∧ t.get (K 0x8600 0x0D) = 1) ∧
  (∀ dt s, s.twinOn = false ∨ s.get (K 0x8600 8) = 0 ∨ s.get (K 0x8600 3) ≠ 1 → s.upd.waits = none →
    Does (.swapDrill dt) s [] (fun _ => False) fun t => t.tw = s.tw) ∧
  (∀ dt head w crc s, s.twlOk 5 head [w] crc 1 1 = true → field head 31 24 = 1 → s.get (K 0x8600 3) = 2 → s.mode = .standby →
    (s.tick dt).readiness = 0x3FF → s.upd.waits = none →
    Does (.handoverOffer dt head [w] crc) s [.twin, .pcg] (fun _ => False) fun t => t.tw.offerIn = true) ∧
  (∀ dt head w crc s, s.twlOk 5 head [w] crc 1 1 = true → field head 31 24 = 1 → s.get (K 0x8600 3) = 2 → (s.tick dt).readiness ≠ 0x3FF →
    s.upd.waits = none →
    Does (.handoverOffer dt head [w] crc) s [.twin, .pcg] (fun _ => False) fun t => t.tw.offerIn = s.tw.offerIn) ∧
  (∀ dt head w crc s, s.twlOk 5 head [w] crc 1 1 = true → field head 31 24 = 2 → s.tw.offerOut = true → s.upd.waits = none →
    Does (.handoverGrant dt head [w] crc) s [.twin] (fun _ => False) fun t => t.tw = { s.tw with granted := true }) ∧
  (∀ dt head words crc s, s.tw.offerOut = false → s.upd.waits = none →
    Does (.handoverGrant dt head words crc) s [] (fun _ => False) fun t => t.tw = s.tw) ∧
  (∀ dt head w crc s, s.twlOk 5 head [w] crc 1 1 = true → field head 31 24 = 3 → s.tw.offerOut = true → s.upd.waits = none →
    Does (.handoverRefuse dt head [w] crc) s [.twin] (fun k => k = K 0x8600 0x0D) fun t =>
      t.tw.offerOut = false ∧ t.tw.granted = false ∧ t.tw.wanted = false ∧ t.get (K 0x8600 0x0D) = 1) ∧
  (∀ dt head words crc s, s.tw.offerOut = false → s.upd.waits = none →
    Does (.handoverRefuse dt head words crc) s [] (fun _ => False) fun t => t.tw = s.tw)

/-- Time-pulse outputs (R383, R384): a mode is taken with its parameters and the first pulse scheduled; a one-shot less than 10 µs ahead
is refused with 0x0301; mode 0 ends the pulses; a pulse that is due is emitted and counted. Completion: Does and Gives conclude that exec
answers a next state, with what it holds, under conditions on the state and the operands alone; this statement concludes it for oneShot,
periodic, tpoOff, tpoPulse. It rests on choices of the model where the spec leaves room: log entry 112. -/
def Obligations.TimePulses : Prop :=
  (∀ dt rq (n : Fin 4) s, Served s dt rq (K (0x71A0 + n) 1) 1 → (n.val = 3 → s.claimBlock [0x9A] 0x603 = none) → (s.tick dt).timeNs + 10000 ≤ s.get (K (0x71A0 + n) 2) →
    Does (.oneShot dt rq n) s [.tpo, .claims, .ports, .clients] (fun k => k = K (0x71A0 + n) 1 ∨ k = K (0x71A0 + n) 6) fun t =>
      t.answered rq (K (0x71A0 + n) 1) ok ∧ t.get (K (0x71A0 + n) 1) = 1 ∧ (t.tpo n).next = some (s.get (K (0x71A0 + n) 2)) ∧
      (t.tpo n).width = s.get (K (0x71A0 + n) 4) ∧ (t.tpo n).endAt = none) ∧
  (∀ dt rq (n : Fin 4) s, Served s dt rq (K (0x71A0 + n) 1) 1 → s.get (K (0x71A0 + n) 2) < (s.tick dt).timeNs + 10000 →
    Does (.oneShot dt rq n) s [.ports, .clients] (fun _ => False) fun t => t.answered rq (K (0x71A0 + n) 1) (0x0301, 0)) ∧
  (∀ dt rq (n : Fin 4) s, Served s dt rq (K (0x71A0 + n) 1) 2 → (n.val = 3 → s.claimBlock [0x9A] 0x603 = none) →
    Does (.periodic dt rq n) s [.tpo, .claims, .ports, .clients] (fun k => k = K (0x71A0 + n) 1 ∨ k = K (0x71A0 + n) 6) fun t =>
      t.answered rq (K (0x71A0 + n) 1) ok ∧ t.get (K (0x71A0 + n) 1) = 2 ∧ t.owner 0x9A = (if n.val = 3 then 0x603 else s.owner 0x9A) ∧
      (t.tpo n).next = some (pulseAfter (s.get (K (0x71A0 + n) 2)) (s.get (K (0x71A0 + n) 3)) (s.tick dt).timeNs)) ∧
  (∀ dt rq (r : Nat) s, Served s dt rq (K 0x71A3 1) 2 → s.claimBlock [0x9A] 0x603 = some r →
    Does (.periodic dt rq 3) s [.ports, .clients] (fun _ => False) fun t => t.answered rq (K 0x71A3 1) (0x0402, 0x9A)) ∧
  (∀ dt rq (n : Fin 4) s, Served s dt rq (K (0x71A0 + n) 1) 0 →
    Does (.tpoOff dt rq n) s [.tpo, .claims, .ports, .clients] (fun k => k = K (0x71A0 + n) 1 ∨ k = K (0x71A0 + n) 6) fun t =>
      t.answered rq (K (0x71A0 + n) 1) ok ∧ t.get (K (0x71A0 + n) 1) = 0 ∧ t.get (K (0x71A0 + n) 6) = 0 ∧ t.tpo n = Tpo.init) ∧
  (∀ dt (n : Fin 4) a s, (s.tpo n).next = some a → (s.tpo n).endAt = none → a ≤ (s.tick dt).timeNs → s.upd.waits = none → s.domState 0x21 = 0 →
    Does (.tpoPulse dt n) s [.tpo] (fun k => k = K (0x71A0 + n) 6 ∨ k = K (0x71A0 + n) 7) fun t =>
      (t.tpo n).endAt = some (a + (s.tpo n).width) ∧ t.get (K (0x71A0 + n) 7) = (s.get (K (0x71A0 + n) 7) + 1) % 2 ^ 32 ∧
      (t.tpo n).next = if s.get (K (0x71A0 + n) 1) = 2 then some (a + (s.tpo n).period) else none) ∧
  (∀ dt (n : Fin 4) a s, (s.tpo n).next = some a → (s.tpo n).endAt = none → (s.tick dt).timeNs < a → s.upd.waits = none →
    Does (.tpoPulse dt n) s [] (fun k => k = K (0x71A0 + n) 6) fun t => t.tpo n = s.tpo n)

/-- The Time Unit (R376–R381): a two-step Sync on the slave port waits for its Follow_Up, which gives an offset sample: a small offset
drives the servo, one beyond the step threshold is refused once time runs, and the one that a step command waits for steps the time; an
exchange of peer delay gives the mean link delay; a sync timeout leads to holdover and the holdover limit to free-running; a set command
sets the time base when it runs free. Completion: Does and Gives conclude that exec answers a next state, with what it holds, under
conditions on the state and the operands alone; this statement concludes it for sync, followUp, followUpTimeout, pdelayReqSend, pdelayReq,
pdelayResp, syncTimeout, holdoverLimit, stepAtNextSample, setTime. It rests on choices of the model where the spec leaves room: log
entries 108, 109, 110, 111. -/
def Obligations.TimeUnit : Prop :=
  (∀ dt (p : Fin 2) domain (seq : Nat) li s, s.slavePort = some p.val → domain = s.act (K 0x7180 2) → s.upd.waits = none → s.netUp p = true → s.domState 0x21 = 0 →
    Does (.sync dt p domain seq true li) s [.tmu] (fun _ => False) fun t =>
      t.net.tmu.sync = some ⟨seq, (s.tick dt).ingress p, s.get (K 0x7180 0x14), s.now + dt⟩ ∧
      t.net.tmu = { s.net.tmu with sync := t.net.tmu.sync, interval := t.net.tmu.interval }) ∧
  (∀ dt (p : Fin 2) domain (seq : Nat) li s, s.slavePort = some p.val → domain = s.act (K 0x7180 2) → s.upd.waits = none → s.netUp p = true → s.domState 0x21 = 0 →
    Does (.sync dt p domain seq false li) s [] (fun k => k = K 0x7180 0x13) fun t =>
      t.get (K 0x7180 0x13) = (s.get (K 0x7180 0x13) + 1) % 2 ^ 32) ∧
  (∀ dt (p : Fin 2) domain (seq : Nat) two li s, s.slavePort ≠ some p.val ∨ domain ≠ s.act (K 0x7180 2) → s.upd.waits = none →
    Does (.sync dt p domain seq two li) s [] (fun _ => False) fun t => t.net = s.net) ∧
  (∀ dt (p : Fin 2) (id : PtpId) t1 (c : Int) cum gm (w : SyncWait) s, s.net.tmu.sync = some w → s.slavePort = some p.val → id = ⟨s.act (K 0x7180 2), w.seq⟩ →
    s.now + dt ≤ w.at_ + s.net.tmu.interval → w.steps = s.get (K 0x7180 0x14) → s.net.tmu.stepPending = false → s.get (K 0x7180 4) = 0 →
    (w.t2 - t1 - corrPs c - s.get (K (0x7100 + p) 0x0C) - sgn 32 (s.get (K (0x7100 + p) 0x0A))).natAbs ≤ s.get (K 0x7180 7) * 1000 → Steady s → s.netUp p = true → s.domState 0x21 = 0 →
    Does (.followUp dt p id t1 c cum gm) s [.tmu, .rate, .log, .paths, .masks, .pcg]
      (fun k => k = K (0x7101 - p) 0x0E ∨ k / 256 = 0x7180 ∧ 0x0F ≤ k % 256 ∧ k % 256 ≤ 0x15 ∨ k = K 0x1410 3) fun t =>
      t.net.tmu.sync = none ∧ t.net.tmu.sampled = true ∧ t.net.tmu.lastAt = some (s.now + dt) ∧ t.net.tmu.refused = false ∧
      t.get (K 0x7180 0x15) = gm % 2 ^ 64 ∧ t.get (K 0x7180 0x14) = s.get (K 0x7180 0x14) ∧ t.get (K 0x7180 0x0F) ≠ 0) ∧
  (∀ dt (p : Fin 2) (id : PtpId) t1 (c : Int) cum gm (w : SyncWait) s, s.net.tmu.sync = some w → s.slavePort = some p.val → id = ⟨s.act (K 0x7180 2), w.seq⟩ →
    s.now + dt ≤ w.at_ + s.net.tmu.interval → w.steps = s.get (K 0x7180 0x14) → s.net.tmu.stepPending = false → s.net.tmu.sampled = true →
    s.get (K 0x7180 7) * 1000 < (w.t2 - t1 - corrPs c - s.get (K (0x7100 + p) 0x0C) - sgn 32 (s.get (K (0x7100 + p) 0x0A))).natAbs →
    Calm s [(2, 6)] → s.netUp p = true → s.domState 0x21 = 0 →
    Does (.followUp dt p id t1 c cum gm) s [.tmu, .log, .pcg] (fun k => k = K (0x7101 - p) 0x0E ∨ k = K 0x7180 0x10 ∨ k = K 0x7180 0x13) fun t =>
      t.net.tmu.refused = true ∧ t.get (K 0x7180 0x13) = (s.get (K 0x7180 0x13) + 1) % 2 ^ 32 ∧ t.net.tmu.lastAt = s.net.tmu.lastAt ∧
      t.time = (s.tick dt).time) ∧
  (∀ dt (p : Fin 2) (id : PtpId) t1 (c : Int) cum gm (w : SyncWait) s, s.net.tmu.sync = some w → s.slavePort = some p.val → id = ⟨s.act (K 0x7180 2), w.seq⟩ →
    s.now + dt ≤ w.at_ + s.net.tmu.interval → w.steps = s.get (K 0x7180 0x14) → s.net.tmu.stepPending = true → Steady s → s.netUp p = true → s.domState 0x21 = 0 →
    Does (.followUp dt p id t1 c cum gm) s [.tmu, .tpo, .log, .paths, .masks, .pcg]
      (fun k => k = K (0x7101 - p) 0x0E ∨ k / 256 = 0x7180 ∧ 0x0F ≤ k % 256 ∧ k % 256 ≤ 0x15 ∨ k = K 0x1410 3 ∨ 0x71A0 ≤ k / 256 ∧ k / 256 ≤ 0x71A3 ∧ k % 256 = 6) fun t =>
      t.net.tmu.stepPending = false ∧ t.net.tmu.i = 0 ∧ t.get (K 0x7180 0x14) = (s.get (K 0x7180 0x14) + 1) % 2 ^ 32 ∧
      t.time = ((s.tick dt).time -
        (w.t2 - t1 - corrPs c - s.get (K (0x7100 + p) 0x0C) - sgn 32 (s.get (K (0x7100 + p) 0x0A))) * 2 ^ 32 / 1000).toNat) ∧
  (∀ dt (p : Fin 2) (id : PtpId) t1 (c : Int) cum gm s, s.net.tmu.sync = none → s.upd.waits = none →
    Does (.followUp dt p id t1 c cum gm) s [] (fun _ => False) fun t => t.net = s.net) ∧
  (∀ dt (w : SyncWait) s, s.net.tmu.sync = some w → w.at_ + s.net.tmu.interval ≤ s.now + dt → s.upd.waits = none → s.domState 0x21 = 0 →
    Does (.followUpTimeout dt) s [.tmu] (fun _ => False) fun t => t.net.tmu = { s.net.tmu with sync := none }) ∧
  (∀ dt (p : Fin 2) s, s.netUp p = true → (s.pd p).sentAt = none → s.upd.waits = none → s.domState 0x21 = 0 →
    Does (.pdelayReqSend dt p) s [.tmu, .pcg] (fun k => k = K (0x7100 + p) 0x0E) fun t =>
      (t.pd p).seq = ((s.pd p).seq + 1) % 65536 ∧ (t.pd p).waiting = true ∧ (t.pd p).t1 = (s.tick dt).egress p ∧
      (t.pd p).sentAt = some (s.now + dt)) ∧
  (∀ dt (p : Fin 2) (id : PtpId) s, id.domain = s.act (K 0x7180 2) → s.netUp p = true → s.upd.waits = none → s.domState 0x21 = 0 →
    Does (.pdelayReq dt p id) s [.pcg] (fun k => k = K (0x7100 + p) 0x0E) fun t =>
      t.out = [.ptp p id.domain 3 id.seq [(s.tick dt).ingress p], .ptp p id.domain 10 id.seq [(s.tick dt).egress p]] ∧
      t.get (K (0x7100 + p) 0x0E) = (s.get (K (0x7100 + p) 0x0E) + 2) % 2 ^ 32) ∧
  (∀ dt (p : Fin 2) (id : PtpId) t2 t3 s, (s.pd p).waiting = true → id = ⟨s.act (K 0x7180 2), (s.pd p).seq⟩ → (s.pd p).steps = s.get (K 0x7180 0x14) → (s.pd p).last = none →
    (s.pd p).ratio = 2 ^ 41 → s.upd.waits = none → s.netUp p = true → s.domState 0x21 = 0 →
    Does (.pdelayResp dt p id t2 t3) s [.tmu] (fun k => k = K (0x7100 + p) 0x0C) fun t =>
      (t.pd p).waiting = false ∧ (t.pd p).last = some (t3, (s.tick dt).ingress p) ∧
      t.get (K (0x7100 + p) 0x0C) = (clampI 0 (2 ^ 32 - 1) (((s.tick dt).ingress p - (s.pd p).t1 - (t3 - t2)) / 2)).toNat) ∧
  (∀ dt (p : Fin 2) (id : PtpId) t2 t3 s, (s.pd p).waiting = false → s.upd.waits = none →
    Does (.pdelayResp dt p id t2 t3) s [] (fun _ => False) fun t => t.net = s.net) ∧
  (∀ dt a s, s.net.tmu.lastAt = some a → s.get (K 0x7180 0x0F) = 1 ∨ s.get (K 0x7180 0x0F) = 2 →
    a + s.get (K 0x7180 0x0A) * s.net.tmu.interval ≤ s.now + dt → Calm s [(2, 0x0E), (0x11, 5)] → s.domState 0x21 = 0 →
    Does (.syncTimeout dt) s [.tmu, .log] (fun k => k = K 0x7180 0x0F ∨ k = K 0x1410 3) fun t =>
      t.get (K 0x7180 0x0F) = 3 ∧ t.net.tmu.heldAt = s.now + dt ∧ t.net.tmu.below = 0) ∧
  (∀ dt s, s.get (K 0x7180 0x0F) = 3 → s.net.tmu.heldAt + s.get (K 0x7180 0x0B) * 1000000 ≤ s.now + dt → Calm s [(2, 0x0E), (0x11, 5)] →
    Does (.holdoverLimit dt) s [.log] (fun k => k = K 0x7180 0x0F ∨ k = K 0x1410 3) fun t => t.get (K 0x7180 0x0F) = 0) ∧
  (∀ dt s, s.get (K 0x7180 0x0F) ≠ 3 → s.upd.waits = none →
    Does (.holdoverLimit dt) s [] (fun _ => False) fun t => t.net = s.net) ∧
  (∀ dt rq s, Served s dt rq (K 0x7180 0x0D) 1 →
    Does (.stepAtNextSample dt rq) s [.tmu, .ports, .clients] (fun _ => False) fun t =>
      t.answered rq (K 0x7180 0x0D) ok ∧ t.net.tmu = { s.net.tmu with stepPending := true }) ∧
  (∀ dt rq s, Served s dt rq (K 0x7180 0x0D) 2 → s.get (K 0x7180 0x0F) = 0 →
    Does (.setTime dt rq) s [.tpo, .ports, .clients] (fun k => 0x71A0 ≤ k / 256 ∧ k / 256 ≤ 0x71A3 ∧ k % 256 = 6) fun t =>
      t.answered rq (K 0x7180 0x0D) ok ∧ t.timeNs = s.get (K 0x7180 0x0E)) ∧
  (∀ dt rq s, Served s dt rq (K 0x7180 0x0D) 2 → s.get (K 0x7180 0x0F) ≠ 0 →
    Does (.setTime dt rq) s [.ports, .clients] (fun _ => False) fun t =>
      t.answered rq (K 0x7180 0x0D) (0x0402, 0) ∧ t.time = (s.tick dt).time)

/-- Firmware download (R474–R479, R481, R482): a start command judges the staged manifest and opens the download; a chunk of it is stored
once it decrypts; fragments wait for the fourth and are discarded after 100 ms; a status query is answered; abandon and verify move the
stage, or answer why they do not, and verification ends in stage 4 or back in stage 1. Completion: Does and Gives conclude that exec
answers a next state, with what it holds, under conditions on the state and the operands alone; this statement concludes it for
updateStart, updateAbandon, updateVerify, verificationComplete, chunk, manifestFragment, chunkFragment, statusQuery,
updateFragmentTimeout. It rests on choices of the model where the spec leaves room: log entries 11, 139, 140, 141. -/
def Obligations.UpdateDownload : Prop :=
  (∀ dt rq s, Served s dt rq (K 0x2200 1) 1 → manifestOk s.staged = false →
    Does (.updateStart dt rq) s [.ports, .clients] (fun k => k = K 0x2200 5) fun t =>
      t.answered rq (K 0x2200 1) (0x0403, 0x2201) ∧ t.get (K 0x2200 5) = 0x0403) ∧
  (∀ dt rq s, Served s dt rq (K 0x2200 1) 1 → manifestOk s.staged = true → beAt s.staged 8 4 = 0x2048 → byteAt s.staged 0xC ≤ s.get (K 0x1018 3) →
    s.nv.fuses.counter ≤ beAt s.staged 0x18 4 → s.onTrial = false → s.upd.roll = none → s.updStage = 0 → s.guardDetail 0 = none →
    1 ≤ s.targetSlot → s.targetSlot ≤ 2 →
    Does (.updateStart dt rq) s [.nv, .upd, .ports, .clients] (fun k => K 0x2200 4 ≤ k ∧ k ≤ K 0x2200 8) fun t =>
      if s.authentic s.staged = true then
        t.answered rq (K 0x2200 1) ok ∧ t.updStage = 1 ∧ t.slotManifest s.targetSlot = s.staged ∧ t.upd.stored = [] ∧ t.get (K 0x2200 5) = 0
      else t.answered rq (K 0x2200 1) (0x0502, 0) ∧ t.nv = s.nv ∧ t.updStage = 0 ∧ t.get (K 0x2200 5) = 0x0502) ∧
  (∀ dt rq s, Served s dt rq (K 0x2200 1) 2 → 1 ≤ s.updStage → s.updStage ≤ 4 →
    Does (.updateAbandon dt rq) s [.nv, .upd, .ports, .clients] (fun k => K 0x2200 4 ≤ k ∧ k ≤ K 0x2200 8) fun t =>
      t.answered rq (K 0x2200 1) ok ∧ t.updStage = 0 ∧ t.upd.stored = [] ∧ t.get (K 0x2200 6) = 0 ∧ t.get (K 0x2200 7) = 0) ∧
  (∀ dt rq s, Served s dt rq (K 0x2200 1) 2 → s.updStage = 0 ∨ 5 ≤ s.updStage →
    Does (.updateAbandon dt rq) s [.ports, .clients] (fun k => k = K 0x2200 5) fun t => t.answered rq (K 0x2200 1) ok) ∧
  (∀ dt rq s, Served s dt rq (K 0x2200 1) 3 → s.updStage = 2 ∨ s.updStage = 4 → s.guardDetail 1 = none →
    Does (.updateVerify dt rq) s [.nv, .upd, .ports, .clients] (fun k => K 0x2200 4 ≤ k ∧ k ≤ K 0x2200 8) fun t =>
      t.answered rq (K 0x2200 1) ok ∧ t.updStage = 3 ∧ t.nv.slots = s.nv.slots) ∧
  (∀ dt rq d s, Served s dt rq (K 0x2200 1) 3 → s.updStage = 2 ∨ s.updStage = 4 → s.guardDetail 1 = some d →
    Does (.updateVerify dt rq) s [.ports, .clients] (fun k => k = K 0x2200 5) fun t =>
      t.answered rq (K 0x2200 1) (0x0501, d) ∧ t.get (K 0x2200 5) = 0x0501) ∧
  (∀ dt rq s, Served s dt rq (K 0x2200 1) 3 → s.updStage ≠ 2 → s.updStage ≠ 4 →
    Does (.updateVerify dt rq) s [.ports, .clients] (fun k => k = K 0x2200 5) fun t => t.answered rq (K 0x2200 1) (0x0403, 0x2204)) ∧
  (∀ dt s, s.updStage = 3 → s.guardDetail 1 = none → s.upd.waits = none →
    Does (.verificationComplete dt [] []) s [.nv, .upd] (fun k => K 0x2200 4 ≤ k ∧ k ≤ K 0x2200 8 ∨ k = K 0x2100 6) fun t =>
      if s.authentic (s.slotManifest s.targetSlot) = true ∧
          s.imagePlain.map Config.sha384 = some (slice (s.slotManifest s.targetSlot) 0x40 48) then t.updStage = 4 ∧ t.get (K 0x2200 5) = 0
      else t.updStage = 1 ∧ t.upd.stored = [] ∧ t.get (K 0x2200 5) = 0x0502) ∧
  (∀ dt (corrected : List Nat) o s, s.updStage = 3 → s.guardDetail 1 = none → Calm s [(0x15, 1)] →
    Does (.verificationComplete dt corrected [o]) s [.nv, .upd, .log] (fun k => K 0x2200 4 ≤ k ∧ k ≤ K 0x2200 8 ∨ K 0x2100 4 ≤ k ∧ k ≤ K 0x2100 6) fun t =>
      t.updStage = 1 ∧ t.get (K 0x2200 5) = 0x0502 ∧ t.get (K 0x2100 5) = (s.get (K 0x2100 5) + 1) % 2 ^ 32) ∧
  (∀ dt (corrected : List Nat) bad s, s.updStage ≠ 3 → s.upd.waits = none →
    Does (.verificationComplete dt corrected bad) s [] (fun _ => False) fun t => t.nv = s.nv) ∧
  (∀ dt (c : Client) x s, s.xferOf c = some x → x.upload = false → x.last = true → x.key = K 0x2200 3 → s.serverUp = true → s.upd.waits = none →
    x.data.length = x.total → s.updStage = 1 → beAt x.data 0 4 = imageId (s.slotManifest s.targetSlot) →
    beAt x.data 4 4 < chunkCount (s.slotManifest s.targetSlot) → s.upd.stored.contains (beAt x.data 4 4) = false → s.guardDetail 0 = none →
    1 ≤ s.targetSlot → s.targetSlot ≤ 2 →
    Does (.chunk dt c) s [.nv, .upd, .xfers, .ports, .clients] (fun k => K 0x2200 4 ≤ k ∧ k ≤ K 0x2200 8) fun t =>
      if (s.openChunk (s.slotManifest s.targetSlot) (beAt x.data 4 4) (x.data.drop 8)).isSome = true then
        t.lastReply c = some (codePdu 0x87 x.tag x.key ok) ∧ t.upd.stored = s.upd.stored ++ [beAt x.data 4 4] ∧
        mapGet (nth ⟨[], []⟩ t.nv.slots (s.targetSlot - 1)).chunks (beAt x.data 4 4) = some (x.data.drop 8)
      else t.lastReply c = some (codePdu 0x87 x.tag x.key (0x0502, 0)) ∧ t.nv = s.nv ∧ t.upd = s.upd) ∧
  (∀ dt (c : Client) x s, s.xferOf c = some x → x.upload = false → x.last = true → x.key = K 0x2200 3 → s.serverUp = true → s.upd.waits = none →
    x.data.length = x.total → s.updStage ≠ 1 →
    Does (.chunk dt c) s [.xfers, .ports, .clients] (fun k => k = K 0x2200 5) fun t =>
      t.lastReply c = some (codePdu 0x87 x.tag x.key (0x0401, s.mode.code)) ∧ t.nv = s.nv) ∧
  (∀ dt (p : Fin 2) addr port (frag : Byte) image data s, s.netUp p = true → bit (s.get (K 0x2200 0x10)) p = true → s.updServes = true → data.length = 1024 →
    frag.toNat % 64 = 0 → s.upd.colls = [] → s.upd.waits = none →
    Does (.manifestFragment dt p addr port frag image data) s [.upd] (fun _ => False) fun t =>
      t.upd.colls = [⟨p, addr.addr, port, image.toNat, 0xFFFFFFFF, s.now + dt, [(frag.toNat / 64, data)]⟩] ∧ t.nv = s.nv) ∧
  (∀ dt (p : Fin 2) addr port (frag : Byte) image (chunk : Word32) data s, s.netUp p = true → bit (s.get (K 0x2200 0x10)) p = true → s.updServes = true →
    data.length = 1024 → frag.toNat % 64 = 0 → s.upd.colls = [] → chunk.toNat ≠ 0xFFFFFFFF → s.upd.waits = none →
    Does (.chunkFragment dt p addr port frag image chunk data) s [.upd] (fun _ => False) fun t =>
      t.upd.colls = [⟨p, addr.addr, port, image.toNat, chunk.toNat, s.now + dt, [(frag.toNat / 64, data)]⟩] ∧ t.nv = s.nv) ∧
  (∀ dt (p : Fin 2) addr port image (chunk : Word32) s, s.netUp p = true → bit (s.get (K 0x2200 0x10)) p = true → s.updServes = true →
    s.upd.waits = none →
    Does (.statusQuery dt p addr port image chunk) s [.ports] (fun k => K 0x2200 6 ≤ k ∧ k ≤ K 0x2200 8) fun t =>
      (nth [] t.net.ethTx p).length = (nth [] s.net.ethTx p).length + 1 ∧
      ∀ x ∈ (nth [] t.net.ethTx p).getLast?, x.addr = addr.addr ∧ x.mac = some addr.mac ∧ x.port = port ∧ beAt x.data 0 3 = 0x5A5581 ∧ beAt x.data 4 4 = image.toNat ∧
        beAt x.data 16 2 = s.get (K 0x2200 5) ∧ beAt x.data 18 1 = s.updStage) ∧
  (∀ dt (p : Fin 2) addr port image (chunk : Word32) s, s.netUp p = false ∨ bit (s.get (K 0x2200 0x10)) p = false → s.upd.waits = none →
    Does (.statusQuery dt p addr port image chunk) s [] (fun _ => False) fun t => t.net = s.net) ∧
  (∀ dt s, s.upd.waits = none →
    Does (.updateFragmentTimeout dt) s [.upd] (fun _ => False) fun t =>
      t.upd = { s.upd with colls := s.upd.colls.filter fun c => decide (s.now + dt < c.firstAt + 100000000) })

/-- Activation, trial, confirmation and fall-back (R469, R483–R489): an activation of a verified image starts a rolling restart, or with
reset resets the device from PREOP; the recovery loader writes both boot records; the pairs restart in order, and the end of a rolling
restart returns to the state before HOLD; a confirmation settles the image and saves the configuration; a fall-back is taken, refused, or
waits. Completion: Does and Gives conclude that exec answers a next state, with what it holds, under conditions on the state and the
operands alone; this statement concludes it for updateActivate, recoveryActivate, updateActivateWithReset, updateConfirm, updateFallBack,
autoConfirm, apcPairRestarted, endOfRollingRestart. It rests on choices of the model where the spec leaves room: log entries 142, 143,
144. -/
def Obligations.UpdateActivation : Prop :=
  (∀ dt rq s, Served s dt rq (K 0x2200 1) 4 → s.sys.recovery = false → s.mode = .preop ∨ s.mode = .operate ∨ s.mode = .standby → s.updStage = 4 →
    byteAt (s.slotManifest s.targetSlot) 7 % 2 = 1 → beAt (s.slotManifest s.targetSlot) 0x24 4 ≤ beAt s.runManifest 0x14 4 → s.guardDetail 2 = none →
    Steady s →
    Gives (.updateActivate dt rq) s fun t =>
      t.answered rq (K 0x2200 1) ok ∧ t.updStage = 5 ∧ t.upd.roll = some ⟨s.targetSlot, none, 3⟩ ∧ t.sys.apc = [true, false] ∧
      t.sys.before = s.mode.code ∧ (t.mode = .hold ∨ t.mode = .safe) ∧ t.bootRec.stage = 1 ∧ t.bootRec.pending = s.targetSlot ∧ t.bootRec.actmode = 0) ∧
  (∀ dt rq s, Served s dt rq (K 0x2200 1) 4 → s.sys.recovery = false → s.mode = .preop ∨ s.mode = .operate ∨ s.mode = .standby → s.updStage ≠ 4 →
    Does (.updateActivate dt rq) s [.ports, .clients] (fun k => k = K 0x2200 5) fun t => t.answered rq (K 0x2200 1) (0x0403, 0x2204)) ∧
  (∀ dt rq s, Served s dt rq (K 0x2200 1) 4 → s.sys.recovery = true → s.updStage = 4 →
    Gives (.recoveryActivate dt rq) s fun t =>
      t.mode = .boot ∧ t.sys.bootStep = 0 ∧ t.get (K 0x2320 2) = 5 ∧ t.bootRec.active = s.targetSlot ∧ t.bootRec.stage = 0 ∧ t.nv.journals = [none, none]) ∧
  (∀ dt rq s, Served s dt rq (K 0x2200 1) 7 → s.sys.recovery = false → s.mode = .preop → s.updStage = 4 → s.guardDetail 2 = none →
    Gives (.updateActivateWithReset dt rq) s fun t =>
      t.mode = .boot ∧ t.sys.bootStep = 0 ∧ t.get (K 0x2320 2) = 5 ∧ t.bootRec.stage = 2 ∧ t.bootRec.pending = s.targetSlot ∧ t.bootRec.actmode = 1) ∧
  (∀ dt rq s, Served s dt rq (K 0x2200 1) 7 → s.sys.recovery = false → s.mode ≠ .preop →
    Does (.updateActivateWithReset dt rq) s [.ports, .clients] (fun k => k = K 0x2200 5) fun t =>
      t.answered rq (K 0x2200 1) (0x0401, s.mode.code)) ∧
  (∀ dt rq s, Served s dt rq (K 0x2200 1) 5 → s.sys.recovery = false → s.bootRec.stage = 2 → s.bodyReadable = true → s.sys.save = none →
    Does (.updateConfirm dt rq) s [.nv, .upd, .save, .ports, .clients] (fun k => k / 256 = 0x2200 ∨ k / 256 = 0x2010 ∨ k / 256 = 0x2011) fun t =>
      t.answered rq (K 0x2200 1) ok ∧ t.bootRec.stage = 0 ∧ t.bootRec.active = s.bootRec.pending ∧ t.updStage = 0 ∧ t.sys.save.isSome = true ∧
      t.nv.fuses.counter = min 63 (max s.nv.fuses.counter (beAt s.runManifest 0x18 4))) ∧
  (∀ dt rq s, Served s dt rq (K 0x2200 1) 5 → s.sys.recovery = false → s.bootRec.stage ≠ 2 →
    Does (.updateConfirm dt rq) s [.ports, .clients] (fun k => k = K 0x2200 5) fun t => t.answered rq (K 0x2200 1) (0x0403, 0x2207)) ∧
  (∀ dt rq s, Served s dt rq (K 0x2200 1) 6 → s.sys.recovery = false → s.bootRec.stage = 2 → s.bootRec.actmode = 0 → s.mode = .operate → Steady s →
    Gives (.updateFallBack dt rq) s fun t =>
      t.answered rq (K 0x2200 1) ok ∧ t.updStage = 7 ∧ t.upd.roll = some ⟨s.bootRec.active, some 3, 3⟩ ∧ (t.mode = .hold ∨ t.mode = .safe) ∧
      t.sys.apc = [true, false]) ∧
  (∀ dt rq s, Served s dt rq (K 0x2200 1) 6 → s.sys.recovery = false → s.bootRec.stage ≠ 2 →
    s.mode ≠ .safe → s.mode ≠ .hold →
    Does (.updateFallBack dt rq) s [.ports, .clients] (fun k => k = K 0x2200 5) fun t => t.answered rq (K 0x2200 1) (0x0403, 0x2207)) ∧
  (∀ dt rq s, Served s dt rq (K 0x2200 1) 6 → s.sys.recovery = false → s.bootRec.stage = 2 → s.mode = .safe →
    Does (.updateFallBack dt rq) s [.upd, .ports, .clients] (fun k => k = K 0x2200 5) fun t =>
      t.answered rq (K 0x2200 1) (0x0401, s.mode.code) ∧ t.upd = { s.upd with waits := some 3 }) ∧
  (∀ dt s, s.mode = .operate → s.get (K 0x2200 0x0D) ≠ 0 → s.upd.trialAt + s.get (K 0x2200 0x0D) * 1000000000 ≤ s.now + dt → s.safe.log = Safe.init.log →
    s.bootRec.stage = 2 → s.sys.apc = [true, true] → s.bodyReadable = true → s.sys.save = none → s.upd.waits = none →
    Does (.autoConfirm dt) s [.nv, .upd, .save] (fun k => k / 256 = 0x2200 ∨ k / 256 = 0x2010 ∨ k / 256 = 0x2011) fun t =>
      t.bootRec.stage = 0 ∧ t.bootRec.active = s.bootRec.pending ∧ t.sys.save.isSome = true ∧ t.get (K 0x2200 5) = 0) ∧
  (∀ dt s, s.get (K 0x2200 0x0D) = 0 ∨ s.bootRec.stage ≠ 2 → s.upd.waits = none →
    Does (.autoConfirm dt) s [] (fun _ => False) fun t => t.nv = s.nv) ∧
  (∀ dt (r : Roll) s, s.upd.roll = some r → r.step = 3 → s.mode = .hold → s.upd.waits = none →
    Does (.apcPairRestarted dt 1) s [.upd, .apc] (fun _ => False) fun t =>
      t.sys.apc = [false, true] ∧ t.upd.roll = some { r with step := 4 }) ∧
  (∀ dt (r : Roll) s, s.upd.roll = some r → r.step = 4 → s.mode = .hold → s.upd.waits = none →
    Does (.apcPairRestarted dt 0) s [.upd, .apc, .cores] (fun k => k = K 0x8300 1) fun t =>
      t.sys.apc = [true, true] ∧ t.upd.roll = some { r with step := 5 } ∧ nth true t.safe.cores 2 = false) ∧
  (∀ dt (r : Roll) s, s.upd.roll = some r → r.step = 8 → r.fall = none → s.mode = .hold → s.sys.before = 2 →
    s.sys.apc = [true, true] → s.pwr.cal.firstDone = true → s.pwr.cal.waiting = false → (s.putUpd { s.upd with slot := r.slot }).bodyReadable = true →
    s.upd.doseDue = false → s.upd.waits = none →
    Gives (.endOfRollingRestart dt) s fun t =>
      t.upd.roll = none ∧ t.upd.slot = r.slot ∧ t.bootRec.stage = 2 ∧ t.updStage = 6 ∧ t.upd.trialAt = s.now + dt ∧
      (t.mode = .operate ∧ t.get (K 0x2000 4) = 8 ∨ t.mode = .safe)) ∧
  (∀ dt s, s.upd.roll = none → s.upd.doseDue = false → s.pwr.cal.firstDone = true → s.pwr.cal.waiting = false → s.upd.waits = none →
    Does (.endOfRollingRestart dt) s [] (fun _ => False) fun t => t.nv = s.nv)

/-- Upkeep of the store (R465, R466, R491, R492): the refresher takes its next block and counts, a pass of 1,024 blocks ends with its
time; the dose archive goes at the end of its interval to the copy that is not in use, or waits; a new log entry goes to the fault
archive. Completion: Does and Gives conclude that exec answers a next state, with what it holds, under conditions on the state and the
operands alone; this statement concludes it for refreshBlock, doseArchive, faultArchive. It rests on choices of the model where the spec
leaves room: log entry 145. -/
def Obligations.StoreUpkeep : Prop :=
  (∀ dt (corrected : Nat) s, s.sys.apc = [true, true] → s.mode = .operate → s.nv.refresh.first = [] → s.nv.refresh.next < 1024 →
    s.blockBusy s.nv.refresh.next = false → s.get (K 0x2100 2) + 1 < 1024 → s.refreshWaits = false → s.upd.waits = none →
    Does (.refreshBlock dt corrected []) s [.nv] (fun k => k = K 0x2100 2 ∨ k = K 0x2100 4) fun t =>
      t.nv.refresh = { s.nv.refresh with next := s.nv.refresh.next + 1 } ∧ t.get (K 0x2100 2) = s.get (K 0x2100 2) + 1 ∧
      t.get (K 0x2100 4) = (s.get (K 0x2100 4) + corrected) % 2 ^ 32) ∧
  (∀ dt (corrected : Nat) s, s.sys.apc = [true, true] → s.mode = .operate → s.nv.refresh = ⟨1023, [], []⟩ → s.blockBusy 1023 = false →
    s.get (K 0x2100 2) = 1023 → s.refreshWaits = false → s.upd.waits = none →
    Does (.refreshBlock dt corrected []) s [.nv] (fun k => k = K 0x2100 2 ∨ k = K 0x2100 3 ∨ k = K 0x2100 4) fun t =>
      t.nv.refresh = ⟨0, [], []⟩ ∧ t.get (K 0x2100 2) = 0 ∧ t.get (K 0x2100 3) = (s.tick dt).timeNs % 2 ^ 64) ∧
  (∀ dt (corrected : Nat) bad s, s.mode = .boot → s.upd.waits = none →
    Does (.refreshBlock dt corrected bad) s [] (fun _ => False) fun t => t.nv = s.nv) ∧
  (∀ dt s, s.mode = .operate → s.sys.apc = [true, true] → s.upd.doseAt + s.get (K 0x2110 1) * 60000000000 ≤ s.now + dt → s.doseWaits = false →
    s.upd.waits = none →
    Does (.doseArchive dt) s [.nv, .upd] (fun k => k = K 0x2110 2 ∨ k = K 0x2110 3) fun t =>
      t.get (K 0x2110 3) = (if s.get (K 0x2110 3) = 1 then 2 else 1) ∧ t.get (K 0x2110 2) = (s.tick dt).timeNs % 2 ^ 64 ∧
      (nth DoseCopy.empty t.nv.doses (t.get (K 0x2110 3) - 1)).dose = s.comp.src.map (·.dose) ∧
      (nth DoseCopy.empty t.nv.doses (t.get (K 0x2110 3) - 1)).valid = true ∧
      nth DoseCopy.empty t.nv.doses (2 - t.get (K 0x2110 3)) = nth DoseCopy.empty s.nv.doses (2 - t.get (K 0x2110 3)) ∧
      t.upd = { s.upd with doseAt := s.now + dt, doseDue := false }) ∧
  (∀ dt s, s.mode ≠ .boot → s.sys.apc = [true, true] → s.upd.doseAt + s.get (K 0x2110 1) * 60000000000 ≤ s.now + dt → s.doseWaits = true →
    s.upd.waits = none →
    Does (.doseArchive dt) s [.upd] (fun _ => False) fun t => t.upd = { s.upd with doseDue := true }) ∧
  (∀ dt s, s.mode = .boot ∨ s.now + dt < s.upd.doseAt + s.get (K 0x2110 1) * 60000000000 → s.upd.waits = none →
    Does (.doseArchive dt) s [] (fun _ => False) fun t => t.nv = s.nv) ∧
  (∀ dt (e : LogE) s, s.mode = .operate → s.sys.apc = [true, true] → s.nextArchive = some e → (nth [] s.nv.faults.halves s.nv.faults.half).length < 32768 →
    s.nv.faults.half < 2 → s.upd.doseDue = false → s.upd.waits = none →
    Does (.faultArchive dt) s [.nv] (fun k => k = K 0x2110 4) fun t =>
      nth [] t.nv.faults.halves s.nv.faults.half = nth [] s.nv.faults.halves s.nv.faults.half ++ [e.bytes ++ toBe 8 (s.tick dt).timeNs] ∧
      t.nv.faults.nextOrd = e.ord + 1) ∧
  (∀ dt s, s.mode = .boot ∨ s.mode = .hold ∨ s.nextArchive = none → s.upd.doseDue = false → s.upd.waits = none →
    Does (.faultArchive dt) s [] (fun _ => False) fun t => t.nv = s.nv)

/-- Power domains (R495–R501): a commit that passes starts every entry asked for, and one that does not starts none; a domain whose
accesses have completed is in its state, in retention with the signatures of its banks; a wake source wakes the domains it names, a domain
that is ready serves again, an access that has waited 200 µs is answered 0x0407, and a command of a block whose domain is not on changes
nothing. Completion: Does and Gives conclude that exec answers a next state, with what it holds, under conditions on the state and the
operands alone; this statement concludes it for powerRequestCommit, domainStateReached, wakeDetect, domainWakeComplete, stallLimit. It
rests on choices of the model where the spec leaves room: log entries 25, 146, 147, 148, 152. -/
def Obligations.PowerDomains : Prop :=
  (∀ dt rq s, Served s dt rq (K 0x2300 1) 1 → s.powerOk = true →
    Does (.powerRequestCommit dt rq) s [.pwr, .ports, .clients] (fun k => k / 256 = 0x2302 ∨ k = K 0x2300 2) fun t =>
      t.answered rq (K 0x2300 1) ok ∧ t.get (K 0x2300 2) = 0 ∧
      ∀ d ∈ List.range 38, (s.domState d = 0 → s.wanted d ≠ 0 → t.domState d = 4 ∧ mapGet t.pwr.entering d = some (s.wanted d)) ∧
        (s.domState d = 1 ∨ s.domState d = 2 → s.wanted d = 0 → t.domState d = 3)) ∧
  (∀ dt rq s, Served s dt rq (K 0x2300 1) 1 → s.powerOk = false →
    Does (.powerRequestCommit dt rq) s [.ports, .clients] (fun k => k = K 0x2300 2) fun t =>
      t.answered rq (K 0x2300 1) (0x0402, 0) ∧ t.get (K 0x2300 2) = 0x0402) ∧
  (∀ dt (d : Fin 38) s, s.domState d = 4 → mapGet s.pwr.entering d = some 1 → s.pwr.rewake.contains d.val = false → s.upd.waits = none →
    ¬ (3 ≤ d.val ∧ d.val ≤ 6) →
    Does (.domainStateReached dt d) s [.pwr, .pcg] (fun k => k = K 0x2302 (d + 1)) fun t =>
      t.domState d = 1 ∧ mapGet t.pwr.entering d = mapGet (mapDel s.pwr.entering d) d ∧
      (7 ≤ d.val → d.val ≤ 0x16 → mapGet t.pwr.sigs (4 * (d - 7)) = some (s.bankCrc (4 * (d - 7))))) ∧
  (∀ dt s, s.domState 0x20 = 4 → mapGet s.pwr.entering 0x20 = some 2 → s.pwr.rewake.contains 0x20 = false → s.upd.waits = none →
    Does (.domainStateReached dt 0x20) s [.pwr, .pcg, .claims, .streams, .ports]
      (fun k => k = K 0x2302 0x21 ∨ domainOf k = some 0x20) fun t =>
      t.domState 0x20 = 2 ∧ t.net.streams = [Stream.init, Stream.init] ∧ t.net.ethTx = [[], []]) ∧
  (∀ dt (w : Fin 6) (n : Fin 4) pat s, (s.wakeSet w n pat).any (fun d => s.domState d == 1 || s.domState d == 2) = true → s.upd.waits = none →
    Does (.wakeDetect dt w n pat) s [.pwr] (fun k => k / 256 = 0x2302 ∨ k = K 0x2300 6) fun t =>
      t.get (K 0x2300 6) = w + 1 ∧ ∀ d ∈ s.wakeSet w n pat, d < 38 → s.domState d = 1 ∨ s.domState d = 2 → t.domState d = 3) ∧
  (∀ dt (d : Fin 38) (upset : Fin 16) s, s.domState d = 3 → mapGet s.pwr.wokeFrom d = some 1 → s.upd.waits = none →
    ¬ (3 ≤ d.val ∧ d.val ≤ 0x16) → (∀ x ∈ s.pwr.stalled, x.dom ≠ d.val) →
    Does (.domainWakeComplete dt d upset) s [.pwr, .pcg] (fun k => k = K 0x2302 (d + 1) ∨ k = K 0x2400 3) fun t => t.domState d = 0) ∧
  (∀ dt (x : Stall) s, s.pwr.stalled = [x] → x.since + 200000 ≤ s.now + dt → Calm s [(0x16, 4)] →
    Does (.stallLimit dt) s [.pwr, .log, .ports, .clients] (fun _ => False) fun t =>
      t.pwr.stalled = [] ∧ t.lastReply x.client = some (codePdu (if (parsePdu x.pdu).cmd = 2 then 0x82 else 0x7F) (parsePdu x.pdu).tag
        (parsePdu x.pdu).key (0x0407, x.dom))) ∧
  (∀ (i : Instr) s, (needsOn i).any (fun d => s.domState d != 0) = true → s.upd.waits = none →
    Does i s [] (fun _ => False) fun t => t.pwr = s.pwr)

/-- Resets (R502–R504, R506, R544): a supply trip, RESET_N and a clock check each put the device back into BOOT at step 0 with their
cause, keep the store, and keep the fault log with its active flags cleared unless VDD_AON failed; a release of RESET_N ends the reset,
with a record after a long hold; and a stuck pin lets the device leave reset. Completion: Does and Gives conclude that exec answers a next
state, with what it holds, under conditions on the state and the operands alone; this statement concludes it for supplyMonitorTrip,
resetNAssert, resetNRelease, stuckReset, clockMonitorFault. It rests on choices of the model where the spec leaves room: log entries 52,
154, 156. -/
def Obligations.Resets : Prop :=
  (∀ dt (rail : Fin 8) s, rail.val ≠ 2 →
    Gives (.supplyMonitorTrip dt rail) s fun t =>
      t.mode = .boot ∧ t.sys.bootStep = 0 ∧ t.get (K 0x2320 2) = 1 ∧ t.get (K 0x2320 5) = (s.get (K 0x2320 5) + 1) % 2 ^ 32 ∧
      t.pins.supplies = false ∧ t.nv = s.nv ∧ t.sys.claims = [] ∧ t.doms = [] ∧ t.active = [] ∧ t.safe.aliveP = false ∧
      t.safe.log = s.safe.log.map logQuiet ∧ t.pending = s.pending) ∧
  (∀ dt s, Gives (.supplyMonitorTrip dt 2) s fun t =>
      t.mode = .boot ∧ t.sys.bootStep = 0 ∧ t.get (K 0x2320 5) = 0 ∧ t.pins.supplies = false ∧ t.nv = s.nv ∧
      t.safe.log = State.reset.safe.log ∧ t.pending = s.pending) ∧
  (∀ dt s, s.pwr.pinLow = false → s.get (K 0x2320 4) ≠ 1 ∨ s.pwr.highSince + 1000000 ≤ s.now + dt →
    Gives (.resetNAssert dt) s fun t =>
      t.mode = .boot ∧ t.sys.bootStep = 0 ∧ t.get (K 0x2320 2) = 2 ∧ t.get (K 0x2320 4) = 0 ∧ t.pwr.inReset = true ∧
      t.pwr.lowSince = s.now + dt ∧ t.nv = s.nv ∧ t.sys.claims = [] ∧ t.safe.aliveP = false ∧ t.safe.log = s.safe.log.map logQuiet) ∧
  (∀ dt s, s.pwr.pinLow = false → s.get (K 0x2320 4) = 1 → s.now + dt < s.pwr.highSince + 1000000 → s.upd.waits = none →
    Does (.resetNAssert dt) s [.pwr] (fun _ => False) fun t => t.pwr = { s.pwr with pinLow := true, lowSince := s.now + dt }) ∧
  (∀ dt s, s.pwr.pinLow = true → s.now + dt ≤ s.pwr.lowSince + 2000000000 → s.upd.waits = none →
    Does (.resetNRelease dt) s [.pwr] (fun _ => False) fun t =>
      t.pwr = { s.pwr with pinLow := false, inReset := false, highSince := s.now + dt }) ∧
  (∀ dt s, s.pwr.pinLow = true → s.pwr.inReset = true → s.pwr.lowSince + 2000000000 < s.now + dt → Calm s [(0x16, 0x12)] →
    Does (.resetNRelease dt) s [.pwr, .log] (fun k => k = K 0x2320 3) fun t =>
      t.pwr.inReset = false ∧ t.get (K 0x2320 3) = satN 0xFFFFFFFF ((s.now + dt - s.pwr.lowSince) / 1000000)) ∧
  (∀ dt s, s.pwr.inReset = true → s.pwr.tolerant = true → s.pwr.lowSince + 501000000 ≤ s.now + dt → Calm s [(0x16, 0x12)] →
    Does (.stuckReset dt) s [.pwr, .log] (fun k => k = K 0x2320 4) fun t =>
      t.pwr = { s.pwr with inReset := false } ∧ t.get (K 0x2320 4) = 1) ∧
  (∀ dt (check : Fin 11) s, Gives (.clockMonitorFault dt check) s fun t =>
      t.mode = .boot ∧ t.sys.bootStep = 0 ∧ t.get (K 0x2320 2) = 4 ∧ t.pwr.clockFault = some check.val ∧ t.nv = s.nv ∧
      t.get (K 0x2330 3) = (s.get (K 0x2330 3) + 1) % 2 ^ 32 ∧ t.safe.log = s.safe.log.map logQuiet)

/-- Temperature (R507, R511): a sample puts its readings, and the grace time, the step interval and the release time move the thermal
state. Completion: Does and Gives conclude that exec answers a next state, with what it holds, under conditions on the state and the
operands alone; this statement concludes it for temperatureSample, graceTimeEnd, stepIntervalEnd, releaseTimeEnd. It rests on choices of
the model where the spec leaves room: log entries 157, 158. -/
def Obligations.Thermal : Prop :=
  (∀ dt (r : List Int) mv s, s.pwr.inReset = false → s.sys.bootStep ≠ 0 → Calm s [(0x17, 8), (0x17, 0x0B), (0x17, 0x16)] →
    Does (.temperatureSample dt r mv) s [.pwr, .log, .fs, .upd]
      (fun k => k / 256 = 0x2500 ∨ k / 256 = 0x2510 ∨ k = K 0x2202 5 ∨ k = K 0x2400 3) fun t =>
      (∀ j ∈ List.range 24, ∀ x ∈ r[j]?, t.get (K 0x2510 (j + 1)) = unsgn 32 (clampI (-(2 ^ 31)) (2 ^ 31 - 1) x)) ∧
      t.get (K 0x2202 5) = mv % 2 ^ 16) ∧
  (∀ dt s, s.therm = 1 → s.pwr.thermSince + s.msOf (K 0x2500 5) ≤ s.now + dt → s.pwr.coolSince = none → s.upd.waits = none →
    Does (.graceTimeEnd dt) s [.pwr] (fun k => k = K 0x2500 9 ∨ k = K 0x2500 0x0A) fun t =>
      t.therm = 2 ∧ t.get (K 0x2500 0x0A) = s.get (K 0x2500 8) ∧ t.pwr.thermSince = s.now + dt) ∧
  (∀ dt s, s.therm = 2 ∨ s.therm = 3 → s.pwr.stepFrom + s.msOf (K 0x2500 6) ≤ s.now + dt → s.pwr.hot = true → s.upd.waits = none →
    Does (.stepIntervalEnd dt) s [.pwr, .fs] (fun k => k = K 0x2500 9 ∨ k = K 0x2500 0x0A) fun t =>
      t.therm = s.therm + 1 ∧ (s.therm = 2 → t.fs = { s.fs with halveNext := some true }) ∧ (s.therm = 3 → t.fs = s.fs)) ∧
  (∀ dt s, s.therm = 2 ∨ s.therm = 3 → s.pwr.stepFrom + s.msOf (K 0x2500 6) ≤ s.now + dt → s.pwr.hot = false → s.upd.waits = none →
    Does (.stepIntervalEnd dt) s [.pwr] (fun _ => False) fun t => t.pwr = { s.pwr with stepFrom := s.now + dt }) ∧
  (∀ dt c s, s.pwr.coolSince = some c → max c s.pwr.thermSince + s.msOf (K 0x2500 7) ≤ s.now + dt → s.therm = 1 ∨ s.therm = 2 →
    s.upd.waits = none →
    Does (.releaseTimeEnd dt) s [.pwr, .log] (fun k => k = K 0x2500 9 ∨ k = K 0x2500 0x0A) fun t =>
      t.therm = 0 ∧ t.get (K 0x2500 0x0A) = 0xFFFF) ∧
  (∀ dt c s, s.pwr.coolSince = some c → max c s.pwr.thermSince + s.msOf (K 0x2500 7) ≤ s.now + dt →
    s.therm = 3 ∨ s.therm = 4 ∧ s.dieBlind = false → s.upd.waits = none →
    Does (.releaseTimeEnd dt) s [.pwr, .fs] (fun k => k = K 0x2500 9 ∨ k = K 0x2500 0x0A) fun t => t.therm = s.therm - 1)

/-- Calibration (R513–R516): a run starts by command or repeat and ends with a result, a save writes the record that is not in use, which
is in use once it reads back, and a reload puts the record in use, or the trims and the defaults. Completion: Does and Gives conclude that
exec answers a next state, with what it holds, under conditions on the state and the operands alone; this statement concludes it for
calibrationRun, calibrationRunComplete, calibrationRetry, calibrationSave, calibrationSaveComplete, calibrationReload. It rests on choices
of the model where the spec leaves room: log entries 159, 160. -/
def Obligations.Calibration : Prop :=
  (∀ dt rq s, Served s dt rq (K 0x2400 1) 1 → s.pwr.cal.running = false → s.sys.apc.any id = true → s.mode ≠ .hold →
    Does (.calibrationRun dt rq) s [.pwr, .ports, .clients] (fun k => k = K 0x2400 3) fun t =>
      t.answered rq (K 0x2400 1) ok ∧ t.pwr.cal.running = true ∧ t.get (K 0x2400 3) = 1) ∧
  (∀ dt (a b : List (List Nat)) s, s.pwr.cal.running = true → s.pwr.cal.waiting = false → Calm s [(0x18, 6)] →
    Does (.calibrationRunComplete dt a b) s [.doms, .pwr, .log] (fun k => k ∈ calKeys ∨ k / 256 = 0x2400) fun t =>
      t.pwr.cal.running = false ∧ t.get (K 0x2400 3) = (if t.get (K 0x2400 4) = 0 then 2 else 3) ∧
      t.get (K 0x2400 8) = (s.get (K 0x2400 8) + 1) % 2 ^ 32 ∧ t.get (K 0x2400 5) = (s.tick dt).timeNs % 2 ^ 64) ∧
  (∀ dt (r : Nat) s, s.pwr.cal.retryAt = some r → r ≤ s.now + dt → s.pwr.cal.running = false → s.sys.apc.any id = true → s.mode ≠ .hold →
    s.upd.waits = none →
    Does (.calibrationRetry dt) s [.pwr] (fun k => k = K 0x2400 3) fun t =>
      t.pwr.cal.running = true ∧ t.pwr.cal.retries = s.pwr.cal.retries + 1 ∧ t.get (K 0x2400 3) = 1) ∧
  (∀ dt rq s, Served s dt rq (K 0x2400 1) 2 → s.pwr.cal.saving = none → s.sys.save = none → s.onTrial = false →
    Does (.calibrationSave dt rq) s [.pwr, .nv, .ports, .clients] (fun k => k = K 0x2400 7) fun t =>
      t.answered rq (K 0x2400 1) ok ∧ t.pwr.cal.saving = some (s.tick dt).calRecord ∧ t.get (K 0x2400 7) = 1) ∧
  (∀ dt n (r : CalRec) s, s.pwr.cal.saving = some (n, r) → s.upd.waits = none → n < 2 →
    Does (.calibrationSaveComplete dt true) s [.pwr, .nv] (fun k => k = K 0x2400 6 ∨ k = K 0x2400 7) fun t =>
      t.pwr.cal.saving = none ∧ nth CalRec.empty t.nv.cals n = r ∧ t.get (K 0x2400 6) = n + 1 ∧ t.get (K 0x2400 7) = 2) ∧
  (∀ dt n (r : CalRec) s, s.pwr.cal.saving = some (n, r) → s.pwr.cal.attempt = 2 → Calm s [(0x15, 3)] →
    Does (.calibrationSaveComplete dt false) s [.pwr, .log] (fun k => k = K 0x2400 7) fun t =>
      t.pwr.cal.saving = none ∧ t.get (K 0x2400 7) = 3) ∧
  (∀ dt rq s, Served s dt rq (K 0x2400 1) 3 → s.calInUse = none →
    Does (.calibrationReload dt rq) s [.doms, .ports, .clients] (fun k => k ∈ calKeys) fun t =>
      t.answered rq (K 0x2400 1) ok ∧ (∀ k ∈ calKeys, t.get k = dflt k) ∧ ∀ k ∈ calDoms, t.dom k = none)

/-- Check-value units (R524, R525): DAP claims and releases a unit, starts it from the initial value, goes on from the present running
value, aborts a run, and a unit that takes its last descriptor is done. Completion: Does and Gives conclude that exec answers a next
state, with what it holds, under conditions on the state and the operands alone; this statement concludes it for dapClaim,
dapClaimRelease, crcStart, crcContinue, crcAbort, crcRunEnd. It rests on choices of the model where the spec leaves room: log entries 162,
163. -/
def Obligations.CheckValueUnits : Prop :=
  (∀ dt rq (u : Fin 8) s, Served s dt rq (K (CU u) 1) 1 → s.owner (0xDB + u) = 0 ∨ s.owner (0xDB + u) = 0x0AFF →
    Does (.dapClaim dt rq u) s [.claims, .ports, .clients] (fun k => k = K (CU u) 1) fun t =>
      t.answered rq (K (CU u) 1) ok ∧ t.get (K (CU u) 1) = 1 ∧ t.owner (0xDB + u) = 0x0AFF) ∧
  (∀ dt rq (u : Fin 8) s, Served s dt rq (K (CU u) 1) 0 → s.owner (0xDB + u) = 0x0AFF → s.get (K (CU u) 9) ≠ 1 →
    Does (.dapClaimRelease dt rq u) s [.claims, .ports, .clients] (fun k => k = K (CU u) 1) fun t =>
      t.answered rq (K (CU u) 1) ok ∧ t.get (K (CU u) 1) = 0 ∧ t.owner (0xDB + u) = 0) ∧
  (∀ dt rq (u : Fin 8) s, Served s dt rq (K (CU u) 8) 1 → s.get (K (CU u) 1) = 1 → s.get (K (CU u) 9) ≠ 1 →
    Does (.crcStart dt rq u) s [.crc, .ports, .clients] (fun k => k = K (CU u) 9 ∨ k = K (CU u) 0x0A ∨ k = K (CU u) 0x0B ∨ k = K (CU u) 0x0C) fun t =>
      t.answered rq (K (CU u) 8) ok ∧ t.get (K (CU u) 9) = 1 ∧ t.get (K (CU u) 0x0A) = s.get (K (CU u) 4) % 2 ^ 64 ∧ t.get (K (CU u) 0x0C) = 0) ∧
  (∀ dt rq (u : Fin 8) s, Served s dt rq (K (CU u) 8) 2 → s.get (K (CU u) 1) = 1 → s.get (K (CU u) 9) ≠ 1 →
    Does (.crcContinue dt rq u) s [.crc, .ports, .clients] (fun k => k = K (CU u) 9 ∨ k = K (CU u) 0x0B) fun t =>
      t.answered rq (K (CU u) 8) ok ∧ t.get (K (CU u) 9) = 1) ∧
  (∀ dt rq (u : Fin 8) s, Served s dt rq (K (CU u) 8) 3 → Calm s [(0x1D, 1), (0x1D, 2), (0x16, 2), (0x0D, 1)] → s.get (K (CU u) 1) = 1 → s.get (K (CU u) 9) = 1 →
    Does (.crcAbort dt rq u) s [.crc, .claims, .log, .pwr, .ports, .clients]
      (fun k => k / 256 = CU u ∨ k / 256 = 0x4310 ∨ k / 256 = 0x2302) fun t =>
      t.answered rq (K (CU u) 8) ok ∧ t.get (K (CU u) 9) ≠ 1) ∧
  (∀ dt a len (u : Fin 8) s, s.upd.waits = none → s.get (K (CU u) 9) = 1 → s.get (K (CU u) 1) = 1 → a + len ≤ 0x400000 → 0 < len →
    beAt (memSlice s.ins.ram (s.crcAt u).desc 16) 0 4 = 2 ^ 31 + a → beAt (memSlice s.ins.ram (s.crcAt u).desc 16) 4 4 = len →
    beAt (memSlice s.ins.ram (s.crcAt u).desc 16) 0x0C 4 % 2 = 1 → (s.crcAt u).desc + 16 ≤ 0x400000 → (s.crcAt u).off ≤ len → s.domState 2 = 0 →
    Does (.crcRunEnd dt u) s [] (fun k => k = K (CU u) 9 ∨ k = K (CU u) 0x0A ∨ k = K (CU u) 0x0B ∨ k = K (CU u) 0x0C) fun t =>
      t.get (K (CU u) 9) = 2 ∧ t.get (K (CU u) 0x0C) = (s.get (K (CU u) 0x0C) + (len - (s.crcAt u).off)) % 2 ^ 64)

/-- Counter groups and trace (R526–R528, R531, R532): a start claims a group and runs it, a stop stops it, a clear sets its counters to 0,
and a release frees it; arming from STOPPED discards the records held, a forced trigger leaves ARMED, stop gives STOPPED, release gives
IDLE and frees the banks, and the writer moves the oldest record of the next queue into the ring. Completion: Does and Gives conclude that
exec answers a next state, with what it holds, under conditions on the state and the operands alone; this statement concludes it for
pcgStart, pcgStop, pcgClear, pcgStopAndRelease, traceArm, traceForceTrigger, traceStop, traceRelease, traceWrite. It rests on choices of
the model where the spec leaves room: log entries 165, 166, 167, 202. -/
def Obligations.CountersAndTrace : Prop :=
  (∀ dt rq (g : Fin 12) s, Served s dt rq (K (PG g) 1) 1 → s.owner (0xE3 + g) = 0 ∨ s.owner (0xE3 + g) = 0x0AFF → s.get (K (PG g) 0x14) ≠ 2 →
    Does (.pcgStart dt rq g) s [.claims, .pcg, .ports, .clients] (fun k => k = K (PG g) 0x14) fun t =>
      t.answered rq (K (PG g) 1) ok ∧ t.get (K (PG g) 0x14) = 2 ∧ t.owner (0xE3 + g) = 0x0AFF) ∧
  (∀ dt rq (g : Fin 12) s, Served s dt rq (K (PG g) 1) 2 → s.get (K (PG g) 0x14) = 2 →
    Does (.pcgStop dt rq g) s [.pcg, .ports, .clients] (fun k => k = K (PG g) 2 ∨ k = K (PG g) 0x14) fun t =>
      t.answered rq (K (PG g) 1) ok ∧ t.get (K (PG g) 0x14) = 1) ∧
  (∀ dt rq (g : Fin 12) s, Served s dt rq (K (PG g) 1) 3 →
    Does (.pcgClear dt rq g) s [.pcg, .ports, .clients] (fun k => k = K (PG g) 2) fun t =>
      t.answered rq (K (PG g) 1) ok ∧ t.get (K (PG g) 2) = 0) ∧
  (∀ dt rq (g : Fin 12) s, Served s dt rq (K (PG g) 1) 4 →
    Does (.pcgStopAndRelease dt rq g) s [.claims, .pcg, .ports, .clients] (fun k => k = K (PG g) 2 ∨ k = K (PG g) 0x14) fun t =>
      t.answered rq (K (PG g) 1) ok ∧ t.get (K (PG g) 0x14) = 0 ∧ t.owner (0xE3 + g) = 0) ∧
  (∀ dt rq s, Served s dt rq (K 0x9200 1) 1 → s.get (K 0x9200 2) = 3 →
    Does (.traceArm dt rq) s [.ring, .ports, .clients] (fun k => k = K 0x9200 0x0A) fun t =>
      t.answered rq (K 0x9200 1) ok ∧ (t.get (K 0x9200 2) = 1 ∨ t.get (K 0x9200 2) = 2) ∧ t.ins.ring = [] ∧ t.get (K 0x9200 0x0A) = 0) ∧
  (∀ dt rq s, Served s dt rq (K 0x9200 1) 2 → s.get (K 0x9200 2) = 1 →
    Does (.traceForceTrigger dt rq) s [.ports, .clients] (fun _ => False) fun t =>
      t.answered rq (K 0x9200 1) ok ∧ t.get (K 0x9200 2) = 2 ∧ t.ins.post = s.get (K 0x9200 4)) ∧
  (∀ dt rq s, Served s dt rq (K 0x9200 1) 3 → s.get (K 0x9200 2) = 1 ∨ s.get (K 0x9200 2) = 2 →
    Does (.traceStop dt rq) s [.ring, .ports, .clients] (fun k => k = K 0x9200 0x0A) fun t =>
      t.answered rq (K 0x9200 1) ok ∧ t.get (K 0x9200 2) = 3) ∧
  (∀ dt rq s, Served s dt rq (K 0x9200 1) 4 → s.get (K 0x9200 2) = 3 →
    Does (.traceRelease dt rq) s [.ring, .claims, .ports, .clients] (fun k => k = K 0x9200 9 ∨ k = K 0x9200 0x0A) fun t =>
      t.answered rq (K 0x9200 1) ok ∧ t.get (K 0x9200 2) = 0 ∧ t.ins.ring = [] ∧ ∀ p ∈ t.sys.claims, p.2 ≠ 0x0800) ∧
  (∀ dt p (r : TRec) rest s, s.upd.waits = none → s.get (K 0x9200 2) = 1 → s.nextQueue = some p →
    (nth ⟨[], false, 0⟩ s.ins.probes p).queue = r :: rest → s.ins.ring.length < 65535 → s.domState 0x17 = 0 →
    Does (.traceWrite dt) s [.ring] (fun k => k = K 0x9200 0x0A) fun t =>
      t.ins.ring = s.ins.ring ++ [r] ∧ t.ins.turn = p ∧ t.get (K 0x9200 0x0A) = s.ins.ring.length + 1)

/-- Host serial and debug port (R552–R554): a request is served when READY and discarded otherwise, a poll takes the held response once
all of it has gone, and another opcode is ignored; every transaction returns the status byte. BYPASS and IDCODE are taken, EXTEST and
CLAMP only while both ROADBLOCK_N balls read asserted, and the light-path cells hold their reset level whatever is preloaded. Completion:
Does and Gives conclude that exec answers a next state, with what it holds, under conditions on the state and the operands alone; this
statement concludes it for hspiRequest, hspiPoll, hspiOtherOpcode, bypass, idcode, samplePreload, extest, clamp. It rests on choices of
the model where the spec leaves room: log entries 168, 169, 170. -/
def Obligations.HostPorts : Prop :=
  (∀ dt b s, s.hspiReady = true → s.serverUp = true → formOk .hspi b = false → s.upd.waits = none →
    Does (.hspiRequest dt b) s [.ports, .clients, .pcg, .pwr] (fun k => k / 256 = 0x2302 ∨ k = K 0x2300 6) fun t =>
      t.out.head? = some (.hspi (s.hspiStatus :: List.replicate b.length 0)) ∧ t.hspiReady = false) ∧
  (∀ dt b s, s.hspiReady = false → s.hspiOn = true → s.upd.waits = none →
    Does (.hspiRequest dt b) s [.pcg, .pwr] (fun k => k / 256 = 0x2302 ∨ k = K 0x2300 6) fun t =>
      t.out = [.hspi (s.hspiStatus :: List.replicate b.length 0)] ∧ t.pins = s.pins ∧ t.sys = s.sys) ∧
  (∀ dt n (r : List Byte) (rest : List (List Byte)) s, s.hspiOn = true → s.pins.hspiHeld = r :: rest → s.upd.waits = none →
    Does (.hspiPoll dt n) s [.ports, .pcg, .pwr] (fun k => k / 256 = 0x2302 ∨ k = K 0x2300 6) fun t =>
      t.out = [.hspi (s.hspiStatus :: (toBe 2 r.length ++ r ++ List.replicate n 0).take n)] ∧
      t.pins.hspiHeld = if r.length + 2 ≤ n then rest else r :: rest) ∧
  (∀ dt n s, s.hspiOn = true → s.pins.hspiHeld = [] → s.upd.waits = none →
    Does (.hspiPoll dt n) s [.pcg, .pwr] (fun k => k / 256 = 0x2302 ∨ k = K 0x2300 6) fun t =>
      t.out = [.hspi (s.hspiStatus :: List.replicate n 0)] ∧ t.pins = s.pins) ∧
  (∀ dt n s, s.hspiOn = true → s.upd.waits = none →
    Does (.hspiOtherOpcode dt n) s [.pcg, .pwr] (fun k => k / 256 = 0x2302 ∨ k = K 0x2300 6) fun t =>
      t.out = [.hspi (s.hspiStatus :: List.replicate n 0xFF)] ∧ t.pins = s.pins) ∧
  (∀ dt s, s.upd.waits = none → Does (.bypass dt) s [.jtag] (fun _ => False) fun t => t.pins = { s.pins with jtag := 0 }) ∧
  (∀ dt s, s.upd.waits = none →
    Does (.idcode dt) s [.jtag] (fun _ => False) fun t => t.pins = { s.pins with jtag := 1 } ∧ t.out = [.jtag 0xB2048B5F]) ∧
  (∀ dt cells s, s.upd.waits = none →
    Does (.samplePreload dt cells) s [.jtag] (fun _ => False) fun t =>
      t.pins.jtag = 2 ∧ t.pins.cells.length = cells.length ∧
      ∀ n ∈ List.range cells.length, nth false t.pins.cells n = if Config.lightCell n then Config.cellReset n else nth false cells n) ∧
  (∀ dt s, s.upd.waits = none →
    Does (.extest dt) s [.jtag] (fun _ => False) fun t =>
      t.pins = { s.pins with jtag := if nth false s.pins.rbBalls 0 && nth false s.pins.rbBalls 1 then 3 else 0 }) ∧
  (∀ dt s, s.upd.waits = none →
    Does (.clamp dt) s [.jtag] (fun _ => False) fun t =>
      t.pins = { s.pins with jtag := if nth false s.pins.rbBalls 0 && nth false s.pins.rbBalls 1 then 4 else 0 })

/-- Object lists (R27, R96–R103): a list that is whole is accepted and counted, or dropped with its reason; the fragments of one that is
not whole wait for the window, whose end drops them; an accepted list becomes visible in a slot that the snapshot does not read, and a
snapshot takes the newest. Completion: Does and Gives conclude that exec answers a next state, with what it holds, under conditions on the
state and the operands alone; this statement concludes it for objectListFragment, fragmentWindowExpiry, objectListVisible, objectSnapshot.
It rests on choices of the model where the spec leaves room: log entries 182, 186. -/
def Obligations.ObjectLists : Prop :=
  (∀ dt (p : Fin 2) b (l : ObjList) s, s.netUp p = true → bit (s.get (K 0x3200 2)) p = true → 8 ≤ b.length → s.geo.lastLseq = none → s.geo.asm = none → (parseFrag b).sound = true →
    (parseFrag b).fcnt = 1 →
    (s.tick dt).checkList ⟨beAt b 0 4, s.now + dt, if (parseFrag b).fidx = 0 then some (s.tick dt).timeNs else none, [parseFrag b]⟩ = .ok l →
    s.upd.waits = none →
    Does (.objectListFragment dt p b) s [.geo] (fun k => k = K 0x3200 9) fun t =>
      t.get (K 0x3200 9) = (s.get (K 0x3200 9) + 1) % 2 ^ 32 ∧ t.geo.accepted = s.geo.accepted ++ [l] ∧ t.geo.lastLseq = some (beAt b 0 4) ∧
      t.geo.asm = none ∧ t.geo.slots = s.geo.slots) ∧
  (∀ dt (p : Fin 2) b (r : Nat) s, s.netUp p = true → bit (s.get (K 0x3200 2)) p = true → 8 ≤ b.length → s.geo.lastLseq = none → s.geo.asm = none → (parseFrag b).sound = true →
    (parseFrag b).fcnt = 1 →
    (s.tick dt).checkList ⟨beAt b 0 4, s.now + dt, if (parseFrag b).fidx = 0 then some (s.tick dt).timeNs else none, [parseFrag b]⟩ = .error r →
    s.upd.waits = none →
    Does (.objectListFragment dt p b) s [.geo] (fun k => k = K 0x3200 0x0A ∨ k = K 0x3200 0x0B) fun t =>
      t.get (K 0x3200 0x0A) = (s.get (K 0x3200 0x0A) + 1) % 2 ^ 32 ∧ t.get (K 0x3200 0x0B) = r ∧ t.geo = s.geo) ∧
  (∀ dt (p : Fin 2) b s, s.netUp p = true → bit (s.get (K 0x3200 2)) p = true → 8 ≤ b.length → s.geo.lastLseq = none → s.geo.asm = none → (parseFrag b).sound = true →
    2 ≤ (parseFrag b).fcnt → s.upd.waits = none →
    Does (.objectListFragment dt p b) s [.geo] (fun _ => False) fun t => t.geo.asm.map (·.frags) = some [parseFrag b] ∧ t.geo.accepted = s.geo.accepted) ∧
  (∀ dt (p : Fin 2) b s, s.netUp p = false ∨ bit (s.get (K 0x3200 2)) p = false → s.upd.waits = none →
    Does (.objectListFragment dt p b) s [] (fun _ => False) fun t => t.geo = s.geo) ∧
  (∀ dt (a : Assembly) s, s.geo.asm = some a → a.start + s.get (K 0x3200 5) * 1000000 ≤ s.now + dt → s.upd.waits = none →
    Does (.fragmentWindowExpiry dt) s [.geo] (fun k => k = K 0x3200 0x0A ∨ k = K 0x3200 0x0B) fun t =>
      t.geo = { s.geo with asm := none } ∧ t.get (K 0x3200 0x0B) = 1 ∧ t.get (K 0x3200 0x0A) = (s.get (K 0x3200 0x0A) + 1) % 2 ^ 32) ∧
  (∀ dt s, s.geo.asm = none → s.upd.waits = none →
    Does (.fragmentWindowExpiry dt) s [] (fun _ => False) fun t => t.geo = s.geo) ∧
  (∀ dt (l : ObjList) (rest : List ObjList) s, s.geo.accepted = l :: rest → s.geo.inUse = some 0 → s.upd.waits = none →
    Does (.objectListVisible dt) s [.geo] (fun k => k = K 0x3200 0x0C ∨ k = K 0x3010 9) fun t =>
      t.geo.accepted = rest ∧ t.geo.vehicle = some l.veh ∧ nth none t.geo.slots 0 = nth none s.geo.slots 0 ∧
      (l.vsOnly = false → t.geo.newest ≠ some 0 ∧ ∀ n ∈ t.geo.newest, nth none t.geo.slots n = some l) ∧
      (l.vsOnly = true → t.geo.slots = s.geo.slots)) ∧
  (∀ dt s, s.geo.accepted = [] → s.upd.waits = none →
    Does (.objectListVisible dt) s [] (fun _ => False) fun t => t.geo = s.geo) ∧
  (∀ dt n (l : ObjList) s, s.geo.newest = some n → nth none s.geo.slots n = some l → s.upd.waits = none → s.domState 2 = 0 →
    Does (.objectSnapshot dt) s [.geo, .pcg] (fun k => k = K 0x3200 0x0D) fun t =>
      t.geo.snap = some l ∧ t.geo.inUse = some n ∧ t.geo.snapVeh = s.geo.vehicle ∧ t.get (K 0x3200 0x0D) = l.lseq % 2 ^ 32 ∧
      t.geo.slots = s.geo.slots) ∧
  (∀ dt s, s.geo.newest = none → s.upd.waits = none →
    Does (.objectSnapshot dt) s [.geo, .pcg] (fun _ => False) fun t => t.geo.snap = none ∧ t.geo.inUse = none ∧ t.geo.snapVeh = s.geo.vehicle)
end

