-- ==== Sys2Proof/Laws/Maps.lean ====
section
/-! SUPPORT. Maps, dictionary entries and memory: what a read after a write gives, and that memory keeps its canonical form. -/

namespace Sys2Proof.Machine

theorem mapGet_mapPut {α : Type} (m : List (Nat × α)) (k j : Nat) (v : α) :
    mapGet (mapPut m k v) j = if j = k then some v else mapGet m j := by
  induction m with
  | nil => simp only [mapPut, mapGet]
  | cons p r ih =>
    obtain ⟨a, x⟩ := p
    simp only [mapPut]
    split
    · simp only [mapGet]
    · split
      · rename_i h; subst h
        simp only [mapGet]; split <;> rfl
      · rename_i h1 h2
        simp only [mapGet, ih]
        by_cases hj : j = a
        · subst hj; simp [Ne.symm h2]
        · simp only [hj, if_false]

theorem mapGet_mapDel {α : Type} (m : List (Nat × α)) (k j : Nat) :
    mapGet (mapDel m k) j = if j = k then none else mapGet m j := by
  induction m with
  | nil => simp [mapDel, mapGet]
  | cons p r ih =>
    obtain ⟨a, x⟩ := p
    simp only [mapDel] at ih
    by_cases ha : a = k
    · subst ha
      simp only [mapDel, List.filter_cons, bne_self_eq_false, Bool.false_eq_true, if_false, ih, mapGet]
      split <;> simp_all
    · simp only [mapDel, List.filter_cons, bne_iff_ne, ne_eq, ha, not_false_eq_true, if_true, mapGet, ih]
      by_cases hj : j = a
      · subst hj; simp [ha]
      · simp [hj]

/-- What an entry of the working dictionary reads as after one entry was set. -/
theorem State.get_set (s : State) (k j v : Nat) : (s.set k v).get j = if j = k then v % 2 ^ widthOf k else s.get j := by
  simp only [State.get, State.set, putVal]
  split
  · rename_i h
    rw [mapGet_mapDel]
    split
    · rename_i hj; subst hj; simpa using h.symm
    · rfl
  · rw [mapGet_mapPut]
    split <;> rfl

@[simp] theorem State.get_set_ne (s : State) (k j v : Nat) (h : j ≠ k) : (s.set k v).get j = s.get j := by
  rw [State.get_set, if_neg h]

theorem State.get_set_self (s : State) (k v : Nat) (h : v < 2 ^ widthOf k) : (s.set k v).get k = v := by
  rw [State.get_set, if_pos rfl, Nat.mod_eq_of_lt h]

/-- The canonical form, said of all pairs. -/
theorem memWf_iff (m : List Host.Cell) : memWf m = true ↔ m.Pairwise (fun p q => p.1 < q.1) ∧ ∀ p ∈ m, p.2 ≠ 0 := by
  induction m with
  | nil => simp [memWf]
  | cons p r ih =>
    cases r with
    | nil => simp [memWf]
    | cons q r =>
      simp only [memWf, Bool.and_eq_true, ih, bne_iff_ne, ne_eq, decide_eq_true_eq, List.pairwise_cons, List.mem_cons, forall_eq_or_imp]
      constructor
      · rintro ⟨⟨hp, hlt⟩, ⟨hq, hr⟩, hq0, hr0⟩
        exact ⟨⟨⟨hlt, fun x hx => lt_trans hlt (hq x hx)⟩, hq, hr⟩, hp, hq0, hr0⟩
      · rintro ⟨⟨⟨hlt, _⟩, hq, hr⟩, hp, hq0, hr0⟩
        exact ⟨⟨hp, hlt⟩, ⟨hq, hr⟩, hq0, hr0⟩

/-- A part of a canonical memory is canonical. -/
theorem memWf_filter (m : List Host.Cell) (f : Host.Cell → Bool) (h : memWf m = true) : memWf (m.filter f) = true := by
  rw [memWf_iff] at *
  exact ⟨h.1.filter f, fun p hp => h.2 p (List.mem_of_mem_filter hp)⟩

theorem mem_mapPut {α : Type} (m : List (Nat × α)) (k : Nat) (v : α) (p : Nat × α) (h : p ∈ mapPut m k v) : p = (k, v) ∨ p ∈ m := by
  induction m with
  | nil => simpa [mapPut] using h
  | cons q r ih =>
    obtain ⟨a, x⟩ := q
    simp only [mapPut] at h
    split at h
    · simpa using h
    · split at h
      · rcases List.mem_cons.mp h with h | h
        · exact .inl h
        · exact .inr (List.mem_cons_of_mem _ h)
      · rcases List.mem_cons.mp h with h | h
        · exact .inr (h ▸ List.mem_cons_self ..)
        · exact (ih h).imp_right (List.mem_cons_of_mem _)

theorem mapPut_sorted {α : Type} (m : List (Nat × α)) (k : Nat) (v : α) (h : m.Pairwise fun p q => p.1 < q.1) :
    (mapPut m k v).Pairwise fun p q => p.1 < q.1 := by
  induction m with
  | nil => simp [mapPut]
  | cons q r ih =>
    obtain ⟨a, x⟩ := q
    rw [List.pairwise_cons] at h
    simp only [mapPut]
    split
    · rename_i hk
      refine List.pairwise_cons.mpr ⟨fun p hp => ?_, List.pairwise_cons.mpr h⟩
      rcases List.mem_cons.mp hp with hp | hp
      · exact hp ▸ hk
      · exact lt_trans hk (h.1 p hp)
    · split
      · rename_i hk; subst hk
        exact List.pairwise_cons.mpr h
      · rename_i h1 h2
        refine List.pairwise_cons.mpr ⟨fun p hp => ?_, ih h.2⟩
        rcases mem_mapPut r k v p hp with hp | hp
        · subst hp; exact Nat.lt_of_le_of_ne (Nat.le_of_not_lt h1) (fun e => h2 e.symm)
        · exact h.1 p hp

/-- A byte written keeps the canonical form. -/
theorem memWf_memPut (m : List Host.Cell) (a : Nat) (b : Byte) (h : memWf m = true) : memWf (memPut m a b) = true := by
  unfold memPut
  split
  · exact memWf_filter m _ h
  · rename_i hb
    rw [memWf_iff] at *
    exact ⟨mapPut_sorted m a b h.1, fun p hp => (mem_mapPut m a b p hp).elim (fun e => e ▸ hb) (h.2 p)⟩

theorem memWf_memPutAll (m : List Host.Cell) (a : Nat) (bs : List Byte) (h : memWf m = true) : memWf (memPutAll m a bs) = true := by
  induction bs generalizing m a with
  | nil => exact h
  | cons b r ih => exact ih _ _ (memWf_memPut m a b h)

theorem memWf_memZero (m : List Host.Cell) (a n : Nat) (h : memWf m = true) : memWf (memZero m a n) = true := memWf_filter m _ h

/-- A byte read after a byte was written. -/
theorem memGet_memPut (m : List Host.Cell) (a j : Nat) (b : Byte) : memGet (memPut m a b) j = if j = a then b else memGet m j := by
  unfold memGet memPut
  split
  · rename_i hb
    rw [mapGet_mapDel]
    split
    · rw [hb]; rfl
    · rfl
  · rw [mapGet_mapPut]
    split <;> rfl

/-- A byte read after a stretch was written. -/
theorem memGet_memPutAll (m : List Host.Cell) (a j : Nat) (bs : List Byte) :
    memGet (memPutAll m a bs) j = if a ≤ j ∧ j < a + bs.length then bs[j - a]?.getD 0 else memGet m j := by
  induction bs generalizing m a with
  | nil => simp [memPutAll]
  | cons b r ih =>
    rw [memPutAll, ih, memGet_memPut]
    by_cases h1 : j = a
    · subst h1; simp
    · by_cases h2 : a + 1 ≤ j ∧ j < a + 1 + r.length
      · have e : j - a = (j - (a + 1)) + 1 := by omega
        rw [if_pos h2, if_pos (by simp only [List.length_cons]; omega), e, List.getElem?_cons_succ]
      · rw [if_neg h2, if_neg h1, if_neg (by simp only [List.length_cons]; omega)]

/-! ### Lists by position -/

/-- Reading a position after a position is replaced. -/
@[simp] theorem nth_putNth {α : Type} (d : α) (l : List α) (n j : Nat) (x : α) : nth d (putNth d l n x) j = if j = n then x else nth d l j := by
  induction n generalizing l j with
  | zero => cases l <;> cases j <;> simp [putNth, nth]
  | succ n ih =>
    cases l with
    | nil => cases j with
      | zero => simp [putNth, nth]
      | succ j => simpa [putNth, nth] using ih [] j
    | cons a r => cases j with
      | zero => simp [putNth, nth]
      | succ j => simpa [putNth, nth] using ih r j

@[simp] theorem nth_modNth {α : Type} (d : α) (l : List α) (n j : Nat) (f : α → α) :
    nth d (modNth d l n f) j = if j = n then f (nth d l n) else nth d l j := nth_putNth d l n j _

end Sys2Proof.Machine
end

