-- ==== Sys2Proof/Laws/Frame.lean ====
section
/-! SUPPORT. What the shared operations leave unchanged. -/

namespace Sys2Proof.Machine

theorem Frame.refl (ps : List Part) (ks : Nat → Prop) (s : State) : Frame ps ks s s :=
  ⟨fun p _ => by cases p <;> simp [Part.same], fun _ _ _ => rfl⟩

theorem Part.same_trans (p : Part) {s t u : State} (h : p.same s t) (g : p.same t u) : p.same s u := by
  cases p with
  | lasers => exact g.elim (fun e => h.elim (fun d => .inl (e.trans d)) fun d => .inr (e.trans d)) .inr
  | _ => simp_all [Part.same]

theorem Frame.trans {ps : List Part} {ks : Nat → Prop} {s t u : State} (h : Frame ps ks s t) (g : Frame ps ks t u) : Frame ps ks s u :=
  ⟨fun p hp => p.same_trans (h.1 p hp) (g.1 p hp), fun k ho hk => (g.2 k ho hk).trans (h.2 k ho hk)⟩

theorem Frame.mono {ps qs : List Part} {ks ls : Nat → Prop} {s t : State} (h : Frame ps ks s t) (hp : ∀ p ∈ ps, p ∈ qs)
    (hk : ∀ k, ks k → ls k) : Frame qs ls s t :=
  ⟨fun p hq => h.1 p fun hm => hq (hp p hm), fun k ho hl => h.2 k ho fun hm => hl (hk k hm)⟩

theorem frame_ite {ps : List Part} {ks : Nat → Prop} {c : Prop} [Decidable c] {s t u : State} (h : c → Frame ps ks s t)
    (g : ¬ c → Frame ps ks s u) : Frame ps ks s (if c then t else u) := by
  by_cases hc : c
  · rw [if_pos hc]; exact h hc
  · rw [if_neg hc]; exact g hc

/-! ### Time and ports -/

theorem frame_tick (ps : List Part) (ks : Nat → Prop) (s : State) (dt : Nat) : Frame ps ks s (s.tick dt) :=
  ⟨fun p _ => by cases p <;> simp [Part.same, State.tick], fun _ _ _ => rfl⟩

theorem frame_emit (ps : List Part) (ks : Nat → Prop) (s : State) (o : Out) : Frame ps ks s (s.emit o) :=
  ⟨fun p _ => by cases p <;> simp [Part.same, State.emit], fun _ _ _ => rfl⟩

theorem frame_fresh (ps : List Part) (ks : Nat → Prop) (s : State) : Frame ps ks s s.fresh.2 :=
  ⟨fun p _ => by cases p <;> simp [Part.same, State.fresh], fun _ _ _ => rfl⟩

/-! ### Entries -/

theorem frame_set (ps : List Part) (ks : Nat → Prop) (s : State) (k v : Nat) (h : observer k = true ∨ ks k) : Frame ps ks s (s.set k v) :=
  ⟨fun p _ => by cases p <;> simp [Part.same, State.set], fun j hj hk => by
    rw [State.get_set, if_neg]
    rintro rfl
    rcases h with h | h
    · rw [h] at hj; cases hj
    · exact hk h⟩

theorem frame_inc (ps : List Part) (ks : Nat → Prop) (s : State) (k : Nat) (h : observer k = true ∨ ks k) : Frame ps ks s (s.inc k) :=
  frame_set ps ks s k _ h

theorem frame_setFlag (ps : List Part) (ks : Nat → Prop) (s : State) (k b : Nat) (v : Bool) (h : observer k = true ∨ ks k) :
    Frame ps ks s (s.setFlag k b v) := frame_set ps ks s k _ h

theorem frame_foldl {α : Type} {ps : List Part} {ks : Nat → Prop} (l : List α) (f : State → α → State)
    (h : ∀ s a, a ∈ l → Frame ps ks s (f s a)) (s : State) : Frame ps ks s (l.foldl f s) := by
  induction l generalizing s with
  | nil => exact Frame.refl ps ks s
  | cons a r ih => exact (h s a (List.mem_cons_self ..)).trans (ih (fun t b hb => h t b (List.mem_cons_of_mem _ hb)) _)

/-! ### Observers -/

theorem observer_pcg (g u : Nat) (hg : g < 12) (hu : 3 ≤ u ∧ u ≤ 0x0A ∨ u = 0x13) : observer (K (0x9100 + g) u) = true := by
  have h1 : K (0x9100 + g) u / 256 = 0x9100 + g := by unfold K; omega
  have h2 : K (0x9100 + g) u % 256 = u := by unfold K; omega
  simp only [observer, h1, h2, Bool.or_eq_true, decide_eq_true_eq]
  exact .inl (.inl ⟨by omega, by omega, hu⟩)

theorem observer_probe (p : Nat) (hp : p < 16) : observer (K (0x9210 + p) 5) = true := by
  have h1 : K (0x9210 + p) 5 / 256 = 0x9210 + p := by unfold K; omega
  have h2 : K (0x9210 + p) 5 % 256 = 5 := by unfold K; omega
  simp only [observer, h1, h2, Bool.or_eq_true, decide_eq_true_eq]
  exact .inl (.inr ⟨by omega, by omega, trivial⟩)

theorem frame_pcgBump (ps : List Part) (ks : Nat → Prop) (s : State) (g j n : Nat) (hg : g < 12) (hj : j < 8) :
    Frame ps ks s (s.pcgBump g j n) := by
  unfold State.pcgBump
  have h1 := frame_set ps ks s (K (0x9100 + g) (3 + j)) ((s.get (K (0x9100 + g) (3 + j)) + n) % 2 ^ 48)
    (.inl (observer_pcg g (3 + j) hg (by omega)))
  dsimp only
  split
  · exact h1
  · exact h1.trans (frame_setFlag ps ks _ _ _ _ (.inl (observer_pcg g 0x13 hg (.inr rfl))))

/-- Counting events changes counter entries alone (R526). -/
theorem frame_count (ps : List Part) (ks : Nat → Prop) (s : State) (g code n : Nat) (hg : g < 12) : Frame ps ks s (s.count g code n) := by
  unfold State.count
  split
  · refine frame_foldl _ _ (fun t j hj => ?_) s
    split
    · exact frame_pcgBump ps ks t g j n hg (List.mem_range.mp hj)
    · exact Frame.refl ps ks t
  · exact Frame.refl ps ks s

theorem frame_ins (ps : List Part) (ks : Nat → Prop) (s : State) (x : Ins) (h1 : x.crc = s.ins.crc) (h2 : x.pcgSince = s.ins.pcgSince)
    (h3 : x.ram = s.ins.ram) (h4 : x.ring = s.ins.ring) (h5 : x.turn = s.ins.turn)
    (h6 : x.ringAt = s.ins.ringAt) : Frame ps ks s { s with ins := x } :=
  ⟨fun p _ => by cases p <;> simp [Part.same, h1, h2, h3, h4, h5, h6], fun _ _ _ => rfl⟩

theorem frame_probeEvent (ps : List Part) (ks : Nat → Prop) (s : State) (p tag val : Nat) (hp : p < 16) :
    Frame ps ks s (s.probeEvent p tag val) := by
  unfold State.probeEvent
  have o1 : observer (K (0x9210 + p) 5) = true := observer_probe p hp
  extract_lets en armed trig pr due t src1 s1 wanted pr1 fl full pr2 src2 s2
  have f1 : Frame ps ks s s1 := by
    have ft : Frame ps ks s t := ((frame_set ps ks s _ _ (.inl (by decide +kernel))).trans (frame_set ps ks _ _ _ (.inl (by decide +kernel)))).trans
      (frame_set ps ks _ _ _ (.inl (by decide +kernel)))
    simp only [s1]
    split
    · exact ft.trans (frame_ins ps ks t _ rfl rfl rfl rfl rfl rfl)
    · exact Frame.refl ps ks s
  have f2 : Frame ps ks s s2 := f1.trans (frame_ins ps ks s1 _ rfl rfl rfl rfl rfl rfl)
  split
  · exact (f2.trans (frame_inc ps ks _ _ (.inl o1))).trans (frame_inc ps ks _ _ (.inl (by decide +kernel)))
  · exact f2

/-- A trace event changes trace entries and probes alone (R530–R532). -/
theorem frame_probe (ps : List Part) (ks : Nat → Prop) (s : State) (cls : Nat) (sel : Nat → Bool) (tag val : Nat) :
    Frame ps ks s (s.probe cls sel tag val) := by
  unfold State.probe
  split
  · refine frame_foldl _ _ (fun t p hp => ?_) s
    split
    · exact frame_probeEvent ps ks t p tag val (List.mem_range.mp hp)
    · exact Frame.refl ps ks t
  · exact Frame.refl ps ks s

/-- What the observers may do to the trace unit: an armed unit may be triggered, and nothing else moves it (R532). -/
def TraceRel (s t : State) : Prop :=
  (s.get (K 0x9200 2) ≠ 1 → t.get (K 0x9200 2) = s.get (K 0x9200 2) ∧ t.ins.post = s.ins.post) ∧
  (s.get (K 0x9200 2) = 1 → t.get (K 0x9200 2) = 1 ∨ t.get (K 0x9200 2) = 2)

theorem TraceRel.of_eq {s t : State} (h : t.get (K 0x9200 2) = s.get (K 0x9200 2)) (g : t.ins.post = s.ins.post) : TraceRel s t :=
  ⟨fun _ => ⟨h, g⟩, fun e => .inl (h.trans e)⟩

theorem TraceRel.trans {s t u : State} (h : TraceRel s t) (g : TraceRel t u) : TraceRel s u := by
  refine ⟨fun e => ?_, fun e => ?_⟩
  · have h1 := h.1 e
    have g1 := g.1 (by rw [h1.1]; exact e)
    exact ⟨g1.1.trans h1.1, g1.2.trans h1.2⟩
  · rcases h.2 e with h2 | h2
    · exact g.2 h2
    · exact .inr ((g.1 (by rw [h2]; decide +kernel)).1.trans h2)

theorem traceRel_foldl {α : Type} (l : List α) (f : State → α → State) (h : ∀ s a, a ∈ l → TraceRel s (f s a)) (s : State) :
    TraceRel s (l.foldl f s) := by
  induction l generalizing s with
  | nil => exact TraceRel.of_eq rfl rfl
  | cons a r ih => exact (h s a (List.mem_cons_self ..)).trans (ih (fun t b hb => h t b (List.mem_cons_of_mem _ hb)) _)

theorem traceRel_set (s : State) (k v : Nat) (h : k ≠ K 0x9200 2) : TraceRel s (s.set k v) :=
  TraceRel.of_eq (s.get_set_ne k _ v h.symm) rfl

theorem traceRel_count (s : State) (g code n : Nat) (hg : g < 12) : TraceRel s (s.count g code n) := by
  unfold State.count
  split
  · refine traceRel_foldl _ _ (fun t j hj => ?_) s
    have hj := List.mem_range.mp hj
    split
    · unfold State.pcgBump
      dsimp only
      split
      · exact traceRel_set _ _ _ (by unfold K; omega)
      · exact (traceRel_set _ _ _ (by unfold K; omega)).trans (traceRel_set _ _ _ (by unfold K; omega))
    · exact TraceRel.of_eq rfl rfl
  · exact TraceRel.of_eq rfl rfl

theorem traceRel_probeEvent (s : State) (p tag val : Nat) (hp : p < 16) : TraceRel s (s.probeEvent p tag val) := by
  unfold State.probeEvent
  extract_lets en armed trig pr due t src1 s1 wanted pr1 fl full pr2 src2 s2
  have e2 : s2.get (K 0x9200 2) = s1.get (K 0x9200 2) := rfl
  have i2 : s2.ins.post = s1.ins.post := rfl
  have f1 : TraceRel s s1 := by
    by_cases ht : trig = true
    · refine ⟨fun e => absurd ?_ e, fun _ => .inr ?_⟩
      · simp only [trig, Bool.and_eq_true, decide_eq_true_eq] at ht
        exact ht.1.1
      · simp only [s1, if_pos ht]
        show t.get (K 0x9200 2) = 2
        simp only [t]
        rw [State.get_set_ne _ _ _ _ (by decide +kernel), State.get_set_ne _ _ _ _ (by decide +kernel), State.get_set_self _ _ _ (by decide +kernel)]
    · simp only [s1, if_neg ht]
      exact TraceRel.of_eq rfl rfl
  have f2 := f1.trans (TraceRel.of_eq e2 i2)
  split
  · exact (f2.trans (traceRel_set _ _ _ (by unfold K; omega))).trans (traceRel_set _ _ _ (by decide +kernel))
  · exact f2

theorem traceRel_probe (s : State) (cls : Nat) (sel : Nat → Bool) (tag val : Nat) : TraceRel s (s.probe cls sel tag val) := by
  unfold State.probe
  split
  · refine traceRel_foldl _ _ (fun t p hp => ?_) s
    split
    · exact traceRel_probeEvent t p tag val (List.mem_range.mp hp)
    · exact TraceRel.of_eq rfl rfl
  · exact TraceRel.of_eq rfl rfl

/-- A change that touches one part and no entry. -/
theorem frame_field {ps : List Part} {ks : Nat → Prop} {s t : State} (q : Part) (hq : q ∈ ps) (h : ∀ p, p ≠ q → p.same s t) (hd : t.dict = s.dict) :
    Frame ps ks s t :=
  ⟨fun p hp => h p fun e => hp (e ▸ hq), fun k _ _ => by unfold State.get; rw [hd]⟩

/-! ### One field changed -/

theorem frame_doms (ps : List Part) (ks : Nat → Prop) (s : State) (x : List (Nat × List Byte)) (hp : .doms ∈ ps) :
    Frame ps ks s { s with doms := x } :=
  frame_field .doms hp (fun p h => by cases p <;> first | rfl | exact .inl rfl | exact ⟨rfl, rfl⟩ | exact ⟨rfl, rfl, rfl⟩ | exact ⟨rfl, rfl, rfl, rfl⟩ | exact id | exact absurd rfl h) rfl

theorem frame_active (ps : List Part) (ks : Nat → Prop) (s : State) (x : List (Nat × Nat)) (hp : .active ∈ ps) :
    Frame ps ks s { s with active := x } :=
  frame_field .active hp (fun p h => by cases p <;> first | rfl | exact .inl rfl | exact ⟨rfl, rfl⟩ | exact ⟨rfl, rfl, rfl⟩ | exact ⟨rfl, rfl, rfl, rfl⟩ | exact id | exact absurd rfl h) rfl

theorem frame_activeDoms (ps : List Part) (ks : Nat → Prop) (s : State) (x : List (Nat × List Byte)) (hp : .activeDoms ∈ ps) :
    Frame ps ks s { s with activeDoms := x } :=
  frame_field .activeDoms hp (fun p h => by cases p <;> first | rfl | exact .inl rfl | exact ⟨rfl, rfl⟩ | exact ⟨rfl, rfl, rfl⟩ | exact ⟨rfl, rfl, rfl, rfl⟩ | exact id | exact absurd rfl h) rfl

theorem frame_armed (ps : List Part) (ks : Nat → Prop) (s : State) (x : List Armed) (hp : .armed ∈ ps) :
    Frame ps ks s { s with armed := x } :=
  frame_field .armed hp (fun p h => by cases p <;> first | rfl | exact .inl rfl | exact ⟨rfl, rfl⟩ | exact ⟨rfl, rfl, rfl⟩ | exact ⟨rfl, rfl, rfl, rfl⟩ | exact id | exact absurd rfl h) rfl

theorem frame_pwr (ps : List Part) (ks : Nat → Prop) (s : State) (x : Pwr) (hp : .pwr ∈ ps) :
    Frame ps ks s { s with pwr := x } :=
  frame_field .pwr hp (fun p h => by cases p <;> first | rfl | exact .inl rfl | exact ⟨rfl, rfl⟩ | exact ⟨rfl, rfl, rfl⟩ | exact ⟨rfl, rfl, rfl, rfl⟩ | exact id | exact absurd rfl h) rfl

theorem frame_geo (ps : List Part) (ks : Nat → Prop) (s : State) (x : Geo) (hp : .geo ∈ ps) :
    Frame ps ks s { s with geo := x } :=
  frame_field .geo hp (fun p h => by cases p <;> first | rfl | exact .inl rfl | exact ⟨rfl, rfl⟩ | exact ⟨rfl, rfl, rfl⟩ | exact ⟨rfl, rfl, rfl, rfl⟩ | exact id | exact absurd rfl h) rfl

theorem frame_comp (ps : List Part) (ks : Nat → Prop) (s : State) (x : Comp) (hp : .comp ∈ ps) :
    Frame ps ks s { s with comp := x } :=
  frame_field .comp hp (fun p h => by cases p <;> first | rfl | exact .inl rfl | exact ⟨rfl, rfl⟩ | exact ⟨rfl, rfl, rfl⟩ | exact ⟨rfl, rfl, rfl, rfl⟩ | exact id | exact absurd rfl h) rfl

theorem frame_fs (ps : List Part) (ks : Nat → Prop) (s : State) (x : Fs) (hp : .fs ∈ ps) :
    Frame ps ks s { s with fs := x } :=
  frame_field .fs hp (fun p h => by cases p <;> first | rfl | exact .inl rfl | exact ⟨rfl, rfl⟩ | exact ⟨rfl, rfl, rfl⟩ | exact ⟨rfl, rfl, rfl, rfl⟩ | exact id | exact absurd rfl h) rfl

theorem frame_tl (ps : List Part) (ks : Nat → Prop) (s : State) (x : Tl) (hp : .tl ∈ ps) :
    Frame ps ks s { s with tl := x } :=
  frame_field .tl hp (fun p h => by cases p <;> first | rfl | exact .inl rfl | exact ⟨rfl, rfl⟩ | exact ⟨rfl, rfl, rfl⟩ | exact ⟨rfl, rfl, rfl, rfl⟩ | exact id | exact absurd rfl h) rfl

theorem frame_prj (ps : List Part) (ks : Nat → Prop) (s : State) (x : Prj) (hp : .prj ∈ ps) :
    Frame ps ks s { s with prj := x } :=
  frame_field .prj hp (fun p h => by cases p <;> first | rfl | exact .inl rfl | exact ⟨rfl, rfl⟩ | exact ⟨rfl, rfl, rfl⟩ | exact ⟨rfl, rfl, rfl, rfl⟩ | exact id | exact absurd rfl h) rfl

theorem frame_skb (ps : List Part) (ks : Nat → Prop) (s : State) (x : Skb) (hp : .skb ∈ ps) :
    Frame ps ks s { s with skb := x } :=
  frame_field .skb hp (fun p h => by cases p <;> first | rfl | exact .inl rfl | exact ⟨rfl, rfl⟩ | exact ⟨rfl, rfl, rfl⟩ | exact ⟨rfl, rfl, rfl, rfl⟩ | exact id | exact absurd rfl h) rfl

theorem frame_lpe (ps : List Part) (ks : Nat → Prop) (s : State) (x : Lpe) (hp : .lpe ∈ ps) :
    Frame ps ks s { s with lpe := x } :=
  frame_field .lpe hp (fun p h => by cases p <;> first | rfl | exact .inl rfl | exact ⟨rfl, rfl⟩ | exact ⟨rfl, rfl, rfl⟩ | exact ⟨rfl, rfl, rfl, rfl⟩ | exact id | exact absurd rfl h) rfl

theorem frame_ln (ps : List Part) (ks : Nat → Prop) (s : State) (x : Lanes) (hp : .ln ∈ ps) :
    Frame ps ks s { s with ln := x } :=
  frame_field .ln hp (fun p h => by cases p <;> first | rfl | exact .inl rfl | exact ⟨rfl, rfl⟩ | exact ⟨rfl, rfl, rfl⟩ | exact ⟨rfl, rfl, rfl, rfl⟩ | exact id | exact absurd rfl h) rfl

theorem frame_nv (ps : List Part) (ks : Nat → Prop) (s : State) (x : Nv) (hp : .nv ∈ ps) :
    Frame ps ks s { s with nv := x } :=
  frame_field .nv hp (fun p h => by cases p <;> first | rfl | exact .inl rfl | exact ⟨rfl, rfl⟩ | exact ⟨rfl, rfl, rfl⟩ | exact ⟨rfl, rfl, rfl, rfl⟩ | exact id | exact absurd rfl h) rfl

theorem frame_upd (ps : List Part) (ks : Nat → Prop) (s : State) (x : Upd) (hp : .upd ∈ ps) :
    Frame ps ks s { s with upd := x } :=
  frame_field .upd hp (fun p h => by cases p <;> first | rfl | exact .inl rfl | exact ⟨rfl, rfl⟩ | exact ⟨rfl, rfl, rfl⟩ | exact ⟨rfl, rfl, rfl, rfl⟩ | exact id | exact absurd rfl h) rfl

theorem frame_sys_claims (ps : List Part) (ks : Nat → Prop) (s : State) (x : List (Nat × Nat)) (hp : .claims ∈ ps) :
    Frame ps ks s { s with sys := { s.sys with claims := x } } :=
  frame_field .claims hp (fun p h => by cases p <;> first | rfl | exact .inl rfl | exact ⟨rfl, rfl⟩ | exact ⟨rfl, rfl, rfl⟩ | exact ⟨rfl, rfl, rfl, rfl⟩ | exact id | exact absurd rfl h) rfl

theorem frame_sys_xfers (ps : List Part) (ks : Nat → Prop) (s : State) (x : List Xfer) (hp : .xfers ∈ ps) :
    Frame ps ks s { s with sys := { s.sys with xfers := x } } :=
  frame_field .xfers hp (fun p h => by cases p <;> first | rfl | exact .inl rfl | exact ⟨rfl, rfl⟩ | exact ⟨rfl, rfl, rfl⟩ | exact ⟨rfl, rfl, rfl, rfl⟩ | exact id | exact absurd rfl h) rfl

theorem frame_sys_save (ps : List Part) (ks : Nat → Prop) (s : State) (x : Option SaveJob) (hp : .save ∈ ps) :
    Frame ps ks s { s with sys := { s.sys with save := x } } :=
  frame_field .save hp (fun p h => by cases p <;> first | rfl | exact .inl rfl | exact ⟨rfl, rfl⟩ | exact ⟨rfl, rfl, rfl⟩ | exact ⟨rfl, rfl, rfl, rfl⟩ | exact id | exact absurd rfl h) rfl

theorem frame_net_streams (ps : List Part) (ks : Nat → Prop) (s : State) (x : List Stream) (hp : .streams ∈ ps) :
    Frame ps ks s { s with net := { s.net with streams := x } } :=
  frame_field .streams hp (fun p h => by cases p <;> first | rfl | exact .inl rfl | exact ⟨rfl, rfl⟩ | exact ⟨rfl, rfl, rfl⟩ | exact ⟨rfl, rfl, rfl, rfl⟩ | exact id | exact absurd rfl h) rfl

theorem frame_net_tmu (ps : List Part) (ks : Nat → Prop) (s : State) (x : Tmu) (hp : .tmu ∈ ps) :
    Frame ps ks s { s with net := { s.net with tmu := x } } :=
  frame_field .tmu hp (fun p h => by cases p <;> first | rfl | exact .inl rfl | exact ⟨rfl, rfl⟩ | exact ⟨rfl, rfl, rfl⟩ | exact ⟨rfl, rfl, rfl, rfl⟩ | exact id | exact absurd rfl h) rfl

theorem frame_net_tpo (ps : List Part) (ks : Nat → Prop) (s : State) (x : List Tpo) (hp : .tpo ∈ ps) :
    Frame ps ks s { s with net := { s.net with tpo := x } } :=
  frame_field .tpo hp (fun p h => by cases p <;> first | rfl | exact .inl rfl | exact ⟨rfl, rfl⟩ | exact ⟨rfl, rfl, rfl⟩ | exact ⟨rfl, rfl, rfl, rfl⟩ | exact id | exact absurd rfl h) rfl

theorem frame_net_recovering (ps : List Part) (ks : Nat → Prop) (s : State) (x : List Bool) (hp : .recovering ∈ ps) :
    Frame ps ks s { s with net := { s.net with recovering := x } } :=
  frame_field .recovering hp (fun p h => by cases p <;> first | rfl | exact .inl rfl | exact ⟨rfl, rfl⟩ | exact ⟨rfl, rfl, rfl⟩ | exact ⟨rfl, rfl, rfl, rfl⟩ | exact id | exact absurd rfl h) rfl

theorem frame_safe_masks (ps : List Part) (ks : Nat → Prop) (s : State) (x : List Mask) (hp : .masks ∈ ps) :
    Frame ps ks s { s with safe := { s.safe with masks := x } } :=
  frame_field .masks hp (fun p h => by cases p <;> first | rfl | exact .inl rfl | exact ⟨rfl, rfl⟩ | exact ⟨rfl, rfl, rfl⟩ | exact ⟨rfl, rfl, rfl, rfl⟩ | exact id | exact absurd rfl h) rfl

theorem frame_safe_blc (ps : List Part) (ks : Nat → Prop) (s : State) (x : List Blc) (hp : .blc ∈ ps) :
    Frame ps ks s { s with safe := { s.safe with blc := x } } :=
  frame_field .blc hp (fun p h => by cases p <;> first | rfl | exact .inl rfl | exact ⟨rfl, rfl⟩ | exact ⟨rfl, rfl, rfl⟩ | exact ⟨rfl, rfl, rfl, rfl⟩ | exact id | exact absurd rfl h) rfl

theorem frame_safe_conns (ps : List Part) (ks : Nat → Prop) (s : State) (x : List Conn) (hp : .conns ∈ ps) :
    Frame ps ks s { s with safe := { s.safe with conns := x } } :=
  frame_field .conns hp (fun p h => by cases p <;> first | rfl | exact .inl rfl | exact ⟨rfl, rfl⟩ | exact ⟨rfl, rfl, rfl⟩ | exact ⟨rfl, rfl, rfl, rfl⟩ | exact id | exact absurd rfl h) rfl

theorem frame_ins_crc (ps : List Part) (ks : Nat → Prop) (s : State) (x : List CrcRun) (hp : .crc ∈ ps) :
    Frame ps ks s { s with ins := { s.ins with crc := x } } :=
  frame_field .crc hp (fun p h => by cases p <;> first | rfl | exact .inl rfl | exact ⟨rfl, rfl⟩ | exact ⟨rfl, rfl, rfl⟩ | exact ⟨rfl, rfl, rfl, rfl⟩ | exact id | exact absurd rfl h) rfl

theorem frame_ins_pcgSince (ps : List Part) (ks : Nat → Prop) (s : State) (x : List Nat) (hp : .pcg ∈ ps) :
    Frame ps ks s { s with ins := { s.ins with pcgSince := x } } :=
  frame_field .pcg hp (fun p h => by cases p <;> first | rfl | exact .inl rfl | exact ⟨rfl, rfl⟩ | exact ⟨rfl, rfl, rfl⟩ | exact ⟨rfl, rfl, rfl, rfl⟩ | exact id | exact absurd rfl h) rfl

theorem frame_ins_ram (ps : List Part) (ks : Nat → Prop) (s : State) (x : List Host.Cell) (hp : .ram ∈ ps) :
    Frame ps ks s { s with ins := { s.ins with ram := x } } :=
  frame_field .ram hp (fun p h => by cases p <;> first | rfl | exact .inl rfl | exact ⟨rfl, rfl⟩ | exact ⟨rfl, rfl, rfl⟩ | exact ⟨rfl, rfl, rfl, rfl⟩ | exact id | exact absurd rfl h) rfl

theorem frame_pins_rbBalls (ps : List Part) (ks : Nat → Prop) (s : State) (x : List Bool) (hp : .balls ∈ ps) :
    Frame ps ks s { s with pins := { s.pins with rbBalls := x } } :=
  frame_field .balls hp (fun p h => by cases p <;> first | rfl | exact .inl rfl | exact ⟨rfl, rfl⟩ | exact ⟨rfl, rfl, rfl⟩ | exact ⟨rfl, rfl, rfl, rfl⟩ | exact id | exact absurd rfl h) rfl

theorem frame_sys_apc (ps : List Part) (ks : Nat → Prop) (s : State) (x : List Bool) (hp : .apc ∈ ps) :
    Frame ps ks s { s with sys := { s.sys with apc := x } } :=
  frame_field .apc hp (fun p h => by cases p <;> first | rfl | exact .inl rfl | exact ⟨rfl, rfl⟩ | exact ⟨rfl, rfl, rfl⟩ | exact ⟨rfl, rfl, rfl, rfl⟩ | exact id | exact absurd rfl h) rfl

/-! ### Claims -/

theorem owner_claim1 (s : State) (r o : Nat) : (s.claim [r] o).owner r = o := by simp [State.claim, State.owner, mapGet_mapPut]

theorem owner_unclaim1 (s : State) (r : Nat) : (s.unclaim [r]).owner r = 0 := by simp [State.unclaim, State.owner, mapGet_mapDel]

theorem owner_congr {s t : State} (h : t.sys.claims = s.sys.claims) (r : Nat) : t.owner r = s.owner r := by unfold State.owner; rw [h]

theorem frame_claim (ps : List Part) (ks : Nat → Prop) (s : State) (l : List Nat) (o : Nat) (hp : .claims ∈ ps) :
    Frame ps ks s (s.claim l o) := frame_sys_claims ps ks s _ hp

theorem frame_unclaim (ps : List Part) (ks : Nat → Prop) (s : State) (l : List Nat) (hp : .claims ∈ ps) :
    Frame ps ks s (s.unclaim l) := frame_sys_claims ps ks s _ hp

theorem frame_unclaimOwner (ps : List Part) (ks : Nat → Prop) (s : State) (o : Nat) (hp : .claims ∈ ps) :
    Frame ps ks s (s.unclaimOwner o) := frame_sys_claims ps ks s _ hp

theorem frame_setDom (ps : List Part) (ks : Nat → Prop) (s : State) (k : Nat) (v : List Byte) (hp : .doms ∈ ps) :
    Frame ps ks s (s.setDom k v) := frame_doms ps ks s _ hp

theorem frame_putAct (ps : List Part) (ks : Nat → Prop) (s : State) (v : List (Nat × Nat)) (hp : .active ∈ ps) :
    Frame ps ks s (s.putAct v) := frame_active ps ks s _ hp

/-! ### What hardware keeps true -/

theorem frame_enter (ps : List Part) (ks : Nat → Prop) (s : State) (m : Mode) (cause : Nat) : Frame ps ks s (s.enter m cause) :=
  ⟨fun p _ => by cases p <;> simp [Part.same, State.enter, State.set], fun k hk _ => by
    unfold State.enter
    rw [State.get_set_ne]
    · rfl
    · rintro rfl; revert hk; decide +kernel⟩

theorem frame_safeSettle (ps : List Part) (ks : Nat → Prop) (s : State) : Frame ps ks s s.safeSettle := by
  unfold State.safeSettle
  split
  · refine Frame.trans ?_ (frame_enter ps ks _ _ _)
    exact ⟨fun p _ => by cases p <;> simp [Part.same], fun _ _ _ => rfl⟩
  · exact Frame.refl ps ks s

theorem frame_aliveLow (ps : List Part) (ks : Nat → Prop) (s : State) (code : Nat) : Frame ps ks s (s.aliveLow code) := by
  unfold State.aliveLow
  extract_lets drop src1 src2 low
  have f : Frame ps ks s low := ⟨fun p _ => by cases p <;> simp [Part.same, low, Tw.rest, src1, src2], fun _ _ _ => rfl⟩
  split
  · exact f
  · exact ((f.trans (frame_set ps ks _ _ _ (.inl (by decide +kernel)))).trans (frame_set ps ks _ _ _ (.inl (by decide +kernel)))).trans
      (frame_inc ps ks _ _ (.inl (by decide +kernel)))

theorem frame_aliveSettle (ps : List Part) (ks : Nat → Prop) (s : State) : Frame ps ks s s.aliveSettle := by
  unfold State.aliveSettle
  split
  · exact Frame.refl ps ks s
  · exact frame_aliveLow ps ks s _

/-- Without the claim the laser enables fall, and nothing else changes (R444). -/
theorem frame_interlock (ps : List Part) (ks : Nat → Prop) (s : State) : Frame ps ks s s.interlock := by
  unfold State.interlock
  split
  · exact Frame.refl ps ks s
  · exact ⟨fun p _ => by cases p <;> simp [Part.same], fun _ _ _ => rfl⟩

theorem settle_calm (s : State) (h : s.upd.waits = none) (hd : s.due = none) : s.settle = s.safeSettle.aliveSettle.interlock := by
  have hs : s.safeSettle.upd.waits = none := by
    unfold State.safeSettle; split <;> exact h
  unfold State.settle State.fallSettle State.resetSettle
  rw [hd]
  dsimp only
  rw [hs]

/-- What every command ends with changes observers and device state alone, while no fall-back waits. -/
theorem frame_settle (ps : List Part) (ks : Nat → Prop) (s : State) (h : s.upd.waits = none) (hd : s.due = none) :
    Frame ps ks s s.settle := by
  rw [settle_calm s h hd]
  exact ((frame_safeSettle ps ks s).trans (frame_aliveSettle ps ks _)).trans (frame_interlock ps ks _)

theorem traceRel_settle (s : State) (h : s.upd.waits = none) (hd : s.due = none) : TraceRel s s.settle := by
  rw [settle_calm s h hd]
  have a : TraceRel s s.safeSettle := by
    unfold State.safeSettle
    split
    · exact traceRel_set _ _ _ (by decide +kernel)
    · exact TraceRel.of_eq rfl rfl
  have b (t : State) : TraceRel t t.aliveSettle := by
    unfold State.aliveSettle State.aliveLow
    dsimp only
    split
    · exact TraceRel.of_eq rfl rfl
    · split
      · exact TraceRel.of_eq rfl rfl
      · refine TraceRel.of_eq ?_ rfl
        unfold State.inc
        rw [State.get_set_ne _ _ _ _ (by decide +kernel), State.get_set_ne _ _ _ _ (by decide +kernel), State.get_set_ne _ _ _ _ (by decide +kernel)]
        rfl
  have c (t : State) : TraceRel t t.interlock := by
    unfold State.interlock
    split <;> exact TraceRel.of_eq rfl rfl
  exact (a.trans (b _)).trans (c _)

end Sys2Proof.Machine
end

