-- ==== Sys2Proof/Laws/Dap.lean ====
section
/-! SUPPORT. What a fault record, an answer and a served write do beside the effect that they carry. -/

namespace Sys2Proof.Machine

/-! ### Bytes -/

theorem toBe_length (n v : Nat) : (toBe n v).length = n := by
  induction n with
  | zero => rfl
  | succ n ih => simp [toBe, ih]

theorem be_acc (bs : List Byte) (a : Nat) : bs.foldl (fun a b => a * 256 + b.toNat) a = a * 256 ^ bs.length + be bs := by
  induction bs generalizing a with
  | nil => simp [be]
  | cons b r ih =>
    simp only [be, List.foldl_cons, List.length_cons]
    rw [ih, ih (0 * 256 + b.toNat)]
    ring

theorem be_cons (b : Byte) (r : List Byte) : be (b :: r) = b.toNat * 256 ^ r.length + be r := by
  have := be_acc r (0 * 256 + b.toNat)
  simpa [be] using this

/-- A number written most significant byte first reads back (R16, R35). -/
theorem be_toBe (n v : Nat) : be (toBe n v) = v % 256 ^ n := by
  induction n with
  | zero => simp [toBe, be, Nat.mod_one]
  | succ n ih =>
    rw [toBe, be_cons, toBe_length, ih, BitVec.toNat_ofNat]
    have h : v % 256 ^ (n + 1) = v % 256 ^ n + 256 ^ n * (v / 256 ^ n % 256) := by rw [pow_succ, Nat.mod_mul]
    rw [h]
    norm_num
    ring

theorem widthOf_eq (k : Nat) : widthOf k = 8 * (widthOf k / 8) := by
  unfold widthOf
  split <;> omega

theorem be_write (k n : Nat) (h : n < 2 ^ widthOf k) : be (toBe (widthOf k / 8) n) = n := by
  rw [be_toBe, Nat.mod_eq_of_lt]
  have : (256 : Nat) ^ (widthOf k / 8) = 2 ^ widthOf k := by
    rw [show (256 : Nat) = 2 ^ 8 by norm_num, ← pow_mul, ← widthOf_eq]
  rwa [this]

/-! ### Fault records -/

theorem frame_safe_log (ps : List Part) (ks : Nat → Prop) (s : State) (l : List (Option LogE)) (o : Nat) (hp : .log ∈ ps) :
    Frame ps ks s { s with safe := { s.safe with log := l, nextOrd := o } } :=
  ⟨fun p h => by cases p <;> first | rfl | exact .inl rfl | exact ⟨rfl, rfl⟩ | exact ⟨rfl, rfl, rfl⟩ | exact ⟨rfl, rfl, rfl, rfl⟩ | exact id | exact absurd hp h, fun _ _ _ => rfl⟩

theorem rules_of_frame {ps : List Part} {ks : Nat → Prop} {s t : State} (h : Frame ps ks s t) (hk : ∀ n < 64, ¬ ks (K 0x8120 (n + 1))) :
    t.rules = s.rules := by
  unfold State.rules
  refine List.map_congr_left fun n hn => ?_
  have hn' := List.mem_range.mp hn
  refine h.2 _ ?_ (hk n hn')
  have : K 0x8120 (n + 1) / 256 = 0x8120 := by unfold K; omega
  simp only [observer, K, List.contains_eq_mem, List.mem_cons, List.not_mem_nil]
  simp
  omega

theorem mild_chip {s : State} {src kind : Nat} (h : s.mild src kind = true) : (s.rulesFor src kind).any (fun r => bit r 3) = false := by
  rw [List.any_eq_false]
  intro r hr
  have := List.all_eq_true.mp h r hr
  simp only [Bool.and_eq_true, Bool.not_eq_true'] at this
  simp [this.1]

theorem mild_block {s : State} {src kind : Nat} (h : s.mild src kind = true) (u : State) :
    (if (s.rulesFor src kind).any (fun r => bit r 2) then u.blockReset src else u) = u := by
  split
  · rename_i hb
    obtain ⟨r, hr, hb⟩ := List.any_eq_true.mp hb
    have := List.all_eq_true.mp h r hr
    simp only [Bool.and_eq_true, Bool.not_eq_true', hb, Bool.true_and] at this
    have h2 := this.2
    simp only [resetBlocks, List.contains_cons, List.contains_nil, Bool.or_eq_false_iff, beq_eq_false_iff_ne] at h2
    unfold State.blockReset
    simp only [h2, if_false]
  · rfl

/-- A fault record changes the log and observers alone, where no rule resets (R430, R432). -/
theorem frame_record (ps : List Part) (ks : Nat → Prop) (s : State) (src kind arg : Nat) (standing : Bool) (hc : s.mild src kind = true) (hp : .log ∈ ps) :
    Frame ps ks s (s.record src kind arg standing) := by
  have h3 := mild_chip hc
  unfold State.record
  split
  · exact Frame.refl ps ks s
  rw [h3, if_neg Bool.false_ne_true]
  unfold State.logRecord
  extract_lets rs safety alive sticky hit ord src1 o s0 s1 s2 s3 s4
  have f0 : Frame ps ks s s0 := by
    simp only [s0]
    split
    · exact (frame_safe_log ps ks s _ _ hp).trans (frame_set ps ks _ _ _ (.inl (by decide +kernel)))
    · have fo : Frame ps ks s o := frame_inc ps ks s _ (.inl (by decide +kernel))
      split
      · exact fo.trans (frame_set ps ks _ _ _ (.inl (by decide +kernel)))
      · exact fo
  have f1 : Frame ps ks s0 s1 := by
    simp only [s1]; split
    · exact frame_aliveLow ..
    · exact Frame.refl ..
  have f2 : Frame ps ks s1 s2 := by
    simp only [s2]; split
    · exact frame_emit ..
    · exact Frame.refl ..
  have f3 : Frame ps ks s2 s3 := by
    simp only [s3]; split
    · exact frame_emit ..
    · exact Frame.refl ..
  have e4 : s4 = s3 := mild_block hc s3
  have f4 : Frame ps ks s3 s4 := by rw [e4]; exact Frame.refl ..
  exact (((((f0.trans f1).trans f2).trans f3).trans f4).trans (frame_count ps ks _ 10 4 1 (by omega))).trans (frame_probe ..)

/-- A cause that is gone changes the log alone. -/
theorem frame_causeGone (ps : List Part) (ks : Nat → Prop) (s : State) (src kind arg : Nat) (hp : .log ∈ ps) :
    Frame ps ks s (s.causeGone src kind arg) := frame_safe_log ps ks s _ s.safe.nextOrd hp

theorem mild_of_frame {ps : List Part} {ks : Nat → Prop} {s t : State} {src kind : Nat} (h : s.mild src kind = true) (f : Frame ps ks s t)
    (hk : ∀ n < 64, ¬ ks (K 0x8120 (n + 1))) : t.mild src kind = true := by
  unfold State.mild State.rulesFor
  rw [rules_of_frame f hk]
  exact h

/-! ### Answers -/

theorem frame_deliver (ps : List Part) (ks : Nat → Prop) (s : State) (c : Client) (pdu : List Byte) (hp : .ports ∈ ps) :
    Frame ps ks s (s.deliver c pdu) := by
  refine (frame_emit ps ks s (.dap c pdu)).trans ⟨fun p h => ?_, fun k _ _ => ?_⟩
  · cases c <;> cases p <;> first | rfl | exact .inl rfl | exact ⟨rfl, rfl⟩ | exact ⟨rfl, rfl, rfl⟩ | exact ⟨rfl, rfl, rfl, rfl⟩ | exact id | exact absurd hp h
  · cases c <;> rfl

theorem frame_clients (ps : List Part) (ks : Nat → Prop) (s : State) (l : List ClientRec) (hp : .clients ∈ ps) :
    Frame ps ks s { s with sys := { s.sys with clients := l } } :=
  ⟨fun p h => by cases p <;> first | rfl | exact .inl rfl | exact ⟨rfl, rfl⟩ | exact ⟨rfl, rfl, rfl⟩ | exact ⟨rfl, rfl, rfl, rfl⟩ | exact id | exact absurd hp h, fun _ _ _ => rfl⟩

/-- An answer changes what waits to leave and the client's record alone (R43, R45). -/
theorem frame_answer (ps : List Part) (ks : Nat → Prop) (s : State) (c : Client) (req resp : List Byte) (h1 : .ports ∈ ps) (h2 : .clients ∈ ps) :
    Frame ps ks s (s.answer c req resp) := by
  unfold State.answer
  exact ((frame_deliver ps ks s c resp h1).trans (frame_clients ps ks _ _ h2)).trans (frame_count ps ks _ 9 4 1 (by omega))

theorem traceRel_answer (s : State) (c : Client) (req resp : List Byte) : TraceRel s (s.answer c req resp) := by
  unfold State.answer
  refine TraceRel.trans ?_ (traceRel_count _ 9 4 1 (by omega))
  refine TraceRel.of_eq ?_ ?_ <;> cases c <;> rfl

theorem sameClient_self (c : Client) : sameClient c c = true := by cases c <;> simp [sameClient]

/-- The record of a client after an answer is that exchange (R45). -/
theorem answer_rec (s : State) (c : Client) (req resp : List Byte) :
    ∃ x, (s.answer c req resp).clientRec c = some x ∧ x.request = req ∧ x.response = resp := by
  unfold State.answer
  extract_lets t rest one
  refine ⟨one, ?_, rfl, rfl⟩
  have f : Frame [.ports] (fun _ => False) { t with sys := { t.sys with clients := rest ++ [one] } }
      (State.count { t with sys := { t.sys with clients := rest ++ [one] } } 9 4 1) := frame_count _ _ _ 9 4 1 (by omega)
  have e := f.1 .clients (by decide +kernel)
  simp only [Part.same] at e
  unfold State.clientRec
  rw [e, List.find?_append]
  have : rest.find? (fun r => sameClient r.client c) = none := by
    rw [List.find?_eq_none]
    intro r hr
    simpa using (List.mem_filter.mp hr).2
  rw [this]
  simp [one, sameClient_self]

theorem answered_of_frame {ps : List Part} {ks : Nat → Prop} {s t : State} {rq : Rq} {k : Nat} {r : Code} (h : s.answered rq k r)
    (f : Frame ps ks s t) (hp : .clients ∉ ps) : t.answered rq k r := by
  have e : t.sys.clients = s.sys.clients := f.1 .clients hp
  unfold State.answered State.lastReply State.clientRec at *
  rw [e]; exact h

/-! ### Served writes -/

/-- A served write makes its effect and answers its result (R41, R44, R562). -/
theorem serveWrite_served {s : State} {c : Client} {tag : Byte} {k : Nat} {v : List Byte} (eff : Effect) (h : s.serves c tag k v = true) :
    s.serveWrite c (writePdu tag k v) tag k v eff =
      let (t, r) := eff s (be v)
      let t1 := if r.1 = 0 ∨ r.1 = 0x0404 then t.probe 7 (fun _ => true) (k % 2 ^ 24) (be (slice v 0 4)) else t
      if t1.serverUp then t1.answer c (writePdu tag k v) (codePdu 0x82 tag k r) else t1 := by
  unfold State.serves at h
  simp only [Bool.and_eq_true, Bool.not_eq_true', Option.isNone_iff_eq_none, decide_eq_true_eq] at h
  obtain ⟨⟨⟨⟨⟨⟨h1, h2⟩, h3⟩, h4⟩, h5⟩, h6⟩, h7⟩ := h
  unfold State.serveWrite
  simp only [h1, h2, h3, h5, Bool.not_true, Bool.false_eq_true, if_false]
  revert h4
  cases s.checkUse k .write with
  | error r => intro h4; cases h4
  | ok e =>
    intro h4
    simp only [Bool.and_eq_true, beq_iff_eq] at h4
    simp only [h4.1, h4.2, h6, h7, ne_eq, not_true_eq_false, if_false, Bool.false_eq_true, Bool.and_self, Bool.not_true, ite_self]

theorem serverUp_congr {s t : State} (h1 : t.sys.apc = s.sys.apc) (h2 : t.mode = s.mode) (h3 : t.sys.recovery = s.sys.recovery) :
    t.serverUp = s.serverUp := by unfold State.serverUp; rw [h1, h2, h3]

theorem mode_foldl {α : Type} (l : List α) (f : State → α → State) (h : ∀ s a, (f s a).mode = s.mode) (s : State) :
    (l.foldl f s).mode = s.mode := by
  induction l generalizing s with
  | nil => rfl
  | cons a r ih => rw [List.foldl_cons, ih, h]

theorem mode_probeEvent (s : State) (p tag val : Nat) : (s.probeEvent p tag val).mode = s.mode := by
  unfold State.probeEvent
  dsimp only
  split <;> split <;> rfl

theorem mode_probe (s : State) (cls : Nat) (sel : Nat → Bool) (tag val : Nat) : (s.probe cls sel tag val).mode = s.mode := by
  unfold State.probe
  split
  · refine mode_foldl _ _ (fun t p => ?_) s
    split
    · exact mode_probeEvent ..
    · rfl
  · rfl

theorem serverUp_probe (s : State) (cls : Nat) (sel : Nat → Bool) (tag val : Nat) : (s.probe cls sel tag val).serverUp = s.serverUp := by
  have f := frame_probe [] (fun _ => False) s cls sel tag val
  exact serverUp_congr (f.1 .apc (by decide +kernel)) (mode_probe ..) (f.1 .boot (by decide +kernel)).2

/-- A command of the table that writes an entry: served, it makes its effect, answers the result, and leaves the rest. -/
theorem command_does {c : Instr} {s u : State} {dt : Nat} {rq : Rq} {k n : Nat} {eff : Effect} {r : Code} {ps : List Part} {ks : Nat → Prop}
    {post : State → Prop} (hx : exec c s = done ((s.tick dt).command rq k n eff)) (h : Served s dt rq k n) (he : eff (s.tick dt) n = (u, r))
    (hf : Frame ps ks (s.tick dt) u) (hup : u.serverUp = true) (hw : u.upd.waits = none) (hd : u.due = none) (h1 : .ports ∈ ps) (h2 : .clients ∈ ps)
    (hp : ∀ t, Frame [.ports, .clients] (fun _ => False) u t → t.answered rq k r → TraceRel u t → post t) : Does c s ps ks post := by
  obtain ⟨hs, hn, -⟩ := h
  unfold State.command at hx
  rw [serveWrite_served eff hs, be_write k n hn, he] at hx
  dsimp only at hx
  generalize hv : (if r.1 = 0 ∨ r.1 = 0x0404 then
    u.probe 7 (fun _ => true) (k % 2 ^ 24) (be (slice (toBe (widthOf k / 8) n) 0 4)) else u) = v at hx
  have fv : ∀ qs ls, Frame qs ls u v := by
    intro qs ls; rw [← hv]; split
    · exact frame_probe ..
    · exact Frame.refl ..
  have tv : TraceRel u v := by
    rw [← hv]; split
    · exact traceRel_probe ..
    · exact TraceRel.of_eq rfl rfl
  have uv : v.serverUp = true := by
    rw [← hv]; split
    · rw [serverUp_probe, hup]
    · exact hup
  rw [if_pos uv] at hx
  have fa := fun qs ls h1 h2 => (fv qs ls).trans (frame_answer qs ls v rq.client (writePdu rq.tag k (toBe (widthOf k / 8) n)) (codePdu 0x82 rq.tag k r) h1 h2)
  have tz := tv.trans (traceRel_answer v rq.client (writePdu rq.tag k (toBe (widthOf k / 8) n)) (codePdu 0x82 rq.tag k r))
  generalize hz : v.answer rq.client (writePdu rq.tag k (toBe (widthOf k / 8) n)) (codePdu 0x82 rq.tag k r) = z at hx fa tz
  have wz : z.upd.waits = none := by
    have : z.upd = u.upd := (fa [.ports, .clients] (fun _ => False) (by decide +kernel) (by decide +kernel)).1 .upd (by decide +kernel)
    rw [this]; exact hw
  have dz : z.due = none :=
    (fa [.ports, .clients] (fun _ => False) (by decide +kernel) (by decide +kernel)).1 .due (by decide +kernel) hd
  have az : z.answered rq k r := by
    obtain ⟨x, hx1, -, hx3⟩ := answer_rec v rq.client (writePdu rq.tag k (toBe (widthOf k / 8) n)) (codePdu 0x82 rq.tag k r)
    unfold State.answered State.lastReply
    rw [← hz, hx1, Option.map_some, hx3]
  refine ⟨z.settle, hx, ?_, ?_⟩
  · exact hp _ ((fa _ _ (by decide +kernel) (by decide +kernel)).trans (frame_settle _ _ _ wz dz))
      (answered_of_frame az (frame_settle [] (fun _ => False) z wz dz) (by decide +kernel)) (tz.trans (traceRel_settle z wz dz))
  · exact (((frame_tick ps ks s dt).trans hf).trans (fa ps ks h1 h2)).trans (frame_settle ps ks z wz dz)

theorem served_up {s : State} {dt : Nat} {rq : Rq} {k n : Nat} (h : Served s dt rq k n) : (s.tick dt).serverUp = true := by
  have := h.1
  unfold State.serves at this
  simp only [Bool.and_eq_true] at this
  exact this.1.1.1.1.1.1

/-- The same for an effect that keeps device state, cores, boot step and update manager. -/
theorem command_keeps {c : Instr} {s u : State} {dt : Nat} {rq : Rq} {k n : Nat} {eff : Effect} {r : Code} {ps : List Part} {ks : Nat → Prop}
    {post : State → Prop} (hx : exec c s = done ((s.tick dt).command rq k n eff)) (h : Served s dt rq k n) (he : eff (s.tick dt) n = (u, r))
    (hf : Frame ps ks (s.tick dt) u) (hm : u.mode = s.mode)
    (hq : .ports ∈ ps ∧ .clients ∈ ps ∧ .apc ∉ ps ∧ .boot ∉ ps ∧ .upd ∉ ps ∧ .due ∉ ps)
    (hp : ∀ t, Frame [.ports, .clients] (fun _ => False) u t → t.answered rq k r → TraceRel u t → post t) : Does c s ps ks post := by
  obtain ⟨h1, h2, h3, h4, h5, h6⟩ := hq
  refine command_does hx h he hf ?_ ?_ (hf.1 .due h6 rfl) h1 h2 hp
  · rw [serverUp_congr (hf.1 .apc h3) hm (hf.1 .boot h4).2]; exact served_up h
  · have e : u.upd = s.upd := hf.1 .upd h5
    rw [e]; exact h.2.2

/-- A command whose effect is a state u: it leaves what u leaves. -/
theorem does_of {c : Instr} {s u : State} {ps : List Part} {ks : Nat → Prop} {post : State → Prop} (hx : exec c s = done u)
    (hw : u.upd.waits = none) (hd : u.due = none) (hf : Frame ps ks s u) (hp : ∀ t, Frame [] (fun _ => False) u t → TraceRel u t → post t) :
    Does c s ps ks post :=
  ⟨u.settle, hx, hp _ (frame_settle _ _ u hw hd) (traceRel_settle u hw hd), hf.trans (frame_settle ps ks u hw hd)⟩

/-- The same where the effect keeps the update manager. -/
theorem does_keeps {c : Instr} {s u : State} {ps : List Part} {ks : Nat → Prop} {post : State → Prop} (hx : exec c s = done u)
    (hw : s.upd.waits = none) (hd : u.due = none) (hf : Frame ps ks s u) (hu : .upd ∉ ps) (hp : ∀ t, Frame [] (fun _ => False) u t → TraceRel u t → post t) :
    Does c s ps ks post :=
  does_of hx (by have e : u.upd = s.upd := hf.1 .upd hu
                 rw [e]; exact hw) hd hf hp

end Sys2Proof.Machine
end

