-- ==== Sys2Proof/Laws/State.lean ====
section
/-! SUPPORT. What the plainest updates of the state do to each of its fields. -/

namespace Sys2Proof.Machine

@[simp] theorem State.tick_pending (s : State) (dt : Nat) : (s.tick dt).pending = s.pending := rfl
@[simp] theorem State.tick_now (s : State) (dt : Nat) : (s.tick dt).now = s.now + dt := rfl
@[simp] theorem State.tick_rate (s : State) (dt : Nat) : (s.tick dt).rate = s.rate := rfl
@[simp] theorem State.tick_out (s : State) (dt : Nat) : (s.tick dt).out = [] := rfl
@[simp] theorem State.tick_freeCount (s : State) (dt : Nat) : (s.tick dt).freeCount = s.freeCount := rfl
@[simp] theorem State.tick_mode (s : State) (dt : Nat) : (s.tick dt).mode = s.mode := rfl
@[simp] theorem State.tick_dict (s : State) (dt : Nat) : (s.tick dt).dict = s.dict := rfl
@[simp] theorem State.tick_doms (s : State) (dt : Nat) : (s.tick dt).doms = s.doms := rfl
@[simp] theorem State.tick_active (s : State) (dt : Nat) : (s.tick dt).active = s.active := rfl
@[simp] theorem State.tick_activeDoms (s : State) (dt : Nat) : (s.tick dt).activeDoms = s.activeDoms := rfl
@[simp] theorem State.tick_armed (s : State) (dt : Nat) : (s.tick dt).armed = s.armed := rfl
@[simp] theorem State.tick_sys (s : State) (dt : Nat) : (s.tick dt).sys = s.sys := rfl
@[simp] theorem State.tick_safe (s : State) (dt : Nat) : (s.tick dt).safe = s.safe := rfl
@[simp] theorem State.tick_ins (s : State) (dt : Nat) : (s.tick dt).ins = s.ins := rfl
@[simp] theorem State.tick_pwr (s : State) (dt : Nat) : (s.tick dt).pwr = s.pwr := rfl
@[simp] theorem State.tick_pins (s : State) (dt : Nat) : (s.tick dt).pins = s.pins := rfl
@[simp] theorem State.tick_net (s : State) (dt : Nat) : (s.tick dt).net = s.net := rfl
@[simp] theorem State.tick_geo (s : State) (dt : Nat) : (s.tick dt).geo = s.geo := rfl
@[simp] theorem State.tick_comp (s : State) (dt : Nat) : (s.tick dt).comp = s.comp := rfl
@[simp] theorem State.tick_fs (s : State) (dt : Nat) : (s.tick dt).fs = s.fs := rfl
@[simp] theorem State.tick_tl (s : State) (dt : Nat) : (s.tick dt).tl = s.tl := rfl
@[simp] theorem State.tick_prj (s : State) (dt : Nat) : (s.tick dt).prj = s.prj := rfl
@[simp] theorem State.tick_skb (s : State) (dt : Nat) : (s.tick dt).skb = s.skb := rfl
@[simp] theorem State.tick_lpe (s : State) (dt : Nat) : (s.tick dt).lpe = s.lpe := rfl
@[simp] theorem State.tick_ln (s : State) (dt : Nat) : (s.tick dt).ln = s.ln := rfl
@[simp] theorem State.tick_tw (s : State) (dt : Nat) : (s.tick dt).tw = s.tw := rfl
@[simp] theorem State.tick_nv (s : State) (dt : Nat) : (s.tick dt).nv = s.nv := rfl
@[simp] theorem State.tick_upd (s : State) (dt : Nat) : (s.tick dt).upd = s.upd := rfl

@[simp] theorem State.emit_pending (s : State) (o : Out) : (s.emit o).pending = s.pending := rfl
@[simp] theorem State.emit_now (s : State) (o : Out) : (s.emit o).now = s.now := rfl
@[simp] theorem State.emit_time (s : State) (o : Out) : (s.emit o).time = s.time := rfl
@[simp] theorem State.emit_rate (s : State) (o : Out) : (s.emit o).rate = s.rate := rfl
@[simp] theorem State.emit_out (s : State) (o : Out) : (s.emit o).out = s.out ++ [o] := rfl
@[simp] theorem State.emit_freeCount (s : State) (o : Out) : (s.emit o).freeCount = s.freeCount := rfl
@[simp] theorem State.emit_mode (s : State) (o : Out) : (s.emit o).mode = s.mode := rfl
@[simp] theorem State.emit_dict (s : State) (o : Out) : (s.emit o).dict = s.dict := rfl
@[simp] theorem State.emit_doms (s : State) (o : Out) : (s.emit o).doms = s.doms := rfl
@[simp] theorem State.emit_active (s : State) (o : Out) : (s.emit o).active = s.active := rfl
@[simp] theorem State.emit_activeDoms (s : State) (o : Out) : (s.emit o).activeDoms = s.activeDoms := rfl
@[simp] theorem State.emit_armed (s : State) (o : Out) : (s.emit o).armed = s.armed := rfl
@[simp] theorem State.emit_sys (s : State) (o : Out) : (s.emit o).sys = s.sys := rfl
@[simp] theorem State.emit_safe (s : State) (o : Out) : (s.emit o).safe = s.safe := rfl
@[simp] theorem State.emit_ins (s : State) (o : Out) : (s.emit o).ins = s.ins := rfl
@[simp] theorem State.emit_pwr (s : State) (o : Out) : (s.emit o).pwr = s.pwr := rfl
@[simp] theorem State.emit_pins (s : State) (o : Out) : (s.emit o).pins = s.pins := rfl
@[simp] theorem State.emit_net (s : State) (o : Out) : (s.emit o).net = s.net := rfl
@[simp] theorem State.emit_geo (s : State) (o : Out) : (s.emit o).geo = s.geo := rfl
@[simp] theorem State.emit_comp (s : State) (o : Out) : (s.emit o).comp = s.comp := rfl
@[simp] theorem State.emit_fs (s : State) (o : Out) : (s.emit o).fs = s.fs := rfl
@[simp] theorem State.emit_tl (s : State) (o : Out) : (s.emit o).tl = s.tl := rfl
@[simp] theorem State.emit_prj (s : State) (o : Out) : (s.emit o).prj = s.prj := rfl
@[simp] theorem State.emit_skb (s : State) (o : Out) : (s.emit o).skb = s.skb := rfl
@[simp] theorem State.emit_lpe (s : State) (o : Out) : (s.emit o).lpe = s.lpe := rfl
@[simp] theorem State.emit_ln (s : State) (o : Out) : (s.emit o).ln = s.ln := rfl
@[simp] theorem State.emit_tw (s : State) (o : Out) : (s.emit o).tw = s.tw := rfl
@[simp] theorem State.emit_nv (s : State) (o : Out) : (s.emit o).nv = s.nv := rfl
@[simp] theorem State.emit_upd (s : State) (o : Out) : (s.emit o).upd = s.upd := rfl

@[simp] theorem State.set_pending (s : State) (k v : Nat) : (s.set k v).pending = s.pending := rfl
@[simp] theorem State.set_now (s : State) (k v : Nat) : (s.set k v).now = s.now := rfl
@[simp] theorem State.set_time (s : State) (k v : Nat) : (s.set k v).time = s.time := rfl
@[simp] theorem State.set_rate (s : State) (k v : Nat) : (s.set k v).rate = s.rate := rfl
@[simp] theorem State.set_out (s : State) (k v : Nat) : (s.set k v).out = s.out := rfl
@[simp] theorem State.set_freeCount (s : State) (k v : Nat) : (s.set k v).freeCount = s.freeCount := rfl
@[simp] theorem State.set_mode (s : State) (k v : Nat) : (s.set k v).mode = s.mode := rfl
@[simp] theorem State.set_doms (s : State) (k v : Nat) : (s.set k v).doms = s.doms := rfl
@[simp] theorem State.set_active (s : State) (k v : Nat) : (s.set k v).active = s.active := rfl
@[simp] theorem State.set_activeDoms (s : State) (k v : Nat) : (s.set k v).activeDoms = s.activeDoms := rfl
@[simp] theorem State.set_armed (s : State) (k v : Nat) : (s.set k v).armed = s.armed := rfl
@[simp] theorem State.set_sys (s : State) (k v : Nat) : (s.set k v).sys = s.sys := rfl
@[simp] theorem State.set_safe (s : State) (k v : Nat) : (s.set k v).safe = s.safe := rfl
@[simp] theorem State.set_ins (s : State) (k v : Nat) : (s.set k v).ins = s.ins := rfl
@[simp] theorem State.set_pwr (s : State) (k v : Nat) : (s.set k v).pwr = s.pwr := rfl
@[simp] theorem State.set_pins (s : State) (k v : Nat) : (s.set k v).pins = s.pins := rfl
@[simp] theorem State.set_net (s : State) (k v : Nat) : (s.set k v).net = s.net := rfl
@[simp] theorem State.set_geo (s : State) (k v : Nat) : (s.set k v).geo = s.geo := rfl
@[simp] theorem State.set_comp (s : State) (k v : Nat) : (s.set k v).comp = s.comp := rfl
@[simp] theorem State.set_fs (s : State) (k v : Nat) : (s.set k v).fs = s.fs := rfl
@[simp] theorem State.set_tl (s : State) (k v : Nat) : (s.set k v).tl = s.tl := rfl
@[simp] theorem State.set_prj (s : State) (k v : Nat) : (s.set k v).prj = s.prj := rfl
@[simp] theorem State.set_skb (s : State) (k v : Nat) : (s.set k v).skb = s.skb := rfl
@[simp] theorem State.set_lpe (s : State) (k v : Nat) : (s.set k v).lpe = s.lpe := rfl
@[simp] theorem State.set_ln (s : State) (k v : Nat) : (s.set k v).ln = s.ln := rfl
@[simp] theorem State.set_tw (s : State) (k v : Nat) : (s.set k v).tw = s.tw := rfl
@[simp] theorem State.set_nv (s : State) (k v : Nat) : (s.set k v).nv = s.nv := rfl
@[simp] theorem State.set_upd (s : State) (k v : Nat) : (s.set k v).upd = s.upd := rfl

@[simp] theorem State.inc_pending (s : State) (k : Nat) : (s.inc k).pending = s.pending := rfl
@[simp] theorem State.inc_now (s : State) (k : Nat) : (s.inc k).now = s.now := rfl
@[simp] theorem State.inc_time (s : State) (k : Nat) : (s.inc k).time = s.time := rfl
@[simp] theorem State.inc_rate (s : State) (k : Nat) : (s.inc k).rate = s.rate := rfl
@[simp] theorem State.inc_out (s : State) (k : Nat) : (s.inc k).out = s.out := rfl
@[simp] theorem State.inc_freeCount (s : State) (k : Nat) : (s.inc k).freeCount = s.freeCount := rfl
@[simp] theorem State.inc_mode (s : State) (k : Nat) : (s.inc k).mode = s.mode := rfl
@[simp] theorem State.inc_doms (s : State) (k : Nat) : (s.inc k).doms = s.doms := rfl
@[simp] theorem State.inc_active (s : State) (k : Nat) : (s.inc k).active = s.active := rfl
@[simp] theorem State.inc_activeDoms (s : State) (k : Nat) : (s.inc k).activeDoms = s.activeDoms := rfl
@[simp] theorem State.inc_armed (s : State) (k : Nat) : (s.inc k).armed = s.armed := rfl
@[simp] theorem State.inc_sys (s : State) (k : Nat) : (s.inc k).sys = s.sys := rfl
@[simp] theorem State.inc_safe (s : State) (k : Nat) : (s.inc k).safe = s.safe := rfl
@[simp] theorem State.inc_ins (s : State) (k : Nat) : (s.inc k).ins = s.ins := rfl
@[simp] theorem State.inc_pwr (s : State) (k : Nat) : (s.inc k).pwr = s.pwr := rfl
@[simp] theorem State.inc_pins (s : State) (k : Nat) : (s.inc k).pins = s.pins := rfl
@[simp] theorem State.inc_net (s : State) (k : Nat) : (s.inc k).net = s.net := rfl
@[simp] theorem State.inc_geo (s : State) (k : Nat) : (s.inc k).geo = s.geo := rfl
@[simp] theorem State.inc_comp (s : State) (k : Nat) : (s.inc k).comp = s.comp := rfl
@[simp] theorem State.inc_fs (s : State) (k : Nat) : (s.inc k).fs = s.fs := rfl
@[simp] theorem State.inc_tl (s : State) (k : Nat) : (s.inc k).tl = s.tl := rfl
@[simp] theorem State.inc_prj (s : State) (k : Nat) : (s.inc k).prj = s.prj := rfl
@[simp] theorem State.inc_skb (s : State) (k : Nat) : (s.inc k).skb = s.skb := rfl
@[simp] theorem State.inc_lpe (s : State) (k : Nat) : (s.inc k).lpe = s.lpe := rfl
@[simp] theorem State.inc_ln (s : State) (k : Nat) : (s.inc k).ln = s.ln := rfl
@[simp] theorem State.inc_tw (s : State) (k : Nat) : (s.inc k).tw = s.tw := rfl
@[simp] theorem State.inc_nv (s : State) (k : Nat) : (s.inc k).nv = s.nv := rfl
@[simp] theorem State.inc_upd (s : State) (k : Nat) : (s.inc k).upd = s.upd := rfl

@[simp] theorem State.addTo_pending (s : State) (k n : Nat) : (s.addTo k n).pending = s.pending := rfl
@[simp] theorem State.addTo_now (s : State) (k n : Nat) : (s.addTo k n).now = s.now := rfl
@[simp] theorem State.addTo_time (s : State) (k n : Nat) : (s.addTo k n).time = s.time := rfl
@[simp] theorem State.addTo_rate (s : State) (k n : Nat) : (s.addTo k n).rate = s.rate := rfl
@[simp] theorem State.addTo_out (s : State) (k n : Nat) : (s.addTo k n).out = s.out := rfl
@[simp] theorem State.addTo_freeCount (s : State) (k n : Nat) : (s.addTo k n).freeCount = s.freeCount := rfl
@[simp] theorem State.addTo_mode (s : State) (k n : Nat) : (s.addTo k n).mode = s.mode := rfl
@[simp] theorem State.addTo_doms (s : State) (k n : Nat) : (s.addTo k n).doms = s.doms := rfl
@[simp] theorem State.addTo_active (s : State) (k n : Nat) : (s.addTo k n).active = s.active := rfl
@[simp] theorem State.addTo_activeDoms (s : State) (k n : Nat) : (s.addTo k n).activeDoms = s.activeDoms := rfl
@[simp] theorem State.addTo_armed (s : State) (k n : Nat) : (s.addTo k n).armed = s.armed := rfl
@[simp] theorem State.addTo_sys (s : State) (k n : Nat) : (s.addTo k n).sys = s.sys := rfl
@[simp] theorem State.addTo_safe (s : State) (k n : Nat) : (s.addTo k n).safe = s.safe := rfl
@[simp] theorem State.addTo_ins (s : State) (k n : Nat) : (s.addTo k n).ins = s.ins := rfl
@[simp] theorem State.addTo_pwr (s : State) (k n : Nat) : (s.addTo k n).pwr = s.pwr := rfl
@[simp] theorem State.addTo_pins (s : State) (k n : Nat) : (s.addTo k n).pins = s.pins := rfl
@[simp] theorem State.addTo_net (s : State) (k n : Nat) : (s.addTo k n).net = s.net := rfl
@[simp] theorem State.addTo_geo (s : State) (k n : Nat) : (s.addTo k n).geo = s.geo := rfl
@[simp] theorem State.addTo_comp (s : State) (k n : Nat) : (s.addTo k n).comp = s.comp := rfl
@[simp] theorem State.addTo_fs (s : State) (k n : Nat) : (s.addTo k n).fs = s.fs := rfl
@[simp] theorem State.addTo_tl (s : State) (k n : Nat) : (s.addTo k n).tl = s.tl := rfl
@[simp] theorem State.addTo_prj (s : State) (k n : Nat) : (s.addTo k n).prj = s.prj := rfl
@[simp] theorem State.addTo_skb (s : State) (k n : Nat) : (s.addTo k n).skb = s.skb := rfl
@[simp] theorem State.addTo_lpe (s : State) (k n : Nat) : (s.addTo k n).lpe = s.lpe := rfl
@[simp] theorem State.addTo_ln (s : State) (k n : Nat) : (s.addTo k n).ln = s.ln := rfl
@[simp] theorem State.addTo_tw (s : State) (k n : Nat) : (s.addTo k n).tw = s.tw := rfl
@[simp] theorem State.addTo_nv (s : State) (k n : Nat) : (s.addTo k n).nv = s.nv := rfl
@[simp] theorem State.addTo_upd (s : State) (k n : Nat) : (s.addTo k n).upd = s.upd := rfl

@[simp] theorem State.setDom_pending (s : State) (k : Nat) (v : List Byte) : (s.setDom k v).pending = s.pending := rfl
@[simp] theorem State.setDom_now (s : State) (k : Nat) (v : List Byte) : (s.setDom k v).now = s.now := rfl
@[simp] theorem State.setDom_time (s : State) (k : Nat) (v : List Byte) : (s.setDom k v).time = s.time := rfl
@[simp] theorem State.setDom_rate (s : State) (k : Nat) (v : List Byte) : (s.setDom k v).rate = s.rate := rfl
@[simp] theorem State.setDom_out (s : State) (k : Nat) (v : List Byte) : (s.setDom k v).out = s.out := rfl
@[simp] theorem State.setDom_freeCount (s : State) (k : Nat) (v : List Byte) : (s.setDom k v).freeCount = s.freeCount := rfl
@[simp] theorem State.setDom_mode (s : State) (k : Nat) (v : List Byte) : (s.setDom k v).mode = s.mode := rfl
@[simp] theorem State.setDom_dict (s : State) (k : Nat) (v : List Byte) : (s.setDom k v).dict = s.dict := rfl
@[simp] theorem State.setDom_doms (s : State) (k : Nat) (v : List Byte) : (s.setDom k v).doms = mapPut s.doms k v := rfl
@[simp] theorem State.setDom_active (s : State) (k : Nat) (v : List Byte) : (s.setDom k v).active = s.active := rfl
@[simp] theorem State.setDom_activeDoms (s : State) (k : Nat) (v : List Byte) : (s.setDom k v).activeDoms = s.activeDoms := rfl
@[simp] theorem State.setDom_armed (s : State) (k : Nat) (v : List Byte) : (s.setDom k v).armed = s.armed := rfl
@[simp] theorem State.setDom_sys (s : State) (k : Nat) (v : List Byte) : (s.setDom k v).sys = s.sys := rfl
@[simp] theorem State.setDom_safe (s : State) (k : Nat) (v : List Byte) : (s.setDom k v).safe = s.safe := rfl
@[simp] theorem State.setDom_ins (s : State) (k : Nat) (v : List Byte) : (s.setDom k v).ins = s.ins := rfl
@[simp] theorem State.setDom_pwr (s : State) (k : Nat) (v : List Byte) : (s.setDom k v).pwr = s.pwr := rfl
@[simp] theorem State.setDom_pins (s : State) (k : Nat) (v : List Byte) : (s.setDom k v).pins = s.pins := rfl
@[simp] theorem State.setDom_net (s : State) (k : Nat) (v : List Byte) : (s.setDom k v).net = s.net := rfl
@[simp] theorem State.setDom_geo (s : State) (k : Nat) (v : List Byte) : (s.setDom k v).geo = s.geo := rfl
@[simp] theorem State.setDom_comp (s : State) (k : Nat) (v : List Byte) : (s.setDom k v).comp = s.comp := rfl
@[simp] theorem State.setDom_fs (s : State) (k : Nat) (v : List Byte) : (s.setDom k v).fs = s.fs := rfl
@[simp] theorem State.setDom_tl (s : State) (k : Nat) (v : List Byte) : (s.setDom k v).tl = s.tl := rfl
@[simp] theorem State.setDom_prj (s : State) (k : Nat) (v : List Byte) : (s.setDom k v).prj = s.prj := rfl
@[simp] theorem State.setDom_skb (s : State) (k : Nat) (v : List Byte) : (s.setDom k v).skb = s.skb := rfl
@[simp] theorem State.setDom_lpe (s : State) (k : Nat) (v : List Byte) : (s.setDom k v).lpe = s.lpe := rfl
@[simp] theorem State.setDom_ln (s : State) (k : Nat) (v : List Byte) : (s.setDom k v).ln = s.ln := rfl
@[simp] theorem State.setDom_tw (s : State) (k : Nat) (v : List Byte) : (s.setDom k v).tw = s.tw := rfl
@[simp] theorem State.setDom_nv (s : State) (k : Nat) (v : List Byte) : (s.setDom k v).nv = s.nv := rfl
@[simp] theorem State.setDom_upd (s : State) (k : Nat) (v : List Byte) : (s.setDom k v).upd = s.upd := rfl

@[simp] theorem State.putAct_pending (s : State) (l : List (Nat × Nat)) : (s.putAct l).pending = s.pending := rfl
@[simp] theorem State.putAct_now (s : State) (l : List (Nat × Nat)) : (s.putAct l).now = s.now := rfl
@[simp] theorem State.putAct_time (s : State) (l : List (Nat × Nat)) : (s.putAct l).time = s.time := rfl
@[simp] theorem State.putAct_rate (s : State) (l : List (Nat × Nat)) : (s.putAct l).rate = s.rate := rfl
@[simp] theorem State.putAct_out (s : State) (l : List (Nat × Nat)) : (s.putAct l).out = s.out := rfl
@[simp] theorem State.putAct_freeCount (s : State) (l : List (Nat × Nat)) : (s.putAct l).freeCount = s.freeCount := rfl
@[simp] theorem State.putAct_mode (s : State) (l : List (Nat × Nat)) : (s.putAct l).mode = s.mode := rfl
@[simp] theorem State.putAct_dict (s : State) (l : List (Nat × Nat)) : (s.putAct l).dict = s.dict := rfl
@[simp] theorem State.putAct_doms (s : State) (l : List (Nat × Nat)) : (s.putAct l).doms = s.doms := rfl
@[simp] theorem State.putAct_activeDoms (s : State) (l : List (Nat × Nat)) : (s.putAct l).activeDoms = s.activeDoms := rfl
@[simp] theorem State.putAct_armed (s : State) (l : List (Nat × Nat)) : (s.putAct l).armed = s.armed := rfl
@[simp] theorem State.putAct_sys (s : State) (l : List (Nat × Nat)) : (s.putAct l).sys = s.sys := rfl
@[simp] theorem State.putAct_safe (s : State) (l : List (Nat × Nat)) : (s.putAct l).safe = s.safe := rfl
@[simp] theorem State.putAct_ins (s : State) (l : List (Nat × Nat)) : (s.putAct l).ins = s.ins := rfl
@[simp] theorem State.putAct_pwr (s : State) (l : List (Nat × Nat)) : (s.putAct l).pwr = s.pwr := rfl
@[simp] theorem State.putAct_pins (s : State) (l : List (Nat × Nat)) : (s.putAct l).pins = s.pins := rfl
@[simp] theorem State.putAct_net (s : State) (l : List (Nat × Nat)) : (s.putAct l).net = s.net := rfl
@[simp] theorem State.putAct_geo (s : State) (l : List (Nat × Nat)) : (s.putAct l).geo = s.geo := rfl
@[simp] theorem State.putAct_comp (s : State) (l : List (Nat × Nat)) : (s.putAct l).comp = s.comp := rfl
@[simp] theorem State.putAct_fs (s : State) (l : List (Nat × Nat)) : (s.putAct l).fs = s.fs := rfl
@[simp] theorem State.putAct_tl (s : State) (l : List (Nat × Nat)) : (s.putAct l).tl = s.tl := rfl
@[simp] theorem State.putAct_prj (s : State) (l : List (Nat × Nat)) : (s.putAct l).prj = s.prj := rfl
@[simp] theorem State.putAct_skb (s : State) (l : List (Nat × Nat)) : (s.putAct l).skb = s.skb := rfl
@[simp] theorem State.putAct_lpe (s : State) (l : List (Nat × Nat)) : (s.putAct l).lpe = s.lpe := rfl
@[simp] theorem State.putAct_ln (s : State) (l : List (Nat × Nat)) : (s.putAct l).ln = s.ln := rfl
@[simp] theorem State.putAct_tw (s : State) (l : List (Nat × Nat)) : (s.putAct l).tw = s.tw := rfl
@[simp] theorem State.putAct_nv (s : State) (l : List (Nat × Nat)) : (s.putAct l).nv = s.nv := rfl
@[simp] theorem State.putAct_upd (s : State) (l : List (Nat × Nat)) : (s.putAct l).upd = s.upd := rfl

@[simp] theorem State.claim_pending (s : State) (r : List Nat) (o : Nat) : (s.claim r o).pending = s.pending := rfl
@[simp] theorem State.claim_now (s : State) (r : List Nat) (o : Nat) : (s.claim r o).now = s.now := rfl
@[simp] theorem State.claim_time (s : State) (r : List Nat) (o : Nat) : (s.claim r o).time = s.time := rfl
@[simp] theorem State.claim_rate (s : State) (r : List Nat) (o : Nat) : (s.claim r o).rate = s.rate := rfl
@[simp] theorem State.claim_out (s : State) (r : List Nat) (o : Nat) : (s.claim r o).out = s.out := rfl
@[simp] theorem State.claim_freeCount (s : State) (r : List Nat) (o : Nat) : (s.claim r o).freeCount = s.freeCount := rfl
@[simp] theorem State.claim_mode (s : State) (r : List Nat) (o : Nat) : (s.claim r o).mode = s.mode := rfl
@[simp] theorem State.claim_dict (s : State) (r : List Nat) (o : Nat) : (s.claim r o).dict = s.dict := rfl
@[simp] theorem State.claim_doms (s : State) (r : List Nat) (o : Nat) : (s.claim r o).doms = s.doms := rfl
@[simp] theorem State.claim_active (s : State) (r : List Nat) (o : Nat) : (s.claim r o).active = s.active := rfl
@[simp] theorem State.claim_activeDoms (s : State) (r : List Nat) (o : Nat) : (s.claim r o).activeDoms = s.activeDoms := rfl
@[simp] theorem State.claim_armed (s : State) (r : List Nat) (o : Nat) : (s.claim r o).armed = s.armed := rfl
@[simp] theorem State.claim_safe (s : State) (r : List Nat) (o : Nat) : (s.claim r o).safe = s.safe := rfl
@[simp] theorem State.claim_ins (s : State) (r : List Nat) (o : Nat) : (s.claim r o).ins = s.ins := rfl
@[simp] theorem State.claim_pwr (s : State) (r : List Nat) (o : Nat) : (s.claim r o).pwr = s.pwr := rfl
@[simp] theorem State.claim_pins (s : State) (r : List Nat) (o : Nat) : (s.claim r o).pins = s.pins := rfl
@[simp] theorem State.claim_net (s : State) (r : List Nat) (o : Nat) : (s.claim r o).net = s.net := rfl
@[simp] theorem State.claim_geo (s : State) (r : List Nat) (o : Nat) : (s.claim r o).geo = s.geo := rfl
@[simp] theorem State.claim_comp (s : State) (r : List Nat) (o : Nat) : (s.claim r o).comp = s.comp := rfl
@[simp] theorem State.claim_fs (s : State) (r : List Nat) (o : Nat) : (s.claim r o).fs = s.fs := rfl
@[simp] theorem State.claim_tl (s : State) (r : List Nat) (o : Nat) : (s.claim r o).tl = s.tl := rfl
@[simp] theorem State.claim_prj (s : State) (r : List Nat) (o : Nat) : (s.claim r o).prj = s.prj := rfl
@[simp] theorem State.claim_skb (s : State) (r : List Nat) (o : Nat) : (s.claim r o).skb = s.skb := rfl
@[simp] theorem State.claim_lpe (s : State) (r : List Nat) (o : Nat) : (s.claim r o).lpe = s.lpe := rfl
@[simp] theorem State.claim_ln (s : State) (r : List Nat) (o : Nat) : (s.claim r o).ln = s.ln := rfl
@[simp] theorem State.claim_tw (s : State) (r : List Nat) (o : Nat) : (s.claim r o).tw = s.tw := rfl
@[simp] theorem State.claim_nv (s : State) (r : List Nat) (o : Nat) : (s.claim r o).nv = s.nv := rfl
@[simp] theorem State.claim_upd (s : State) (r : List Nat) (o : Nat) : (s.claim r o).upd = s.upd := rfl

@[simp] theorem State.unclaim_pending (s : State) (r : List Nat) : (s.unclaim r).pending = s.pending := rfl
@[simp] theorem State.unclaim_now (s : State) (r : List Nat) : (s.unclaim r).now = s.now := rfl
@[simp] theorem State.unclaim_time (s : State) (r : List Nat) : (s.unclaim r).time = s.time := rfl
@[simp] theorem State.unclaim_rate (s : State) (r : List Nat) : (s.unclaim r).rate = s.rate := rfl
@[simp] theorem State.unclaim_out (s : State) (r : List Nat) : (s.unclaim r).out = s.out := rfl
@[simp] theorem State.unclaim_freeCount (s : State) (r : List Nat) : (s.unclaim r).freeCount = s.freeCount := rfl
@[simp] theorem State.unclaim_mode (s : State) (r : List Nat) : (s.unclaim r).mode = s.mode := rfl
@[simp] theorem State.unclaim_dict (s : State) (r : List Nat) : (s.unclaim r).dict = s.dict := rfl
@[simp] theorem State.unclaim_doms (s : State) (r : List Nat) : (s.unclaim r).doms = s.doms := rfl
@[simp] theorem State.unclaim_active (s : State) (r : List Nat) : (s.unclaim r).active = s.active := rfl
@[simp] theorem State.unclaim_activeDoms (s : State) (r : List Nat) : (s.unclaim r).activeDoms = s.activeDoms := rfl
@[simp] theorem State.unclaim_armed (s : State) (r : List Nat) : (s.unclaim r).armed = s.armed := rfl
@[simp] theorem State.unclaim_safe (s : State) (r : List Nat) : (s.unclaim r).safe = s.safe := rfl
@[simp] theorem State.unclaim_ins (s : State) (r : List Nat) : (s.unclaim r).ins = s.ins := rfl
@[simp] theorem State.unclaim_pwr (s : State) (r : List Nat) : (s.unclaim r).pwr = s.pwr := rfl
@[simp] theorem State.unclaim_pins (s : State) (r : List Nat) : (s.unclaim r).pins = s.pins := rfl
@[simp] theorem State.unclaim_net (s : State) (r : List Nat) : (s.unclaim r).net = s.net := rfl
@[simp] theorem State.unclaim_geo (s : State) (r : List Nat) : (s.unclaim r).geo = s.geo := rfl
@[simp] theorem State.unclaim_comp (s : State) (r : List Nat) : (s.unclaim r).comp = s.comp := rfl
@[simp] theorem State.unclaim_fs (s : State) (r : List Nat) : (s.unclaim r).fs = s.fs := rfl
@[simp] theorem State.unclaim_tl (s : State) (r : List Nat) : (s.unclaim r).tl = s.tl := rfl
@[simp] theorem State.unclaim_prj (s : State) (r : List Nat) : (s.unclaim r).prj = s.prj := rfl
@[simp] theorem State.unclaim_skb (s : State) (r : List Nat) : (s.unclaim r).skb = s.skb := rfl
@[simp] theorem State.unclaim_lpe (s : State) (r : List Nat) : (s.unclaim r).lpe = s.lpe := rfl
@[simp] theorem State.unclaim_ln (s : State) (r : List Nat) : (s.unclaim r).ln = s.ln := rfl
@[simp] theorem State.unclaim_tw (s : State) (r : List Nat) : (s.unclaim r).tw = s.tw := rfl
@[simp] theorem State.unclaim_nv (s : State) (r : List Nat) : (s.unclaim r).nv = s.nv := rfl
@[simp] theorem State.unclaim_upd (s : State) (r : List Nat) : (s.unclaim r).upd = s.upd := rfl

end Sys2Proof.Machine
end

