-- ==== Sys2Proof/Tests/Slice0.lean ====
section
/-! SUPPORT. Tests: ill-formed commands are refused by the well-formedness check, the spec's worked examples come out, and for the hypotheses
of every clause of every statement a state and operands that meet them together. -/

/-- A state with claims, with a slot, and with a training record. -/
def Sys2Proof.Machine.State.owned (s : Sys2Proof.Machine.State) (recs : List Nat) (o : Nat) : Sys2Proof.Machine.State := s.claim recs o
def Sys2Proof.Machine.State.withSlot (s : Sys2Proof.Machine.State) (n : Nat) (x : Sys2Proof.Machine.Slot) : Sys2Proof.Machine.State := s.putSlot n x
def Sys2Proof.Machine.State.withTrain (s : Sys2Proof.Machine.State) (p : Nat) (x : Sys2Proof.Machine.Train) : Sys2Proof.Machine.State :=
  s.putTrain p x

namespace Sys2Proof.Tests
open Sys2Proof Sys2Proof.Machine
set_option linter.unusedVariables false
set_option Elab.async false

/-! ### Commands and states that the tests share -/

/-- A request of a client on NET0, and one of a client on an Ethernet port that the device lacks. -/
def rq1 : Rq := ⟨.udp 0 0x0A000001 5000 0x0A0B0C0D0E01, 7⟩
def rqBad : Rq := ⟨.udp 2 0 0 0, 7⟩

def setNth {α : Type} (l : List α) (n : Nat) (x : α) : List α := l.set n x
/-- a device that has booted, in a state, with entries set -/
def up (m : Mode) (sets : List (Nat × Nat)) : State :=
  let r := State.reset
  sets.foldl (fun s p => s.set p.1 p.2) { r with mode := m, sys := { r.sys with bootStep := 9, apc := [true, true] } }
/-- PREOP with Kerb maps of the committed (empty) dimensions -/
def readyS : State :=
  let s := up .preop []
  let img : KerbImg := ⟨0, 0, [(0,0,0),(0,0,0),(0,0,0),(0,0,0)], []⟩
  { s with comp := { s.comp with kerb := { s.comp.kerb with ram := some img } } }.set (K 0x4100 8) 1
/-- Guardrail connection n in operation over UDP from 10.0.0.9, every type permitted, no time check -/
def gcS (m : Mode) (n : Nat) (sets : List (Nat × Nat)) : State :=
  (up m ((K 0x7100 0x0B, 5) :: (K (0x1400 + n) 0x12, 1) :: sets)).putAct [(K 0x7100 1, 1), (K (0x1400 + n) 6, 0x0A000009), (K (0x1400 + n) 0x0B, 0x1FE), (K (0x1400 + n) 0x0C, 2)]
def gsrc : GcSrc := .udp 0 0 0x0A000009 50330
/-- a frame with the CHECK of connection n -/
def gf (s : State) (n ty : Nat) (pre payload : List Byte) : GFrame :=
  let f : GFrame := ⟨BitVec.ofNat 8 (pre.length + payload.length), 0x0102, 0, payload, 0, []⟩
  { f with check := BitVec.ofNat 32 (s.guardCheck n ((guardBytes f ty pre).take (8 + pre.length + payload.length))) }
def gcS0 (m : Mode) (n : Nat) : State := (gcS m n []).putAct [(K (0x1400 + n) 0x0B, 0x80)]
/-- OPERATE with one enabled source of a type, 8 by 4 pixels, and a running raster -/
def runS (ty : Nat) : State :=
  let s := up .operate [(K 0x4330 5, 0x80004), (K 0x4300 0x11, 9)]
  { s with fs := { s.fs with running := true, ra := 64, vb := 16, rowU := 1000000, nextRowU := 1000000, compFrame := 8, fmAt := 0 } }.putAct
    [(K 0x4330 1, 1), (K 0x4330 2, ty), (K 0x4330 3, 8), (K 0x4330 4, 4)]
def syncS : State := let s := (runS 1).putAct [(K 0x4300 7, 1), (K 0x4300 8, 1)]
  { s with now := 6, fs := { s.fs with lock := { s.fs.lock with lastEdge := some 3, edges := 4 } } }
/-- OPERATE with source 0 a running scanner on mirror port 1 whose Scan Guard is in a state -/
def scanS (g : Nat) : State :=
  let s := ((runS 3).putAct [(K 0x4520 0x0A, 1), (K 0x4520 1, 4), (K 0x4520 2, 1)]).set (K 0x4541 7) g
  { s with fs := { s.fs with firstLight := true } }
/-- OPERATE with engine e running a program of one word at its counter, 8 words long, and a number of untimed instructions behind it -/
def engS (e w un : Nat) : State :=
  let s := up .operate [(K (0x5100 + e) 7, 1), (K (0x5100 + e) 8, 2), (K (0x5100 + e) 3, 1000)]
  { s with activeDoms := [(K (0x5100 + e) 1, (List.replicate 8 w).flatMap (toBe 4 ·))],
           skb := { s.skb with engines := setNth s.skb.engines e { Engine.init with untimed := un, value := 9 } } }
/-- with a download that waits for its value's check -/
def dlS (s : State) (x : Xfer) : State := { s with sys := { s.sys with xfers := [x] } }
/-- channel c a host string of the frame, its own period lasting -/
def chanS (c n : Nat) : State :=
  let s := (runS 1).set (K (SK c) 1) 1 |>.set (K (SK c) 9) 3 |>.set (K (SK c) 7) 500 |>.set (K (SK c) 8) 9000
  s.putChan c { Chan.init with on := n, fails := [2, 0, 0] }
/-- slot n an actuator slot on port n mod 4 with a configuration that passes, in a slot state -/
def lsS (m : Mode) (n st : Nat) : State :=
  up m [(K (LS n) 2, 4), (K (LS n) 3, n % 4), (K (LS n) 4, 40000), (K (LS n) 0x0B, 0xBF800000), (K (LS n) 0x0C, 0x3F800000), (K (LS n) 0x22, 0), (K (LS n) 0x28, st),
    (K (0x6030 + n % 4) 7, 0xBF800000), (K (0x6030 + n % 4) 8, 0x3F800000), (K (0x6030 + n % 4) 6, 0), (K (0x6030 + n % 4) 0x0E, 0x3F800000),
    (K (0x6030 + n % 4) 0x0D, 0x3F800000), (K (0x6030 + n % 4) 0x0B, 20000), (K (0x6030 + n % 4) 0x11, 1), (K 0x3010 0x0A, 9)]
def actS (a : Nat) (x : Act) : State := (lsS .operate a 2).putAct_ a x
/-- OPERATE with source 0 running on tile endpoint 0 of 8 by 4 pixels, lanes 0 to 3, and a port -/
def tlS (p : Port) : State :=
  let s := (runS 1).putAct [(K 0x4400 1, 1), (K 0x4400 2, 0), (K 0x4400 3, 1), (K 0x4400 4, 0), (K 0x4400 5, 0xF), (K 0x4400 8, 10), (K 0x4400 0x18, 8), (K 0x4400 0x19, 4)]
  { s with tw := { Tw.init with single := true }, fs := { s.fs with firstLight := true },
           tl := { s.tl with tse := 1, ports := setNth s.tl.ports 0 p } }
def upP : Port := { Port.init with trained := true, rate := 1, stripe := [0, 1, 2, 3] }
def retH (typ e n arg : Nat) : Nat := packetHead typ e 0 9 n arg
def una (typ : Nat) (op : Option RegOp) : Unans := ⟨7, typ, 0, [], 0, 1, op⟩
def regop (w : Why) (n : Nat) : RegOp := { why := w, write := false, first := 0, count := n, vals := [] }
/-- the same with the lanes of port 0 in a state each with a record -/
def lnS (p : Port) (st : Nat) (x : Lane) : State :=
  (List.range 4).foldl (fun s l => (s.putLane l x).set (K (laneIdx l) 1) st) (tlS p)
def doneL : Lane := { Lane.init with locked := true, run := 16, lockAt := 0 }
def actOnly (s : State) : State := { s with tw := { Tw.init with single := true } }
/-- OPERATE with Ethernet port p up, its MAC address 0x0A0B0C0D0E0F, and IP address 10.0.0.1 -/
def netS (p : Nat) : State := (up .operate [(K (0x7100 + p) 0x0B, 5)]).putAct [(K (0x7100 + p) 1, 1), (K (0x7100 + p) 3, 0x0A0B0C0D0E0F), (K 0x7110 1, 0x0A000001), (K (0x7100 + p) 4, 0)]
def canS (c : Nat) : State := (up .operate []).putAct [(K (0x7140 + c) 1, 1), (K (0x7140 + c) 2, 0)]
def arpB : List Byte := toBe 6 0x0A0B0C0D0E0F ++ toBe 6 7 ++ toBe 2 0x0806 ++ toBe 8 0x0001080006040001 ++ toBe 6 7 ++ toBe 4 9 ++ toBe 6 0 ++ toBe 4 0x0A000001 ++ List.replicate 18 0
/-- stream 0 of one line of 2 pixels, format 3 -/
def vidS (v : Stream) : State :=
  let s := (netS 0).putAct [(K 0x7120 1, 1), (K 0x7120 2, 77), (K 0x7120 3, 88), (K 0x7120 4, 1), (K 0x7120 5, 2), (K 0x7120 6, 1), (K 0x7120 7, 3), (K 0x7120 8, 0x112233445566)]
  s.putVs 0 v
def vidB (fl : Byte) : List Byte := toBe 6 0x112233445566 ++ toBe 2 0x5A56 ++ [3, fl] ++ toBe 4 9 ++ toBe 2 0 ++ toBe 2 0 ++ toBe 2 2 ++ toBe 2 0 ++ [1, 2, 3, 4]
/-- port 0 the slave port, time synchronising in a state, with a Time Unit record -/
def timS (st : Nat) (x : Tmu) : State :=
  let s := ((netS 0).putAct [(K 0x7180 3, 0), (K 0x7180 2, 5)]).set (K 0x7180 0x0F) st
  { s with net := { s.net with tmu := x } }
def tpoS (n : Nat) (x : Tpo) : State := (up .operate [(K (0x71A0 + n) 1, 2)]).putTpo n x
/-- a list of no objects, LSEQ 5, as one fragment of fcnt -/
def fragB (fcnt : Byte) (crcOk : Bool) : List Byte :=
  let h := toBe 2 0x4F4C ++ [1, 1] ++ toBe 4 5 ++ List.replicate 52 0
  toBe 4 5 ++ [0, fcnt, 0, 0] ++ h ++ toBe 4 (crc32c h + (if crcOk then 0 else 1))
def veh0 : Veh := ⟨3, true, true, 1, 2, 3, 4⟩
def olist (vs : Bool) : ObjList := ⟨9, 7, vs, veh0, []⟩
def geoS (g : Geo) : State := { (up .operate [(K 0x3200 2, 3), (K 0x7100 0x0B, 5), (K 0x7101 0x0B, 5)]).putAct [(K 0x7100 1, 1), (K 0x7101 1, 1)] with geo := g }
/-- a twin device, link up, with a role (1 active, 2 standby) -/
def twS (m : Mode) (role : Nat) (f : Tw → Tw) : State :=
  let s := up m [(K 0x8600 3, role), (K 0x7030 3, 1), (K 0x7030 1, 1)]
  { s with tw := f { Tw.init with single := false } }
def part0 : Partner := ⟨1, 2, 1, 0x3FF, 7, 9, 1, 2, 3⟩
/-- A state copy with every item at rest. -/
def bodyW (tse : Nat) : CopyBody :=
  ⟨tse, 0, 0, 0, List.replicate 7 none, 0, 0, List.replicate 4 ⟨0, 0, none, 0⟩, [0, 0, 0, 0],
    List.replicate 8 ⟨0, 0, 0, List.replicate 8 0, 0, 0, 0, 0, 0⟩, List.replicate 8 ⟨0, 0, 0, [none, none]⟩, List.replicate 128 0, [0, 0, 0, 0], [0, 0]⟩
def twH (typ n arg : Nat) : Nat := typ * 2 ^ 60 + n * 2 ^ 32 + arg
/-- a standby whose readiness is whole -/
def readyTw (m : Mode) (role : Nat) (f : Tw → Tw) : State :=
  let s := (twS m role id).set (K 0x8600 6) 0x3FF
  { s with tw := f { s.tw with agreed := 16, partner := some ⟨1, 2, 1, 0x3FF, 7, 0, s.cfgCrc, s.get (K 0x4100 2), beAt s.runManifest 0x20 4⟩ } }
/-- a manifest of one chunk of 100 bytes, for any device, that a rolling restart may take -/
def mf : List Byte :=
  toBe 4 0x5A494D47 ++ toBe 2 0x0100 ++ [0, 1] ++ toBe 4 0x2048 ++ [0, 0, 0, 0] ++ toBe 4 7 ++ List.replicate 16 0 ++ toBe 4 0 ++ toBe 4 100 ++ toBe 4 1 ++
    List.replicate 4048 0
/-- an update stage with that manifest in slot 2 -/
def updS (m : Mode) (stage : Nat) : State :=
  { (up m [(K 0x2200 4, stage), (K 0x2200 0x10, 3), (K 0x2202 1, 0), (K 0x7100 0x0B, 5), (K 0x7101 0x0B, 5)]).putAct [(K 0x7100 1, 1), (K 0x7101 1, 1)] with nv := { Nv.init with slots := [⟨factoryManifest, []⟩, ⟨mf, []⟩] } }
def bootS (m : Mode) (r : BootRec) : State :=
  { up m [] with nv := { Nv.init with boots := [r, BootRec.factory false] } }
def trial0 : BootRec := { BootRec.factory true with stage := 2, pending := 2 }
def rollS (r : Roll) : State :=
  let s := bootS .hold trial0
  { s with upd := { Upd.init with roll := some r }, sys := { s.sys with before := 2 }, nv := { s.nv with slots := [⟨factoryManifest, []⟩, ⟨factoryManifest, []⟩] },
           pwr := { Pwr.init with cal := { Cal.init with firstDone := true } } }
def offS : State := up .operate ((List.range 38).map fun d => (K 0x2302 (d + 1), 0x20000))
/-- BOOT at step 7 with first light due in the next frame, in line-following mode -/
def firstLightS : State :=
  let s := (runS 1).putAct [(K 0x4300 1, 1)]
  { s with mode := .boot, sys := { s.sys with bootStep := 7 }, fs := { s.fs with lightDue := true, lightFrame := some (s.frameNo + 1) } }

/-! ### Well-formedness: each check refuses an operand just outside it -/

theorem test_wf_clients : Client.wf (.can (2 ^ 11)) = false ∧ Client.wf (.can (2 ^ 31 + 2 ^ 29)) = false ∧ Client.wf (.udp 0 (2 ^ 128) 0 0) = false ∧
    Client.wf (.udp 0 0 (2 ^ 16) 0) = false ∧ Client.wf (.udp 0 0 0 (2 ^ 48)) = false ∧ Client.wf (.window 2) = false := by decide +kernel

theorem test_wf_sources : GcSrc.wf (.udp 2 0 0 0) = false ∧ GcSrc.wf (.udp 0 (2 ^ 64) 0 0) = false ∧ GcSrc.wf (.udp 0 0 (2 ^ 64) 0) = false ∧
    GcSrc.wf (.udp 0 0 0 (2 ^ 16)) = false ∧ GcSrc.wf (.can 0 (2 ^ 11)) = false := by decide +kernel

/-- Commands with one operand too large. -/
theorem test_wf_refuses_1 :
    ([.read 0 rqBad 0,
      .read 0 rq1 (2 ^ 24),
      .write 0 rqBad 0 [],
      .write 0 rq1 (2 ^ 24) [],
      .write 0 rq1 0 (List.replicate 4097 0),
      .repeatWindowExpiry 0 (.udp 2 0 0 0),
      .uploadInitiate 0 rqBad 0,
      .uploadInitiate 0 rq1 (2 ^ 24),
      .uploadSegmentRequest 0 rqBad 0 0,
      .uploadSegmentRequest 0 rq1 (2 ^ 24) 0,
      .uploadSegmentRequest 0 rq1 0 (2 ^ 32),
      .downloadInitiate 0 rqBad 0 0,
      .downloadInitiate 0 rq1 (2 ^ 24) 0,
      .downloadInitiate 0 rq1 0 (2 ^ 32),
      .downloadSegment 0 rqBad 0 0 false [],
      .downloadSegment 0 rq1 (2 ^ 24) 0 false [],
      .downloadSegment 0 rq1 0 (2 ^ 32) false [],
      .downloadSegment 0 rq1 0 0 false (List.replicate 4097 0),
      .downloadComplete 0 (.udp 2 0 0 0),
      .abort 0 rqBad 0 0 0,
      .abort 0 rq1 (2 ^ 24) 0 0,
      .abort 0 rq1 0 (2 ^ 16) 0,
      .abort 0 rq1 0 0 (2 ^ 16),
      .transferTimeout 0 (.udp 2 0 0 0)] : List Instr).all (fun i => !i.wf) = true := by decide +kernel

/-- Commands with one operand too large. -/
theorem test_wf_refuses_2 :
    ([.stateRequestPreop 0 rqBad,
      .stateRequestOperate 0 rqBad,
      .save 0 rqBad,
      .restoreDefaults 0 rqBad,
      .reloadStoredCopy 0 rqBad,
      .meshCommit 0 rqBad 0,
      .objectListFragment 0 0 (List.replicate 4097 0),
      .composeRow 0 0 0 (2048),
      .layerCommit 0 rqBad 0,
      .groupCommit 0 rqBad 0,
      .groupCommit 0 rq1 (128),
      .allocateRequest 0 rqBad 0,
      .allocateRequest 0 rq1 (2 ^ 32),
      .freeRequest 0 rqBad 0,
      .contentReady 0 rqBad 0 0,
      .contentReady 0 rq1 0 (2 ^ 32),
      .memoryQuota 0 rqBad 0 0,
      .memoryQuota 0 rq1 0 (2 ^ 32),
      .gainMeshCommit 0 rqBad 0,
      .clearReported 0 rqBad 0,
      .doseReset 0 rqBad 0,
      .hostBudget 0 rqBad 0 0,
      .hostBudget 0 rq1 0 (2 ^ 32),
      .frameMilestone 0 [] (16) ⟨[], false⟩] : List Instr).all (fun i => !i.wf) = true := by decide +kernel

/-- Commands with one operand too large. -/
theorem test_wf_refuses_3 :
    ([.frameMilestone 0 [] 0 ⟨[some (2 ^ 16)], false⟩,
      .scanOutCommit 0 rqBad,
      .scanOutRow 0 0 (2048),
      .retransmitTimeout 0 0 (2 ^ 16),
      .ack 0 0 (2 ^ 64) 0,
      .ack 0 0 0 (2 ^ 32),
      .regRsp 0 0 (2 ^ 64) [] 0,
      .regRsp 0 0 0 [2 ^ 64] 0,
      .regRsp 0 0 0 [] (2 ^ 32),
      .status 0 0 (2 ^ 64) [] 0,
      .status 0 0 0 [2 ^ 64] 0,
      .status 0 0 0 [] (2 ^ 32),
      .fmap 0 0 (2 ^ 64) [] 0,
      .fmap 0 0 0 [2 ^ 64] 0,
      .fmap 0 0 0 [] (2 ^ 32),
      .gmap 0 0 (2 ^ 64) [] 0,
      .gmap 0 0 0 [2 ^ 64] 0,
      .gmap 0 0 0 [] (2 ^ 32),
      .registerWindowRead 0 rqBad 0 0,
      .registerWindowRead 0 rq1 0 (2 ^ 16),
      .registerWindowWrite 0 rqBad 0,
      .registerWindowWrite 0 rq1 (2 ^ 32),
      .planeTableCommit 0 rqBad 0,
      .colourCommit 0 rqBad 0] : List Instr).all (fun i => !i.wf) = true := by decide +kernel

/-- Commands with one operand too large. -/
theorem test_wf_refuses_4 :
    ([.laserLine 0 0 (2048),
      .sinkSample 0 0 (2 ^ 16) false false,
      .clearFaults 0 rqBad 0,
      .level 0 rqBad 0 0,
      .level 0 rq1 0 (2 ^ 32),
      .program 0 (.udp 2 0 0 0) 0,
      .targetTable 0 (.udp 2 0 0 0) 0,
      .engineStart 0 rqBad 0,
      .engineStop 0 rqBad 0,
      .gainCommit 0 rqBad 0,
      .table 0 (.udp 2 0 0 0) 0,
      .slotStart 0 rqBad 0,
      .slotStop 0 rqBad 0,
      .enterDetour 0 rqBad 0,
      .leaveDetour 0 rqBad 0,
      .positionCount 0 0 (2 ^ 32),
      .bitSlip 0 rqBad 0,
      .eyeScan 0 rqBad 0 0,
      .eyeScan 0 rq1 0 (2 ^ 32),
      .prbsControl 0 rqBad 0 0,
      .prbsControl 0 rq1 0 (2 ^ 32),
      .videoPdu 0 0 ⟨256, false, 0⟩ 0 0 0 [],
      .videoPdu 0 0 ⟨0, false, 8⟩ 0 0 0 [],
      .videoPdu 0 0 ⟨0, false, 0⟩ (2 ^ 64) 0 0 []] : List Instr).all (fun i => !i.wf) = true := by decide +kernel

/-- Commands with one operand too large. -/
theorem test_wf_refuses_5 :
    ([.videoPdu 0 0 ⟨0, false, 0⟩ 0 (2 ^ 48) 0 [],
      .streamCommit 0 rqBad 0,
      .canFrame 0 0 (2 ^ 11) false [],
      .canFrame 0 0 (2 ^ 31 + 2 ^ 29) false [],
      .recover 0 rqBad 0,
      .sync 0 0 (128) 0 false 0,
      .sync 0 0 0 (2 ^ 16) false 0,
      .followUp 0 0 ⟨128, 0⟩ 0 0 0 0,
      .followUp 0 0 ⟨0, 2 ^ 16⟩ 0 0 0 0,
      .followUp 0 0 ⟨0, 0⟩ 0 0 0 (2 ^ 64),
      .pdelayReq 0 0 ⟨128, 0⟩,
      .pdelayReq 0 0 ⟨0, 2 ^ 16⟩,
      .pdelayResp 0 0 ⟨128, 0⟩ 0 0,
      .pdelayResp 0 0 ⟨0, 2 ^ 16⟩ 0 0,
      .stepAtNextSample 0 rqBad,
      .setTime 0 rqBad,
      .oneShot 0 rqBad 0,
      .periodic 0 rqBad 0,
      .tpoOff 0 rqBad 0,
      .vehicle 0 (.can 4 0) ⟨0, 0, 0, [], 0, []⟩,
      .vehicle 0 (.can 0 0) ⟨0, 0, 0, List.replicate 33 0, 0, []⟩,
      .glare 0 (.can 4 0) ⟨0, 0, 0, [], 0, []⟩,
      .glare 0 (.can 0 0) ⟨0, 0, 0, List.replicate 33 0, 0, []⟩,
      .beamMode 0 (.can 4 0) ⟨0, 0, 0, [], 0, []⟩] : List Instr).all (fun i => !i.wf) = true := by decide +kernel

/-- Commands with one operand too large. -/
theorem test_wf_refuses_6 :
    ([.beamMode 0 (.can 0 0) ⟨0, 0, 0, List.replicate 33 0, 0, []⟩,
      .kerbLoad 0 (.can 4 0) ⟨0, 0, 0, [], 0, []⟩,
      .kerbLoad 0 (.can 0 0) ⟨0, 0, 0, List.replicate 33 0, 0, []⟩,
      .roadblockRequest 0 (.can 4 0) ⟨0, 0, 0, [], 0, []⟩,
      .roadblockRequest 0 (.can 0 0) ⟨0, 0, 0, List.replicate 33 0, 0, []⟩,
      .roadblockRelease 0 (.can 4 0) ⟨0, 0, 0, [], 0, []⟩,
      .roadblockRelease 0 (.can 0 0) ⟨0, 0, 0, List.replicate 33 0, 0, []⟩,
      .torqueRequest 0 (.can 4 0) ⟨0, 0, 0, [], 0, []⟩,
      .torqueRequest 0 (.can 0 0) ⟨0, 0, 0, List.replicate 33 0, 0, []⟩,
      .torqueRelease 0 (.can 4 0) ⟨0, 0, 0, [], 0, []⟩,
      .torqueRelease 0 (.can 0 0) ⟨0, 0, 0, List.replicate 33 0, 0, []⟩,
      .swWrite 0 (.can 4 0) ⟨0, 0, 0, [], 0, []⟩,
      .swWrite 0 (.can 0 0) ⟨0, 0, 0, List.replicate 33 0, 0, []⟩,
      .safeAck 0 (.can 4 0) ⟨0, 0, 0, [], 0, []⟩,
      .safeAck 0 (.can 0 0) ⟨0, 0, 0, List.replicate 33 0, 0, []⟩,
      .safeAckAll 0 (.can 4 0) ⟨0, 0, 0, [], 0, []⟩,
      .safeAckAll 0 (.can 0 0) ⟨0, 0, 0, List.replicate 33 0, 0, []⟩,
      .faultAcknowledge 0 rqBad 0,
      .faultAcknowledgeAll 0 rqBad,
      .rule 0 rqBad 0 0,
      .rule 0 rq1 0 (2 ^ 32),
      .milepost 0 (2 ^ 64) [] 0,
      .milepost 0 0 [2 ^ 64] 0,
      .milepost 0 0 [] (2 ^ 32)] : List Instr).all (fun i => !i.wf) = true := by decide +kernel

/-- Commands with one operand too large. -/
theorem test_wf_refuses_7 :
    ([.copy 0 false (2 ^ 32) 0 0 0 0 0 (bodyW 0),
      .copy 0 false 0 (2 ^ 32) 0 0 0 0 (bodyW 0),
      .copy 0 false 0 0 (2 ^ 32) 0 0 0 (bodyW 0),
      .copy 0 false 0 0 0 (2 ^ 32) 0 0 (bodyW 0),
      .copy 0 false 0 0 0 0 (2 ^ 32) 0 (bodyW 0),
      .copy 0 false 0 0 0 0 0 (2 ^ 32) (bodyW 0),
      .copy 0 false 0 0 0 0 0 0 (bodyW 16),
      .commit 0 false 0 (2 ^ 24) [] [],
      .signature 0 (2 ^ 64) [] 0,
      .signature 0 0 [2 ^ 64] 0,
      .signature 0 0 [] (2 ^ 32),
      .kerb 0 (2 ^ 64) [] 0,
      .kerb 0 0 [2 ^ 64] 0,
      .kerb 0 0 [] (2 ^ 32),
      .bulk 0 (2 ^ 64) [] 0,
      .bulk 0 0 [2 ^ 64] 0,
      .bulk 0 0 [] (2 ^ 32),
      .handoverCommand 0 rqBad,
      .handoverOffer 0 (2 ^ 64) [] 0,
      .handoverOffer 0 0 [2 ^ 64] 0,
      .handoverOffer 0 0 [] (2 ^ 32),
      .handoverGrant 0 (2 ^ 64) [] 0,
      .handoverGrant 0 0 [2 ^ 64] 0,
      .handoverGrant 0 0 [] (2 ^ 32)] : List Instr).all (fun i => !i.wf) = true := by decide +kernel

/-- Commands with one operand too large. -/
theorem test_wf_refuses_8 :
    ([.handoverRefuse 0 (2 ^ 64) [] 0,
      .handoverRefuse 0 0 [2 ^ 64] 0,
      .handoverRefuse 0 0 [] (2 ^ 32),
      .updateStart 0 rqBad,
      .updateAbandon 0 rqBad,
      .updateVerify 0 rqBad,
      .updateActivate 0 rqBad,
      .updateActivateWithReset 0 rqBad,
      .updateConfirm 0 rqBad,
      .updateFallBack 0 rqBad,
      .recoveryActivate 0 rqBad,
      .chunk 0 (.udp 2 0 0 0),
      .manifestFragment 0 0 ⟨2 ^ 128, 0⟩ 0 0 0 [],
      .manifestFragment 0 0 ⟨0, 2 ^ 48⟩ 0 0 0 [],
      .manifestFragment 0 0 ⟨0, 0⟩ (2 ^ 16) 0 0 [],
      .manifestFragment 0 0 ⟨0, 0⟩ 0 0 0 (List.replicate 4097 0),
      .chunkFragment 0 0 ⟨2 ^ 128, 0⟩ 0 0 0 0 [],
      .chunkFragment 0 0 ⟨0, 2 ^ 48⟩ 0 0 0 0 [],
      .chunkFragment 0 0 ⟨0, 0⟩ (2 ^ 16) 0 0 0 [],
      .chunkFragment 0 0 ⟨0, 0⟩ 0 0 0 0 (List.replicate 4097 0),
      .statusQuery 0 0 ⟨2 ^ 128, 0⟩ 0 0 0,
      .statusQuery 0 0 ⟨0, 2 ^ 48⟩ 0 0 0,
      .statusQuery 0 0 ⟨0, 0⟩ (2 ^ 16) 0 0,
      .powerRequestCommit 0 rqBad] : List Instr).all (fun i => !i.wf) = true := by decide +kernel

/-- Commands with one operand too large. -/
theorem test_wf_refuses_9 :
    ([.calibrationRun 0 rqBad,
      .calibrationSave 0 rqBad,
      .calibrationReload 0 rqBad,
      .crcStart 0 rqBad 0,
      .crcContinue 0 rqBad 0,
      .crcAbort 0 rqBad 0,
      .dapClaim 0 rqBad 0,
      .dapClaimRelease 0 rqBad 0,
      .pcgStart 0 rqBad 0,
      .pcgStop 0 rqBad 0,
      .pcgClear 0 rqBad 0,
      .pcgStopAndRelease 0 rqBad 0,
      .traceArm 0 rqBad,
      .traceForceTrigger 0 rqBad,
      .traceStop 0 rqBad,
      .traceRelease 0 rqBad,
      .unknownCommand 0 rqBad 0 0 0 [],
      .unknownCommand 0 rq1 (256) 0 0 [],
      .unknownCommand 0 rq1 0 (2 ^ 24) 0 [],
      .unknownCommand 0 rq1 0 0 (2 ^ 32) [],
      .unknownCommand 0 rq1 0 0 0 (List.replicate 4097 0),
      .canBusError 0 0 (2 ^ 16) 0,
      .canBusError 0 0 0 (2 ^ 16),
      .idle 0 0 (2 ^ 64) 0] : List Instr).all (fun i => !i.wf) = true := by decide +kernel

/-- Commands with one operand too large. -/
theorem test_wf_refuses_10 :
    ([.idle 0 0 0 (2 ^ 32)] : List Instr).all (fun i => !i.wf) = true := by decide +kernel

/-- The same commands with every operand in its width. -/
theorem test_wf_accepts_1 :
    ([.read 0 rq1 0,
      .write 0 rq1 0 [],
      .repeatWindowExpiry 0 .hspi,
      .uploadInitiate 0 rq1 0,
      .uploadSegmentRequest 0 rq1 0 0,
      .downloadInitiate 0 rq1 0 0,
      .downloadSegment 0 rq1 0 0 false [],
      .downloadComplete 0 .hspi,
      .abort 0 rq1 0 0 0,
      .transferTimeout 0 .hspi,
      .stateRequestPreop 0 rq1,
      .stateRequestOperate 0 rq1,
      .save 0 rq1,
      .restoreDefaults 0 rq1,
      .reloadStoredCopy 0 rq1,
      .meshCommit 0 rq1 0,
      .objectListFragment 0 0 [],
      .composeRow 0 0 0 0,
      .layerCommit 0 rq1 0,
      .groupCommit 0 rq1 0,
      .allocateRequest 0 rq1 0,
      .freeRequest 0 rq1 0,
      .contentReady 0 rq1 0 0,
      .memoryQuota 0 rq1 0 0] : List Instr).all (fun i => i.wf) = true := by decide +kernel

/-- The same commands with every operand in its width. -/
theorem test_wf_accepts_2 :
    ([.gainMeshCommit 0 rq1 0,
      .clearReported 0 rq1 0,
      .doseReset 0 rq1 0,
      .hostBudget 0 rq1 0 0,
      .frameMilestone 0 [] 0 ⟨[], false⟩,
      .scanOutCommit 0 rq1,
      .scanOutRow 0 0 0,
      .retransmitTimeout 0 0 0,
      .ack 0 0 0 0,
      .regRsp 0 0 0 [] 0,
      .status 0 0 0 [] 0,
      .fmap 0 0 0 [] 0,
      .gmap 0 0 0 [] 0,
      .registerWindowRead 0 rq1 0 0,
      .registerWindowWrite 0 rq1 0,
      .planeTableCommit 0 rq1 0,
      .colourCommit 0 rq1 0,
      .laserLine 0 0 0,
      .sinkSample 0 0 0 false false,
      .clearFaults 0 rq1 0,
      .level 0 rq1 0 0,
      .program 0 .hspi 0,
      .targetTable 0 .hspi 0,
      .engineStart 0 rq1 0] : List Instr).all (fun i => i.wf) = true := by decide +kernel

/-- The same commands with every operand in its width. -/
theorem test_wf_accepts_3 :
    ([.engineStop 0 rq1 0,
      .gainCommit 0 rq1 0,
      .table 0 .hspi 0,
      .slotStart 0 rq1 0,
      .slotStop 0 rq1 0,
      .enterDetour 0 rq1 0,
      .leaveDetour 0 rq1 0,
      .positionCount 0 0 0,
      .bitSlip 0 rq1 0,
      .eyeScan 0 rq1 0 0,
      .prbsControl 0 rq1 0 0,
      .videoPdu 0 0 ⟨0, false, 0⟩ 0 0 0 [],
      .streamCommit 0 rq1 0,
      .canFrame 0 0 0 false [],
      .recover 0 rq1 0,
      .sync 0 0 0 0 false 0,
      .followUp 0 0 ⟨0, 0⟩ 0 0 0 0,
      .pdelayReq 0 0 ⟨0, 0⟩,
      .pdelayResp 0 0 ⟨0, 0⟩ 0 0,
      .stepAtNextSample 0 rq1,
      .setTime 0 rq1,
      .oneShot 0 rq1 0,
      .periodic 0 rq1 0,
      .tpoOff 0 rq1 0] : List Instr).all (fun i => i.wf) = true := by decide +kernel

/-- The same commands with every operand in its width. -/
theorem test_wf_accepts_4 :
    ([.vehicle 0 (.can 0 0) ⟨0, 0, 0, [], 0, []⟩,
      .glare 0 (.can 0 0) ⟨0, 0, 0, [], 0, []⟩,
      .beamMode 0 (.can 0 0) ⟨0, 0, 0, [], 0, []⟩,
      .kerbLoad 0 (.can 0 0) ⟨0, 0, 0, [], 0, []⟩,
      .roadblockRequest 0 (.can 0 0) ⟨0, 0, 0, [], 0, []⟩,
      .roadblockRelease 0 (.can 0 0) ⟨0, 0, 0, [], 0, []⟩,
      .torqueRequest 0 (.can 0 0) ⟨0, 0, 0, [], 0, []⟩,
      .torqueRelease 0 (.can 0 0) ⟨0, 0, 0, [], 0, []⟩,
      .swWrite 0 (.can 0 0) ⟨0, 0, 0, [], 0, []⟩,
      .safeAck 0 (.can 0 0) ⟨0, 0, 0, [], 0, []⟩,
      .safeAckAll 0 (.can 0 0) ⟨0, 0, 0, [], 0, []⟩,
      .faultAcknowledge 0 rq1 0,
      .faultAcknowledgeAll 0 rq1,
      .rule 0 rq1 0 0,
      .milepost 0 0 [] 0,
      .copy 0 false 0 0 0 0 0 0 (bodyW 0),
      .commit 0 false 0 0 [] [],
      .signature 0 0 [] 0,
      .kerb 0 0 [] 0,
      .bulk 0 0 [] 0,
      .handoverCommand 0 rq1,
      .handoverOffer 0 0 [] 0,
      .handoverGrant 0 0 [] 0,
      .handoverRefuse 0 0 [] 0] : List Instr).all (fun i => i.wf) = true := by decide +kernel

/-- The same commands with every operand in its width. -/
theorem test_wf_accepts_5 :
    ([.updateStart 0 rq1,
      .updateAbandon 0 rq1,
      .updateVerify 0 rq1,
      .updateActivate 0 rq1,
      .updateActivateWithReset 0 rq1,
      .updateConfirm 0 rq1,
      .updateFallBack 0 rq1,
      .recoveryActivate 0 rq1,
      .chunk 0 .hspi,
      .manifestFragment 0 0 ⟨0, 0⟩ 0 0 0 [],
      .chunkFragment 0 0 ⟨0, 0⟩ 0 0 0 0 [],
      .statusQuery 0 0 ⟨0, 0⟩ 0 0 0,
      .powerRequestCommit 0 rq1,
      .calibrationRun 0 rq1,
      .calibrationSave 0 rq1,
      .calibrationReload 0 rq1,
      .crcStart 0 rq1 0,
      .crcContinue 0 rq1 0,
      .crcAbort 0 rq1 0,
      .dapClaim 0 rq1 0,
      .dapClaimRelease 0 rq1 0,
      .pcgStart 0 rq1 0,
      .pcgStop 0 rq1 0,
      .pcgClear 0 rq1 0] : List Instr).all (fun i => i.wf) = true := by decide +kernel

/-- The same commands with every operand in its width. -/
theorem test_wf_accepts_6 :
    ([.pcgStopAndRelease 0 rq1 0,
      .traceArm 0 rq1,
      .traceForceTrigger 0 rq1,
      .traceStop 0 rq1,
      .traceRelease 0 rq1,
      .unknownCommand 0 rq1 0 0 0 [],
      .canBusError 0 0 0 0,
      .idle 0 0 0 0] : List Instr).all (fun i => i.wf) = true := by decide +kernel

/-! ### What the spec's examples give -/

/-- The check values of the table behind R525, over the nine ASCII bytes "123456789". -/
def nine : List Byte := [0x31, 0x32, 0x33, 0x34, 0x35, 0x36, 0x37, 0x38, 0x39]
def unitOver (w poly init : Nat) (refl final : Nat) : Nat := crcResult w refl final (nine.foldl (crcTake w poly (bit refl 0)) init)

/-- R58: the check value of CRC-32C. -/
theorem test_crc32c : crc32c nine = 0xE3069283 := by decide +kernel

/-- The five configurations of the table behind R525. -/
theorem test_check_values :
    unitOver 32 0x1EDC6F41 0xFFFFFFFF 3 0xFFFFFFFF = 0xE3069283 ∧ unitOver 32 0x04C11DB7 0xFFFFFFFF 3 0xFFFFFFFF = 0xCBF43926 ∧
    unitOver 16 0x1021 0xFFFF 0 0 = 0x29B1 ∧ unitOver 8 0x1D 0xFF 0 0xFF = 0x4B ∧
    unitOver 64 0x42F0E1EBA9EA3693 (2 ^ 64 - 1) 3 (2 ^ 64 - 1) = 0x995DC9BBDF1939FA := by decide +kernel

/-- The example behind R43: the device state read over CAN FD with TAG 0x05. -/
theorem test_read_request : parsePdu [1, 5, 0x20, 0, 1, 0, 0, 0, 0, 0, 0, 0] = ⟨1, 5, 0x200001, 0, 0, 0, []⟩ := by decide +kernel

/-- Its response in OPERATE, before the padding of the frame. -/
theorem test_read_response :
    (match exec (.read 5 ⟨.can 0x123, 5⟩ 0x200001) (up .operate []) with
     | .next t => t.lastReply (.can 0x123)
     | _ => none) = some [0x81, 5, 0x20, 0, 1, 0, 0, 1, 0, 0, 0, 0, 2] := by decide +kernel

/-- Steps 3 to 7 of the worked example of the light value chain. -/
theorem test_light_chain :
    mulFrac 49152 8192 = 6144 ∧ kerbLight 40 = 1613 ∧ kerbLight 200 = 40314 ∧ mulGain 6144 0x8800 = 6528 ∧ mulGain 1613 0x8800 = 1714 ∧
    mulGain 6528 0x828F = 6658 ∧ mulGain 1714 0x828F = 1748 ∧ mulFrac 6658 0xCCCD = 5327 := by decide +kernel

/-- The pixel of the Tile Link's worked example: its grey code, the header of its segment. -/
theorem test_tile_row : greyCode 12 5327 = 0x14D ∧ packetHead 1 2 1 0x3A 97 0x12C40 = 0x153A006100012C40 := by decide +kernel

/-- The raster of the worked examples: 0x0642_9069 units of 2^-16 tick for a row at 240 Hz and 1,040 rows (R165, R209). -/
theorem test_row_period : rowUOf 0x43700000 1040 = 0x06429069 := by decide +kernel

/-- The load in tenths of a percent. -/
def load (rate n : Nat) : Nat := let l := rowLoad 1024 12 2 rate n 1024 0x06429069 1024; 1000 * l.1 / l.2

/-- The table of loads of the worked example (R207): words and blocks of a row, 55.6 %, 113.3 % and 60.7 %. -/
theorem test_row_load :
    rowBlocks 1024 12 2 1 = (192, 2, 200) ∧ rowBlocks 1024 12 2 0 = (192, 3, 204) ∧ load 1 1 = 555 ∧ load 0 1 = 1132 ∧ load 0 2 = 607 := by
  decide +kernel

/-- The planes of the worked example under R236: T_load is at most 85.5 µs and T_dmin 86.0 µs. -/
theorem test_plane_dwell : minDwell 2048 1024 4 2 = 86000 := by decide +kernel

/-! ### The hypotheses of the statements can be met -/

theorem witness_RegionContent :
    (∃ (dt : Nat) (c : Client) (n : Fin 32) (x : Xfer) (s : State), s.xferOf c = some x ∧ x.upload = false ∧ x.last = true ∧ s.serverUp =
      true ∧ s.gateOf x.key = .open_ ∧ s.upd.waits = none ∧ x.data.length = x.total ∧ x.key = K (0x3440 + n) 6 ∧ s.get (K (0x3440 + n) 1)
      = 1 ∧ x.total ≤ s.get (K (0x3440 + n) 4) * 65536) ∧
    (∃ (dt : Nat) (c : Client) (n : Fin 32) (x : Xfer) (s : State), s.xferOf c = some x ∧ x.upload = false ∧ x.last = true ∧ s.serverUp =
      true ∧ s.gateOf x.key = .open_ ∧ s.upd.waits = none ∧ x.data.length = x.total ∧ x.key = K (0x3440 + n) 6 ∧ s.get (K (0x3440 + n) 1)
      = 0) ∧
    (∃ (dt : Nat) (c : Client) (n : Fin 32) (x : Xfer) (s : State), s.xferOf c = some x ∧ x.upload = false ∧ x.last = true ∧ s.serverUp =
      true ∧ s.gateOf x.key = .open_ ∧ s.upd.waits = none ∧ x.data.length = x.total ∧ x.key = K (0x3440 + n) 6 ∧ 2 ≤ s.get (K (0x3440 + n)
      1)) :=
  ⟨⟨5, rq1.client, 31, (let n : Fin 32 := 31; ⟨rq1.client, 3, false, K (0x3440 + n) 6, [3, 0, 5], 3, 1, true, 0⟩), (let n : Fin 32 := 31; let x : Xfer := ⟨rq1.client, 3, false, K (0x3440 + n) 6, [3, 0, 5], 3, 1, true, 0⟩; { up .safe [(K (0x3440 + n) 1, 1), (K (0x3440 + n) 3, 65536), (K (0x3440 + n) 4, 1)] with sys := { (up .safe []).sys with xfers := [x] }, fs := { Fs.init with mem := [(65537, 9), (65538, 8), (65539, 7)] } }), by decide +kernel⟩,
   ⟨5, rq1.client, 31, (let n : Fin 32 := 31; ⟨rq1.client, 3, false, K (0x3440 + n) 6, [3, 0, 5], 3, 1, true, 0⟩), (let n : Fin 32 := 31; let x : Xfer := ⟨rq1.client, 3, false, K (0x3440 + n) 6, [3, 0, 5], 3, 1, true, 0⟩; { up .safe [] with sys := { (up .safe []).sys with xfers := [x] } }), by decide +kernel⟩,
   ⟨5, rq1.client, 31, (let n : Fin 32 := 31; ⟨rq1.client, 3, false, K (0x3440 + n) 6, [3, 0, 5], 3, 1, true, 0⟩), (let n : Fin 32 := 31; let x : Xfer := ⟨rq1.client, 3, false, K (0x3440 + n) 6, [3, 0, 5], 3, 1, true, 0⟩; { up .safe [(K (0x3440 + n) 1, 2)] with sys := { (up .safe []).sys with xfers := [x] } }), by decide +kernel⟩⟩

theorem witness_HostBudget :
    (∃ (dt : Nat) (rq : Rq) (i : Fin 4) (v : Nat) (s : State), Served s dt rq (K (0x4240 + i) 1) v) ∧
    (∃ (dt : Nat) (rq : Rq) (i : Fin 4) (v : Nat) (e : Ent) (s : State), (s.tick dt).hears rq 2 (K (0x4240 + i) 1) 0 0 (toBe 4 v) = true ∧
      s.upd.waits = none ∧ (s.tick dt).checkUse (K (0x4240 + i) 1) .write = .ok e ∧ (s.tick dt).gateOf (K (0x4240 + i) 1) = .open_ ∧
      s.sys.xfers = [] ∧ v < 2 ^ 32 ∧ F32.lt 0x461C4000 (F32.ofNat v) = true) ∧
    (∃ (s : State) (i : Nat) (n : Nat), i < 4) :=
  ⟨⟨5, rq1, 3, 0x3F800000, up .preop [], by (unfold Served; decide +kernel)⟩,
   ⟨5, rq1, 3, 0x7F800000, (let i : Fin 4 := 3; ((findEnt (K (0x4240 + i) 1)).getD (entHigh ⟨0, 1, 1, []⟩))), up .preop [], by decide +kernel⟩,
   ⟨runS 1, 3, 4000000, by decide +kernel⟩⟩

theorem witness_PduRoundTrip :
    (∃ (cmd : Nat) (key : Nat) (flags : Nat) (arg : Nat) (tag : Byte) (data : List Byte) (pad : List Byte), cmd < 256 ∧ key < 2 ^ 24 ∧
      flags < 256 ∧ arg < 2 ^ 32 ∧ data.length < 65536) :=
  ⟨1, 0x300405, 0, 7, 9, [1, 2], [0, 0], by decide +kernel⟩

theorem witness_ReadAndWrite :
    (∃ (dt : Nat) (rq : Rq) (k : Nat) (e : Ent) (s : State), (s.tick dt).hears rq 1 k 0 0 [] = true ∧ s.upd.waits = none ∧ (s.tick
      dt).checkUse k .read = .ok e ∧ (s.tick dt).gateOf k = .open_ ∧ (¬ (0x9000 ≤ k / 256 ∧ k / 256 ≤ 0x9007)) ∧ measuredLane k = none) ∧
    (∃ (dt : Nat) (rq : Rq) (u : Fin 8) (n : Nat) (e : Ent) (s : State), (s.tick dt).hears rq 1 (K (CU u) n) 0 0 [] = true ∧ Calm s
      [(0x1D, 1), (0x1D, 2), (0x16, 2), (0x0D, 1)] ∧ (s.tick dt).checkUse (K (CU u) n) .read = .ok e ∧ (s.tick dt).gateOf (K (CU u) n) =
      .open_ ∧ 0 < n ∧ n < 256) ∧
    (∃ (dt : Nat) (rq : Rq) (l : Fin 18) (k : Nat) (e : Ent) (s : State), (s.tick dt).hears rq 1 k 0 0 [] = true ∧ s.upd.waits = none ∧
      (s.tick dt).checkUse k .read = .ok e ∧ (s.tick dt).gateOf k = .open_ ∧ measuredLane k = some l.val) ∧
    (∃ (dt : Nat) (rq : Rq) (k : Nat) (data : List Byte) (s : State), (s.tick dt).hears rq 2 k 0 0 data = true ∧ (s.tick dt).serves
      rq.client rq.tag k data = true ∧ s.upd.waits = none ∧ sysWrite k = none ∧ lightWrite k = none ∧ ioWrite k = none) ∧
    (∃ (dt : Nat) (rq : Rq) (k : Nat) (data : List Byte) (e : Ent) (s : State), (s.tick dt).hears rq 2 k 0 0 data = true ∧ s.upd.waits =
      none ∧ (s.tick dt).checkUse k .write = .ok e ∧ (s.tick dt).gateOf k = .open_ ∧ data.length ≠ e.ty.size) ∧
    (∃ (dt : Nat) (rq : Rq) (k : Nat) (data : List Byte) (e : Ent) (s : State), (s.tick dt).hears rq 2 k 0 0 data = true ∧ s.upd.waits =
      none ∧ (s.tick dt).checkUse k .write = .ok e ∧ (s.tick dt).gateOf k = .open_ ∧ data.length = e.ty.size ∧ s.sys.xfers = [] ∧ rangeOk
      e (be data) = false) ∧
    (∃ (dt : Nat) (rq : Rq) (k : Nat) (data : List Byte) (e : Ent) (s : State), (s.tick dt).hears rq 2 k 0 0 data = true ∧ s.upd.waits =
      none ∧ findObj (k / 256) ≠ none ∧ findEnt k = some e ∧ e.ty.segmented = false ∧ e.acc = .ro ∧ (findObj (k / 256)).all (fun o => k %
      256 ≤ o.hi) = true) :=
  ⟨⟨5, ⟨.hspi, 1⟩, K 0x1018 2, (let k : Nat := K 0x1018 2; (match (up .safe []).checkUse k .read with | .ok e => e | _ => entHigh ⟨0, 1, 1, []⟩)), up .safe [], by decide +kernel⟩,
   ⟨5, rq1, 7, 0x0C, (let u : Fin 8 := 7; let n : Nat := 0x0C; (match (up .safe []).checkUse (K (CU u) n) .read with | .ok e => e | _ => entHigh ⟨0, 1, 1, []⟩)), (let u : Fin 8 := 7; up .safe [(K (CU u) 9, 1), (K (CU u) 1, 1)]), by (unfold Calm; decide +kernel)⟩,
   ⟨5, rq1, 17, (let l : Fin 18 := 17; K (laneIdx l) 0x0B), (let l : Fin 18 := 17; let k : Nat := K (laneIdx l) 0x0B; (match (up .safe []).checkUse k .read with | .ok e => e | _ => entHigh ⟨0, 1, 1, []⟩)), (let l : Fin 18 := 17; up .safe [(K (laneIdx l) 9, 0x12), (K (laneIdx l) 0x0B, 1)]), by decide +kernel⟩,
   ⟨5, rq1, K 0x1210 2, [1], up .preop [], by decide +kernel⟩,
   ⟨5, rq1, K 0x2010 1, [1, 2, 3], (let k : Nat := K 0x2010 1; ((findEnt k).getD (entHigh ⟨0, 1, 1, []⟩))), up .preop [], by decide +kernel⟩,
   ⟨5, rq1, K 0x2000 2, [3], (let k : Nat := K 0x2000 2; ((findEnt k).getD (entHigh ⟨0, 1, 1, []⟩))), up .preop [], by decide +kernel⟩,
   ⟨5, rq1, K 0x2000 1, [3], (let k : Nat := K 0x2000 1; ((findEnt k).getD (entHigh ⟨0, 1, 1, []⟩))), up .preop [], by decide +kernel⟩⟩

theorem witness_Uploads :
    (∃ (dt : Nat) (rq : Rq) (k : Nat) (e : Ent) (b : List Byte) (s : State), (s.tick dt).hears rq 3 k 0 0 [] = true ∧ s.upd.waits = none ∧
      (s.tick dt).checkUse k .upload = .ok e ∧ (s.tick dt).gateOf k = .open_ ∧ (s.tick dt).domValue k = .ok b ∧ s.sys.xfers.length < 8 ∧
      s.xferOf rq.client = none) ∧
    (∃ (dt : Nat) (rq : Rq) (k : Nat) (seg : Nat) (x : Xfer) (s : State), (s.tick dt).hears rq 4 k 0 seg [] = true ∧ s.upd.waits = none ∧
      s.xferOf rq.client = some x ∧ x.upload = true ∧ seg = x.next ∧ (seg + 1) * payloadOf rq.client < x.total) ∧
    (∃ (dt : Nat) (rq : Rq) (k : Nat) (seg : Nat) (x : Xfer) (s : State), (s.tick dt).hears rq 4 k 0 seg [] = true ∧ s.upd.waits = none ∧
      s.xferOf rq.client = some x ∧ x.upload = true ∧ seg = x.next ∧ x.total ≤ (seg + 1) * payloadOf rq.client ∧ x.total = x.data.length ∧
      seg * payloadOf rq.client ≤ x.total) :=
  ⟨⟨5, rq1, K 0x3020 1, (let k : Nat := K 0x3020 1; ((findEnt k).getD (entHigh ⟨0, 1, 1, []⟩))), cutoffDefault, up .preop [], by decide +kernel⟩,
   ⟨5, rq1, 0, 1, ⟨rq1.client, 3, true, 5, List.replicate 3000 7, 3000, 1, false, 0⟩, (let x : Xfer := ⟨rq1.client, 3, true, 5, List.replicate 3000 7, 3000, 1, false, 0⟩; { up .safe [] with sys := { (up .safe []).sys with xfers := [x] } }), by decide +kernel⟩,
   ⟨5, rq1, 0, 2, ⟨rq1.client, 3, true, 5, List.replicate 3000 7, 3000, 2, false, 0⟩, (let x : Xfer := ⟨rq1.client, 3, true, 5, List.replicate 3000 7, 3000, 2, false, 0⟩; { up .safe [] with sys := { (up .safe []).sys with xfers := [x] } }), by decide +kernel⟩⟩

theorem witness_Downloads :
    (∃ (dt : Nat) (rq : Rq) (k : Nat) (total : Nat) (e : Ent) (s : State), (s.tick dt).hears rq 5 k 0 total [] = true ∧ s.upd.waits = none
      ∧ (s.tick dt).checkUse k .download = .ok e ∧ (s.tick dt).gateOf k = .open_ ∧ s.lengthOk e k total = true ∧ s.sys.xfers = [] ∧
      s.comp.kerb.loading = none) ∧
    (∃ (dt : Nat) (rq : Rq) (k : Nat) (seg : Nat) (data : List Byte) (x : Xfer) (s : State), (s.tick dt).hears rq 6 k 0 seg data = true ∧
      s.upd.waits = none ∧ s.xferOf rq.client = some x ∧ x.upload = false ∧ x.last = false ∧ seg = x.next ∧ s.unacked rq.client < windowOf
      rq.client) ∧
    (∃ (dt : Nat) (rq : Rq) (k : Nat) (seg : Nat) (data : List Byte) (x : Xfer) (s : State), (s.tick dt).hears rq 6 k 0x80 seg data = true
      ∧ s.upd.waits = none ∧ s.xferOf rq.client = some x ∧ x.upload = false ∧ x.last = false ∧ seg = x.next ∧ s.unacked rq.client <
      windowOf rq.client) ∧
    (∃ (dt : Nat) (rq : Rq) (k : Nat) (seg : Nat) (last : Bool) (data : List Byte) (x : Xfer) (s : State), (s.tick dt).hears rq 6 k (if
      last then 0x80 else 0) seg data = true ∧ s.upd.waits = none ∧ s.xferOf rq.client = some x ∧ x.upload = false ∧ x.last = false ∧ seg
      = x.next ∧ windowOf rq.client ≤ s.unacked rq.client) ∧
    (∃ (dt : Nat) (c : Client) (x : Xfer) (s : State), s.xferOf c = some x ∧ x.upload = false ∧ x.last = true ∧ s.serverUp = true ∧
      s.upd.waits = none ∧ x.data.length = x.total ∧ (s.tick dt).gateOf x.key = .open_ ∧ (0x3100 ≤ x.key / 256 ∧ x.key / 256 ≤ 0x3103)) ∧
    (∃ (dt : Nat) (c : Client) (x : Xfer) (s : State), s.xferOf c = some x ∧ x.upload = false ∧ x.last = true ∧ s.serverUp = true ∧
      s.upd.waits = none ∧ x.data.length ≠ x.total ∧ (s.tick dt).gateOf x.key = .open_) :=
  ⟨⟨5, rq1, K 0x9000 7, 16, (let k : Nat := K 0x9000 7; ((findEnt k).getD (entHigh ⟨0, 1, 1, []⟩))), up .preop [], by decide +kernel⟩,
   ⟨5, rq1, 0, 1, [1, 2], ⟨rq1.client, 3, false, 5, [3], 3000, 1, false, 0⟩, (let x : Xfer := ⟨rq1.client, 3, false, 5, [3], 3000, 1, false, 0⟩; { up .safe [] with sys := { (up .safe []).sys with xfers := [x] } }), by decide +kernel⟩,
   ⟨5, rq1, 0, 1, [1, 2], ⟨rq1.client, 3, false, 5, [3], 3000, 1, false, 0⟩, (let x : Xfer := ⟨rq1.client, 3, false, 5, [3], 3000, 1, false, 0⟩; { up .safe [] with sys := { (up .safe []).sys with xfers := [x] } }), by decide +kernel⟩,
   ⟨5, ⟨.can 5, 3⟩, 0, 1, false, [1, 2], ⟨.can 5, 3, false, 5, [3], 3000, 1, false, 0⟩, (let x : Xfer := ⟨.can 5, 3, false, 5, [3], 3000, 1, false, 0⟩; { up .safe [] with sys := { (up .safe []).sys with xfers := [x] }, net := { (up .safe []).net with canTx := List.replicate 4 (List.replicate 8 ⟨false, 6, [0x86]⟩) } }), by decide +kernel⟩,
   ⟨5, rq1.client, ⟨rq1.client, 3, false, K 0x3103 1, [3], 1, 1, true, 0⟩, (let x : Xfer := ⟨rq1.client, 3, false, K 0x3103 1, [3], 1, 1, true, 0⟩; { up .safe [] with sys := { (up .safe []).sys with xfers := [x] } }), by decide +kernel⟩,
   ⟨5, rq1.client, ⟨rq1.client, 3, false, K 0x3103 1, [3], 2, 1, true, 0⟩, (let x : Xfer := ⟨rq1.client, 3, false, K 0x3103 1, [3], 2, 1, true, 0⟩; { up .safe [] with sys := { (up .safe []).sys with xfers := [x] } }), by decide +kernel⟩⟩

theorem witness_TransferEnds :
    (∃ (dt : Nat) (rq : Rq) (k : Nat) (code : Nat) (detail : Nat) (s : State), k < 2 ^ 24 ∧ s.upd.waits = none) ∧
    (∃ (dt : Nat) (c : Client) (x : Xfer) (s : State), s.xferOf c = some x ∧ x.last = false ∧ x.at_ + s.get (K 0x1230 1) * 1000000 ≤ s.now
      + dt ∧ s.upd.waits = none) ∧
    (∃ (dt : Nat) (c : Client) (r : ClientRec) (s : State), s.clientRec c = some r ∧ r.response ≠ [] ∧ ((∀ y ∈ s.sys.clients, sameClient
      y.client c = true → y = r)) ∧ r.sentAt + 1000000000 ≤ s.now + dt ∧ s.upd.waits = none) ∧
    (∃ (dt : Nat) (rq : Rq) (cmd : Nat) (k : Nat) (arg : Nat) (data : List Byte) (s : State), (s.tick dt).hears rq cmd k 0 arg data = true
      ∧ (cmd = 0 ∨ 7 ≤ cmd) ∧ cmd ≠ 0x7F ∧ s.sys.recovery = false ∧ s.upd.waits = none) :=
  ⟨⟨5, ⟨.can 5, 3⟩, 7, 1, 0x12345, { up .safe [] with sys := { (up .safe []).sys with xfers := [⟨rq1.client, 3, false, K 0x3103 1, [3], 2, 1, true, 0⟩] } }, by decide +kernel⟩,
   ⟨60000000000, rq1.client, ⟨rq1.client, 3, false, K 0x3103 1, [3], 2, 1, false, 0⟩, (let x : Xfer := ⟨rq1.client, 3, false, K 0x3103 1, [3], 2, 1, false, 0⟩; { up .safe [] with sys := { (up .safe []).sys with xfers := [x] } }), by decide +kernel⟩,
   ⟨1000000000, rq1.client, ⟨rq1.client, [1], [2], 0⟩, (let r : ClientRec := ⟨rq1.client, [1], [2], 0⟩; { up .safe [] with sys := { (up .safe []).sys with clients := [r] } }), by decide +kernel⟩,
   ⟨1000000000, rq1, 0x81, 4, 5, [], up .safe [], by decide +kernel⟩⟩

theorem witness_SubIndexes :
    (∃ (dt : Nat) (rq : Rq) (i : Nat) (o : Obj) (s : State), (s.tick dt).hears rq 1 (K i 0) 0 0 [] = true ∧ s.upd.waits = none ∧ findObj i
      = some o ∧ (s.tick dt).gateOf (K i 0) = .open_ ∧ (¬ (0x9000 ≤ i ∧ i ≤ 0x9007))) ∧
    (∃ (dt : Nat) (rq : Rq) (k : Nat) (o : Obj) (s : State), (s.tick dt).hears rq 1 k 0 0 [] = true ∧ s.upd.waits = none ∧ findObj (k /
      256) = some o ∧ o.hi < k % 256) ∧
    (∃ (dt : Nat) (rq : Rq) (k : Nat) (data : List Byte) (o : Obj) (s : State), (s.tick dt).hears rq 2 k 0 0 data = true ∧ s.upd.waits =
      none ∧ findObj (k / 256) = some o ∧ o.hi < k % 256) ∧
    (∃ (dt : Nat) (rq : Rq) (k : Nat) (o : Obj) (s : State), (s.tick dt).hears rq 3 k 0 0 [] = true ∧ s.upd.waits = none ∧ findObj (k /
      256) = some o ∧ o.hi < k % 256) ∧
    (∃ (dt : Nat) (rq : Rq) (k : Nat) (total : Nat) (o : Obj) (s : State), (s.tick dt).hears rq 5 k 0 total [] = true ∧ s.upd.waits = none
      ∧ findObj (k / 256) = some o ∧ o.hi < k % 256) :=
  ⟨⟨5, rq1, 0x3400, (let i : Nat := 0x3400; (match findObj i with | some o => o | none => ⟨0, 0, 0, []⟩)), up .safe [], by decide +kernel⟩,
   ⟨5, rq1, K 0x1018 0x20, (match findObj 0x1018 with | some o => o | none => ⟨0, 0, 0, []⟩), up .safe [], by decide +kernel⟩,
   ⟨5, rq1, K 0x1018 0x20, [1], (match findObj 0x1018 with | some o => o | none => ⟨0, 0, 0, []⟩), up .safe [], by decide +kernel⟩,
   ⟨5, rq1, K 0x1018 0x20, (match findObj 0x1018 with | some o => o | none => ⟨0, 0, 0, []⟩), up .safe [], by decide +kernel⟩,
   ⟨5, rq1, K 0x1018 0x20, 9, (match findObj 0x1018 with | some o => o | none => ⟨0, 0, 0, []⟩), up .safe [], by decide +kernel⟩⟩

theorem witness_ServerUnavailable :
    (∃ (dt : Nat) (rq : Rq) (k : Nat) (s : State), s.sys.apc.any id = false ∧ s.upd.waits = none ∧ k < 2 ^ 24) ∧
    (∃ (dt : Nat) (rq : Rq) (k : Nat) (data : List Byte) (s : State), s.sys.apc.any id = false ∧ s.upd.waits = none ∧ k < 2 ^ 24 ∧
      data.length ≤ 4096) ∧
    (∃ (dt : Nat) (rq : Rq) (k : Nat) (s : State), s.sys.apc.any id = false ∧ s.upd.waits = none ∧ k < 2 ^ 24) ∧
    (∃ (dt : Nat) (rq : Rq) (k : Nat) (seg : Nat) (s : State), s.sys.apc.any id = false ∧ s.upd.waits = none ∧ k < 2 ^ 24) ∧
    (∃ (dt : Nat) (rq : Rq) (k : Nat) (total : Nat) (s : State), s.sys.apc.any id = false ∧ s.upd.waits = none ∧ k < 2 ^ 24) ∧
    (∃ (dt : Nat) (rq : Rq) (k : Nat) (seg : Nat) (last : Bool) (data : List Byte) (s : State), s.sys.apc.any id = false ∧ s.upd.waits =
      none ∧ k < 2 ^ 24 ∧ data.length ≤ 4096) ∧
    (∃ (dt : Nat) (b : List Byte) (s : State), s.sys.apc.any id = false ∧ s.upd.waits = none ∧ (s.tick dt).hspiReady = true ∧ (parsePdu
      b).cmd ≠ 0x7F) :=
  ⟨⟨5, rq1, K 0x2000 1, { up .safe [] with sys := Sys.init }, by decide +kernel⟩,
   ⟨5, rq1, K 0x2000 2, [1], { up .safe [] with sys := Sys.init }, by decide +kernel⟩,
   ⟨5, rq1, K 0x3020 1, { up .safe [] with sys := Sys.init }, by decide +kernel⟩,
   ⟨5, rq1, K 0x3020 1, 3, { up .safe [] with sys := Sys.init }, by decide +kernel⟩,
   ⟨5, rq1, K 0x3020 1, 9, { up .safe [] with sys := Sys.init }, by decide +kernel⟩,
   ⟨5, rq1, K 0x3020 1, 0, false, [1, 2, 3], { up .safe [] with sys := Sys.init }, by decide +kernel⟩,
   ⟨5, [1, 2, 0x20, 0, 1, 0, 0, 0, 0, 0, 0, 0], { (up .safe []).set (K 0x1220 1) 1 with sys := { Sys.init with bootStep := 9 } }, by decide +kernel⟩⟩

theorem witness_StateRequests :
    (∃ (dt : Nat) (rq : Rq) (s : State), Served s dt rq (K 0x2000 2) 1 ∧ s.mode = .operate ∧ s.sys.stateReq = none) ∧
    (∃ (dt : Nat) (rq : Rq) (u : State) (s : State), Served s dt rq (K 0x2000 2) 2 ∧ s.mode = .preop ∧ s.sys.stateReq = none ∧ (s.tick
      dt).mayLeave = .ok u) ∧
    (∃ (dt : Nat) (rq : Rq) (r : Code) (s : State), Served s dt rq (K 0x2000 2) 2 ∧ s.mode = .preop ∧ s.sys.stateReq = none ∧ (s.tick
      dt).mayLeave = .error r) ∧
    (∃ (dt : Nat) (rq : Rq) (s : State), Served s dt rq (K 0x2000 2) 2 ∧ s.mode = .operate) :=
  ⟨⟨5, rq1, up .operate [], by (unfold Served; decide +kernel)⟩,
   ⟨5, rq1, (match ((readyS).tick 5).mayLeave with | .ok u => u | .error _ => State.reset), readyS, by (unfold Served; decide +kernel)⟩,
   ⟨5, rq1, (match ((up .preop []).tick 5).mayLeave with | .ok u => (0, 0) | .error r => r), up .preop [], by (unfold Served; decide +kernel)⟩,
   ⟨5, rq1, up .operate [], by (unfold Served; decide +kernel)⟩⟩

theorem witness_Store :
    (∃ (dt : Nat) (rq : Rq) (s : State), Served s dt rq (K 0x2010 1) 1 ∧ s.sys.save = none ∧ s.onTrial = false) ∧
    (∃ (dt : Nat) (rq : Rq) (s : State), Served s dt rq (K 0x2010 1) 1 ∧ s.sys.save ≠ none ∧ s.onTrial = false) ∧
    (∃ (dt : Nat) (rq : Rq) (s : State), Served s dt rq (K 0x2010 1) 2 ∧ s.sys.save = none ∧ s.mode = .preop ∧ s.leaving = false) ∧
    (∃ (dt : Nat) (rq : Rq) (n : Nat) (s : State), Served s dt rq (K 0x2010 1) 3 ∧ s.sys.save = none ∧ s.mode = .preop ∧ s.leaving = false
      ∧ s.confInUse = some n ∧ ((nth ConfCopy.empty s.nv.confs n).vals.map Prod.fst).Pairwise (· < ·)) ∧
    (∃ (dt : Nat) (j : SaveJob) (s : State), s.sys.save = some j ∧ s.upd.waits = none ∧ j.target < 2 ∧ s.upd.doseDue = false) ∧
    (∃ (dt : Nat) (j : SaveJob) (s : State), s.sys.save = some j ∧ Calm s [(0x15, 3)] ∧ j.attempt = 2 ∧ s.upd.doseDue = false) :=
  ⟨⟨5, rq1, up .operate [(K 0x2000 3, 1)], by (unfold Served; decide +kernel)⟩,
   ⟨5, rq1, { up .operate [] with sys := { (up .operate []).sys with save := some ⟨0, ConfCopy.empty, 1⟩ } }, by (unfold Served; decide +kernel)⟩,
   ⟨5, rq1, up .preop [(K 0x2000 3, 1), (K 0x1210 2, 1), (K 0x2010 2, 3)], by (unfold Served; decide +kernel)⟩,
   ⟨5, rq1, 1, { up .preop [(K 0x2000 3, 1), (K 0x2011 1, 2)] with nv := { Nv.init with confs := [ConfCopy.empty, { ConfCopy.empty with vals := [(K 0x1210 2, 1), (K 0x8120 0x20, 5)] }] } }, by (unfold Served; decide +kernel)⟩,
   ⟨5, ⟨1, { ConfCopy.empty with vals := [(K 0x1210 2, 1)] }, 2⟩, (let j : SaveJob := ⟨1, { ConfCopy.empty with vals := [(K 0x1210 2, 1)] }, 2⟩; { up .operate [] with sys := { (up .operate []).sys with save := some j } }), by decide +kernel⟩,
   ⟨5, ⟨1, { ConfCopy.empty with vals := [(K 0x1210 2, 1)] }, 2⟩, (let j : SaveJob := ⟨1, { ConfCopy.empty with vals := [(K 0x1210 2, 1)] }, 2⟩; { up .operate [] with sys := { (up .operate []).sys with save := some j } }), by (unfold Calm; decide +kernel)⟩⟩

theorem witness_StartUp :
    (∃ (dt : Nat) (clk : Fin 2048) (beats : Bool) (s : State), s.mode = .boot ∧ s.sys.bootStep = 0 ∧ s.pwr.inReset = false ∧ s.upd.waits =
      none ∧ (bit clk 0 = false ∨ bit clk 1 = false)) ∧
    (∃ (dt : Nat) (clk : Fin 2048) (beats : Bool) (s : State), s.mode = .boot ∧ s.sys.bootStep = 0 ∧ s.pwr.inReset = false ∧ s.upd.waits =
      none ∧ s.sys.recovery = false ∧ bit clk 0 = true ∧ bit clk 1 = true ∧ s.bootNo = none) ∧
    (∃ (dt : Nat) (clk : Fin 2048) (beats : Bool) (s : State), s.mode = .boot ∧ s.sys.bootStep = 2 ∧ s.pwr.inReset = false ∧ s.upd.waits =
      none ∧ (bit clk 0 = false ∨ bit clk 1 = false)) ∧
    (∃ (dt : Nat) (clk : Fin 2048) (beats : Bool) (s : State), s.mode = .boot ∧ s.sys.bootStep = 2 ∧ s.pwr.inReset = false ∧ s.upd.waits =
      none ∧ s.sys.recovery = false ∧ bit clk 0 = true ∧ bit clk 1 = true ∧ s.bootNo = none) ∧
    (∃ (dt : Nat) (clk : Fin 2048) (beats : Bool) (s : State), s.mode = .boot ∧ s.sys.bootStep = 0 ∧ s.pwr.inReset = false ∧ s.upd.waits =
      none ∧ s.sys.recovery = false ∧ bit clk 0 = true ∧ bit clk 1 = true ∧ s.bootNo ≠ none) ∧
    (∃ (dt : Nat) (clk : Fin 2048) (beats : Bool) (s : State), s.mode = .boot ∧ s.sys.bootStep = 2 ∧ s.pwr.inReset = false ∧ s.upd.waits =
      none ∧ s.sys.recovery = false ∧ bit clk 0 = true ∧ bit clk 1 = true ∧ s.bootNo ≠ none) ∧
    (∃ (dt : Nat) (s : State), s.mode = .boot ∧ s.sys.bootStep = 7 ∧ s.fs.running = true ∧ s.upd.waits = none) ∧
    (∃ (dt : Nat) (s : State), s.mode = .boot ∧ s.sys.bootStep = 8 ∧ s.pwr.inReset = false ∧ s.upd.waits = none ∧ s.onTrial = false ∧
      s.allBlocked = true ∧ s.confInUse = none) ∧
    (∃ (dt : Nat) (s : State), s.mode = .boot ∧ s.sys.bootStep = 8 ∧ s.pwr.inReset = false ∧ s.upd.waits = none ∧ s.onTrial = false ∧
      s.allBlocked = false ∧ s.confInUse = none ∧ s.tw.single = true) ∧
    (∃ (dt : Nat) (n : Nat) (s : State), s.mode = .boot ∧ s.sys.bootStep = 8 ∧ s.pwr.inReset = false ∧ s.upd.waits = none ∧ s.onTrial =
      false ∧ s.allBlocked = false ∧ s.confInUse = some n ∧ s.sys.bootRefused = none ∧ s.get (K 0x2000 3) = 0) :=
  ⟨⟨5, 0x7F4, true, State.reset, by decide +kernel⟩,
   ⟨5, 0x7FF, true, { State.reset with nv := { Nv.init with boots := [] } }, by decide +kernel⟩,
   ⟨5, 0x7F4, true, { State.reset with sys := { Sys.init with bootStep := 2 } }, by decide +kernel⟩,
   ⟨5, 0x7FF, true, { State.reset with nv := { Nv.init with boots := [] }, sys := { Sys.init with bootStep := 2 } }, by decide +kernel⟩,
   ⟨5, 0x7FF, false, { State.reset with nv := { Nv.init with confs := [{ ConfCopy.empty with vals := [(K 0x8600 1, 1), (K 0x1210 2, 1)] }, ConfCopy.empty] } }, by decide +kernel⟩,
   ⟨5, 0x7FF, false, { State.reset with sys := { Sys.init with bootStep := 2 } }, by decide +kernel⟩,
   ⟨5, { State.reset with sys := { Sys.init with bootStep := 7 }, fs := { Fs.init with running := true } }, by decide +kernel⟩,
   ⟨5, { State.reset with sys := { Sys.init with bootStep := 8 }, active := [(K 0x4330 1, 1)] }.set (K 0x8010 1) 1, by decide +kernel⟩,
   ⟨5, { State.reset with sys := { Sys.init with bootStep := 8 }, tw := { Tw.init with single := true } }, by decide +kernel⟩,
   ⟨5, 0, { State.reset with sys := { Sys.init with bootStep := 8 } }.set (K 0x2011 1) 1, by decide +kernel⟩⟩

theorem witness_Commits :
    (∃ (dt : Nat) (rq : Rq) (l : Fin 7) (s : State), Served s dt rq (K (0x3400 + l) 0x14) 1 ∧ (s.layerCheck l fun k => if k = l.val then
      s.shadow k else s.comingCfg k).1 = 0) ∧
    (∃ (dt : Nat) (rq : Rq) (l : Fin 7) (s : State), Served s dt rq (K (0x3400 + l) 0x14) 1 ∧ (s.layerCheck l fun k => if k = l.val then
      s.shadow k else s.comingCfg k).1 ≠ 0) ∧
    (∃ (dt : Nat) (rq : Rq) (mask : Nat) (s : State), Served s dt rq (K 0x3410 1) mask ∧ mask ≠ 0 ∧ ((∀ l ∈ List.range 7, bit mask l =
      true → (s.layerCheck l fun k => if bit mask k then s.shadow k else s.comingCfg k).1 = 0))) ∧
    (∃ (dt : Nat) (rq : Rq) (i : Fin 4) (s : State), Served s dt rq (K (0x3100 + i) 2) 1) ∧
    (∃ (dt : Nat) (rq : Rq) (i : Fin 4) (s : State), Served s dt rq (K (0x4200 + i) 3) 1 ∧ ((s.dom (K (0x4200 + i) 2)).getD
      gainMeshDefault).length = 4294 ∧ beAt ((s.dom (K (0x4200 + i) 2)).getD gainMeshDefault) 4290 4 = crc32c (((s.dom (K (0x4200 + i)
      2)).getD gainMeshDefault).take 4290)) ∧
    (∃ (dt : Nat) (rq : Rq) (u : State) (s : State), Served s dt rq (K 0x4300 0x1C) 1 ∧ s.scanCheck s.scanCfg = 0 ∧ s.takeScanClaims
      s.scanCfg = .ok u) ∧
    (∃ (dt : Nat) (rq : Rq) (s : State), Served s dt rq (K 0x4300 0x1C) 1 ∧ s.scanCheck s.scanCfg ≠ 0) :=
  ⟨⟨5, rq1, 6, up .preop [], by (unfold Served; decide +kernel)⟩,
   ⟨5, rq1, 1, up .preop [(K 0x3401 1, 1)], by (unfold Served; decide +kernel)⟩,
   ⟨5, rq1, 0x7F, up .preop [], by (unfold Served; decide +kernel)⟩,
   ⟨5, rq1, 3, { up .preop [] with doms := [(K 0x3103 1, [1,2])] }, by (unfold Served; decide +kernel)⟩,
   ⟨5, rq1, 3, up .preop [], by (unfold Served; decide +kernel)⟩,
   ⟨5, rq1, (match (up .preop []).takeScanClaims (up .preop []).scanCfg with | .ok u => u | _ => State.reset), up .preop [], by (unfold Served; decide +kernel)⟩,
   ⟨5, rq1, up .preop [(K 0x4330 1, 1)], by (unfold Served; decide +kernel)⟩⟩

theorem witness_Regions :
    (∃ (dt : Nat) (rq : Rq) (word : Nat) (n : Nat) (u : Nat) (s : State), Served s dt rq (K 0x3420 1) word ∧ field word 31 28 = 7 ∧
      (List.range 32).find? (fun n => s.get (K (0x3440 + n) 1) == 0) = some n ∧ s.firstFit 7 (field word 15 0) = some u ∧ u < 2 ^ 16) ∧
    (∃ (dt : Nat) (rq : Rq) (word : Nat) (s : State), Served s dt rq (K 0x3420 1) word ∧ field word 31 28 = 7 ∧ ((∀ n ∈ List.range 32,
      s.get (K (0x3440 + n) 1) ≠ 0))) ∧
    (∃ (dt : Nat) (rq : Rq) (n : Nat) (s : State), Served s dt rq (K 0x3420 2) n ∧ n < 32 ∧ s.get (K (0x3440 + n) 1) = 1 ∧ s.regionRead n
      = false ∧ mapGet s.fs.lastUse n = none) ∧
    (∃ (dt : Nat) (rq : Rq) (n : Nat) (s : State), Served s dt rq (K 0x3420 2) n ∧ n < 32 ∧ s.get (K (0x3440 + n) 1) = 0) ∧
    (∃ (dt : Nat) (rq : Rq) (n : Fin 32) (v : Nat) (s : State), Served s dt rq (K (0x3440 + n) 5) v ∧ s.get (K (0x3440 + n) 1) = 1 ∧
      s.regionRead n = false) ∧
    (∃ (dt : Nat) (rq : Rq) (l : Fin 7) (v : Nat) (s : State), Served s dt rq (K (0x3400 + l) 0x12) v ∧ s.charged l ≤ v) :=
  ⟨⟨5, rq1, 0x70000005, 0, (((up .preop []).firstFit 7 5).getD 0), up .preop [], by (unfold Served; decide +kernel)⟩,
   ⟨5, rq1, 0x70000005, up .preop ((List.range 32).map fun n => (K (0x3440 + n) 1, 1)), by (unfold Served; decide +kernel)⟩,
   ⟨5, rq1, 3, up .preop [(K 0x3443 1, 1), (K 0x3443 4, 7)], by (unfold Served; decide +kernel)⟩,
   ⟨5, rq1, 3, up .preop [], by (unfold Served; decide +kernel)⟩,
   ⟨5, rq1, 31, 1, (let n : Fin 32 := 31; up .preop [(K (0x3440 + n) 1, 1), (K (0x3440 + n) 4, 7)]), by (unfold Served; decide +kernel)⟩,
   ⟨5, rq1, 6, 9, up .preop [], by (unfold Served; decide +kernel)⟩⟩

theorem witness_LightCorrection :
    (∃ (dt : Nat) (rq : Rq) (i : Fin 4) (s : State), Served s dt rq (K (0x4210 + i) 5) 1) ∧
    (∃ (dt : Nat) (rq : Rq) (i : Fin 4) (s : State), Served s dt rq (K (0x4220 + i) 7) 1) ∧
    (∃ (dt : Nat) (s : State), s.upd.waits = none) ∧
    (∃ (dt : Nat) (img : KerbImg) (s : State), s.comp.kerb.ram = some img ∧ s.comp.kerb.active < 2 ∧ s.upd.waits = none) :=
  ⟨⟨5, rq1, 3, up .preop [], by (unfold Served; decide +kernel)⟩,
   ⟨5, rq1, 3, up .preop [], by (unfold Served; decide +kernel)⟩,
   ⟨5, { up .preop [] with active := [(K 0x4331 1, 1), (K 0x4331 2, 1)] }.set (K 0x4331 5) 0x40004, by decide +kernel⟩,
   ⟨5, ⟨1, 2, [], [5]⟩, (let img : KerbImg := ⟨1, 2, [], [5]⟩; { readyS with comp := { readyS.comp with kerb := { readyS.comp.kerb with ram := some img, banks := [⟨img, []⟩, ⟨img, []⟩] } } }), by decide +kernel⟩⟩

theorem witness_Composition :
    (∃ (dt : Nat) (released : Bool) (s : State), s.fs.running = true ∧ s.composeHeld = false ∧ Steady s ∧ s.domState 2 = 0) ∧
    (∃ (dt : Nat) (released : Bool) (s : State), (s.fs.running = false ∨ s.composeHeld = true) ∧ s.upd.waits = none) ∧
    (∃ (dt : Nat) (i : Fin 4) (field : Fin 4) (row : Nat) (s : State), s.fs.composing = true ∧ (s.viewFor s.fs.compFrame).srcOn i = true ∧
      field.val < (s.viewFor s.fs.compFrame).fieldsOf i ∧ row < (s.viewFor s.fs.compFrame).actH i ∧ 0 < (s.viewFor s.fs.compFrame).actW i
      ∧ mapGet (s.src i).pRows (field * 2048 + row) = none ∧ mapGet (s.src i).back (field * 2048 + row) = none ∧ Steady s ∧ s.domState 2 =
      0) ∧
    (∃ (dt : Nat) (i : Fin 4) (a : Nat) (s : State), (s.blcOf i).fallBack = true ∧ (s.blcOf i).calmSince = some a ∧ a + s.get (K (0x8200 +
      i) 9) * 1000000 ≤ s.now + dt ∧ s.upd.waits = none ∧ s.domState 2 = 0) ∧
    (∃ (dt : Nat) (s : State), s.fs.running = true ∧ s.fs.cmTaken = false ∧ Steady s) :=
  ⟨⟨5, true, runS 2, by (unfold Steady; decide +kernel)⟩,
   ⟨5, true, up .operate [], by decide +kernel⟩,
   ⟨5, 0, 0, 2, { runS 1 with fs := { (runS 1).fs with composing := true } }, by (unfold Steady; decide +kernel)⟩,
   ⟨99000000000, 3, 3, (let i : Fin 4 := 3; { up .operate [] with safe := { Safe.init with blc := setNth Safe.init.blc i { Blc.init with fallBack := true, calmSince := some 3 } } }), by decide +kernel⟩,
   ⟨5, runS 2, by (unfold Steady; decide +kernel)⟩⟩

theorem witness_RasterAndStore :
    (∃ (dt : Nat) (i : Fin 4) (r : Nat) (s : State), s.fs.running = true ∧ s.srcOn i = true ∧ r < s.actH i ∧ Steady s) ∧
    (∃ (dt : Nat) (i : Fin 4) (r : Nat) (s : State), (s.fs.running = false ∨ s.srcOn i = false ∨ s.actH i ≤ r) ∧ s.upd.waits = none) ∧
    (∃ (dt : Nat) (w : Fin 4194304) (s : State), s.bankOn (w / 65536) = true ∧ s.fs.bad.contains w.val = false ∧ s.upd.waits = none ∧
      s.domState 0x17 = 0) ∧
    (∃ (dt : Nat) (w : Fin 4194304) (s : State), s.bankOn (w / 65536) = true ∧ Calm s [(0x0D, 1)] ∧ s.domState 0x17 = 0) ∧
    (∃ (dt : Nat) (falling : Bool) (s : State), s.act (K 0x4300 7) = 1 ∧ falling = (s.act (K 0x4300 9) == 1) ∧ s.fs.running = true ∧
      s.fs.lock.lastEdge = none ∧ s.upd.waits = none ∧ s.domState 0x17 = 0) ∧
    (∃ (dt : Nat) (falling : Bool) (a : Nat) (s : State), s.act (K 0x4300 7) = 1 ∧ falling = (s.act (K 0x4300 9) == 1) ∧ s.fs.running =
      true ∧ s.fs.lock.lastEdge = some a ∧ s.now + dt - a < 2 * s.syncNs ∧ s.syncNs * 95 ≤ (s.now + dt - a) * 100 ∧ (s.now + dt - a) * 100
      ≤ s.syncNs * 105 ∧ Calm s [(5, 0x0E)] ∧ s.domState 0x17 = 0) ∧
    (∃ (dt : Nat) (a : Nat) (s : State), s.act (K 0x4300 7) = 1 ∧ (s.get (K 0x4300 0x0E) = 1 ∨ s.get (K 0x4300 0x0E) = 2) ∧
      s.fs.lock.lastEdge = some a ∧ a + 2 * s.syncNs ≤ s.now + dt ∧ Calm s [(5, 0x0E)] ∧ s.domState 0x17 = 0) ∧
    (∃ (dt : Nat) (s : State), s.get (K 0x4300 0x0E) = 3 ∧ s.fs.lock.heldAt + s.get (K 0x4300 0x0B) * 1000000 ≤ s.now + dt ∧ Calm s [(5,
      0x0E)] ∧ s.domState 0x17 = 0) :=
  ⟨⟨5, 0, 2, runS 2, by (unfold Steady; decide +kernel)⟩,
   ⟨5, 0, 9, up .operate [], by decide +kernel⟩,
   ⟨5, 4194303, up .operate [(K 0x4310 2, 0xFFFFFFFF)], by decide +kernel⟩,
   ⟨5, 4194303, up .operate [(K 0x4310 3, 0xFFFFFFFF)], by (unfold Calm; decide +kernel)⟩,
   ⟨5, false, (runS 1).putAct [(K 0x4300 7, 1)], by decide +kernel⟩,
   ⟨(syncS.syncNs - 3), false, 3, syncS, by (unfold Calm; decide +kernel)⟩,
   ⟨99000000000, 3, syncS.set (K 0x4300 0x0E) 2, by (unfold Calm; decide +kernel)⟩,
   ⟨99000000000, (runS 1).set (K 0x4300 0x0E) 3, by (unfold Calm; decide +kernel)⟩⟩

theorem witness_FrameMilestone :
    (∃ (dt : Nat) (phi : List (Option Nat)) (pdBad : Nat) (watch : Watch) (s : State), s.fs.running = true ∧ s.tw.joinFrame = false ∧
      Steady s) ∧
    (∃ (dt : Nat) (phi : List (Option Nat)) (pdBad : Nat) (watch : Watch) (r : StateReq) (s : State), s.fs.running = true ∧ Steady s ∧
      s.sys.stateReq = some r ∧ r.target = 1 ∧ s.mode = .operate) ∧
    (∃ (dt : Nat) (phi : List (Option Nat)) (pdBad : Nat) (watch : Watch) (r : StateReq) (s : State), s.fs.running = true ∧ Steady s ∧
      s.sys.stateReq = some r ∧ r.target = 2 ∧ s.mode = .preop ∧ s.fs.entryFrame = some ((s.get (K 0x4300 0x11) + 1) % 2 ^ 32) ∧
      s.tw.single = true) ∧
    (∃ (dt : Nat) (phi : List (Option Nat)) (pdBad : Nat) (watch : Watch) (s : State), s.fs.running = false ∧ s.upd.waits = none) ∧
    (∃ (dt : Nat) (phi : List (Option Nat)) (pdBad : Nat) (watch : Watch) (s : State), s.fs.running = true ∧ s.tw.joinFrame = false ∧
      s.fs.accepted = none ∧ s.lineMode = true ∧ s.mode = .boot ∧ s.sys.bootStep = 7 ∧ s.fs.lightDue = true ∧ s.fs.lightFrame = some
      ((s.get (K 0x4300 0x11) + 1) % 2 ^ 32) ∧ Steady s) :=
  ⟨⟨5, [], 0, ⟨[], false⟩, runS 2, by (unfold Steady; decide +kernel)⟩,
   ⟨5, [], 0, ⟨[], false⟩, ⟨1, 3, []⟩, (let r : StateReq := ⟨1, 3, []⟩; { runS 4 with sys := { (runS 4).sys with stateReq := some r } }), by (unfold Steady; decide +kernel)⟩,
   ⟨5, [], 0, ⟨[], false⟩, ⟨2, 3, []⟩, (let r : StateReq := ⟨2, 3, []⟩; { runS 1 with mode := .preop, sys := { (runS 1).sys with stateReq := some r }, fs := { (runS 1).fs with entryFrame := some ((runS 1).frameNo + 1) }, tw := { Tw.init with single := true } }), by (unfold Steady; decide +kernel)⟩,
   ⟨5, [], 0, ⟨[], false⟩, up .operate [], by decide +kernel⟩,
   ⟨5, [], 0, ⟨[some 3], true⟩, firstLightS, by (unfold Steady; decide +kernel)⟩⟩

theorem witness_TileLinkReturns :
    (∃ (dt : Nat) (e : Fin 8) (head : Nat) (crc : Nat) (s : State), s.returnOk e 0xA head [] crc 0 0 = false ∧ s.upd.waits = none) ∧
    (∃ (dt : Nat) (e : Fin 8) (head : Nat) (crc : Nat) (u : Unans) (s : State), s.returnOk e 0xA head [] crc 0 0 = true ∧ (s.port e).unans
      = [u] ∧ u.seq = field head 31 24 ∧ u.typ = 5 ∧ u.op = none ∧ s.upd.waits = none) ∧
    (∃ (dt : Nat) (e : Fin 8) (head : Nat) (crc : Nat) (u : Unans) (op : RegOp) (s : State), s.returnOk e 0xA head [] crc 0 0 = true ∧
      (s.port e).unans = [u] ∧ u.seq = field head 31 24 ∧ u.typ = 7 ∧ u.op = some op ∧ op.why = .config ∧ field head 23 16 = 0 ∧ Steady s) ∧
    (∃ (dt : Nat) (e : Fin 8) (head : Nat) (crc : Nat) (s : State), s.returnOk e 0 head [] crc 0 0 = true ∧ s.upd.waits = none) ∧
    (∃ (dt : Nat) (e : Fin 8) (head : Nat) (crc : Nat) (s : State), s.returnOk e 0 head [] crc 0 0 = false ∧ s.upd.waits = none) ∧
    (∃ (dt : Nat) (e : Fin 8) (head : Nat) (crc : Nat) (w : Nat) (u : Unans) (op : RegOp) (s : State), s.returnOk e 0xB head [w] crc 1 32
      = true ∧ (s.port e).unans = [u] ∧ u.seq = field head 31 24 ∧ u.typ = 8 ∧ u.op = some op ∧ op.why = .window ∧ op.count = 1 ∧ (s.port
      e).regq = [] ∧ field head 23 16 = 0 ∧ s.upd.waits = none) ∧
    (∃ (dt : Nat) (e : Fin 8) (head : Nat) (crc : Nat) (a : Nat) (b : Nat) (c : Nat) (d : Nat) (u : Unans) (op : RegOp) (s : State),
      s.returnOk e 0xB head [a * 2 ^ 32 + b, c * 2 ^ 32 + d] crc 1 32 = true ∧ (s.port e).unans = [u] ∧ u.seq = field head 31 24 ∧ u.typ =
      8 ∧ u.op = some op ∧ op.why = .ident ∧ op.count = 4 ∧ field head 23 16 = 0 ∧ a < 2 ^ 32 ∧ b < 2 ^ 32 ∧ c < 2 ^ 32 ∧ d < 2 ^ 32 ∧
      Steady s) ∧
    (∃ (dt : Nat) (e : Fin 8) (head : Nat) (crc : Nat) (a : Nat) (b : Nat) (c : Nat) (s : State), s.returnOk e 0xC head [a, b, c] crc 3 3
      = true ∧ (s.train e).check = none ∧ s.upd.waits = none) ∧
    (∃ (dt : Nat) (e : Fin 8) (s : State), 2 ≤ (s.port e).missing ∧ Calm s [(6, 4)]) ∧
    (∃ (dt : Nat) (e : Fin 8) (s : State), (s.port e).missing < 2 ∧ s.upd.waits = none) ∧
    (∃ (dt : Nat) (e : Fin 8) (head : Nat) (crc : Nat) (w : Nat) (s : State), s.returnOk e 0xD head [w] crc 1 32 = true ∧ field head 31 30
      = 1 ∧ bit head 29 = false ∧ s.upd.waits = none) ∧
    (∃ (dt : Nat) (e : Fin 8) (head : Nat) (crc : Nat) (w : Nat) (s : State), s.returnOk e 0xD head [w] crc 1 32 = true ∧ field head 31 30
      = 1 ∧ bit head 29 = true ∧ field head 28 0 = 0 ∧ (s.port e).openMap.bytes = [] ∧ s.ep e 0x18 = 8 ∧ s.ep e 0x19 = 4 ∧ s.ep e 3 = 1 ∧
      s.ep e 6 = 0 ∧ s.ep e 7 = 0 ∧ s.actW (s.ep e 2) = 8 ∧ s.ep e 2 < 4 ∧ s.upd.waits = none) ∧
    (∃ (dt : Nat) (e : Fin 8) (head : Nat) (crc : Nat) (w : Nat) (s : State), s.returnOk e 0xE head [w] crc 1 32 = true ∧ field head 31 30
      = 0 ∧ bit head 29 = false ∧ (s.port e).gainAsked ≠ none ∧ s.upd.waits = none) ∧
    (∃ (dt : Nat) (e : Fin 8) (a : Nat) (s : State), (s.port e).gainAsked = some a ∧ a + 50000000 ≤ s.now + dt ∧ Calm s [(4, 3)]) ∧
    (∃ (dt : Nat) (e : Fin 8) (s : State), (s.port e).gainAsked = none ∧ s.upd.waits = none) :=
  ⟨⟨5, 7, 3, 4, tlS upP, by decide +kernel⟩,
   ⟨5, 0, retH 0xA 0 0 0x07000000, (let head : Nat := retH 0xA 0 0 0x07000000; packetCrc head []), una 5 none, (let u : Unans := una 5 none; tlS { upP with unans := [u] }), by decide +kernel⟩,
   ⟨5, 0, retH 0xA 0 0 0x07000000, (let head : Nat := retH 0xA 0 0 0x07000000; packetCrc head []), una 7 (some (regop .config 1)), regop .config 1, (let u : Unans := una 7 (some (regop .config 1)); tlS { upP with unans := [u] }), by (unfold Steady; decide +kernel)⟩,
   ⟨5, 0, retH 0 0 0 0, (let head : Nat := retH 0 0 0 0; packetCrc head []), tlS upP, by decide +kernel⟩,
   ⟨5, 7, 3, 4, tlS upP, by decide +kernel⟩,
   ⟨5, 0, retH 0xB 0 1 0x07000000, (let head : Nat := retH 0xB 0 1 0x07000000; packetCrc head [0x1234567800000000]), 0x1234567800000000, una 8 (some (regop .window 1)), regop .window 1, (let u : Unans := una 8 (some (regop .window 1)); tlS { upP with unans := [u] }), by decide +kernel⟩,
   ⟨5, 0, retH 0xB 0 2 0x07000000, (let head : Nat := retH 0xB 0 2 0x07000000; packetCrc head [1 * 2 ^ 32 + 0x1FFF0000, 0x80004 * 2 ^ 32 + 0x100]), 1, 0x1FFF0000, 0x80004, 0x100, una 8 (some (regop .ident 4)), regop .ident 4, (let u : Unans := una 8 (some (regop .ident 4)); tlS { upP with unans := [u] }), by (unfold Steady; decide +kernel)⟩,
   ⟨5, 0, retH 0xC 0 3 0, (let head : Nat := retH 0xC 0 3 0; packetCrc head [2 ^ 63 + 5, 0, 7]), 2 ^ 63 + 5, 0, 7, tlS upP, by decide +kernel⟩,
   ⟨5, 0, tlS { upP with missing := 2 }, by (unfold Calm; decide +kernel)⟩,
   ⟨5, 7, tlS upP, by decide +kernel⟩,
   ⟨5, 0, retH 0xD 0 1 0x40000008, (let head : Nat := retH 0xD 0 1 0x40000008; packetCrc head [5]), 5, tlS upP, by decide +kernel⟩,
   ⟨5, 0, retH 0xD 0 1 0x60000000, (let head : Nat := retH 0xD 0 1 0x60000000; packetCrc head [2 ^ 63 + 2 ^ 32]), 2 ^ 63 + 2 ^ 32, tlS upP, by decide +kernel⟩,
   ⟨5, 0, retH 0xE 0 1 8, (let head : Nat := retH 0xE 0 1 8; packetCrc head [5]), 5, tlS { upP with gainAsked := some 3 }, by decide +kernel⟩,
   ⟨99000000, 0, 3, tlS { upP with gainAsked := some 3 }, by (unfold Calm; decide +kernel)⟩,
   ⟨99000000, 0, tlS upP, by decide +kernel⟩⟩

theorem witness_TileLinkSends :
    (∃ (dt : Nat) (s : State), s.fs.running = true ∧ s.outputsOn = true ∧ Steady s ∧ ((∀ e ∈ List.range 8, (s.train e).switch = none ∧
      s.wantsStep e = false))) ∧
    (∃ (dt : Nat) (s : State), (s.fs.running = false ∨ s.outputsOn = false) ∧ s.upd.waits = none) ∧
    (∃ (dt : Nat) (e : Fin 8) (u : Unans) (s : State), (s.port e).unans = [u] ∧ u.typ ≠ 4 ∧ (s.port e).txq = [] ∧ u.sends ≤ s.get (K
      0x4410 2) ∧ s.upd.waits = none) ∧
    (∃ (dt : Nat) (e : Fin 8) (u : Unans) (s : State), (s.port e).unans = [u] ∧ u.typ = 4 ∧ Calm s [(6, 4)]) ∧
    (∃ (dt : Nat) (e : Fin 8) (n : Nat) (s : State), ((∀ u ∈ (s.port e).unans, u.seq ≠ n)) ∧ (s.port e).txq = [] ∧ s.upd.waits = none) ∧
    (∃ (dt : Nat) (rq : Rq) (e : Fin 8) (reg : Nat) (s : State), reg < 2 ^ 16 ∧ Served s dt rq (K 0x4410 3) (2 ^ 31 + e * 65536 + reg) ∧
      s.get (K 0x4410 5) ≠ 1) ∧
    (∃ (dt : Nat) (rq : Rq) (e : Fin 8) (reg : Nat) (s : State), reg < 2 ^ 16 ∧ Served s dt rq (K 0x4410 3) (2 ^ 31 + e * 65536 + reg) ∧
      s.get (K 0x4410 5) = 1) ∧
    (∃ (dt : Nat) (rq : Rq) (v : Nat) (s : State), Served s dt rq (K 0x4410 4) v ∧ s.get (K 0x4410 5) ≠ 1 ∧ s.epOn (field (s.get (K 0x4410
      3)) 18 16) = false) ∧
    (∃ (dt : Nat) (rq : Rq) (v : Nat) (s : State), Served s dt rq (K 0x4410 4) v ∧ s.epOn (field (s.get (K 0x4410 3)) 18 16) = true ∧
      field (s.get (K 0x4410 3)) 15 0 ≤ 0x1FF) ∧
    (∃ (dt : Nat) (g : Fin 4) (a : Nat) (s : State), mapGet s.tl.settling g = some a ∧ a + s.get (K 0x4410 7) * 1000000 ≤ s.now + dt ∧ ((∀
      p ∈ s.tl.settling, p.1 < 8)) ∧ s.upd.waits = none) ∧
    (∃ (dt : Nat) (g : Fin 4) (s : State), mapGet s.tl.settling g = none ∧ s.upd.waits = none) :=
  ⟨⟨5, tlS { upP with ready := true }, by (unfold Steady; decide +kernel)⟩,
   ⟨5, up .operate [], by decide +kernel⟩,
   ⟨5, 0, una 5 none, (let u : Unans := una 5 none; tlS { upP with unans := [u] }), by decide +kernel⟩,
   ⟨5, 0, una 4 none, (let u : Unans := una 4 none; tlS { upP with unans := [u] }), by (unfold Calm; decide +kernel)⟩,
   ⟨5, 0, 7, tlS upP, by decide +kernel⟩,
   ⟨5, rq1, 7, 0xFFFF, tlS upP, by (unfold Served; decide +kernel)⟩,
   ⟨5, rq1, 7, 0x1FF, (tlS upP).set (K 0x4410 5) 1, by (unfold Served; decide +kernel)⟩,
   ⟨5, rq1, 77, (tlS upP).set (K 0x4410 3) 0x10123, by (unfold Served; decide +kernel)⟩,
   ⟨5, rq1, 77, (tlS upP).set (K 0x4410 3) 0x123, by (unfold Served; decide +kernel)⟩,
   ⟨99999999999, 0, 3, { tlS upP with tl := { (tlS upP).tl with settling := [(0, 3)] } }, by decide +kernel⟩,
   ⟨5, 3, tlS upP, by decide +kernel⟩⟩

theorem witness_Projection :
    (∃ (dt : Nat) (rq : Rq) (i : Fin 4) (s : State), Served s dt rq (K (0x4500 + i) 4) 1 ∧ planeCheck s.com i ((s.dom (K (0x4500 + i)
      3)).getD (planeBytes planeDefault)) = 0) ∧
    (∃ (dt : Nat) (rq : Rq) (i : Fin 4) (s : State), Served s dt rq (K (0x4500 + i) 4) 1 ∧ planeCheck s.com i ((s.dom (K (0x4500 + i)
      3)).getD (planeBytes planeDefault)) ≠ 0) ∧
    (∃ (dt : Nat) (rq : Rq) (i : Fin 4) (s : State), Served s dt rq (K (0x4530 + i) 3) 1 ∧ colourCheck s.com i ((s.dom (K (0x4530 + i)
      2)).getD colourDefault) ((s.snap (keys (0x4530 + i) 4 0x0A)).map (·.2)) = 0) ∧
    (∃ (dt : Nat) (rq : Rq) (i : Fin 4) (s : State), Served s dt rq (K (0x4530 + i) 3) 1 ∧ colourCheck s.com i ((s.dom (K (0x4530 + i)
      2)).getD colourDefault) ((s.snap (keys (0x4530 + i) 4 0x0A)).map (·.2)) ≠ 0) ∧
    (∃ (dt : Nat) (i : Fin 4) (k : Fin 32) (s : State), s.srcOn i = true ∧ s.srcType i = 2 ∧ s.fs.running = true ∧ k.val < (s.planes4
      i).length ∧ s.upd.waits = none ∧ s.domState 0x17 = 0) ∧
    (∃ (dt : Nat) (i : Fin 4) (h : Nat) (s : State), s.srcOn i = true ∧ s.srcType i = 3 ∧ s.fs.running = true ∧ h < 2 * s.act (K (0x4520 +
      i) 1) ∧ s.upd.waits = none ∧ s.domState 0x17 = 0) ∧
    (∃ (dt : Nat) (i : Fin 4) (k : Fin 32) (s : State), (s.fs.running = false ∨ s.srcOn i = false) ∧ s.upd.waits = none) ∧
    (∃ (dt : Nat) (i : Fin 4) (h : Nat) (s : State), (s.fs.running = false ∨ s.srcOn i = false) ∧ s.upd.waits = none) :=
  ⟨⟨5, rq1, 0, { up .preop [(K 0x4500 1, 16)] with activeDoms := [] }, by (unfold Served; decide +kernel)⟩,
   ⟨5, rq1, 3, (let i : Fin 4 := 3; { up .preop [] with doms := [(K (0x4500 + i) 3, [1,2])] }), by (unfold Served; decide +kernel)⟩,
   ⟨5, rq1, 3, (let i : Fin 4 := 3; (up .preop []).putAct [(K (0x4530 + i) 0x0B, 0x01000001)]), by (unfold Served; decide +kernel)⟩,
   ⟨5, rq1, 3, (let i : Fin 4 := 3; { up .preop [] with doms := [(K (0x4530 + i) 2, [1,2])] }), by (unfold Served; decide +kernel)⟩,
   ⟨5, 0, 3, runS 2, by decide +kernel⟩,
   ⟨5, 0, 7, scanS 2, by decide +kernel⟩,
   ⟨5, 0, 0, up .operate [], by decide +kernel⟩,
   ⟨5, 0, 0, up .operate [], by decide +kernel⟩⟩

theorem witness_ScanGuard :
    (∃ (dt : Nat) (i : Fin 4) (m : Nat) (s : State), s.srcOn i = true ∧ s.srcType i = 3 ∧ s.act (K (0x4520 + i) 0x0A) = m ∧ m < 2 ∧ s.get
      (K (0x4540 + m) 7) = 2 ∧ (s.guard m).trips = [] ∧ Steady s ∧ s.domState 0x17 = 0) ∧
    (∃ (dt : Nat) (i : Fin 4) (m : Nat) (s : State), s.srcOn i = true ∧ s.srcType i = 3 ∧ s.act (K (0x4520 + i) 0x0A) = m ∧ m < 2 ∧ s.get
      (K (0x4540 + m) 7) = 2 ∧ (s.guard m).trips = [s.now, s.now] ∧ dt < 10000000000 ∧ Steady s ∧ s.domState 0x17 = 0) ∧
    (∃ (dt : Nat) (i : Fin 4) (m : Nat) (s : State), s.srcOn i = true ∧ s.srcType i = 3 ∧ s.act (K (0x4520 + i) 0x0A) = m ∧ m < 2 ∧ s.get
      (K (0x4540 + m) 7) = 1 ∧ s.upd.waits = none ∧ s.domState 0x17 = 0) ∧
    (∃ (dt : Nat) (m : Fin 2) (i : Fin 4) (h : Int) (v : Nat) (limit : Fin 4) (fault : Fin 4) (dll : Bool) (s : State), (limit.val ≠ 0 ∨
      fault.val ≠ 0) ∧ s.scanner m = some i.val ∧ s.get (K (0x4540 + m) 7) = 2 ∧ s.act (K (0x4520 + i) 0x0A) = m.val ∧ (s.guard m).trips =
      [] ∧ Steady s ∧ s.domState 0x17 = 0 ∧ s.domState 0x22 = 0) ∧
    (∃ (dt : Nat) (m : Fin 2) (h : Int) (v : Nat) (turn : Bool) (limit : Fin 4) (fault : Fin 4) (dll : Bool) (s : State), s.scanner m =
      none ∧ Steady s) ∧
    (∃ (dt : Nat) (m : Fin 2) (a : Nat) (s : State), (s.guard m).okSince = some a ∧ a + s.get (K (0x4540 + m) 6) * 1000000 ≤ s.now + dt ∧
      s.get (K (0x4540 + m) 7) = 1 ∧ s.upd.waits = none ∧ s.domState 0x17 = 0) ∧
    (∃ (dt : Nat) (m : Fin 2) (s : State), (s.guard m).okSince = none ∧ s.upd.waits = none) :=
  ⟨⟨5, 0, 1, scanS 2, by (unfold Steady; decide +kernel)⟩,
   ⟨5, 0, 1, { scanS 2 with prj := { Prj.init with guards := [Guard.init, { Guard.init with trips := [0, 0] }] }, now := 0 }, by (unfold Steady; decide +kernel)⟩,
   ⟨5, 0, 1, scanS 1, by decide +kernel⟩,
   ⟨5, 1, 0, 3, 4, 1, 0, false, scanS 2, by (unfold Steady; decide +kernel)⟩,
   ⟨5, 0, 3, 4, true, 0, 2, true, up .operate [], by (unfold Steady; decide +kernel)⟩,
   ⟨99999000000, 1, 3, { scanS 1 with prj := { Prj.init with guards := [Guard.init, { Guard.init with okSince := some 3 }] } }, by decide +kernel⟩,
   ⟨5, 1, scanS 1, by decide +kernel⟩⟩

theorem witness_Sinks :
    (∃ (dt : Nat) (v0 : Nat) (v1 : Nat) (v2 : Nat) (v3 : Nat) (s : State), Calm s [(9, 0x16)] ∧ s.domState 0x22 = 0 ∧ s.domState 0x23 = 0) ∧
    (∃ (dt : Nat) (c : Fin 128) (s : State), s.chanFn c ≠ 0 ∧ s.fs.running = true ∧ s.upd.waits = none) ∧
    (∃ (dt : Nat) (c : Fin 128) (s : State), (s.chanFn c = 0 ∨ s.fs.running = false) ∧ s.upd.waits = none) ∧
    (∃ (dt : Nat) (c : Fin 128) (code : Nat) (reg : Bool) (dropped : Bool) (s : State), 5 * (s.lightWindow c).1 < 4000 ∧ s.upd.waits =
      none) ∧
    (∃ (dt : Nat) (c : Fin 128) (code : Nat) (reg : Bool) (s : State), 4000 ≤ 5 * (s.lightWindow c).1 ∧ s.upd.waits = none ∧ s.domState
      0x22 = 0 ∧ s.domState 0x23 = 0) ∧
    (∃ (dt : Nat) (c : Fin 128) (code : Nat) (s : State), 4000 ≤ 5 * (s.lightWindow c).1 ∧ (s.lightWindow c).2 = none ∧ roundDiv (code %
      4096 * 684) 100 < s.get (K (SK c) 7) ∧ s.get (K (SK c) 9) ≤ nth 0 (s.chan c).fails 0 + 1 ∧ 1 ≤ s.get (K (SK c) 9) ∧ Calm s [(9, 8)]
      ∧ s.domState 0x22 = 0 ∧ s.domState 0x23 = 0) ∧
    (∃ (dt : Nat) (c : Fin 128) (s : State), Calm s [(9, 8)] ∧ s.domState 0x23 = 0) ∧
    (∃ (dt : Nat) (rq : Rq) (c : Fin 128) (s : State), Served s dt rq (K (SK c) 0x0E) 1) ∧
    (∃ (dt : Nat) (rq : Rq) (c : Fin 128) (v : Nat) (s : State), Served s dt rq (K (SK c) 4) v ∧ s.chanFn c = 1) ∧
    (∃ (dt : Nat) (rq : Rq) (c : Fin 128) (v : Nat) (s : State), Served s dt rq (K (SK c) 4) v ∧ s.chanFn c ≠ 1) ∧
    (∃ (dt : Nat) (n : Fin 2) (rb : List Byte) (s : State), s.chainMode n ≠ 0 ∧ s.mode ≠ .safe ∧ Calm s [(9, 9)] ∧ s.domState 0x23 = 0 ∧
      s.domState 0x24 = 0) ∧
    (∃ (dt : Nat) (r : Fin 16) (i : Nat) (s : State), s.matrixSrc = some i ∧ r.val < s.matRows ∧ s.fs.running = true ∧ s.upd.waits = none
      ∧ s.domState 0x17 = 0 ∧ s.domState 0x22 = 0 ∧ s.domState 0x23 = 0) ∧
    (∃ (dt : Nat) (r : Fin 16) (s : State), s.matrixSrc = none ∧ s.upd.waits = none) :=
  ⟨⟨5, 999, 5000, 28001, 28000, (up .operate [(K 0x5020 1, 1), (K 0x5020 6, 77), (K 0x5022 1, 1)]), by (unfold Calm; decide +kernel)⟩,
   ⟨5, 127, (let c : Fin 128 := 127; chanS c 2000), by decide +kernel⟩,
   ⟨5, 127, up .operate [(K 0xA07F 1, 1)], by decide +kernel⟩,
   ⟨5, 127, 3, true, false, up .operate [], by decide +kernel⟩,
   ⟨5, 127, 3, true, (let c : Fin 128 := 127; chanS c 800), by decide +kernel⟩,
   ⟨5, 127, 3, (let c : Fin 128 := 127; chanS c 800), by (unfold Calm; decide +kernel)⟩,
   ⟨5, 127, (let c : Fin 128 := 127; chanS c 800), by (unfold Calm; decide +kernel)⟩,
   ⟨5, rq1, 127, (let c : Fin 128 := 127; chanS c 800), by (unfold Served; decide +kernel)⟩,
   ⟨5, rq1, 127, 77, (let c : Fin 128 := 127; chanS c 800), by (unfold Served; decide +kernel)⟩,
   ⟨5, rq1, 127, 77, up .operate [], by (unfold Served; decide +kernel)⟩,
   ⟨5, 1, [1, 2], (let n : Fin 2 := 1; up .preop [(K (0x5200 + n) 1, 1), (K (0x5200 + n) 2, 3)]), by (unfold Calm; decide +kernel)⟩,
   ⟨5, 3, 0, (runS 4).putAct [(K 0x5300 1, 8), (K 0x5300 2, 4), (K 0x5300 3, 1)], by decide +kernel⟩,
   ⟨5, 3, up .operate [], by decide +kernel⟩⟩

theorem witness_EngineTables :
    (∃ (dt : Nat) (c : Client) (e : Fin 8) (x : Xfer) (s : State), s.xferOf c = some x ∧ x.upload = false ∧ x.last = true ∧ x.key = K
      (0x5100 + e) 1 ∧ s.serverUp = true ∧ (s.tick dt).gateOf x.key = .open_ ∧ s.upd.waits = none ∧ x.data.length = x.total ∧ s.engState e
      ≠ 1 ∧ programOk x.data (s.get (K (0x5100 + e) 3)) = true) ∧
    (∃ (dt : Nat) (c : Client) (e : Fin 8) (x : Xfer) (s : State), s.xferOf c = some x ∧ x.upload = false ∧ x.last = true ∧ x.key = K
      (0x5100 + e) 1 ∧ s.serverUp = true ∧ (s.tick dt).gateOf x.key = .open_ ∧ s.upd.waits = none ∧ x.data.length = x.total ∧ s.engState e
      ≠ 1 ∧ programOk x.data (s.get (K (0x5100 + e) 3)) = false) ∧
    (∃ (dt : Nat) (c : Client) (e : Fin 8) (x : Xfer) (s : State), s.xferOf c = some x ∧ x.upload = false ∧ x.last = true ∧ x.key = K
      (0x5100 + e) 2 ∧ s.serverUp = true ∧ (s.tick dt).gateOf x.key = .open_ ∧ s.upd.waits = none ∧ x.data.length = x.total ∧ s.engState e
      ≠ 1 ∧ (targetsOf x.data (x.data.length / 10)).all s.targetOk = true ∧ (targetsOf x.data (x.data.length / 10)).all (fun u => u.kind
      == 1) = true ∧ s.claimBlock (s.targetClaims e (targetsOf x.data (x.data.length / 10))) (0x300 + e) = none) ∧
    (∃ (dt : Nat) (c : Client) (e : Fin 8) (x : Xfer) (s : State), s.xferOf c = some x ∧ x.upload = false ∧ x.last = true ∧ x.key = K
      (0x5100 + e) 2 ∧ s.serverUp = true ∧ (s.tick dt).gateOf x.key = .open_ ∧ s.upd.waits = none ∧ x.data.length = x.total ∧ s.engState e
      ≠ 1 ∧ (targetsOf x.data (x.data.length / 10)).all s.targetOk = false) ∧
    (∃ (dt : Nat) (c : Client) (n : Fin 8) (x : Xfer) (s : State), s.xferOf c = some x ∧ x.upload = false ∧ x.last = true ∧ x.key = K (LS
      n) 0x18 ∧ s.serverUp = true ∧ (s.tick dt).gateOf x.key = .open_ ∧ s.upd.waits = none ∧ x.data.length = x.total) :=
  ⟨⟨5, rq1.client, 7, (let e : Fin 8 := 7; ⟨rq1.client, 3, false, K (0x5100 + e) 1, toBe 4 0x10000005, 4, 1, true, 0⟩), (let e : Fin 8 := 7; let x : Xfer := ⟨rq1.client, 3, false, K (0x5100 + e) 1, toBe 4 0x10000005, 4, 1, true, 0⟩; dlS (up .preop [(K 0x5100 3, 1000), (K 0x5107 3, 1000)]) x), by decide +kernel⟩,
   ⟨5, rq1.client, 7, (let e : Fin 8 := 7; ⟨rq1.client, 3, false, K (0x5100 + e) 1, toBe 4 0x10010005, 4, 1, true, 0⟩), (let e : Fin 8 := 7; let x : Xfer := ⟨rq1.client, 3, false, K (0x5100 + e) 1, toBe 4 0x10010005, 4, 1, true, 0⟩; dlS (up .preop []) x), by decide +kernel⟩,
   ⟨5, rq1.client, 7, (let e : Fin 8 := 7; ⟨rq1.client, 3, false, K (0x5100 + e) 2, [0x10, 4, 0, 0, 0, 0, 0, 1, 0, 9], 10, 1, true, 0⟩), (let e : Fin 8 := 7; let x : Xfer := ⟨rq1.client, 3, false, K (0x5100 + e) 2, [0x10, 4, 0, 0, 0, 0, 0, 1, 0, 9], 10, 1, true, 0⟩; dlS (up .preop [(K 0xA004 1, 3), (K 0xA005 1, 2), (K 0xA005 2, 4)]) x), by decide +kernel⟩,
   ⟨5, rq1.client, 7, (let e : Fin 8 := 7; ⟨rq1.client, 3, false, K (0x5100 + e) 2, [0x10, 4, 0, 0, 0, 0, 0, 1, 0, 9], 10, 1, true, 0⟩), (let e : Fin 8 := 7; let x : Xfer := ⟨rq1.client, 3, false, K (0x5100 + e) 2, [0x10, 4, 0, 0, 0, 0, 0, 1, 0, 9], 10, 1, true, 0⟩; dlS (up .preop []) x), by decide +kernel⟩,
   ⟨5, rq1.client, 7, (let n : Fin 8 := 7; ⟨rq1.client, 3, false, K (LS n) 0x18, [1, 2], 2, 1, true, 0⟩), (let n : Fin 8 := 7; let x : Xfer := ⟨rq1.client, 3, false, K (LS n) 0x18, [1, 2], 2, 1, true, 0⟩; dlS (up .preop []) x), by decide +kernel⟩⟩

theorem witness_Engines :
    (∃ (dt : Nat) (rq : Rq) (e : Fin 8) (s : State), Served s dt rq (K (0x5100 + e) 4) 1 ∧ s.mode ≠ .preop) ∧
    (∃ (dt : Nat) (rq : Rq) (e : Fin 8) (s : State), Served s dt rq (K (0x5100 + e) 4) 1 ∧ s.mode = .preop) ∧
    (∃ (dt : Nat) (rq : Rq) (e : Fin 8) (s : State), Served s dt rq (K (0x5100 + e) 4) 2) ∧
    (∃ (dt : Nat) (e : Fin 8) (s : State), s.engDue e 1 = true ∧ (s.engine e).untimed < 32 ∧ s.pc e + 1 < (s.program e).length / 4 ∧ s.pc
      e < 255 ∧ s.upd.waits = none ∧ s.domState 0x22 = 0 ∧ s.domState 0x23 = 0) ∧
    (∃ (dt : Nat) (e : Fin 8) (s : State), s.engDue e 1 = true ∧ 32 ≤ (s.engine e).untimed ∧ Calm s [(9, 0x14)] ∧ s.domState 0x22 = 0 ∧
      s.domState 0x23 = 0) ∧
    (∃ (dt : Nat) (e : Fin 8) (s : State), s.engDue e 2 = true ∧ s.upd.waits = none ∧ s.domState 0x22 = 0 ∧ s.domState 0x23 = 0) ∧
    (∃ (dt : Nat) (e : Fin 8) (s : State), s.engDue e 3 = true ∧ s.upd.waits = none ∧ s.domState 0x22 = 0 ∧ s.domState 0x23 = 0) ∧
    (∃ (dt : Nat) (e : Fin 8) (s : State), s.engDue e 4 = true ∧ nth none (s.engine e).counters (field (s.instrAt e) 27 27) = none ∧ 2 ≤
      field (s.instrAt e) 26 16 ∧ field (s.instrAt e) 4 0 < (s.program e).length / 4 ∧ (s.engine e).untimed < 32 ∧ s.upd.waits = none ∧
      s.domState 0x22 = 0 ∧ s.domState 0x23 = 0) ∧
    (∃ (dt : Nat) (e : Fin 8) (s : State), s.engDue e 4 = true ∧ nth none (s.engine e).counters (field (s.instrAt e) 27 27) = some 1 ∧
      s.pc e + 1 < (s.program e).length / 4 ∧ s.pc e < 255 ∧ (s.engine e).untimed < 32 ∧ s.upd.waits = none ∧ s.domState 0x22 = 0 ∧
      s.domState 0x23 = 0) ∧
    (∃ (dt : Nat) (e : Fin 8) (s : State), s.engDue e 5 = true ∧ field (s.instrAt e) 4 0 < (s.program e).length / 4 ∧ (s.engine e).untimed
      < 32 ∧ s.upd.waits = none ∧ s.domState 0x22 = 0 ∧ s.domState 0x23 = 0) ∧
    (∃ (dt : Nat) (e : Fin 8) (s : State), s.engDue e 6 = true ∧ 1 ≤ field (s.instrAt e) 15 0 ∧ s.upd.waits = none ∧ s.domState 0x22 = 0 ∧
      s.domState 0x23 = 0) ∧
    (∃ (dt : Nat) (e : Fin 8) (s : State), s.engDue e 7 = true ∧ s.upd.waits = none ∧ s.domState 0x22 = 0 ∧ s.domState 0x23 = 0) ∧
    (∃ (dt : Nat) (e : Fin 8) (a : Nat) (v : Nat) (b : Nat) (l : Nat) (s : State), s.engState e = 1 ∧ (s.engine e).wait = .ramp a v b l ∧
      b + l ≤ s.now + dt ∧ s.pc e + 1 < (s.program e).length / 4 ∧ s.pc e < 255 ∧ s.upd.waits = none ∧ s.domState 0x22 = 0 ∧ s.domState
      0x23 = 0) ∧
    (∃ (dt : Nat) (e : Fin 8) (b : Nat) (l : Nat) (s : State), s.engState e = 1 ∧ (s.engine e).wait = .hold b l ∧ s.now + dt < b + l ∧
      s.upd.waits = none) ∧
    (∃ (dt : Nat) (e : Fin 8) (op : Instr) (s : State), s.engState e ≠ 1 ∧ s.upd.waits = none ∧ op ∈ [Instr.set dt e, .ramp dt e, .hold dt
      e, .loop dt e, .jump dt e, .waitMs dt e, .waitTime dt e, .timedInstructionEnd dt e]) :=
  ⟨⟨5, rq1, 7, up .operate [], by (unfold Served; decide +kernel)⟩,
   ⟨5, rq1, 7, up .preop [], by (unfold Served; decide +kernel)⟩,
   ⟨5, rq1, 7, up .preop [], by (unfold Served; decide +kernel)⟩,
   ⟨5, 7, (let e : Fin 8 := 7; engS e 0x10001234 31), by decide +kernel⟩,
   ⟨5, 7, (let e : Fin 8 := 7; engS e 0x10001234 32), by (unfold Calm; decide +kernel)⟩,
   ⟨5, 7, (let e : Fin 8 := 7; engS e 0x20051234 3), by decide +kernel⟩,
   ⟨5, 7, (let e : Fin 8 := 7; engS e 0x30000000 3), by decide +kernel⟩,
   ⟨5, 7, (let e : Fin 8 := 7; engS e 0x48020003 3), by decide +kernel⟩,
   ⟨5, 7, (let e : Fin 8 := 7; { engS e 0x40020003 3 with skb := { Skb.init with engines := setNth Skb.init.engines e { Engine.init with counters := [some 1, none] } } }), by decide +kernel⟩,
   ⟨5, 7, (let e : Fin 8 := 7; engS e 0x50000005 3), by decide +kernel⟩,
   ⟨5, 7, (let e : Fin 8 := 7; engS e 0x60000005 3), by decide +kernel⟩,
   ⟨5, 7, (let e : Fin 8 := 7; engS e 0x70000005 3), by decide +kernel⟩,
   ⟨5000000, 7, 1, 2, 3, 1000000, (let e : Fin 8 := 7; let a : Nat := 1; let v : Nat := 2; let b : Nat := 3; let l : Nat := 1000000; { engS e 0x20012222 3 with skb := { Skb.init with engines := setNth Skb.init.engines e { Engine.init with wait := .ramp a v b l } } }), by decide +kernel⟩,
   ⟨5, 7, 3, 1000000, (let e : Fin 8 := 7; let b : Nat := 3; let l : Nat := 1000000; { engS e 0x20012222 3 with skb := { Skb.init with engines := setNth Skb.init.engines e { Engine.init with wait := .hold b l } } }), by decide +kernel⟩,
   ⟨5, 7, (let dt : Nat := 5; let e : Fin 8 := 7; .set dt e), up .operate [], by decide +kernel⟩⟩

theorem witness_LoopSlots :
    (∃ (dt : Nat) (rq : Rq) (n : Fin 8) (s : State), Served s dt rq (K (LS n) 0x27) 1 ∧ (s.mode = .preop ∨ s.mode = .operate ∨ s.mode =
      .safe) ∧ s.slotRuns n = false ∧ s.slotCheckCfg n = 0 ∧ s.claimBlock (s.slotRecs n) (slotOwner n) = none) ∧
    (∃ (dt : Nat) (rq : Rq) (n : Fin 8) (s : State), Served s dt rq (K (LS n) 0x27) 1 ∧ (s.mode = .preop ∨ s.mode = .operate ∨ s.mode =
      .safe) ∧ s.slotRuns n = true) ∧
    (∃ (dt : Nat) (rq : Rq) (n : Fin 8) (s : State), Served s dt rq (K (LS n) 0x27) 1 ∧ (s.mode = .preop ∨ s.mode = .operate ∨ s.mode =
      .safe) ∧ s.slotRuns n = false ∧ s.slotCheckCfg n ≠ 0) ∧
    (∃ (dt : Nat) (rq : Rq) (n : Fin 8) (s : State), Served s dt rq (K (LS n) 0x27) 2 ∧ s.slotRuns n = true ∧ s.slotSrc n = none ∧ s.get
      (K 0x3010 0x0A) ≠ n) ∧
    (∃ (dt : Nat) (rq : Rq) (n : Fin 8) (s : State), Served s dt rq (K (LS n) 0x27) 2 ∧ s.slotSrc n ≠ none) ∧
    (∃ (dt : Nat) (rq : Rq) (n : Fin 8) (s : State), Served s dt rq (K (LS n) 0x27) 3 ∧ s.slotState n = 2) ∧
    (∃ (dt : Nat) (rq : Rq) (n : Fin 8) (s : State), Served s dt rq (K (LS n) 0x27) 3 ∧ s.slotState n ≠ 2) ∧
    (∃ (dt : Nat) (rq : Rq) (n : Fin 8) (s : State), Served s dt rq (K (LS n) 0x27) 4 ∧ (s.slotState n = 3 ∨ s.slotState n = 4)) ∧
    (∃ (dt : Nat) (rq : Rq) (n : Fin 8) (s : State), Served s dt rq (K (LS n) 0x17) 1 ∧ s.slotCheckCfg n = 0 ∧ s.slotRuns n = true) ∧
    (∃ (dt : Nat) (rq : Rq) (n : Fin 8) (s : State), Served s dt rq (K (LS n) 0x17) 1 ∧ s.slotCheckCfg n ≠ 0) ∧
    (∃ (dt : Nat) (n : Fin 8) (code : Nat) (aux : Int) (fault : Bool) (s : State), s.slotRuns n = true ∧ (s.slot n).stop = true ∧ (s.tick
      dt).atBoundary n = true ∧ (s.tick dt).lpeLoad (s.tick dt).slotRuns ≤ 200000000 * 2 ^ 24 ∧ s.domState 0x22 = 0 ∧ s.upd.waits = none) ∧
    (∃ (dt : Nat) (n : Fin 8) (code : Nat) (aux : Int) (fault : Bool) (s : State), s.slotRuns n = true ∧ (s.slot n).stop = false ∧ (s.tick
      dt).atBoundary n = true ∧ (s.tick dt).lpeLoad (s.tick dt).slotRuns ≤ 200000000 * 2 ^ 24 ∧ s.domState 0x22 = 0 ∧ Steady s) ∧
    (∃ (dt : Nat) (n : Fin 8) (code : Nat) (aux : Int) (fault : Bool) (s : State), s.slotRuns n = true ∧ (s.tick dt).atBoundary n = true ∧
      200000000 * 2 ^ 24 < (s.tick dt).lpeLoad (s.tick dt).slotRuns ∧ s.domState 0x22 = 0 ∧ Calm s [(0x0A, 0x0C)]) ∧
    (∃ (dt : Nat) (n : Fin 8) (code : Nat) (aux : Int) (fault : Bool) (s : State), (s.slotRuns n = false ∨ (s.tick dt).atBoundary n =
      false) ∧ s.upd.waits = none) ∧
    (∃ (dt : Nat) (n : Fin 8) (s : State), s.slotState n = 1 ∧ (s.slot n).startAt + s.get (K (LS n) 0x26) * 1000000 ≤ s.now + dt ∧ Calm s
      [(0x0A, 4)] ∧ s.domState 0x22 = 0) ∧
    (∃ (dt : Nat) (n : Fin 8) (s : State), (s.slotState n ≠ 1 ∨ s.now + dt < (s.slot n).startAt + s.get (K (LS n) 0x26) * 1000000) ∧
      s.upd.waits = none) :=
  ⟨⟨5, rq1, 7, (let n : Fin 8 := 7; lsS .operate n 0), by (unfold Served; decide +kernel)⟩,
   ⟨5, rq1, 7, (let n : Fin 8 := 7; lsS .operate n 2), by (unfold Served; decide +kernel)⟩,
   ⟨5, rq1, 7, up .operate [], by (unfold Served; decide +kernel)⟩,
   ⟨5, rq1, 7, (let n : Fin 8 := 7; lsS .operate n 2), by (unfold Served; decide +kernel)⟩,
   ⟨5, rq1, 7, (let n : Fin 8 := 7; (scanS 2).set (K (LS n) 2) 1 |>.set (K (LS n) 3) 1), by (unfold Served; decide +kernel)⟩,
   ⟨5, rq1, 7, (let n : Fin 8 := 7; lsS .operate n 2), by (unfold Served; decide +kernel)⟩,
   ⟨5, rq1, 7, (let n : Fin 8 := 7; lsS .operate n 3), by (unfold Served; decide +kernel)⟩,
   ⟨5, rq1, 7, (let n : Fin 8 := 7; lsS .operate n 4), by (unfold Served; decide +kernel)⟩,
   ⟨5, rq1, 7, (let n : Fin 8 := 7; lsS .operate n 2), by (unfold Served; decide +kernel)⟩,
   ⟨5, rq1, 7, up .operate [], by (unfold Served; decide +kernel)⟩,
   ⟨200001, 7, 3, 4, true, (let n : Fin 8 := 7; (lsS .operate n 2).withSlot n { Slot.init with stop := true, next := 7 }), by decide +kernel⟩,
   ⟨200001, 7, 3, 4, false, (let n : Fin 8 := 7; lsS .operate n 5), by (unfold Steady; decide +kernel)⟩,
   ⟨200001, 7, 3, 4, false, (let n : Fin 8 := 7; (lsS .operate n 2).set (K (LS n) 4) 1), by (unfold Calm; decide +kernel)⟩,
   ⟨5, 7, 3, 4, true, (let n : Fin 8 := 7; lsS .operate n 2), by decide +kernel⟩,
   ⟨99999000000, 7, (let n : Fin 8 := 7; lsS .operate n 1), by (unfold Calm; decide +kernel)⟩,
   ⟨5, 7, (let n : Fin 8 := 7; lsS .operate n 2), by decide +kernel⟩⟩

theorem witness_ActuatorsAndTorqueOff :
    (∃ (dt : Nat) (a : Fin 4) (ia : Int) (ib : Int) (ic : Int) (n : Nat) (s : State), s.actSlot a = some n ∧ (s.actr a).overRun = 0 ∧
      s.upd.waits = none) ∧
    (∃ (dt : Nat) (a : Fin 4) (ia : Int) (ib : Int) (ic : Int) (n : Nat) (s : State), s.actSlot a = some n ∧ (s.actr a).overRun = 1 ∧
      F32.lt (F32.mul (s.f (K (0x6030 + a) 0x0E)) 0x3FC00000) (F32.abs (F32.mul (F32.ofInt ia) (s.f (K (0x6030 + a) 0x0D)))) = true ∧ Calm
      s [(0x0A, 0x0B)] ∧ s.domState 0x22 = 0) ∧
    (∃ (dt : Nat) (a : Fin 4) (ia : Int) (ib : Int) (ic : Int) (s : State), s.actSlot a = none ∧ s.upd.waits = none) ∧
    (∃ (dt : Nat) (a : Fin 4) (lines : Nat) (s : State), s.get (K (0x6030 + a) 1) = 1 ∧ s.actSlot a = none ∧ (s.actr a).lines = 0 ∧ (lines
      = 1 ∨ lines = 2) ∧ s.upd.waits = none ∧ s.domState 0x22 = 0) ∧
    (∃ (dt : Nat) (a : Fin 4) (lines : Nat) (s : State), s.get (K (0x6030 + a) 1) = 0 ∧ (lines = 0 ∨ lines = 7) ∧ s.upd.waits = none ∧
      s.domState 0x22 = 0) ∧
    (∃ (dt : Nat) (s : State), s.upd.waits = none) ∧
    (∃ (dt : Nat) (s : State), s.upd.waits = none) ∧
    (∃ (dt : Nat) (a : Fin 4) (path : Fin 2) (s : State), s.get (K (0x6030 + a) 0x11) = 1 ∧ Calm s [(0x0B, 9)]) ∧
    (∃ (dt : Nat) (a : Fin 4) (path : Fin 2) (s : State), s.get (K (0x6030 + a) 0x11) ≠ 1 ∧ s.upd.waits = none) ∧
    (∃ (dt : Nat) (a : Fin 4) (b : Nat) (s : State), (s.actr a).excessSince = some b ∧ b + 10000000 ≤ s.now + dt ∧ s.ssvOn = true ∧ s.get
      (K (0x6030 + a) 0x11) = 1 ∧ s.upd.waits = none) ∧
    (∃ (dt : Nat) (a : Fin 4) (s : State), (s.actr a).excessSince = none ∧ s.upd.waits = none) :=
  ⟨⟨5, 3, 1, 2, 3, (let a : Fin 4 := 3; a), (let a : Fin 4 := 3; lsS .operate a 2), by decide +kernel⟩,
   ⟨5, 3, 100000, 2, 3, (let a : Fin 4 := 3; a), (let a : Fin 4 := 3; actS a { Act.init with overRun := 1 }), by (unfold Calm; decide +kernel)⟩,
   ⟨5, 3, 1, 2, 3, up .operate [], by decide +kernel⟩,
   ⟨5, 3, 2, (let a : Fin 4 := 3; up .operate [(K (0x6030 + a) 1, 1)]), by decide +kernel⟩,
   ⟨5, 3, 7, (let a : Fin 4 := 3; lsS .operate a 2), by decide +kernel⟩,
   ⟨5, lsS .operate 3 2, by decide +kernel⟩,
   ⟨5, lsS .operate 3 2, by decide +kernel⟩,
   ⟨5, 3, 1, (let a : Fin 4 := 3; lsS .operate a 2), by (unfold Calm; decide +kernel)⟩,
   ⟨5, 3, 1, (let a : Fin 4 := 3; up .operate [(K (0x6030 + a) 0x11, 0)]), by decide +kernel⟩,
   ⟨10000000, 3, 0, (let a : Fin 4 := 3; actS a { Act.init with excessSince := some 0 }), by decide +kernel⟩,
   ⟨5, 3, up .operate [], by decide +kernel⟩⟩

theorem witness_Training :
    (∃ (dt : Nat) (p : Fin 9) (s : State), s.mayTrain p = true ∧ s.portUp p = false ∧ (s.train p).since = none ∧ s.upd.waits = none) ∧
    (∃ (dt : Nat) (p : Fin 9) (s : State), (s.mayTrain p = false ∨ s.portUp p = true) ∧ s.upd.waits = none) ∧
    (∃ (dt : Nat) (l : Fin 18) (b : List Byte) (p : Nat) (s : State), s.portOfLane l = some p ∧ trainForm b = true ∧ s.laneState l = 2 ∧
      s.upd.waits = none) ∧
    (∃ (dt : Nat) (l : Fin 18) (b : List Byte) (s : State), trainForm b = false ∧ s.upd.waits = none) ∧
    (∃ (dt : Nat) (p : Fin 9) (s : State), (s.train p).since ≠ none ∧ (s.train p).switch = none ∧ (s.portLanes p).all (fun l =>
      s.laneState l == 2 && s.laneDone l) = true ∧ s.portLanes p ≠ [] ∧ Steady s) ∧
    (∃ (dt : Nat) (p : Fin 9) (s : State), (s.train p).since = none ∧ s.upd.waits = none) ∧
    (∃ (dt : Nat) (p : Fin 9) (a : Nat) (s : State), (s.train p).since = some a ∧ a + s.get (K 0x7000 3) * 1000000 ≤ s.now + dt ∧ (s.train
      p).switch = none ∧ s.ln.lanes = Lanes.init.lanes ∧ Calm s [(0x0C, 4)]) ∧
    (∃ (dt : Nat) (p : Fin 9) (a : Nat) (s : State), (s.train p).since = some a ∧ s.now + dt < a + s.get (K 0x7000 3) * 1000000 ∧
      s.upd.waits = none) ∧
    (∃ (dt : Nat) (p : Fin 9) (a : Nat) (s : State), (s.train p).retryAt = some a ∧ a ≤ s.now + dt ∧ s.mayTrain p = true ∧ s.upd.waits =
      none) ∧
    (∃ (dt : Nat) (p : Fin 9) (s : State), (s.train p).retryAt = none ∧ s.upd.waits = none) ∧
    (∃ (dt : Nat) (l : Fin 18) (p : Nat) (s : State), s.portOfLane l = some p ∧ s.laneState l = 5 ∧ (s.lane l).triedAt + 1000000000 ≤
      s.now + dt ∧ s.upd.waits = none) ∧
    (∃ (dt : Nat) (l : Fin 18) (s : State), (s.laneState l ≠ 5 ∨ s.portOfLane l = none) ∧ s.upd.waits = none) ∧
    (∃ (dt : Nat) (rq : Rq) (l : Fin 18) (s : State), Served s dt rq (K (laneIdx l) 4) 1 ∧ s.get (K (laneIdx l) 3) = 1) ∧
    (∃ (dt : Nat) (rq : Rq) (l : Fin 18) (s : State), Served s dt rq (K (laneIdx l) 4) 1 ∧ s.get (K (laneIdx l) 3) ≠ 1) :=
  ⟨⟨5, 8, (tlS Port.init).set (K 0x7030 1) 1, by decide +kernel⟩,
   ⟨5, 8, up .operate [], by decide +kernel⟩,
   ⟨5, 3, [0x0F, 15, 1, 3, 3, 0, 0], 0, lnS Port.init 2 Lane.init, by decide +kernel⟩,
   ⟨5, 17, [0x0F, 16, 1, 3, 3, 0, 0], lnS Port.init 2 Lane.init, by decide +kernel⟩,
   ⟨500000, 0, { (lnS Port.init 2 doneL).withTrain 0 { Train.init with since := some 0 } with now := 600000 }, by (unfold Steady; decide +kernel)⟩,
   ⟨5, 8, tlS Port.init, by decide +kernel⟩,
   ⟨99000000000, 8, 0, (let p : Fin 9 := 8; (tlS Port.init).withTrain p { Train.init with since := some 0 }), by (unfold Calm; decide +kernel)⟩,
   ⟨5, 8, 99000000000, (let p : Fin 9 := 8; let a : Nat := 99000000000; { (tlS Port.init).withTrain p { Train.init with since := some a } with now := a }), by decide +kernel⟩,
   ⟨5, 8, 5, (let p : Fin 9 := 8; (tlS Port.init).set (K 0x7030 1) 1 |>.withTrain p { Train.init with retryAt := some 5 }), by decide +kernel⟩,
   ⟨5, 8, tlS Port.init, by decide +kernel⟩,
   ⟨1000000000, 3, 0, lnS upP 5 Lane.init, by decide +kernel⟩,
   ⟨1000000000, 17, lnS upP 3 Lane.init, by decide +kernel⟩,
   ⟨5, rq1, 17, (let l : Fin 18 := 17; up .operate [(K (laneIdx l) 3, 1)]), by (unfold Served; decide +kernel)⟩,
   ⟨5, rq1, 17, up .operate [], by (unfold Served; decide +kernel)⟩⟩

theorem witness_LaneRates :
    (∃ (dt : Nat) (p : Fin 8) (w : Switch) (s : State), (s.train p).switch = some w ∧ w.step = 2 ∧ s.upd.waits = none) ∧
    (∃ (dt : Nat) (p : Fin 9) (s : State), (s.train p).switch = none ∧ s.wantsStep p = false ∧ s.upd.waits = none) ∧
    (∃ (dt : Nat) (p : Fin 8) (invalid : Nat) (a : Nat) (s : State), (s.train p).check = some a ∧ a + s.get (K 0x7000 1) * 1000 ≤ s.now +
      dt ∧ (s.train p).checkBad = false ∧ (s.train p).checkOver = false ∧ invalid ≤ s.get (K 0x7000 2) ∧ s.upd.waits = none) ∧
    (∃ (dt : Nat) (p : Fin 8) (invalid : Nat) (a : Nat) (s : State), (s.train p).check = some a ∧ a + s.get (K 0x7000 1) * 1000 ≤ s.now +
      dt ∧ (s.train p).checkOver = false ∧ s.get (K 0x7000 2) < invalid ∧ 1 ≤ s.portRate p ∧ s.upd.waits = none) ∧
    (∃ (dt : Nat) (p : Fin 8) (invalid : Nat) (s : State), ((s.train p).check = none ∨ (s.train p).checkOver = true) ∧ s.upd.waits = none) :=
  ⟨⟨5, 0, ⟨2, 2, 1, 7⟩, (let w : Switch := ⟨2, 2, 1, 7⟩; (lnS upP 3 Lane.init).withTrain 0 { Train.init with switch := some w }), by decide +kernel⟩,
   ⟨5, 8, tlS upP, by decide +kernel⟩,
   ⟨99000000, 0, 0, 0, (tlS upP).withTrain 0 { Train.init with check := some 0 }, by decide +kernel⟩,
   ⟨99000000, 0, 999, 0, (tlS upP).withTrain 0 { Train.init with check := some 0 }, by decide +kernel⟩,
   ⟨99000000, 7, 999, tlS upP, by decide +kernel⟩⟩

theorem witness_LaneFaultsAndTests :
    (∃ (dt : Nat) (l : Fin 18) (p : Nat) (s : State), s.portOfLane l = some p ∧ s.portUp p = true ∧ (s.train p).switch = none ∧
      s.laneState l = 3 ∧ s.isReturn p l = true ∧ Steady s) ∧
    (∃ (dt : Nat) (l : Fin 18) (s : State), s.portOfLane l = none ∧ s.upd.waits = none) ∧
    (∃ (dt : Nat) (l : Fin 18) (n : Nat) (p : Nat) (s : State), s.portOfLane l = some p ∧ p < 8 ∧ s.portUp p = true ∧ s.isReturn p l =
      false ∧ n < 4 ∧ (s.portLanes p).contains (4 * s.ep p 4 + n) = true ∧ s.laneState (4 * s.ep p 4 + n) = 3 ∧ s.portOfLane (4 * s.ep p 4
      + n) = some p ∧ Steady s) ∧
    (∃ (dt : Nat) (l : Fin 18) (b : List Byte) (s : State), (4 ≤ byteAt b 0 ∨ s.portOfLane l = none) ∧ s.upd.waits = none) ∧
    (∃ (dt : Nat) (e : Fin 8) (s : State), (s.port e).trained = true ∧ (s.train e).switch = none ∧ (s.port e).lastRet + 8000 ≤ s.now + dt
      ∧ s.portOfLane (4 * s.ep e 4 + (s.port e).ret) = some e.val ∧ s.laneState (4 * s.ep e 4 + (s.port e).ret) ≠ 5 ∧ Steady s) ∧
    (∃ (dt : Nat) (e : Fin 8) (s : State), ((s.port e).trained = false ∨ s.now + dt < (s.port e).lastRet + 8000) ∧ s.upd.waits = none) ∧
    (∃ (dt : Nat) (l : Fin 18) (p : Nat) (s : State), s.portOfLane l = some p ∧ s.laneState l = 3 ∧ (s.lane l).idle = false ∧ Steady s) ∧
    (∃ (dt : Nat) (l : Fin 18) (s : State), (s.laneState l ≠ 3 ∨ (s.lane l).idle = true) ∧ s.upd.waits = none) ∧
    (∃ (dt : Nat) (l : Fin 18) (p : Nat) (s : State), s.portOfLane l = some p ∧ s.portUp p = true ∧ s.isReturn p l = false ∧ s.upd.waits =
      none) ∧
    (∃ (dt : Nat) (l : Fin 18) (b : List Byte) (s : State), (b.any (· != 0) = true ∨ s.portOfLane l = none) ∧ s.upd.waits = none) ∧
    (∃ (dt : Nat) (g : Fin 4) (a : Nat) (n : Nat) (s : State), s.fs.restripe.find? (fun r => r.1 == g.val) = some (g.val, a, n) ∧ a +
      1000000 ≤ s.now + dt ∧ Steady s) ∧
    (∃ (dt : Nat) (g : Fin 4) (s : State), s.fs.restripe = [] ∧ s.upd.waits = none) ∧
    (∃ (dt : Nat) (rq : Rq) (l : Fin 18) (v : Nat) (s : State), Served s dt rq (K (laneIdx l) 0x0C) v ∧ s.get (K (laneIdx l) 0x0B) % 4 ≠
      1) ∧
    (∃ (dt : Nat) (rq : Rq) (l : Fin 18) (v : Nat) (s : State), Served s dt rq (K (laneIdx l) 0x0C) v ∧ s.get (K (laneIdx l) 0x0B) % 4 =
      1) ∧
    (∃ (dt : Nat) (l : Fin 18) (n : Nat) (s : State), s.get (K (laneIdx l) 0x0B) % 4 = 1 ∧ s.upd.waits = none) ∧
    (∃ (dt : Nat) (l : Fin 18) (n : Nat) (s : State), s.get (K (laneIdx l) 0x0B) % 4 ≠ 1 ∧ s.upd.waits = none) ∧
    (∃ (dt : Nat) (rq : Rq) (l : Fin 18) (v : Nat) (s : State), Served s dt rq (K (laneIdx l) 9) v ∧ ((∀ e ∈ List.range 8, s.ep e 1 ≠ 1) ∧
      s.get (K 0x8600 1) ≠ 1 ∨ field v 7 4 = 0)) ∧
    (∃ (dt : Nat) (rq : Rq) (l : Fin 18) (v : Nat) (e : Nat) (s : State), Served s dt rq (K (laneIdx l) 9) v ∧ e < 8 ∧ s.ep e 1 = 1 ∧
      l.val < 16 ∧ (s.portLanes e).contains l.val = true ∧ field v 7 4 ≠ 0) :=
  ⟨⟨5, 0, 0, lnS upP 3 Lane.init, by (unfold Steady; decide +kernel)⟩,
   ⟨5, 17, tlS upP, by decide +kernel⟩,
   ⟨5, 1, 2, 0, lnS upP 3 Lane.init, by (unfold Steady; decide +kernel)⟩,
   ⟨5, 17, [4], tlS upP, by decide +kernel⟩,
   ⟨8000, 0, lnS upP 3 Lane.init, by (unfold Steady; decide +kernel)⟩,
   ⟨8000, 7, tlS upP, by decide +kernel⟩,
   ⟨5, 3, 0, lnS upP 3 Lane.init, by (unfold Steady; decide +kernel)⟩,
   ⟨5, 17, tlS upP, by decide +kernel⟩,
   ⟨5, 3, 0, lnS upP 4 Lane.init, by decide +kernel⟩,
   ⟨5, 17, [0, 1], tlS upP, by decide +kernel⟩,
   ⟨1000000, 0, 0, 0, { tlS upP with fs := { (tlS upP).fs with restripe := [(0, 0, 0)] } }, by (unfold Steady; decide +kernel)⟩,
   ⟨1000000, 0, tlS upP, by decide +kernel⟩,
   ⟨5, rq1, 17, 0x1F7F0028, up .operate [], by (unfold Served; decide +kernel)⟩,
   ⟨5, rq1, 17, 20, (let l : Fin 18 := 17; up .operate [(K (laneIdx l) 0x0B, 1)]), by (unfold Served; decide +kernel)⟩,
   ⟨5, 17, 2^33, (let l : Fin 18 := 17; up .operate [(K (laneIdx l) 0x0B, 1)]), by decide +kernel⟩,
   ⟨5, 17, 5, (let l : Fin 18 := 17; up .operate [(K (laneIdx l) 0x0B, 2)]), by decide +kernel⟩,
   ⟨5, rq1, 17, 0, up .operate [], by (unfold Served; decide +kernel)⟩,
   ⟨5, rq1, 3, 0x21, 0, tlS upP, by (unfold Served; decide +kernel)⟩⟩

theorem witness_EthernetAndVideo :
    (∃ (dt : Nat) (p : Fin 2) (st : Fin 7) (s : State), s.upd.waits = none ∧ s.domState 0x20 = 0) ∧
    (∃ (dt : Nat) (p : Fin 2) (x : EthTx) (s : State), nextTx (nth [] s.net.ethTx p) = some x ∧ s.netUp p = true ∧ s.upd.waits = none) ∧
    (∃ (dt : Nat) (p : Fin 2) (s : State), s.netUp p = false ∧ s.upd.waits = none) ∧
    (∃ (dt : Nat) (p : Fin 2) (fcs : Bool) (b : List Byte) (s : State), s.netUp p = true ∧ macOk fcs b = false ∧ s.upd.waits = none) ∧
    (∃ (dt : Nat) (p : Fin 2) (b : List Byte) (s : State), s.netUp p = true ∧ macOk true b = true ∧ s.vlanOk p (parseEth b) = true ∧
      s.passes p (parseEth b) b = false ∧ (parseEth b).dst = s.act (K (0x7100 + p) 3) ∧ (parseEth b).ethertype = 0x0806 ∧ s.act (K 0x7110
      1) ≠ 0 ∧ beAt (b.drop (parseEth b).off) 0 8 = 0x0001080006040001 ∧ beAt (b.drop (parseEth b).off) 24 4 = s.act (K 0x7110 1) ∧
      s.upd.waits = none) ∧
    (∃ (dt : Nat) (p : Fin 2) (fcs : Bool) (b : List Byte) (s : State), s.netUp p = false ∧ s.upd.waits = none) ∧
    (∃ (dt : Nat) (p : Fin 2) (sid : Nat) (mac : Nat) (seq : Byte) (b : List Byte) (n : Nat) (s : State), s.netUp p = true ∧ s.vsMatch p
      sid mac = some n ∧ (s.vs n).asm = .idle ∧ s.videoForm n b = true ∧ (parseVideo b).fs = true ∧ (parseVideo b).fe = true ∧ (parseVideo
      b).line = 0 ∧ (parseVideo b).pix0 = 0 ∧ (parseVideo b).npix = s.act (K (0x7120 + n) 5) ∧ s.act (K (0x7120 + n) 6) = 1 ∧ 2 < s.act (K
      (0x7120 + n) 7) ∧ (parseVideo b).data.length = 2 * s.act (K (0x7120 + n) 5) ∧ 1 ≤ s.act (K (0x7120 + n) 5) ∧ (s.vs n).newest = none
      ∧ s.upd.waits = none ∧ s.domState 0x20 = 0) ∧
    (∃ (dt : Nat) (p : Fin 2) (sid : Nat) (mac : Nat) (seq : Byte) (b : List Byte) (n : Nat) (s : State), s.netUp p = true ∧ s.vsMatch p
      sid mac = some n ∧ (s.vs n).asm = .filling ∧ (parseVideo b).fs = false ∧ seq.toNat ≠ ((s.vs n).lastSeq + 1) % 256 ∧ s.upd.waits =
      none ∧ s.domState 0x20 = 0) ∧
    (∃ (dt : Nat) (p : Fin 2) (form : Avtp) (sid : Nat) (mac : Nat) (seq : Byte) (b : List Byte) (s : State), (form ≠ ⟨0x6F, true, 0⟩ ∨
      s.vsMatch p sid mac = none ∨ s.netUp p = false) ∧ s.upd.waits = none) ∧
    (∃ (dt : Nat) (rq : Rq) (n : Fin 2) (s : State), Served s dt rq (K (0x7120 + n) 9) 1 ∧ s.fs.accepted = none ∧ s.act (K (0x7121 - n) 1)
      = 0 ∧ s.get (K (0x7120 + n) 1) = 0 ∧ fixedUnits (s.fixedOf s.act) ≤ s.poolLow ∧ ((∀ k ∈ streamKeys n, s.get k = s.act k))) ∧
    (∃ (dt : Nat) (rq : Rq) (n : Fin 2) (s : State), Served s dt rq (K (0x7120 + n) 9) 1 ∧ s.fs.accepted = none ∧ s.get (K (0x7120 + n) 1)
      = 1 ∧ s.act (K (0x7121 - n) 1) = 1 ∧ s.get (K (0x7120 + n) 2) = s.act (K (0x7121 - n) 2)) :=
  ⟨⟨5, 1, 6, up .operate [], by decide +kernel⟩,
   ⟨5, 1, ⟨3, 0, true, 0, 0, [1], none⟩, (let p : Fin 2 := 1; { netS p with net := { Net.init with ethTx := [[⟨3, 0, true, 0, 0, [1], none⟩], [⟨3, 0, true, 0, 0, [1], none⟩]] } }), by decide +kernel⟩,
   ⟨5, 1, (let p : Fin 2 := 1; netS (1 - p)), by decide +kernel⟩,
   ⟨5, 1, false, [1, 2], (let p : Fin 2 := 1; netS p), by decide +kernel⟩,
   ⟨5, 1, arpB, (let p : Fin 2 := 1; netS p), by decide +kernel⟩,
   ⟨5, 1, true, arpB, up .operate [], by decide +kernel⟩,
   ⟨5, 0, 77, 88, 7, vidB 3, 0, vidS Stream.init, by decide +kernel⟩,
   ⟨5, 0, 77, 88, 7, vidB 2, 0, vidS { Stream.init with asm := .filling, lastSeq := 7 }, by decide +kernel⟩,
   ⟨5, 1, ⟨0x6F, false, 0⟩, 78, 88, 7, vidB 2, vidS Stream.init, by decide +kernel⟩,
   ⟨5, rq1, 1, up .preop [], by (unfold Served; decide +kernel)⟩,
   ⟨5, rq1, 1, (let n : Fin 2 := 1; (up .preop [(K (0x7120 + n) 1, 1), (K (0x7120 + n) 2, 9)]).putAct [(K (0x7121 - n) 1, 1), (K (0x7121 - n) 2, 9)]), by (unfold Served; decide +kernel)⟩⟩

theorem witness_CanControllers :
    (∃ (dt : Nat) (c : Fin 4) (x : CanTx) (s : State), nextCan (s.canQueue c) = some x ∧ s.canUp c = true ∧ s.act (K (0x7140 + c) 2) < 2 ∧
      s.upd.waits = none) ∧
    (∃ (dt : Nat) (c : Fin 4) (s : State), (s.canUp c = false ∨ 2 ≤ s.act (K (0x7140 + c) 2)) ∧ s.upd.waits = none) ∧
    (∃ (dt : Nat) (c : Fin 4) (ident : Nat) (b : List Byte) (s : State), s.canUp c = true ∧ s.get (K 0x1200 1) = c.val ∧ s.get (K 0x1200
      2) = ident ∧ s.serverUp = false ∧ s.upd.waits = none) ∧
    (∃ (dt : Nat) (c : Fin 4) (ident : Nat) (fd : Bool) (b : List Byte) (s : State), (s.canUp c = false ∨ (fd = true ∧ s.act (K (0x7140 +
      c) 2) = 1) ∨ (s.get (K 0x1200 2) ≠ ident ∧ s.guardIdent c ident = false)) ∧ s.upd.waits = none) ∧
    (∃ (dt : Nat) (c : Fin 4) (s : State), s.canUp c = true ∧ Calm s [(0x1B, 7)]) ∧
    (∃ (dt : Nat) (c : Fin 4) (s : State), s.get (K (0x7140 + c) 8) = 2 ∧ nth false s.net.recovering c = true ∧ s.upd.waits = none ∧
      s.domState 0x24 = 0) ∧
    (∃ (dt : Nat) (c : Fin 4) (s : State), nth false s.net.recovering c = false ∧ s.upd.waits = none) ∧
    (∃ (dt : Nat) (rq : Rq) (c : Fin 4) (s : State), Served s dt rq (K (0x7140 + c) 7) 1) ∧
    (∃ (dt : Nat) (c : Fin 4) (tec : Nat) (errs : Nat) (s : State), s.canUp c = true ∧ 255 < tec ∧ Calm s [(0x1B, 7)]) ∧
    (∃ (dt : Nat) (c : Fin 4) (tec : Nat) (errs : Nat) (s : State), s.canUp c = true ∧ tec ≤ 255 ∧ s.upd.waits = none) ∧
    (∃ (dt : Nat) (c : Fin 4) (tec : Nat) (errs : Nat) (s : State), s.canUp c = false ∧ s.upd.waits = none) :=
  ⟨⟨5, 3, ⟨false, 5, [1]⟩, (let c : Fin 4 := 3; { canS c with net := { Net.init with canTx := List.replicate 4 [⟨false, 5, [1]⟩] } }), by decide +kernel⟩,
   ⟨5, 3, (let c : Fin 4 := 3; (canS c).putAct [(K (0x7140 + c) 2, 2)]), by decide +kernel⟩,
   ⟨5, 3, 5, [1], (let c : Fin 4 := 3; { canS c with sys := { (canS c).sys with apc := [false, false], bootStep := 5 } }.set (K 0x1200 1) c |>.set (K 0x1200 2) 5), by decide +kernel⟩,
   ⟨5, 3, 5, false, [1], up .operate [], by decide +kernel⟩,
   ⟨5, 3, (let c : Fin 4 := 3; canS c), by (unfold Calm; decide +kernel)⟩,
   ⟨5, 3, (let c : Fin 4 := 3; { canS c with net := { Net.init with recovering := [true, true, true, true] } }.set (K (0x7140 + c) 8) 2), by decide +kernel⟩,
   ⟨5, 3, (let c : Fin 4 := 3; canS c), by decide +kernel⟩,
   ⟨5, rq1, 3, (let c : Fin 4 := 3; (canS c).set (K (0x7140 + c) 8) 2), by (unfold Served; decide +kernel)⟩,
   ⟨5, 3, 256, 128, (let c : Fin 4 := 3; canS c), by (unfold Calm; decide +kernel)⟩,
   ⟨5, 3, 5, 128, (let c : Fin 4 := 3; canS c), by decide +kernel⟩,
   ⟨5, 3, 5, 128, (let c : Fin 4 := 3; (canS c).putAct [(K (0x7140 + c) 1, 0)]), by decide +kernel⟩⟩

theorem witness_RoadblockPin :
    (∃ (dt : Nat) (ball : Fin 2) (s : State), s.rbPin = false ∧ s.pwr.inReset = false ∧ s.get (K 0x8010 2) ≠ 0 ∧ Calm s [(0x12, 0x0E)]) ∧
    (∃ (dt : Nat) (ball : Fin 2) (s : State), s.pins.rbBalls = [decide (ball = 0), decide (ball = 1)] ∧ s.upd.waits = none) ∧
    (∃ (dt : Nat) (ball : Fin 2) (s : State), s.pins.rbBalls = [true, true] ∧ s.upd.waits = none) ∧
    (∃ (dt : Nat) (a : Nat) (s : State), s.pins.ballsDiffer = some a ∧ a + 20000 ≤ s.now + dt ∧ Calm s [(0x12, 6)] ∧ (logSlot s.safe.log
      0x12 6 (K 0x8010 6)).isSome = true) ∧
    (∃ (dt : Nat) (path : Fin 2) (s : State), Calm s [(0x12, 9)] ∧ (logSlot s.safe.log 0x12 9 (path + 1)).isSome = true) :=
  ⟨⟨5, 1, up .operate [(K 0x8010 2, 5), (K 0x8010 1, 1)], by (unfold Calm; decide +kernel)⟩,
   ⟨5, 1, (let ball : Fin 2 := 1; { up .operate [] with pins := { Pins.init with rbBalls := [decide (ball = 0), decide (ball = 1)] } }), by decide +kernel⟩,
   ⟨5, 1, { up .operate [] with pins := { Pins.init with rbBalls := [true, true] } }, by decide +kernel⟩,
   ⟨20003, 3, { up .operate [] with pins := { Pins.init with ballsDiffer := some 3 } }, by (unfold Calm; decide +kernel)⟩,
   ⟨5, 1, up .operate [(K 0x8010 7, 0xFFFFFFFF)], by (unfold Calm; decide +kernel)⟩⟩

theorem witness_FaultRecords :
    (∃ (dt : Nat) (src : Byte) (kind : Byte) (arg : Word32) (standing : Bool) (s : State), s.pwr.inReset = false ∧ Calm s [(src.toNat,
      kind.toNat)] ∧ (logSlot s.safe.log src.toNat kind.toNat arg.toNat).isSome = true) ∧
    (∃ (dt : Nat) (src : Byte) (kind : Byte) (arg : Word32) (s : State), s.upd.waits = none) ∧
    (∃ (dt : Nat) (rq : Rq) (n : Nat) (e : LogE) (s : State), Served s dt rq (K 0x8100 3) n ∧ n ≠ 0xFF ∧ s.logEntry n = some e ∧ e.safety
      = false) ∧
    (∃ (dt : Nat) (rq : Rq) (n : Nat) (e : LogE) (s : State), Served s dt rq (K 0x8100 3) n ∧ n ≠ 0xFF ∧ s.logEntry n = some e ∧ e.safety
      = true) ∧
    (∃ (dt : Nat) (rq : Rq) (s : State), Served s dt rq (K 0x8100 3) 0xFF) ∧
    (∃ (dt : Nat) (rq : Rq) (n : Fin 64) (v : Nat) (s : State), Served s dt rq (K 0x8120 (n + 1)) v ∧ bit (s.get (K 0x8120 (n + 1))) 6 =
      false ∧ bit v 6 = false ∧ bit v 2 = false) ∧
    (∃ (dt : Nat) (rq : Rq) (n : Fin 64) (v : Nat) (s : State), Served s dt rq (K 0x8120 (n + 1)) v ∧ bit (s.get (K 0x8120 (n + 1))) 6 =
      true) :=
  ⟨⟨5, 0x0F, 5, 7, false, up .operate [], by (unfold Calm; decide +kernel)⟩,
   ⟨5, 3, 4, 5, { up .operate [] with safe := { Safe.init with log := setNth Safe.init.log 2 (some ⟨3, 4, 5, true, true, false, true, false, 1, 0, 0, 0⟩) } }, by decide +kernel⟩,
   ⟨5, rq1, 3, ⟨3, 4, 5, true, true, false, true, false, 1, 0, 0, 0⟩, (let e : LogE := ⟨3, 4, 5, true, true, false, true, false, 1, 0, 0, 0⟩; { up .operate [] with safe := { Safe.init with log := setNth Safe.init.log 2 (some e) } }), by (unfold Served; decide +kernel)⟩,
   ⟨5, rq1, 3, ⟨3, 4, 5, true, true, true, true, false, 1, 0, 0, 0⟩, (let e : LogE := ⟨3, 4, 5, true, true, true, true, false, 1, 0, 0, 0⟩; { up .operate [] with safe := { Safe.init with log := setNth Safe.init.log 2 (some e) } }), by (unfold Served; decide +kernel)⟩,
   ⟨5, rq1, { up .operate [] with safe := { Safe.init with log := setNth Safe.init.log 2 (some ⟨3, 4, 5, false, true, false, true, false, 1, 0, 0, 0⟩) } }, by (unfold Served; decide +kernel)⟩,
   ⟨5, rq1, 0x3F, 0xFFFF0081, up .operate [], by (unfold Served; decide +kernel)⟩,
   ⟨5, rq1, 0, 0xFFFF0081, up .operate [], by (unfold Served; decide +kernel)⟩⟩

theorem witness_AliveAndVoter :
    (∃ (dt : Nat) (s : State), s.ssvOn = true ∧ s.safe.lastToggle + 495000 ≤ s.now + dt ∧ s.safe.voterFailed = false ∧ s.safe.cores =
      [true, true, true] ∧ s.aliveStop = 0 ∧ s.allBlocked = false ∧ s.upd.waits = none) ∧
    (∃ (dt : Nat) (s : State), s.ssvOn = true ∧ s.safe.lastToggle + 495000 ≤ s.now + dt ∧ s.safe.voterFailed = false ∧ s.safe.cores =
      [true, true, true] ∧ Calm s [(0x10, 0x0F)]) ∧
    (∃ (dt : Nat) (s : State), s.ssvOn = true ∧ s.safe.lastToggle + 495000 ≤ s.now + dt ∧ s.safe.voterFailed = false ∧ s.safe.cores =
      [true, true, false] ∧ Calm s [(0x10, 0x0F), (0x12, 0x13)]) ∧
    (∃ (dt : Nat) (c : Fin 3) (s : State), s.safe.cores = [decide (c ≠ 0), decide (c ≠ 1), decide (c ≠ 2)] ∧ s.safe.voterFailed = false ∧
      s.upd.roll = none ∧ Calm s [(0x10, 0x12)]) ∧
    (∃ (dt : Nat) (s : State), s.ssvOn = true ∧ s.safe.silent = false ∧ s.safe.lastToggle + 600000 ≤ s.now + dt ∧ Calm s [(0x1F, 4)]) ∧
    (∃ (dt : Nat) (pin : Fin 2) (s : State), Calm s [(0x1F, 9)]) ∧
    (∃ (dt : Nat) (b : Fin 6) (a : Nat) (s : State), Calm s [(nth 3 checkedBlocks b, 0x17)] ∧ a < 2 ^ 32 ∧ (logSlot s.safe.log (nth 3
      checkedBlocks b) 0x17 a).isSome = true ∧ ((∀ e ∈ s.safe.log, e.all (fun x => x.kind != 0x17) = true))) ∧
    (∃ (dt : Nat) (s : State), s.upd.waits = none) ∧
    (∃ (dt : Nat) (failed : Fin 128) (s : State), s.ssvOn = true ∧ s.safe.latentAt.all (fun a => decide (a + s.get (K 0x8500 1) *
      3600000000000 ≤ s.now + dt)) = true ∧ Calm s (latentBlocks.map fun b => (b, 0x15))) ∧
    (∃ (dt : Nat) (failed : Fin 128) (s : State), s.safe.latentAt.any (fun a => decide (s.now + dt < a + s.get (K 0x8500 1) *
      3600000000000)) = true ∧ s.upd.waits = none) :=
  ⟨⟨500000, up .operate [], by decide +kernel⟩,
   ⟨500000, up .operate [], by (unfold Calm; decide +kernel)⟩,
   ⟨500000, { up .operate [] with safe := { Safe.init with cores := [true, true, false] } }, by (unfold Calm; decide +kernel)⟩,
   ⟨5, 2, (let c : Fin 3 := 2; { up .operate [] with safe := { Safe.init with cores := [decide (c ≠ 0), decide (c ≠ 1), decide (c ≠ 2)] } }), by (unfold Calm; decide +kernel)⟩,
   ⟨600000, up .operate [], by (unfold Calm; decide +kernel)⟩,
   ⟨5, 1, up .operate [], by (unfold Calm; decide +kernel)⟩,
   ⟨5, 5, 7, up .operate [], by (unfold Calm; decide +kernel)⟩,
   ⟨5, { up .operate [] with safe := { Safe.init with log := setNth Safe.init.log 2 (some ⟨3, 0x17, 5, true, true, false, true, false, 1, 0, 0, 0⟩) } }, by decide +kernel⟩,
   ⟨5, 127, up .operate [], by (unfold Calm; decide +kernel)⟩,
   ⟨5, 127, { up .operate [(K 0x8500 1, 1)] with safe := { Safe.init with latentAt := some 3 } }, by decide +kernel⟩⟩

theorem witness_GuardrailInputs :
    (∃ (dt : Nat) (src : GcSrc) (f : GFrame) (n : Nat) (s : State), (s.tick dt).accepts src n 1 [] f = true ∧ n < 16 ∧ s.upd.waits = none) ∧
    (∃ (dt : Nat) (src : GcSrc) (f : GFrame) (n : Nat) (s : State), (s.tick dt).accepts src n 2 [] f = true ∧ n < 16 ∧ s.upd.waits = none) ∧
    (∃ (dt : Nat) (src : GcSrc) (f : GFrame) (n : Nat) (s : State), (s.tick dt).accepts src n 3 [] f = true ∧ n < 16 ∧ s.upd.waits = none) ∧
    (∃ (dt : Nat) (src : GcSrc) (f : GFrame) (n : Nat) (s : State), s.carries src = true ∧ (s.tick dt).guardMatch src = some n ∧ (s.tick
      dt).guardReason n src (guardBytes f 1 []) ≠ 0 ∧ Calm s [(0x11, 3), (0x11, 5), (0x11, 6)] ∧ n < 16) ∧
    (∃ (dt : Nat) (net : Nat) (hi : Nat) (lo : Nat) (port : Nat) (f : GFrame) (s : State), s.carries (.udp net hi lo port) = true ∧
      s.guardMatch (.udp net hi lo port) = none ∧ s.upd.waits = none) ∧
    (∃ (dt : Nat) (src : GcSrc) (f : GFrame) (s : State), s.carries src = false ∧ s.upd.waits = none) :=
  ⟨⟨5, gsrc, gf (gcS .operate 15 []) 15 1 [] [0x12, 0x34, 1, 1, 0, 0], 15, gcS .operate 15 [], by decide +kernel⟩,
   ⟨5, gsrc, gf (gcS .operate 15 []) 15 2 [] [5, 1, 0, 9, 0, 1, 0, 1, 0, 9, 1, 1], 15, gcS .operate 15 [], by decide +kernel⟩,
   ⟨5, gsrc, gf (gcS .operate 3 []) 3 3 [] [15, 2], 3, gcS .operate 3 [], by decide +kernel⟩,
   ⟨5, gsrc, gf (gcS .operate 3 []) 3 1 [] [0x12, 0x34, 1, 1, 0, 7], 3, gcS .operate 3 [], by (unfold Calm; decide +kernel)⟩,
   ⟨5, 0, 0, 5, 6, gf (gcS .operate 3 []) 3 1 [] [15, 2], gcS .operate 3 [], by decide +kernel⟩,
   ⟨5, .can 1 5, gf (gcS .operate 3 []) 3 1 [] [15, 2], up .operate [], by decide +kernel⟩⟩

theorem witness_GuardrailCommands :
    (∃ (dt : Nat) (src : GcSrc) (f : GFrame) (n : Nat) (s : State), (s.tick dt).accepts src n 4 [] f = true ∧ n < 16 ∧ s.upd.waits = none
      ∧ s.get (K 0x8600 3) ≠ 2) ∧
    (∃ (dt : Nat) (src : GcSrc) (f : GFrame) (n : Nat) (s : State), (s.tick dt).accepts src n 5 [1] f = true ∧ n < 16 ∧ Calm s [(0x12,
      0x0E)] ∧ byteAt f.payload 0 ≠ 0) ∧
    (∃ (dt : Nat) (src : GcSrc) (f : GFrame) (n : Nat) (s : State), (s.tick dt).accepts src n 5 [2] f = true ∧ n < 16 ∧ Calm s [(0x12,
      0x0E)] ∧ ((∀ i ∈ List.range 4, s.mayRelease i = true))) ∧
    (∃ (dt : Nat) (src : GcSrc) (f : GFrame) (n : Nat) (s : State), (s.tick dt).accepts src n 6 [1] f = true ∧ n < 16 ∧ s.upd.waits =
      none) ∧
    (∃ (dt : Nat) (src : GcSrc) (f : GFrame) (n : Nat) (s : State), (s.tick dt).accepts src n 6 [2] f = true ∧ n < 16 ∧ s.upd.waits = none
      ∧ ((∀ a ∈ List.range 4, s.torqueMayRelease a = true)) ∧ s.lpe.stoHighSince + 1000000 ≤ s.now) ∧
    (∃ (dt : Nat) (src : GcSrc) (f : GFrame) (n : Nat) (e : Ent) (s : State), (s.tick dt).accepts src n 7 [] f = true ∧ n < 16 ∧
      s.upd.waits = none ∧ findEnt (beAt f.payload 0 3) = some e ∧ e.acc = .sw ∧ rangeOk e (be (f.payload.drop 4)) = true ∧ K 0x8020 1 ≤
      beAt f.payload 0 3 ∧ beAt f.payload 0 3 ≤ K 0x8020 3 ∧ ((∀ m ∈ List.range 16, s.consumer m = true → s.permits m 1 = false))) ∧
    (∃ (dt : Nat) (src : GcSrc) (f : GFrame) (n : Nat) (s : State), (s.tick dt).accepts src n 7 [] f = true ∧ n < 16 ∧ Calm s [(0x12,
      0x0E)] ∧ beAt f.payload 0 3 = K 0x8010 3 ∧ 1 ≤ be (f.payload.drop 4) ∧ be (f.payload.drop 4) ≤ 15) ∧
    (∃ (dt : Nat) (src : GcSrc) (f : GFrame) (n : Nat) (e : Ent) (s : State), (s.tick dt).accepts src n 7 [] f = true ∧ n < 16 ∧
      s.upd.waits = none ∧ findEnt (beAt f.payload 0 3) = some e ∧ e.acc ≠ .sw) ∧
    (∃ (dt : Nat) (src : GcSrc) (f : GFrame) (n : Nat) (s : State), (s.tick dt).accepts src n 8 [] f = true ∧ n < 16 ∧ s.upd.waits = none
      ∧ 1 ≤ byteAt f.payload 0 ∧ byteAt f.payload 0 ≤ 64 ∧ ((∀ x ∈ s.logEntry (byteAt f.payload 0), x.src ≠ 0x11)) ∧ s.logEntry (byteAt
      f.payload 0) ≠ none) ∧
    (∃ (dt : Nat) (src : GcSrc) (f : GFrame) (n : Nat) (s : State), (s.tick dt).accepts src n 8 [0xFF] f = true ∧ n < 16 ∧ s.upd.waits =
      none) :=
  ⟨⟨5, gsrc, gf (gcS .operate 3 []) 3 4 [] [0, 0, 0, 1, 0, 0, 0, 0, 0, 0, 0, 0], 3, gcS .operate 3 [], by decide +kernel⟩,
   ⟨5, gsrc, gf (gcS .operate 3 []) 3 5 [1] [3], 3, gcS .operate 3 [(K 0x8010 1, 4)], by (unfold Calm; decide +kernel)⟩,
   ⟨5, gsrc, gf (gcS .operate 3 []) 3 5 [2] [5], 3, { gcS .safe 3 [(K 0x8010 1, 5)] with now := 1000000 }, by (unfold Calm; decide +kernel)⟩,
   ⟨5, gsrc, gf (gcS .operate 3 []) 3 6 [1] [15], 3, gcS .operate 3 [(K 0x6030 3, 1)], by decide +kernel⟩,
   ⟨5, gsrc, gf (gcS .operate 3 []) 3 6 [2] [5], 3, { gcS .operate 3 [(K 0x6000 5, 15)] with now := 1000000 }, by decide +kernel⟩,
   ⟨5, gsrc, gf (gcS0 .operate 3) 3 7 [] [0x80, 0x20, 1, 0, 1, 2], 3, ((findEnt (K 0x8020 1)).getD (entHigh ⟨0, 1, 1, []⟩)), gcS0 .operate 3, by decide +kernel⟩,
   ⟨5, gsrc, gf (gcS .operate 3 []) 3 7 [] [0x80, 0x10, 3, 0, 9], 3, gcS .operate 3 [], by (unfold Calm; decide +kernel)⟩,
   ⟨5, gsrc, gf (gcS .operate 3 []) 3 7 [] [0x20, 0x00, 1, 0, 1], 3, ((findEnt (K 0x2000 1)).getD (entHigh ⟨0, 1, 1, []⟩)), gcS .operate 3 [], by decide +kernel⟩,
   ⟨5, gsrc, gf (gcS .operate 3 []) 3 8 [] [2, 0], 3, { gcS .operate 3 [] with safe := { (gcS .operate 3 []).safe with log := setNth Safe.init.log 1 (some ⟨3, 4, 5, true, true, true, true, false, 1, 0, 0, 0⟩) } }, by decide +kernel⟩,
   ⟨5, gsrc, gf (gcS .operate 3 []) 3 8 [0xFF] [0], 3, { gcS .operate 3 [] with safe := { (gcS .operate 3 []).safe with log := setNth Safe.init.log 1 (some ⟨3, 4, 5, false, true, true, true, false, 1, 0, 0, 0⟩) } }, by decide +kernel⟩⟩

theorem witness_GuardrailTime :
    (∃ (dt : Nat) (n : Fin 16) (s : State), s.consumer n = true ∧ s.connValid n = true ∧ (s.conn n).since + s.act (K (0x1400 + n) 0x0E) *
      1000000 ≤ s.now + dt ∧ Calm s [(0x11, 4)]) ∧
    (∃ (dt : Nat) (n : Fin 16) (s : State), s.ssvOn = true ∧ s.get (K (0x1400 + n) 0x12) ≠ 0 ∧ s.act (K (0x1400 + n) 2) = 1 ∧ s.act (K
      (0x1400 + n) 3) = 0 ∧ (s.conn n).since + s.act (K (0x1400 + n) 0x0E) * 1000000 ≤ s.now + dt ∧ s.upd.waits = none) ∧
    (∃ (dt : Nat) (n : Fin 16) (ctl : Fin 4) (s : State), s.ssvOn = true ∧ s.get (K (0x1400 + n) 0x12) ≠ 0 ∧ s.act (K (0x1400 + n) 2) = 1
      ∧ s.act (K (0x1400 + n) 3) = 0x10 + ctl.val ∧ (s.conn n).since + s.act (K (0x1400 + n) 0x0E) * 1000000 ≤ s.now + dt ∧ s.upd.waits =
      none) :=
  ⟨⟨20000000, 15, (let n : Fin 16 := 15; gcS .operate n [(K (0x1400 + n) 0x12, 2)]), by (unfold Calm; decide +kernel)⟩,
   ⟨20000000, 15, (let n : Fin 16 := 15; (gcS .operate n []).putAct [(K (0x1400 + n) 2, 1)]), by decide +kernel⟩,
   ⟨20000000, 15, 2, (let n : Fin 16 := 15; (gcS .operate n []).putAct [(K (0x1400 + n) 2, 1), (K (0x1400 + n) 3, 0x12)]), by decide +kernel⟩⟩

theorem witness_TwinBeatsAndClaims :
    (∃ (dt : Nat) (s : State), s.beats = true ∧ s.upd.waits = none) ∧
    (∃ (dt : Nat) (s : State), s.beats = false ∧ s.upd.waits = none) ∧
    (∃ (dt : Nat) (head : Nat) (a : Nat) (b : Nat) (crc : Nat) (p : Partner) (s : State), s.twlOk 1 head [a, b] crc 2 2 = true ∧
      s.tw.lastTwl.any (fun l => decide (s.now + dt ≤ l + 150000)) = true ∧ s.tw.partner = some p ∧ (p.role = 0 → field a 23 16 ≠ 2) ∧
      s.upd.waits = none) ∧
    (∃ (dt : Nat) (head : Nat) (words : List Nat) (crc : Nat) (s : State), s.twlOk 1 head words crc 2 2 = false ∧ s.upd.waits = none) ∧
    (∃ (dt : Nat) (a : Nat) (s : State), s.tw.lastIn = some a ∧ a + 50000 ≤ s.now + dt ∧ s.now + dt ≤ a + 150000 ∧ s.twinOn = true ∧
      s.upd.waits = none) ∧
    (∃ (dt : Nat) (a : Nat) (s : State), s.tw.lastIn = some a ∧ (s.now + dt < a + 50000 ∨ a + 150000 < s.now + dt) ∧ s.twinOn = true ∧
      s.upd.waits = none) ∧
    (∃ (dt : Nat) (a : Nat) (s : State), s.twinOn = true ∧ s.tw.lastTwl = some a ∧ a + 300000 ≤ s.now + dt ∧ s.get (K 0x8600 7) = 3 ∧ Calm
      s [(0x1A, 7)]) ∧
    (∃ (dt : Nat) (a : Nat) (p : Partner) (s : State), s.twinOn = true ∧ s.tw.lastTwl = some a ∧ a + 300000 ≤ s.now + dt ∧ s.get (K 0x8600
      7) = 1 ∧ s.tw.partner = some p ∧ p.role ≠ 1 ∧ Calm s [(0x1A, 4)]) ∧
    (∃ (dt : Nat) (b : Fin 2) (s : State), (s.twinOn = false ∨ bit (s.get (K 0x8600 7)) b = false) ∧ s.upd.waits = none) ∧
    (∃ (dt : Nat) (s : State), s.twinOn = true ∧ s.tw.claimOut = false ∧ s.tw.offerIn = false ∧ s.upd.waits = none) ∧
    (∃ (dt : Nat) (s : State), s.twinOn = true ∧ s.tw.claimOut = true ∧ s.upd.waits = none) ∧
    (∃ (dt : Nat) (s : State), s.twinOn = true ∧ s.tw.claimOut = false ∧ s.get (K 0x8600 3) = 1 ∧ s.mode = .operate ∧ Steady s) ∧
    (∃ (dt : Nat) (s : State), (s.tw.claimIn = true ∨ s.tw.offerIn = true ∨ s.twinOn = false ∨ s.get (K 0x8600 3) ≠ 2) ∧ s.upd.waits =
      none) ∧
    (∃ (dt : Nat) (s : State), s.tw.claimIn = false ∧ s.tw.claimInAt + 18000 ≤ s.now + dt ∧ s.tw.offerIn = false ∧ s.twinOn = true ∧
      s.tw.claimOut = false ∧ s.get (K 0x8600 3) = 2 ∧ (s.tick dt).readiness = 0x3FF ∧ s.mode = .standby ∧ Steady s) ∧
    (∃ (dt : Nat) (s : State), s.twinOn = true ∧ s.tw.claimOut = true ∧ s.tw.claimIn = true ∧ max s.tw.claimAt s.tw.claimInAt + 48000 ≤
      s.now + dt ∧ s.tw.meets = true ∧ s.get (K 0x8600 3) = 2 ∧ Calm s [(0x1A, 0x0B)]) ∧
    (∃ (dt : Nat) (s : State), s.twinOn = true ∧ s.tw.claimOut = true ∧ s.tw.claimIn = true ∧ max s.tw.claimAt s.tw.claimInAt + 48000 ≤
      s.now + dt ∧ s.tw.meets = true ∧ s.get (K 0x8600 3) ≠ 2 ∧ Steady s) ∧
    (∃ (dt : Nat) (s : State), s.twinOn = true ∧ s.tw.claimOut = true ∧ s.tw.claimIn = true ∧ max s.tw.claimAt s.tw.claimInAt + 48000 ≤
      s.now + dt ∧ s.tw.meets = false ∧ s.tw.contested = true ∧ s.tw.ident = 1 ∧ Steady s) ∧
    (∃ (dt : Nat) (s : State), (s.twinOn = false ∨ s.tw.claimOut = false ∨ s.tw.claimIn = false) ∧ s.upd.waits = none) ∧
    (∃ (dt : Nat) (s : State), s.tw.single = false ∧ s.tw.lastEdge + 240000 ≤ s.now + dt ∧ s.upd.waits = none) ∧
    (∃ (dt : Nat) (s : State), (s.tw.single = true ∨ s.now + dt < s.tw.lastEdge + 240000) ∧ s.upd.waits = none) ∧
    (∃ (dt : Nat) (s : State), s.twinOn = true ∧ s.tw.ident = 1 ∧ 7 ≤ s.sys.bootStep ∧ s.tw.step7At + 20000000 ≤ s.now + dt ∧ s.tw.claimIn
      = false ∧ s.tw.claimOut = false ∧ s.get (K 0x8600 3) = 0 ∧ s.mode = .preop ∧ s.aliveStop = 0 ∧ s.upd.waits = none) ∧
    (∃ (dt : Nat) (s : State), (s.tw.ident = 0 ∨ s.tw.claimIn = true) ∧ s.upd.waits = none) ∧
    (∃ (dt : Nat) (i : Fin 4) (s : State), s.twinOn = true ∧ s.get (K 0x8600 3) = 1 ∧ capable (s.get (K 0x8600 6)) = true ∧ Calm s [(0x1A,
      9)]) ∧
    (∃ (dt : Nat) (i : Fin 4) (s : State), s.twinOn = true ∧ s.get (K 0x8600 3) = 1 ∧ capable (s.get (K 0x8600 6)) = false ∧ s.srcOn i =
      true ∧ Steady s) ∧
    (∃ (dt : Nat) (s : State), ((∀ p ∈ s.tl.ports, p.unans = [])) ∧ ((∀ i ∈ List.range 4, s.srcType i ≠ 3)) ∧ s.upd.waits = none) :=
  ⟨⟨5, twS .operate 1 id, by decide +kernel⟩,
   ⟨5, up .operate [], by decide +kernel⟩,
   ⟨5, twH 1 2 1, 2 ^ 32 * 7 + 2 ^ 24 * 3 + 2 ^ 16 + 0x3FF, 99, (let head : Nat := twH 1 2 1; let a : Nat := 2 ^ 32 * 7 + 2 ^ 24 * 3 + 2 ^ 16 + 0x3FF; let b : Nat := 99; packetCrc head [a, b]), part0, (let p : Partner := part0; twS .operate 1 fun t => { t with partner := some p, runTwl := 9, lastTwl := some 0 }), by decide +kernel⟩,
   ⟨5, twH 1 2 1, [1, 2], 0, twS .operate 1 id, by decide +kernel⟩,
   ⟨100000, 3, (let a : Nat := 3; twS .operate 1 fun t => { t with lastIn := some a, runIn := 9 }), by decide +kernel⟩,
   ⟨200000, 3, (let a : Nat := 3; twS .operate 1 fun t => { t with lastIn := some a, runIn := 9 }), by decide +kernel⟩,
   ⟨300000, 0, (let a : Nat := 0; (twS .operate 1 fun t => { t with lastTwl := some a }).set (K 0x8600 7) 3), by (unfold Calm; decide +kernel)⟩,
   ⟨300000, 0, { part0 with role := 2 }, (let a : Nat := 0; let p : Partner := { part0 with role := 2 }; (twS .operate 1 fun t => { t with lastTwl := some a, partner := some p }).set (K 0x8600 7) 1), by (unfold Calm; decide +kernel)⟩,
   ⟨300000, 1, twS .operate 1 id, by decide +kernel⟩,
   ⟨5, twS .preop 2 fun t => { t with claimIn := true, blocked := true }, by decide +kernel⟩,
   ⟨5, twS .operate 1 fun t => { t with claimOut := true }, by decide +kernel⟩,
   ⟨5, twS .operate 1 id, by (unfold Steady; decide +kernel)⟩,
   ⟨5, twS .standby 2 fun t => { t with claimIn := true }, by decide +kernel⟩,
   ⟨99999999, (readyTw .standby 2 id), by (unfold Steady; decide +kernel)⟩,
   ⟨50000, twS .standby 2 fun t => { t with claimOut := true, claimIn := true, meets := true }, by (unfold Calm; decide +kernel)⟩,
   ⟨50000, twS .operate 1 fun t => { t with claimOut := true, claimIn := true, meets := true }, by (unfold Steady; decide +kernel)⟩,
   ⟨50000, twS .operate 1 fun t => { t with claimOut := true, claimIn := true, contested := true, ident := 1 }, by (unfold Steady; decide +kernel)⟩,
   ⟨50000, twS .operate 1 id, by decide +kernel⟩,
   ⟨240000, twS .operate 1 fun t => { t with claimOut := true }, by decide +kernel⟩,
   ⟨5, twS .operate 1 id, by decide +kernel⟩,
   ⟨20000000, (let s := (twS .preop 0 fun t => { t with ident := 1 }); { s with comp := readyS.comp }.set (K 0x4100 8) 1), by decide +kernel⟩,
   ⟨20000000, twS .preop 0 id, by decide +kernel⟩,
   ⟨5, 3, (twS .operate 1 id).set (K 0x8600 6) 0x3FF, by (unfold Calm; decide +kernel)⟩,
   ⟨5, 0, (twS .operate 1 id).putAct [(K 0x4330 1, 1)], by (unfold Steady; decide +kernel)⟩,
   ⟨5, up .preop [], by decide +kernel⟩⟩

theorem witness_TwinCopies :
    (∃ (dt : Nat) (frame : Nat) (cfg : Nat) (kseq : Nat) (cls : Nat) (body : CopyBody) (p : Partner) (s : State), s.twinOn = true ∧ s.get
      (K 0x8600 3) = 2 ∧ s.tw.partner = some p ∧ Steady s) ∧
    (∃ (dt : Nat) (frame : Nat) (cfg : Nat) (kseq : Nat) (cls : Nat) (rb : Nat) (torque : Nat) (body : CopyBody) (i : Fin 4) (s : State),
      s.twinOn = true ∧ s.get (K 0x8600 3) = 2 ∧ bit rb i = true ∧ s.srcOn i = true ∧ Steady s) ∧
    (∃ (dt : Nat) (ok_ : Bool) (frame : Nat) (cfg : Nat) (kseq : Nat) (cls : Nat) (rb : Nat) (torque : Nat) (body : CopyBody) (s : State),
      (ok_ = false ∨ s.twinOn = false ∨ s.get (K 0x8600 3) ≠ 2) ∧ s.upd.waits = none) ∧
    (∃ (dt : Nat) (landing : Nat) (item : Nat) (vals : List (Nat × Nat)) (doms : List (Nat × List Byte)) (s : State), s.twinOn = true ∧
      s.get (K 0x8600 3) = 2 ∧ s.upd.waits = none) ∧
    (∃ (dt : Nat) (ok_ : Bool) (landing : Nat) (item : Nat) (vals : List (Nat × Nat)) (doms : List (Nat × List Byte)) (s : State), (ok_ =
      false ∨ s.twinOn = false ∨ s.get (K 0x8600 3) ≠ 2) ∧ s.upd.waits = none) ∧
    (∃ (dt : Nat) (head : Nat) (words : List Nat) (crc : Nat) (own : List Nat) (s : State), s.twlOk 4 head words crc 4 4 = true ∧ mapGet
      s.tw.sigs (head % 2 ^ 32) = some own ∧ own = words ∧ s.upd.waits = none) ∧
    (∃ (dt : Nat) (head : Nat) (a : Nat) (b : Nat) (c : Nat) (d : Nat) (e : Nat) (f : Nat) (crc : Nat) (own : List Nat) (s : State),
      s.twlOk 4 head [a, b, c, d] crc 4 4 = true ∧ mapGet s.tw.sigs (head % 2 ^ 32) = some own ∧ own = [e, f, c, d] ∧ (a + 2 ^ 64 - e) % 2
      ^ 32 = 0 ∧ b % 2 ^ 32 = f % 2 ^ 32 ∧ a / 2 ^ 32 % 2 ^ 32 ≠ e / 2 ^ 32 % 2 ^ 32 ∧ a < 2 ^ 64 ∧ e < 2 ^ 64 ∧ Calm s [(0x1A, 3)]) ∧
    (∃ (dt : Nat) (head : Nat) (words : List Nat) (crc : Nat) (s : State), (s.twlOk 4 head words crc 4 4 = false ∨ s.tw.sigs = []) ∧
      s.upd.waits = none) ∧
    (∃ (dt : Nat) (head : Nat) (words : List Nat) (crc : Nat) (k : KerbRx) (s : State), s.twlOk 7 head words crc 1 512 = true ∧ s.get (K
      0x8600 3) = 2 ∧ s.tw.kerb = some k ∧ k.bytes.length + 8 * words.length < k.len ∧ s.upd.waits = none) ∧
    (∃ (dt : Nat) (head : Nat) (words : List Nat) (crc : Nat) (s : State), (s.twlOk 7 head words crc 1 512 = false ∨ s.get (K 0x8600 3) ≠
      2) ∧ s.upd.waits = none) ∧
    (∃ (dt : Nat) (head : Nat) (words : List Nat) (crc : Nat) (s : State), s.twlOk 6 head words crc 1 512 = true ∧ s.get (K 0x8600 3) = 2
      ∧ s.upd.waits = none) ∧
    (∃ (dt : Nat) (head : Nat) (words : List Nat) (crc : Nat) (s : State), (s.twlOk 6 head words crc 1 512 = false ∨ s.get (K 0x8600 3) ≠
      2) ∧ s.upd.waits = none) ∧
    (∃ (dt : Nat) (k : Nat) (v : Nat) (doms : List (Nat × List Byte)) (cells : List (Nat × Byte)) (maps : List (List (Nat × Nat) × List
      (Nat × Nat))) (s : State), s.tw.bulk = true ∧ s.get (K 0x8600 3) = 2 ∧ 0x3000 ≤ k / 256 ∧ k / 256 ≤ 0x7FFF ∧ v < 2 ^ widthOf k ∧
      Steady s ∧ s.domState 0x25 = 0) ∧
    (∃ (dt : Nat) (vals : List (Nat × Nat)) (doms : List (Nat × List Byte)) (cells : List (Nat × Byte)) (maps : List (List (Nat × Nat) ×
      List (Nat × Nat))) (s : State), (s.tw.bulk = false ∨ s.get (K 0x8600 3) ≠ 2) ∧ s.upd.waits = none) ∧
    (∃ (dt : Nat) (img : KerbImg) (s : State), s.comp.kerb.loading = some img ∧ s.comp.kerb.active < 2 ∧ s.upd.waits = none) ∧
    (∃ (dt : Nat) (s : State), s.comp.kerb.loading = none ∧ s.upd.waits = none) :=
  ⟨⟨5, 7, 8, 9, 10, bodyW 0, part0, (let p : Partner := part0; twS .standby 2 fun t => { t with partner := some p }), by (unfold Steady; decide +kernel)⟩,
   ⟨5, 7, 8, 9, 10, 15, 3, bodyW 2, 0, (twS .standby 2 id).putAct [(K 0x4330 1, 1)], by (unfold Steady; decide +kernel)⟩,
   ⟨5, true, 7, 8, 9, 10, 1, 1, bodyW 1, twS .operate 1 id, by decide +kernel⟩,
   ⟨5, 0x80000005, K 0x3400 0x14, [(5, 6)], [(7, [8])], twS .standby 2 id, by decide +kernel⟩,
   ⟨5, true, 9, K 0x3400 0x14, [(5, 6)], [(7, [8])], twS .operate 1 id, by decide +kernel⟩,
   ⟨5, twH 4 4 9, [1, 2, 3, 4], (let head : Nat := twH 4 4 9; let words : List Nat := [1, 2, 3, 4]; packetCrc head words), [1, 2, 3, 4], (let own : List Nat := [1, 2, 3, 4]; twS .operate 1 fun t => { t with sigs := [(9, own)], sigRun := 2 }), by decide +kernel⟩,
   ⟨5, twH 4 4 9, 2 ^ 32 + 1, 2, 3, 4, 1, 2, (let head : Nat := twH 4 4 9; let a : Nat := 2 ^ 32 + 1; let b : Nat := 2; let c : Nat := 3; let d : Nat := 4; packetCrc head [a, b, c, d]), (let c : Nat := 3; let d : Nat := 4; let e : Nat := 1; let f : Nat := 2; [e, f, c, d]), (let c : Nat := 3; let d : Nat := 4; let e : Nat := 1; let f : Nat := 2; let own : List Nat := [e, f, c, d]; twS .operate 1 fun t => { t with sigs := [(9, own)], sigRun := 1, agreed := 7 }), by (unfold Calm; decide +kernel)⟩,
   ⟨5, twH 4 4 9, [1, 2, 3, 4], (let head : Nat := twH 4 4 9; let words : List Nat := [1, 2, 3, 4]; packetCrc head words), twS .operate 1 id, by decide +kernel⟩,
   ⟨5, twH 7 1 9, [1], (let head : Nat := twH 7 1 9; let words : List Nat := [1]; packetCrc head words), ⟨1, 100, 3, 4, [5]⟩, (let k : KerbRx := ⟨1, 100, 3, 4, [5]⟩; twS .standby 2 fun t => { t with kerb := some k }), by decide +kernel⟩,
   ⟨5, twH 7 1 9, [1], (let head : Nat := twH 7 1 9; let words : List Nat := [1]; packetCrc head words), twS .operate 1 id, by decide +kernel⟩,
   ⟨5, twH 6 1 9, [1], (let head : Nat := twH 6 1 9; let words : List Nat := [1]; packetCrc head words), twS .standby 2 id, by decide +kernel⟩,
   ⟨5, twH 6 1 9, [1], (let head : Nat := twH 6 1 9; let words : List Nat := [1]; packetCrc head words), twS .operate 1 id, by decide +kernel⟩,
   ⟨5, K 0x3010 2, 1, [(9, [1])], [(7, 8)], [([(1, 2)], []), ([], []), ([], [(3, 4)])], twS .standby 2 fun t => { t with bulk := true }, by (unfold Steady; decide +kernel)⟩,
   ⟨5, [], [], [], [], twS .standby 2 id, by decide +kernel⟩,
   ⟨5, ⟨1, 2, [], [5]⟩, (let img : KerbImg := ⟨1, 2, [], [5]⟩; { readyS with comp := { readyS.comp with kerb := { readyS.comp.kerb with loading := some img, banks := [⟨img, []⟩, ⟨img, []⟩] } } }), by decide +kernel⟩,
   ⟨5, readyS, by decide +kernel⟩⟩

theorem witness_Handover :
    (∃ (dt : Nat) (rq : Rq) (s : State), Served s dt rq (K 0x8600 9) 1 ∧ s.get (K 0x8600 3) = 1 ∧ s.mode = .operate ∧ (s.tick
      dt).readiness = 0x3FF ∧ s.get (K 0x8600 6) = 0x3FF) ∧
    (∃ (dt : Nat) (rq : Rq) (s : State), Served s dt rq (K 0x8600 9) 1 ∧ (s.get (K 0x8600 3) ≠ 1 ∨ s.mode ≠ .operate)) ∧
    (∃ (dt : Nat) (rq : Rq) (s : State), Served s dt rq (K 0x8600 9) 1 ∧ s.get (K 0x8600 3) = 1 ∧ s.mode = .operate ∧ (s.tick
      dt).readiness ≠ 0x3FF) ∧
    (∃ (dt : Nat) (s : State), s.twinOn = true ∧ s.get (K 0x8600 8) ≠ 0 ∧ s.tw.drillAt = none ∧ s.get (K 0x8600 3) = 1 ∧ (s.tick
      dt).handoverRefused = none ∧ s.upd.waits = none) ∧
    (∃ (dt : Nat) (s : State), s.twinOn = true ∧ s.get (K 0x8600 8) ≠ 0 ∧ s.tw.drillAt = none ∧ s.get (K 0x8600 3) = 1 ∧ (s.tick
      dt).handoverRefused ≠ none ∧ s.upd.waits = none) ∧
    (∃ (dt : Nat) (s : State), (s.twinOn = false ∨ s.get (K 0x8600 8) = 0 ∨ s.get (K 0x8600 3) ≠ 1) ∧ s.upd.waits = none) ∧
    (∃ (dt : Nat) (head : Nat) (w : Nat) (crc : Nat) (s : State), s.twlOk 5 head [w] crc 1 1 = true ∧ field head 31 24 = 1 ∧ s.get (K
      0x8600 3) = 2 ∧ s.mode = .standby ∧ (s.tick dt).readiness = 0x3FF ∧ s.upd.waits = none) ∧
    (∃ (dt : Nat) (head : Nat) (w : Nat) (crc : Nat) (s : State), s.twlOk 5 head [w] crc 1 1 = true ∧ field head 31 24 = 1 ∧ s.get (K
      0x8600 3) = 2 ∧ (s.tick dt).readiness ≠ 0x3FF ∧ s.upd.waits = none) ∧
    (∃ (dt : Nat) (head : Nat) (w : Nat) (crc : Nat) (s : State), s.twlOk 5 head [w] crc 1 1 = true ∧ field head 31 24 = 2 ∧ s.tw.offerOut
      = true ∧ s.upd.waits = none) ∧
    (∃ (dt : Nat) (head : Nat) (words : List Nat) (crc : Nat) (s : State), s.tw.offerOut = false ∧ s.upd.waits = none) ∧
    (∃ (dt : Nat) (head : Nat) (w : Nat) (crc : Nat) (s : State), s.twlOk 5 head [w] crc 1 1 = true ∧ field head 31 24 = 3 ∧ s.tw.offerOut
      = true ∧ s.upd.waits = none) ∧
    (∃ (dt : Nat) (head : Nat) (words : List Nat) (crc : Nat) (s : State), s.tw.offerOut = false ∧ s.upd.waits = none) :=
  ⟨⟨5, rq1, readyTw .operate 1 id, by (unfold Served; decide +kernel)⟩,
   ⟨5, rq1, up .operate [], by (unfold Served; decide +kernel)⟩,
   ⟨5, rq1, twS .operate 1 id, by (unfold Served; decide +kernel)⟩,
   ⟨5, (readyTw .operate 1 id).set (K 0x8600 8) 5, by decide +kernel⟩,
   ⟨5, (twS .operate 1 id).set (K 0x8600 8) 5, by decide +kernel⟩,
   ⟨5, (twS .operate 1 id).set (K 0x8600 8) 0, by decide +kernel⟩,
   ⟨5, twH 5 1 0x01000000, 7, (let head : Nat := twH 5 1 0x01000000; let w : Nat := 7; packetCrc head [w]), readyTw .standby 2 id, by decide +kernel⟩,
   ⟨5, twH 5 1 0x01000000, 7, (let head : Nat := twH 5 1 0x01000000; let w : Nat := 7; packetCrc head [w]), twS .standby 2 id, by decide +kernel⟩,
   ⟨5, twH 5 1 0x02000000, 7, (let head : Nat := twH 5 1 0x02000000; let w : Nat := 7; packetCrc head [w]), twS .operate 1 fun t => { t with offerOut := true }, by decide +kernel⟩,
   ⟨5, twH 5 1 0x02000000, [7], (let head : Nat := twH 5 1 0x02000000; let words : List Nat := [7]; packetCrc head words), twS .operate 1 id, by decide +kernel⟩,
   ⟨5, twH 5 1 0x03000000, 7, (let head : Nat := twH 5 1 0x03000000; let w : Nat := 7; packetCrc head [w]), twS .operate 1 fun t => { t with offerOut := true, wanted := true }, by decide +kernel⟩,
   ⟨5, twH 5 1 0x03000000, [7], (let head : Nat := twH 5 1 0x03000000; let words : List Nat := [7]; packetCrc head words), twS .operate 1 id, by decide +kernel⟩⟩

theorem witness_TimePulses :
    (∃ (dt : Nat) (rq : Rq) (n : Fin 4) (s : State), Served s dt rq (K (0x71A0 + n) 1) 1 ∧ (n.val = 3 → s.claimBlock [0x9A] 0x603 = none)
      ∧ (s.tick dt).timeNs + 10000 ≤ s.get (K (0x71A0 + n) 2)) ∧
    (∃ (dt : Nat) (rq : Rq) (n : Fin 4) (s : State), Served s dt rq (K (0x71A0 + n) 1) 1 ∧ s.get (K (0x71A0 + n) 2) < (s.tick dt).timeNs +
      10000) ∧
    (∃ (dt : Nat) (rq : Rq) (n : Fin 4) (s : State), Served s dt rq (K (0x71A0 + n) 1) 2 ∧ (n.val = 3 → s.claimBlock [0x9A] 0x603 = none)) ∧
    (∃ (dt : Nat) (rq : Rq) (r : Nat) (s : State), Served s dt rq (K 0x71A3 1) 2 ∧ s.claimBlock [0x9A] 0x603 = some r) ∧
    (∃ (dt : Nat) (rq : Rq) (n : Fin 4) (s : State), Served s dt rq (K (0x71A0 + n) 1) 0) ∧
    (∃ (dt : Nat) (n : Fin 4) (a : Nat) (s : State), (s.tpo n).next = some a ∧ (s.tpo n).endAt = none ∧ a ≤ (s.tick dt).timeNs ∧
      s.upd.waits = none ∧ s.domState 0x21 = 0) ∧
    (∃ (dt : Nat) (n : Fin 4) (a : Nat) (s : State), (s.tpo n).next = some a ∧ (s.tpo n).endAt = none ∧ (s.tick dt).timeNs < a ∧
      s.upd.waits = none) :=
  ⟨⟨5, rq1, 3, (let n : Fin 4 := 3; up .operate [(K (0x71A0 + n) 2, 999999)]), by (unfold Served; decide +kernel)⟩,
   ⟨5, rq1, 3, (let n : Fin 4 := 3; up .operate [(K (0x71A0 + n) 2, 5000)]), by (unfold Served; decide +kernel)⟩,
   ⟨5, rq1, 3, (let n : Fin 4 := 3; up .operate [(K (0x71A0 + n) 2, 5000), (K (0x71A0 + n) 3, 100000)]), by (unfold Served; decide +kernel)⟩,
   ⟨5, rq1, 0x9A, (up .operate [(K 0x71A3 2, 5000), (K 0x71A3 3, 100000)]).owned [0x9A] 0x501, by (unfold Served; decide +kernel)⟩,
   ⟨5, rq1, 3, (let n : Fin 4 := 3; (tpoS n { Tpo.init with next := some 9, period := 100, width := 7 }).owned [0x9A] 0x603), by (unfold Served; decide +kernel)⟩,
   ⟨10, 3, 9, (let n : Fin 4 := 3; tpoS n { Tpo.init with next := some 9, period := 100, width := 7 }), by decide +kernel⟩,
   ⟨5, 3, 9, (let n : Fin 4 := 3; tpoS n { Tpo.init with next := some 9, period := 100, width := 7 }), by decide +kernel⟩⟩

theorem witness_TimeUnit :
    (∃ (dt : Nat) (p : Fin 2) (domain : Nat) (seq : Nat) (li : Int) (s : State), s.slavePort = some p.val ∧ domain = s.act (K 0x7180 2) ∧
      s.upd.waits = none ∧ s.netUp p = true ∧ s.domState 0x21 = 0) ∧
    (∃ (dt : Nat) (p : Fin 2) (domain : Nat) (seq : Nat) (li : Int) (s : State), s.slavePort = some p.val ∧ domain = s.act (K 0x7180 2) ∧
      s.upd.waits = none ∧ s.netUp p = true ∧ s.domState 0x21 = 0) ∧
    (∃ (dt : Nat) (p : Fin 2) (domain : Nat) (seq : Nat) (two : Bool) (li : Int) (s : State), (s.slavePort ≠ some p.val ∨ domain ≠ s.act
      (K 0x7180 2)) ∧ s.upd.waits = none) ∧
    (∃ (dt : Nat) (p : Fin 2) (id : PtpId) (t1 : Int) (c : Int) (cum : Int) (gm : Nat) (w : SyncWait) (s : State), s.net.tmu.sync = some w
      ∧ s.slavePort = some p.val ∧ id = ⟨s.act (K 0x7180 2), w.seq⟩ ∧ s.now + dt ≤ w.at_ + s.net.tmu.interval ∧ w.steps = s.get (K 0x7180
      0x14) ∧ s.net.tmu.stepPending = false ∧ s.get (K 0x7180 4) = 0 ∧ (w.t2 - t1 - corrPs c - s.get (K (0x7100 + p) 0x0C) - sgn 32 (s.get
      (K (0x7100 + p) 0x0A))).natAbs ≤ s.get (K 0x7180 7) * 1000 ∧ Steady s ∧ s.netUp p = true ∧ s.domState 0x21 = 0) ∧
    (∃ (dt : Nat) (p : Fin 2) (id : PtpId) (t1 : Int) (c : Int) (cum : Int) (gm : Nat) (w : SyncWait) (s : State), s.net.tmu.sync = some w
      ∧ s.slavePort = some p.val ∧ id = ⟨s.act (K 0x7180 2), w.seq⟩ ∧ s.now + dt ≤ w.at_ + s.net.tmu.interval ∧ w.steps = s.get (K 0x7180
      0x14) ∧ s.net.tmu.stepPending = false ∧ s.net.tmu.sampled = true ∧ s.get (K 0x7180 7) * 1000 < (w.t2 - t1 - corrPs c - s.get (K
      (0x7100 + p) 0x0C) - sgn 32 (s.get (K (0x7100 + p) 0x0A))).natAbs ∧ Calm s [(2, 6)] ∧ s.netUp p = true ∧ s.domState 0x21 = 0) ∧
    (∃ (dt : Nat) (p : Fin 2) (id : PtpId) (t1 : Int) (c : Int) (cum : Int) (gm : Nat) (w : SyncWait) (s : State), s.net.tmu.sync = some w
      ∧ s.slavePort = some p.val ∧ id = ⟨s.act (K 0x7180 2), w.seq⟩ ∧ s.now + dt ≤ w.at_ + s.net.tmu.interval ∧ w.steps = s.get (K 0x7180
      0x14) ∧ s.net.tmu.stepPending = true ∧ Steady s ∧ s.netUp p = true ∧ s.domState 0x21 = 0) ∧
    (∃ (dt : Nat) (p : Fin 2) (id : PtpId) (t1 : Int) (c : Int) (cum : Int) (gm : Nat) (s : State), s.net.tmu.sync = none ∧ s.upd.waits =
      none) ∧
    (∃ (dt : Nat) (w : SyncWait) (s : State), s.net.tmu.sync = some w ∧ w.at_ + s.net.tmu.interval ≤ s.now + dt ∧ s.upd.waits = none ∧
      s.domState 0x21 = 0) ∧
    (∃ (dt : Nat) (p : Fin 2) (s : State), s.netUp p = true ∧ (s.pd p).sentAt = none ∧ s.upd.waits = none ∧ s.domState 0x21 = 0) ∧
    (∃ (dt : Nat) (p : Fin 2) (id : PtpId) (s : State), id.domain = s.act (K 0x7180 2) ∧ s.netUp p = true ∧ s.upd.waits = none ∧
      s.domState 0x21 = 0) ∧
    (∃ (dt : Nat) (p : Fin 2) (id : PtpId) (t2 : Int) (t3 : Int) (s : State), (s.pd p).waiting = true ∧ id = ⟨s.act (K 0x7180 2), (s.pd
      p).seq⟩ ∧ (s.pd p).steps = s.get (K 0x7180 0x14) ∧ (s.pd p).last = none ∧ (s.pd p).ratio = 2 ^ 41 ∧ s.upd.waits = none ∧ s.netUp p =
      true ∧ s.domState 0x21 = 0) ∧
    (∃ (dt : Nat) (p : Fin 2) (id : PtpId) (t2 : Int) (t3 : Int) (s : State), (s.pd p).waiting = false ∧ s.upd.waits = none) ∧
    (∃ (dt : Nat) (a : Nat) (s : State), s.net.tmu.lastAt = some a ∧ (s.get (K 0x7180 0x0F) = 1 ∨ s.get (K 0x7180 0x0F) = 2) ∧ a + s.get
      (K 0x7180 0x0A) * s.net.tmu.interval ≤ s.now + dt ∧ Calm s [(2, 0x0E), (0x11, 5)] ∧ s.domState 0x21 = 0) ∧
    (∃ (dt : Nat) (s : State), s.get (K 0x7180 0x0F) = 3 ∧ s.net.tmu.heldAt + s.get (K 0x7180 0x0B) * 1000000 ≤ s.now + dt ∧ Calm s [(2,
      0x0E), (0x11, 5)]) ∧
    (∃ (dt : Nat) (s : State), s.get (K 0x7180 0x0F) ≠ 3 ∧ s.upd.waits = none) ∧
    (∃ (dt : Nat) (rq : Rq) (s : State), Served s dt rq (K 0x7180 0x0D) 1) ∧
    (∃ (dt : Nat) (rq : Rq) (s : State), Served s dt rq (K 0x7180 0x0D) 2 ∧ s.get (K 0x7180 0x0F) = 0) ∧
    (∃ (dt : Nat) (rq : Rq) (s : State), Served s dt rq (K 0x7180 0x0D) 2 ∧ s.get (K 0x7180 0x0F) ≠ 0) :=
  ⟨⟨5, 0, 5, 77, 20, timS 1 Tmu.init, by decide +kernel⟩,
   ⟨5, 0, 5, 77, -3, timS 1 Tmu.init, by decide +kernel⟩,
   ⟨5, 1, 5, 77, true, -3, timS 1 Tmu.init, by decide +kernel⟩,
   ⟨5, 0, ⟨5, 77⟩, 5, -589824, 0, 2 ^ 64, ⟨77, 100, 0, 3⟩, (let w : SyncWait := ⟨77, 100, 0, 3⟩; (timS 0 { Tmu.init with sync := some w, below := 7 }).set (K 0x7180 4) 0), by (unfold Steady; decide +kernel)⟩,
   ⟨5, 0, ⟨5, 77⟩, 10 ^ 15, -589824, 0, 2 ^ 64, ⟨77, 100, 0, 3⟩, (let w : SyncWait := ⟨77, 100, 0, 3⟩; timS 1 { Tmu.init with sync := some w, sampled := true }), by (unfold Calm; decide +kernel)⟩,
   ⟨5, 0, ⟨5, 77⟩, 10 ^ 7, -589824, 0, 7, ⟨77, 100, 0, 3⟩, (let w : SyncWait := ⟨77, 100, 0, 3⟩; timS 1 { Tmu.init with sync := some w, stepPending := true, i := 7 }), by (unfold Steady; decide +kernel)⟩,
   ⟨5, 1, ⟨5, 77⟩, 10 ^ 7, -589824, 0, 7, timS 1 Tmu.init, by decide +kernel⟩,
   ⟨999999999, ⟨77, 100, 0, 3⟩, (let w : SyncWait := ⟨77, 100, 0, 3⟩; timS 1 { Tmu.init with sync := some w }), by decide +kernel⟩,
   ⟨5, 0, netS 0, by decide +kernel⟩,
   ⟨5, 0, ⟨5, 8⟩, (netS 0).putAct [(K 0x7180 2, 5)], by decide +kernel⟩,
   ⟨5, 0, ⟨5, 8⟩, 1000, 2000, timS 1 { Tmu.init with pdelay := [{ Pdelay.init with waiting := true, seq := 8, t1 := -9000 }, Pdelay.init] }, by decide +kernel⟩,
   ⟨5, 1, ⟨5, 8⟩, 1000, 2000, timS 1 Tmu.init, by decide +kernel⟩,
   ⟨99000000000, 3, timS 2 { Tmu.init with lastAt := some 3 }, by (unfold Calm; decide +kernel)⟩,
   ⟨99000000000000, timS 3 Tmu.init, by (unfold Calm; decide +kernel)⟩,
   ⟨5, timS 2 Tmu.init, by decide +kernel⟩,
   ⟨5, rq1, timS 2 Tmu.init, by (unfold Served; decide +kernel)⟩,
   ⟨5, rq1, (timS 0 Tmu.init).set (K 0x7180 0x0E) 12345678, by (unfold Served; decide +kernel)⟩,
   ⟨5, rq1, timS 2 Tmu.init, by (unfold Served; decide +kernel)⟩⟩

theorem witness_UpdateDownload :
    (∃ (dt : Nat) (rq : Rq) (s : State), Served s dt rq (K 0x2200 1) 1 ∧ manifestOk s.staged = false) ∧
    (∃ (dt : Nat) (rq : Rq) (s : State), Served s dt rq (K 0x2200 1) 1 ∧ manifestOk s.staged = true ∧ beAt s.staged 8 4 = 0x2048 ∧ byteAt
      s.staged 0xC ≤ s.get (K 0x1018 3) ∧ s.nv.fuses.counter ≤ beAt s.staged 0x18 4 ∧ s.onTrial = false ∧ s.upd.roll = none ∧ s.updStage =
      0 ∧ s.guardDetail 0 = none ∧ 1 ≤ s.targetSlot ∧ s.targetSlot ≤ 2) ∧
    (∃ (dt : Nat) (rq : Rq) (s : State), Served s dt rq (K 0x2200 1) 2 ∧ 1 ≤ s.updStage ∧ s.updStage ≤ 4) ∧
    (∃ (dt : Nat) (rq : Rq) (s : State), Served s dt rq (K 0x2200 1) 2 ∧ (s.updStage = 0 ∨ 5 ≤ s.updStage)) ∧
    (∃ (dt : Nat) (rq : Rq) (s : State), Served s dt rq (K 0x2200 1) 3 ∧ (s.updStage = 2 ∨ s.updStage = 4) ∧ s.guardDetail 1 = none) ∧
    (∃ (dt : Nat) (rq : Rq) (d : Nat) (s : State), Served s dt rq (K 0x2200 1) 3 ∧ (s.updStage = 2 ∨ s.updStage = 4) ∧ s.guardDetail 1 =
      some d) ∧
    (∃ (dt : Nat) (rq : Rq) (s : State), Served s dt rq (K 0x2200 1) 3 ∧ s.updStage ≠ 2 ∧ s.updStage ≠ 4) ∧
    (∃ (dt : Nat) (s : State), s.updStage = 3 ∧ s.guardDetail 1 = none ∧ s.upd.waits = none) ∧
    (∃ (dt : Nat) (corrected : List Nat) (o : Nat) (s : State), s.updStage = 3 ∧ s.guardDetail 1 = none ∧ Calm s [(0x15, 1)]) ∧
    (∃ (dt : Nat) (corrected : List Nat) (bad : List Nat) (s : State), s.updStage ≠ 3 ∧ s.upd.waits = none) ∧
    (∃ (dt : Nat) (c : Client) (x : Xfer) (s : State), s.xferOf c = some x ∧ x.upload = false ∧ x.last = true ∧ x.key = K 0x2200 3 ∧
      s.serverUp = true ∧ s.upd.waits = none ∧ x.data.length = x.total ∧ s.updStage = 1 ∧ beAt x.data 0 4 = imageId (s.slotManifest
      s.targetSlot) ∧ beAt x.data 4 4 < chunkCount (s.slotManifest s.targetSlot) ∧ s.upd.stored.contains (beAt x.data 4 4) = false ∧
      s.guardDetail 0 = none ∧ 1 ≤ s.targetSlot ∧ s.targetSlot ≤ 2) ∧
    (∃ (dt : Nat) (c : Client) (x : Xfer) (s : State), s.xferOf c = some x ∧ x.upload = false ∧ x.last = true ∧ x.key = K 0x2200 3 ∧
      s.serverUp = true ∧ s.upd.waits = none ∧ x.data.length = x.total ∧ s.updStage ≠ 1) ∧
    (∃ (dt : Nat) (p : Fin 2) (addr : Sender) (port : Nat) (frag : Byte) (image : Word32) (data : List Byte) (s : State), s.netUp p = true
      ∧ bit (s.get (K 0x2200 0x10)) p = true ∧ s.updServes = true ∧ data.length = 1024 ∧ frag.toNat % 64 = 0 ∧ s.upd.colls = [] ∧
      s.upd.waits = none) ∧
    (∃ (dt : Nat) (p : Fin 2) (addr : Sender) (port : Nat) (frag : Byte) (image : Word32) (chunk : Word32) (data : List Byte) (s : State),
      s.netUp p = true ∧ bit (s.get (K 0x2200 0x10)) p = true ∧ s.updServes = true ∧ data.length = 1024 ∧ frag.toNat % 64 = 0 ∧
      s.upd.colls = [] ∧ chunk.toNat ≠ 0xFFFFFFFF ∧ s.upd.waits = none) ∧
    (∃ (dt : Nat) (p : Fin 2) (addr : Sender) (port : Nat) (image : Word32) (chunk : Word32) (s : State), s.netUp p = true ∧ bit (s.get (K
      0x2200 0x10)) p = true ∧ s.updServes = true ∧ s.upd.waits = none) ∧
    (∃ (dt : Nat) (p : Fin 2) (addr : Sender) (port : Nat) (image : Word32) (chunk : Word32) (s : State), (s.netUp p = false ∨ bit (s.get
      (K 0x2200 0x10)) p = false) ∧ s.upd.waits = none) ∧
    (∃ (dt : Nat) (s : State), s.upd.waits = none) :=
  ⟨⟨5, rq1, up .preop [], by (unfold Served; decide +kernel)⟩,
   ⟨5, rq1, { up .preop [(K 0x2202 1, 0)] with doms := [(K 0x2200 2, mf)] }, by (unfold Served; decide +kernel)⟩,
   ⟨5, rq1, updS .preop 4, by (unfold Served; decide +kernel)⟩,
   ⟨5, rq1, updS .preop 5, by (unfold Served; decide +kernel)⟩,
   ⟨5, rq1, updS .preop 4, by (unfold Served; decide +kernel)⟩,
   ⟨5, rq1, 1, (updS .preop 2).set (K 0x2202 1) 0x7FF |>.set (K 0x8020 1) 0xFFFF, by (unfold Served; decide +kernel)⟩,
   ⟨5, rq1, updS .preop 1, by (unfold Served; decide +kernel)⟩,
   ⟨5, updS .operate 3, by decide +kernel⟩,
   ⟨5, [7], 9, updS .operate 3, by (unfold Calm; decide +kernel)⟩,
   ⟨5, [7], [9], updS .operate 2, by decide +kernel⟩,
   ⟨5, rq1.client, ⟨rq1.client, 3, false, K 0x2200 3, toBe 4 7 ++ toBe 4 0 ++ [1, 2], 10, 1, true, 0⟩, (let x : Xfer := ⟨rq1.client, 3, false, K 0x2200 3, toBe 4 7 ++ toBe 4 0 ++ [1, 2], 10, 1, true, 0⟩; dlS (updS .preop 1) x), by decide +kernel⟩,
   ⟨5, rq1.client, ⟨rq1.client, 3, false, K 0x2200 3, toBe 4 7 ++ toBe 4 0 ++ [1, 2], 10, 1, true, 0⟩, (let x : Xfer := ⟨rq1.client, 3, false, K 0x2200 3, toBe 4 7 ++ toBe 4 0 ++ [1, 2], 10, 1, true, 0⟩; dlS (updS .preop 2) x), by decide +kernel⟩,
   ⟨5, 1, ⟨1, 0x0A0B0C0D0E0F⟩, 2, 0xC0, 7, List.replicate 1024 3, updS .operate 0, by decide +kernel⟩,
   ⟨5, 1, ⟨1, 0x0A0B0C0D0E0F⟩, 2, 0x40, 7, 0, List.replicate 1024 3, updS .operate 1, by decide +kernel⟩,
   ⟨5, 1, ⟨1, 0x0A0B0C0D0E0F⟩, 2, 7, 0, updS .operate 1, by decide +kernel⟩,
   ⟨5, 1, ⟨1, 0x0A0B0C0D0E0F⟩, 2, 7, 0, (updS .operate 1).set (K 0x2200 0x10) 0, by decide +kernel⟩,
   ⟨100000000, { updS .operate 1 with upd := { Upd.init with colls := [⟨0, 1, 2, 3, 4, 0, []⟩, ⟨0, 1, 2, 3, 4, 5, []⟩] } }, by decide +kernel⟩⟩

theorem witness_UpdateActivation :
    (∃ (dt : Nat) (rq : Rq) (s : State), Served s dt rq (K 0x2200 1) 4 ∧ s.sys.recovery = false ∧ (s.mode = .preop ∨ s.mode = .operate ∨
      s.mode = .standby) ∧ s.updStage = 4 ∧ byteAt (s.slotManifest s.targetSlot) 7 % 2 = 1 ∧ beAt (s.slotManifest s.targetSlot) 0x24 4 ≤
      beAt s.runManifest 0x14 4 ∧ s.guardDetail 2 = none ∧ Steady s) ∧
    (∃ (dt : Nat) (rq : Rq) (s : State), Served s dt rq (K 0x2200 1) 4 ∧ s.sys.recovery = false ∧ (s.mode = .preop ∨ s.mode = .operate ∨
      s.mode = .standby) ∧ s.updStage ≠ 4) ∧
    (∃ (dt : Nat) (rq : Rq) (s : State), Served s dt rq (K 0x2200 1) 4 ∧ s.sys.recovery = true ∧ s.updStage = 4) ∧
    (∃ (dt : Nat) (rq : Rq) (s : State), Served s dt rq (K 0x2200 1) 7 ∧ s.sys.recovery = false ∧ s.mode = .preop ∧ s.updStage = 4 ∧
      s.guardDetail 2 = none) ∧
    (∃ (dt : Nat) (rq : Rq) (s : State), Served s dt rq (K 0x2200 1) 7 ∧ s.sys.recovery = false ∧ s.mode ≠ .preop) ∧
    (∃ (dt : Nat) (rq : Rq) (s : State), Served s dt rq (K 0x2200 1) 5 ∧ s.sys.recovery = false ∧ s.bootRec.stage = 2 ∧ s.bodyReadable =
      true ∧ s.sys.save = none) ∧
    (∃ (dt : Nat) (rq : Rq) (s : State), Served s dt rq (K 0x2200 1) 5 ∧ s.sys.recovery = false ∧ s.bootRec.stage ≠ 2) ∧
    (∃ (dt : Nat) (rq : Rq) (s : State), Served s dt rq (K 0x2200 1) 6 ∧ s.sys.recovery = false ∧ s.bootRec.stage = 2 ∧ s.bootRec.actmode
      = 0 ∧ s.mode = .operate ∧ Steady s) ∧
    (∃ (dt : Nat) (rq : Rq) (s : State), Served s dt rq (K 0x2200 1) 6 ∧ s.sys.recovery = false ∧ s.bootRec.stage ≠ 2 ∧ s.mode ≠ .safe ∧
      s.mode ≠ .hold) ∧
    (∃ (dt : Nat) (rq : Rq) (s : State), Served s dt rq (K 0x2200 1) 6 ∧ s.sys.recovery = false ∧ s.bootRec.stage = 2 ∧ s.mode = .safe) ∧
    (∃ (dt : Nat) (s : State), s.mode = .operate ∧ s.get (K 0x2200 0x0D) ≠ 0 ∧ s.upd.trialAt + s.get (K 0x2200 0x0D) * 1000000000 ≤ s.now
      + dt ∧ s.safe.log = Safe.init.log ∧ s.bootRec.stage = 2 ∧ s.sys.apc = [true, true] ∧ s.bodyReadable = true ∧ s.sys.save = none ∧
      s.upd.waits = none) ∧
    (∃ (dt : Nat) (s : State), (s.get (K 0x2200 0x0D) = 0 ∨ s.bootRec.stage ≠ 2) ∧ s.upd.waits = none) ∧
    (∃ (dt : Nat) (r : Roll) (s : State), s.upd.roll = some r ∧ r.step = 3 ∧ s.mode = .hold ∧ s.upd.waits = none) ∧
    (∃ (dt : Nat) (r : Roll) (s : State), s.upd.roll = some r ∧ r.step = 4 ∧ s.mode = .hold ∧ s.upd.waits = none) ∧
    (∃ (dt : Nat) (r : Roll) (s : State), s.upd.roll = some r ∧ r.step = 8 ∧ r.fall = none ∧ s.mode = .hold ∧ s.sys.before = 2 ∧ s.sys.apc
      = [true, true] ∧ s.pwr.cal.firstDone = true ∧ s.pwr.cal.waiting = false ∧ (s.putUpd { s.upd with slot := r.slot }).bodyReadable =
      true ∧ s.upd.doseDue = false ∧ s.upd.waits = none) ∧
    (∃ (dt : Nat) (s : State), s.upd.roll = none ∧ s.upd.doseDue = false ∧ s.pwr.cal.firstDone = true ∧ s.pwr.cal.waiting = false ∧
      s.upd.waits = none) :=
  ⟨⟨5, rq1, updS .operate 4, by (unfold Served Steady; decide +kernel)⟩,
   ⟨5, rq1, updS .preop 3, by (unfold Served; decide +kernel)⟩,
   ⟨5, rq1, { updS .boot 4 with sys := { Sys.init with recovery := true, bootStep := 4, apc := [true, true] } }, by (unfold Served; decide +kernel)⟩,
   ⟨5, rq1, updS .preop 4, by (unfold Served; decide +kernel)⟩,
   ⟨5, rq1, updS .operate 4, by (unfold Served; decide +kernel)⟩,
   ⟨5, rq1, bootS .operate trial0, by (unfold Served; decide +kernel)⟩,
   ⟨5, rq1, bootS .operate (BootRec.factory true), by (unfold Served; decide +kernel)⟩,
   ⟨5, rq1, bootS .operate trial0, by (unfold Served Steady; decide +kernel)⟩,
   ⟨5, rq1, bootS .operate (BootRec.factory true), by (unfold Served; decide +kernel)⟩,
   ⟨5, rq1, bootS .safe trial0, by (unfold Served; decide +kernel)⟩,
   ⟨99999000000000, (bootS .operate trial0).set (K 0x2200 0x0D) 5, by decide +kernel⟩,
   ⟨5, bootS .operate (BootRec.factory true), by decide +kernel⟩,
   ⟨5, ⟨2, none, 3⟩, (let r : Roll := ⟨2, none, 3⟩; rollS r), by decide +kernel⟩,
   ⟨5, ⟨2, none, 4⟩, (let r : Roll := ⟨2, none, 4⟩; rollS r), by decide +kernel⟩,
   ⟨5, ⟨2, none, 8⟩, (let r : Roll := ⟨2, none, 8⟩; { rollS r with sys := { (rollS r).sys with apc := [true, true] } }), by decide +kernel⟩,
   ⟨5, { up .operate [] with pwr := { Pwr.init with cal := { Cal.init with firstDone := true } } }, by decide +kernel⟩⟩

theorem witness_StoreUpkeep :
    (∃ (dt : Nat) (corrected : Nat) (s : State), s.sys.apc = [true, true] ∧ s.mode = .operate ∧ s.nv.refresh.first = [] ∧
      s.nv.refresh.next < 1024 ∧ s.blockBusy s.nv.refresh.next = false ∧ s.get (K 0x2100 2) + 1 < 1024 ∧ s.refreshWaits = false ∧
      s.upd.waits = none) ∧
    (∃ (dt : Nat) (corrected : Nat) (s : State), s.sys.apc = [true, true] ∧ s.mode = .operate ∧ s.nv.refresh = ⟨1023, [], []⟩ ∧
      s.blockBusy 1023 = false ∧ s.get (K 0x2100 2) = 1023 ∧ s.refreshWaits = false ∧ s.upd.waits = none) ∧
    (∃ (dt : Nat) (corrected : Nat) (bad : List Nat) (s : State), s.mode = .boot ∧ s.upd.waits = none) ∧
    (∃ (dt : Nat) (s : State), s.mode = .operate ∧ s.sys.apc = [true, true] ∧ s.upd.doseAt + s.get (K 0x2110 1) * 60000000000 ≤ s.now + dt
      ∧ s.doseWaits = false ∧ s.upd.waits = none) ∧
    (∃ (dt : Nat) (s : State), s.mode ≠ .boot ∧ s.sys.apc = [true, true] ∧ s.upd.doseAt + s.get (K 0x2110 1) * 60000000000 ≤ s.now + dt ∧
      s.doseWaits = true ∧ s.upd.waits = none) ∧
    (∃ (dt : Nat) (s : State), (s.mode = .boot ∨ s.now + dt < s.upd.doseAt + s.get (K 0x2110 1) * 60000000000) ∧ s.upd.waits = none) ∧
    (∃ (dt : Nat) (e : LogE) (s : State), s.mode = .operate ∧ s.sys.apc = [true, true] ∧ s.nextArchive = some e ∧ (nth []
      s.nv.faults.halves s.nv.faults.half).length < 32768 ∧ s.nv.faults.half < 2 ∧ s.upd.doseDue = false ∧ s.upd.waits = none) ∧
    (∃ (dt : Nat) (s : State), (s.mode = .boot ∨ s.mode = .hold ∨ s.nextArchive = none) ∧ s.upd.doseDue = false ∧ s.upd.waits = none) :=
  ⟨⟨5, 3, up .operate [(K 0x2100 2, 7)], by decide +kernel⟩,
   ⟨5, 3, { up .operate [(K 0x2100 2, 1023)] with nv := { Nv.init with refresh := ⟨1023, [], []⟩ } }, by decide +kernel⟩,
   ⟨5, 3, [4], State.reset, by decide +kernel⟩,
   ⟨10 ^ 18, up .operate [(K 0x2110 3, 2)], by decide +kernel⟩,
   ⟨10 ^ 18, up .hold [], by decide +kernel⟩,
   ⟨5, up .operate [(K 0x2110 1, 60)], by decide +kernel⟩,
   ⟨5, ⟨3, 4, 5, false, true, true, true, false, 1, 0, 0, 0⟩, (let e : LogE := ⟨3, 4, 5, false, true, true, true, false, 1, 0, 0, 0⟩; { up .operate [] with safe := { Safe.init with log := setNth Safe.init.log 1 (some e) } }), by decide +kernel⟩,
   ⟨5, up .operate [], by decide +kernel⟩⟩

theorem witness_PowerDomains :
    (∃ (dt : Nat) (rq : Rq) (s : State), Served s dt rq (K 0x2300 1) 1 ∧ s.powerOk = true) ∧
    (∃ (dt : Nat) (rq : Rq) (s : State), Served s dt rq (K 0x2300 1) 1 ∧ s.powerOk = false) ∧
    (∃ (dt : Nat) (d : Fin 38) (s : State), s.domState d = 4 ∧ mapGet s.pwr.entering d = some 1 ∧ s.pwr.rewake.contains d.val = false ∧
      s.upd.waits = none ∧ (¬ (3 ≤ d.val ∧ d.val ≤ 6))) ∧
    (∃ (dt : Nat) (s : State), s.domState 0x20 = 4 ∧ mapGet s.pwr.entering 0x20 = some 2 ∧ s.pwr.rewake.contains 0x20 = false ∧
      s.upd.waits = none) ∧
    (∃ (dt : Nat) (w : Fin 6) (n : Fin 4) (pat : Bool) (s : State), (s.wakeSet w n pat).any (fun d => s.domState d == 1 || s.domState d ==
      2) = true ∧ s.upd.waits = none) ∧
    (∃ (dt : Nat) (d : Fin 38) (upset : Fin 16) (s : State), s.domState d = 3 ∧ mapGet s.pwr.wokeFrom d = some 1 ∧ s.upd.waits = none ∧ (¬
      (3 ≤ d.val ∧ d.val ≤ 0x16)) ∧ ((∀ x ∈ s.pwr.stalled, x.dom ≠ d.val))) ∧
    (∃ (dt : Nat) (x : Stall) (s : State), s.pwr.stalled = [x] ∧ x.since + 200000 ≤ s.now + dt ∧ Calm s [(0x16, 4)]) ∧
    (∃ (i : Instr) (s : State), (needsOn i).any (fun d => s.domState d != 0) = true ∧ s.upd.waits = none) :=
  ⟨⟨5, rq1, up .preop [(K 0x2301 0x21, 2), (K 0x2301 0x25, 1), (K 0x2302 0x20, 0x20000)], by (unfold Served; decide +kernel)⟩,
   ⟨5, rq1, up .preop [(K 0x2301 3, 1)], by (unfold Served; decide +kernel)⟩,
   ⟨5, 0x24, (let d : Fin 38 := 0x24; { up .preop [(K 0x2302 (d + 1), 4 * 65536)] with pwr := { Pwr.init with entering := [(d, 1)] } }), by decide +kernel⟩,
   ⟨5, { up .preop [(K 0x2302 0x21, 4 * 65536), (K 0x7110 8, 5)] with pwr := { Pwr.init with entering := [(0x20, 2)] } }, by decide +kernel⟩,
   ⟨5, 5, 0, true, up .preop [(K 0x2300 3, 15), (K 0x7140 0x0E, 1), (K 0x2302 0x21, 2 * 65536), (K 0x2302 0x25, 65536), (K 0x2302 3, 65536), (K 0x2300 5, 2^32)], by decide +kernel⟩,
   ⟨5, 0x17, 3, (let d : Fin 38 := 0x17; { up .preop [(K 0x2302 (d + 1), 3 * 65536)] with pwr := { Pwr.init with wokeFrom := [(d, 1)] } }), by decide +kernel⟩,
   ⟨200000, ⟨rq1.client, writePdu 5 (K 0x7110 1) [1], 0x20, 0⟩, (let x : Stall := ⟨rq1.client, writePdu 5 (K 0x7110 1) [1], 0x20, 0⟩; { up .preop [] with pwr := { Pwr.init with stalled := [x] } }), by (unfold Calm; decide +kernel)⟩,
   ⟨.bulkSyncComplete 5 [] [] [] [], offS, by decide +kernel⟩⟩

theorem witness_Resets :
    (∃ (dt : Nat) (rail : Fin 8) (s : State), rail.val ≠ 2) ∧
    (∃ (dt : Nat) (s : State), s.pwr.pinLow = false ∧ (s.get (K 0x2320 4) ≠ 1 ∨ s.pwr.highSince + 1000000 ≤ s.now + dt)) ∧
    (∃ (dt : Nat) (s : State), s.pwr.pinLow = false ∧ s.get (K 0x2320 4) = 1 ∧ s.now + dt < s.pwr.highSince + 1000000 ∧ s.upd.waits =
      none) ∧
    (∃ (dt : Nat) (s : State), s.pwr.pinLow = true ∧ s.now + dt ≤ s.pwr.lowSince + 2000000000 ∧ s.upd.waits = none) ∧
    (∃ (dt : Nat) (s : State), s.pwr.pinLow = true ∧ s.pwr.inReset = true ∧ s.pwr.lowSince + 2000000000 < s.now + dt ∧ Calm s [(0x16,
      0x12)]) ∧
    (∃ (dt : Nat) (s : State), s.pwr.inReset = true ∧ s.pwr.tolerant = true ∧ s.pwr.lowSince + 501000000 ≤ s.now + dt ∧ Calm s [(0x16,
      0x12)]) :=
  ⟨⟨5, 7, (up .operate [(K 0x2320 5, 7)]).owned [4] 5, by decide +kernel⟩,
   ⟨5, (up .operate [(K 0x2320 5, 7)]).owned [4] 5, by decide +kernel⟩,
   ⟨5, { up .operate [(K 0x2320 4, 1)] with pwr := { Pwr.init with highSince := 3 } }, by decide +kernel⟩,
   ⟨5, { up .operate [] with pwr := { Pwr.init with pinLow := true } }, by decide +kernel⟩,
   ⟨2000000001, { State.reset with pwr := { Pwr.init with pinLow := true, inReset := true } }, by (unfold Calm; decide +kernel)⟩,
   ⟨501000000, { State.reset with pwr := { Pwr.init with pinLow := true, inReset := true, tolerant := true } }, by (unfold Calm; decide +kernel)⟩⟩

theorem witness_Thermal :
    (∃ (dt : Nat) (r : List Int) (mv : Nat) (s : State), s.pwr.inReset = false ∧ s.sys.bootStep ≠ 0 ∧ Calm s [(0x17, 8), (0x17, 0x0B),
      (0x17, 0x16)]) ∧
    (∃ (dt : Nat) (s : State), s.therm = 1 ∧ s.pwr.thermSince + s.msOf (K 0x2500 5) ≤ s.now + dt ∧ s.pwr.coolSince = none ∧ s.upd.waits =
      none) ∧
    (∃ (dt : Nat) (s : State), (s.therm = 2 ∨ s.therm = 3) ∧ s.pwr.stepFrom + s.msOf (K 0x2500 6) ≤ s.now + dt ∧ s.pwr.hot = true ∧
      s.upd.waits = none) ∧
    (∃ (dt : Nat) (s : State), (s.therm = 2 ∨ s.therm = 3) ∧ s.pwr.stepFrom + s.msOf (K 0x2500 6) ≤ s.now + dt ∧ s.pwr.hot = false ∧
      s.upd.waits = none) ∧
    (∃ (dt : Nat) (c : Nat) (s : State), s.pwr.coolSince = some c ∧ max c s.pwr.thermSince + s.msOf (K 0x2500 7) ≤ s.now + dt ∧ (s.therm =
      1 ∨ s.therm = 2) ∧ s.upd.waits = none) ∧
    (∃ (dt : Nat) (c : Nat) (s : State), s.pwr.coolSince = some c ∧ max c s.pwr.thermSince + s.msOf (K 0x2500 7) ≤ s.now + dt ∧ (s.therm =
      3 ∨ s.therm = 4 ∧ s.dieBlind = false) ∧ s.upd.waits = none) :=
  ⟨⟨5, [3, 100 * 65536, 200 * 65536, -5], 0x12345, up .operate [], by (unfold Calm; decide +kernel)⟩,
   ⟨99999000000, up .operate [(K 0x2500 9, 1)], by decide +kernel⟩,
   ⟨99999000000, { up .operate [(K 0x2500 9, 3)] with pwr := { Pwr.init with hot := true } }, by decide +kernel⟩,
   ⟨99999000000, up .operate [(K 0x2500 9, 3)], by decide +kernel⟩,
   ⟨99999000000, 7, { up .operate [(K 0x2500 9, 2)] with pwr := { Pwr.init with coolSince := some 7 } }, by decide +kernel⟩,
   ⟨99999000000, 7, { up .operate [(K 0x2500 9, 4)] with pwr := { Pwr.init with coolSince := some 7 } }, by decide +kernel⟩⟩

theorem witness_Calibration :
    (∃ (dt : Nat) (rq : Rq) (s : State), Served s dt rq (K 0x2400 1) 1 ∧ s.pwr.cal.running = false ∧ s.sys.apc.any id = true ∧ s.mode ≠
      .hold) ∧
    (∃ (dt : Nat) (a : List (List Nat)) (b : List (List Nat)) (s : State), s.pwr.cal.running = true ∧ s.pwr.cal.waiting = false ∧ Calm s
      [(0x18, 6)]) ∧
    (∃ (dt : Nat) (r : Nat) (s : State), s.pwr.cal.retryAt = some r ∧ r ≤ s.now + dt ∧ s.pwr.cal.running = false ∧ s.sys.apc.any id = true
      ∧ s.mode ≠ .hold ∧ s.upd.waits = none) ∧
    (∃ (dt : Nat) (rq : Rq) (s : State), Served s dt rq (K 0x2400 1) 2 ∧ s.pwr.cal.saving = none ∧ s.sys.save = none ∧ s.onTrial = false) ∧
    (∃ (dt : Nat) (n : Nat) (r : CalRec) (s : State), s.pwr.cal.saving = some (n, r) ∧ s.upd.waits = none ∧ n < 2) ∧
    (∃ (dt : Nat) (n : Nat) (r : CalRec) (s : State), s.pwr.cal.saving = some (n, r) ∧ s.pwr.cal.attempt = 2 ∧ Calm s [(0x15, 3)]) ∧
    (∃ (dt : Nat) (rq : Rq) (s : State), Served s dt rq (K 0x2400 1) 3 ∧ s.calInUse = none) :=
  ⟨⟨5, rq1, up .preop [], by (unfold Served; decide +kernel)⟩,
   ⟨5, [[1], [2]], [], { up .preop [] with pwr := { Pwr.init with cal := { Cal.init with running := true } } }, by (unfold Calm; decide +kernel)⟩,
   ⟨5, 3, { up .preop [] with pwr := { Pwr.init with cal := { Cal.init with retryAt := some 3, retries := 1 } } }, by decide +kernel⟩,
   ⟨5, rq1, up .preop [], by (unfold Served; decide +kernel)⟩,
   ⟨5, 1, CalRec.empty, (let n : Nat := 1; let r : CalRec := CalRec.empty; { up .preop [] with pwr := { Pwr.init with cal := { Cal.init with saving := some (n, r) } } }), by decide +kernel⟩,
   ⟨5, 1, CalRec.empty, (let n : Nat := 1; let r : CalRec := CalRec.empty; { up .preop [] with pwr := { Pwr.init with cal := { Cal.init with saving := some (n, r), attempt := 2 } } }), by (unfold Calm; decide +kernel)⟩,
   ⟨5, rq1, up .preop [(K 0x6040 1, 5), (K 0x6030 0x0D, 7)], by (unfold Served; decide +kernel)⟩⟩

theorem witness_CheckValueUnits :
    (∃ (dt : Nat) (rq : Rq) (u : Fin 8) (s : State), Served s dt rq (K (CU u) 1) 1 ∧ (s.owner (0xDB + u) = 0 ∨ s.owner (0xDB + u) =
      0x0AFF)) ∧
    (∃ (dt : Nat) (rq : Rq) (u : Fin 8) (s : State), Served s dt rq (K (CU u) 1) 0 ∧ s.owner (0xDB + u) = 0x0AFF ∧ s.get (K (CU u) 9) ≠ 1) ∧
    (∃ (dt : Nat) (rq : Rq) (u : Fin 8) (s : State), Served s dt rq (K (CU u) 8) 1 ∧ s.get (K (CU u) 1) = 1 ∧ s.get (K (CU u) 9) ≠ 1) ∧
    (∃ (dt : Nat) (rq : Rq) (u : Fin 8) (s : State), Served s dt rq (K (CU u) 8) 2 ∧ s.get (K (CU u) 1) = 1 ∧ s.get (K (CU u) 9) ≠ 1) ∧
    (∃ (dt : Nat) (rq : Rq) (u : Fin 8) (s : State), Served s dt rq (K (CU u) 8) 3 ∧ Calm s [(0x1D, 1), (0x1D, 2), (0x16, 2), (0x0D, 1)] ∧
      s.get (K (CU u) 1) = 1 ∧ s.get (K (CU u) 9) = 1) ∧
    (∃ (dt : Nat) (a : Nat) (len : Nat) (u : Fin 8) (s : State), s.upd.waits = none ∧ s.get (K (CU u) 9) = 1 ∧ s.get (K (CU u) 1) = 1 ∧ a
      + len ≤ 0x400000 ∧ 0 < len ∧ beAt (memSlice s.ins.ram (s.crcAt u).desc 16) 0 4 = 2 ^ 31 + a ∧ beAt (memSlice s.ins.ram (s.crcAt
      u).desc 16) 4 4 = len ∧ beAt (memSlice s.ins.ram (s.crcAt u).desc 16) 0x0C 4 % 2 = 1 ∧ (s.crcAt u).desc + 16 ≤ 0x400000 ∧ (s.crcAt
      u).off ≤ len ∧ s.domState 2 = 0) :=
  ⟨⟨5, rq1, 7, up .preop [], by (unfold Served; decide +kernel)⟩,
   ⟨5, rq1, 7, (let u : Fin 8 := 7; (up .preop [(K (CU u) 1, 1)]).owned [0xDB + u] 0x0AFF), by (unfold Served; decide +kernel)⟩,
   ⟨5, rq1, 7, (let u : Fin 8 := 7; (up .operate [(K (CU u) 1, 1), (K (CU u) 4, 0xFFFFFFFF), (K (CU u) 0x0C, 5)])), by (unfold Served; decide +kernel)⟩,
   ⟨5, rq1, 7, (let u : Fin 8 := 7; (up .operate [(K (CU u) 1, 1), (K (CU u) 4, 0xFFFFFFFF), (K (CU u) 0x0C, 5)])), by (unfold Served; decide +kernel)⟩,
   ⟨5, rq1, 7, (let u : Fin 8 := 7; (up .safe [(K (CU u) 1, 1), (K (CU u) 9, 1)])), by (unfold Calm Served; decide +kernel)⟩,
   ⟨5, 0x3FFFF0, 16, 7, (let u : Fin 8 := 7; { up .safe [(K (CU u) 1, 1), (K (CU u) 9, 1)] with ins := { Ins.init with ram := [(0, 0x80), (1, 0x3F), (2, 0xFF), (3, 0xF0), (7, 16), (15, 1)] } }), by decide +kernel⟩⟩

theorem witness_CountersAndTrace :
    (∃ (dt : Nat) (rq : Rq) (g : Fin 12) (s : State), Served s dt rq (K (PG g) 1) 1 ∧ (s.owner (0xE3 + g) = 0 ∨ s.owner (0xE3 + g) =
      0x0AFF) ∧ s.get (K (PG g) 0x14) ≠ 2) ∧
    (∃ (dt : Nat) (rq : Rq) (g : Fin 12) (s : State), Served s dt rq (K (PG g) 1) 2 ∧ s.get (K (PG g) 0x14) = 2) ∧
    (∃ (dt : Nat) (rq : Rq) (g : Fin 12) (s : State), Served s dt rq (K (PG g) 1) 3) ∧
    (∃ (dt : Nat) (rq : Rq) (g : Fin 12) (s : State), Served s dt rq (K (PG g) 1) 4) ∧
    (∃ (dt : Nat) (rq : Rq) (s : State), Served s dt rq (K 0x9200 1) 1 ∧ s.get (K 0x9200 2) = 3) ∧
    (∃ (dt : Nat) (rq : Rq) (s : State), Served s dt rq (K 0x9200 1) 2 ∧ s.get (K 0x9200 2) = 1) ∧
    (∃ (dt : Nat) (rq : Rq) (s : State), Served s dt rq (K 0x9200 1) 3 ∧ (s.get (K 0x9200 2) = 1 ∨ s.get (K 0x9200 2) = 2)) ∧
    (∃ (dt : Nat) (rq : Rq) (s : State), Served s dt rq (K 0x9200 1) 4 ∧ s.get (K 0x9200 2) = 3) ∧
    (∃ (dt : Nat) (p : Nat) (r : TRec) (rest : List TRec) (s : State), s.upd.waits = none ∧ s.get (K 0x9200 2) = 1 ∧ s.nextQueue = some p
      ∧ (nth ⟨[], false, 0⟩ s.ins.probes p).queue = r :: rest ∧ s.ins.ring.length < 65535 ∧ s.domState 0x17 = 0) :=
  ⟨⟨5, rq1, 11, up .preop [], by (unfold Served; decide +kernel)⟩,
   ⟨5, rq1, 11, (let g : Fin 12 := 11; (up .preop [(K (PG g) 0x14, 2)])), by (unfold Served; decide +kernel)⟩,
   ⟨5, rq1, 11, (let g : Fin 12 := 11; (up .preop [(K (PG g) 2, 2)])), by (unfold Served; decide +kernel)⟩,
   ⟨5, rq1, 11, (let g : Fin 12 := 11; (up .standby [(K (PG g) 2, 2)]).owned [0xE3 + g] 0x0AFF), by (unfold Served; decide +kernel)⟩,
   ⟨5, rq1, { up .preop [(K 0x9200 2, 3), (K 0x9200 0x0A, 1)] with ins := { Ins.init with ring := [⟨1, 2, 0, 3, 4⟩] } }, by (unfold Served; decide +kernel)⟩,
   ⟨5, rq1, (up .preop [(K 0x9200 2, 1), (K 0x9200 4, 9), (K 0x9210 1, 1), (K 0x9210 2, 7)]), by (unfold Served; decide +kernel)⟩,
   ⟨5, rq1, { up .preop [(K 0x9200 2, 2)] with ins := { Ins.init with probes := setNth Ins.init.probes 3 ⟨[⟨1, 2, 0, 3, 4⟩], false, 0⟩ } }, by (unfold Served; decide +kernel)⟩,
   ⟨5, rq1, ({ up .preop [(K 0x9200 2, 3), (K 0x9200 9, 4)] with ins := { Ins.init with ring := [⟨1, 2, 0, 3, 4⟩] } }).owned [0x9F, 0xA0] 0x0800, by (unfold Served; decide +kernel)⟩,
   ⟨5, 3, ⟨1, 3, 0, 3, 4⟩, [], { up .preop [(K 0x9200 2, 1)] with ins := { Ins.init with probes := setNth Ins.init.probes 3 ⟨[⟨1, 3, 0, 3, 4⟩], false, 0⟩ } }, by decide +kernel⟩⟩

theorem witness_HostPorts :
    (∃ (dt : Nat) (b : List Byte) (s : State), s.hspiReady = true ∧ s.serverUp = true ∧ formOk .hspi b = false ∧ s.upd.waits = none) ∧
    (∃ (dt : Nat) (b : List Byte) (s : State), s.hspiReady = false ∧ s.hspiOn = true ∧ s.upd.waits = none) ∧
    (∃ (dt : Nat) (n : Nat) (r : List Byte) (rest : List (List Byte)) (s : State), s.hspiOn = true ∧ s.pins.hspiHeld = r :: rest ∧
      s.upd.waits = none) ∧
    (∃ (dt : Nat) (n : Nat) (s : State), s.hspiOn = true ∧ s.pins.hspiHeld = [] ∧ s.upd.waits = none) ∧
    (∃ (dt : Nat) (n : Nat) (s : State), s.hspiOn = true ∧ s.upd.waits = none) ∧
    (∃ (dt : Nat) (s : State), s.upd.waits = none) ∧
    (∃ (dt : Nat) (s : State), s.upd.waits = none) ∧
    (∃ (dt : Nat) (cells : List Bool) (s : State), s.upd.waits = none) ∧
    (∃ (dt : Nat) (s : State), s.upd.waits = none) ∧
    (∃ (dt : Nat) (s : State), s.upd.waits = none) :=
  ⟨⟨5, [1, 2], up .operate [(K 0x1220 1, 1)], by decide +kernel⟩,
   ⟨5, [1, 2], { up .operate [(K 0x1220 1, 1)] with pins := { Pins.init with hspiBusy := true } }, by decide +kernel⟩,
   ⟨5, 9, [1, 2, 3], [[4]], (let r : List Byte := [1, 2, 3]; let rest : List (List Byte) := [[4]]; { up .operate [(K 0x1220 1, 1)] with pins := { Pins.init with hspiHeld := r :: rest } }), by decide +kernel⟩,
   ⟨5, 5, up .operate [(K 0x1220 1, 1)], by decide +kernel⟩,
   ⟨5, 5, up .operate [(K 0x1220 1, 1)], by decide +kernel⟩,
   ⟨5, up .operate [], by decide +kernel⟩,
   ⟨5, up .operate [], by decide +kernel⟩,
   ⟨5, [true, false, true], up .operate [], by decide +kernel⟩,
   ⟨5, { up .safe [] with pins := { Pins.init with rbBalls := [true, true] } }, by decide +kernel⟩,
   ⟨5, { up .safe [] with pins := { Pins.init with rbBalls := [true, true] } }, by decide +kernel⟩⟩

theorem witness_ObjectLists :
    (∃ (dt : Nat) (p : Fin 2) (b : List Byte) (l : ObjList) (s : State), s.netUp p = true ∧ bit (s.get (K 0x3200 2)) p = true ∧ 8 ≤
      b.length ∧ s.geo.lastLseq = none ∧ s.geo.asm = none ∧ (parseFrag b).sound = true ∧ (parseFrag b).fcnt = 1 ∧ (s.tick dt).checkList
      ⟨beAt b 0 4, s.now + dt, if (parseFrag b).fidx = 0 then some (s.tick dt).timeNs else none, [parseFrag b]⟩ = .ok l ∧ s.upd.waits =
      none) ∧
    (∃ (dt : Nat) (p : Fin 2) (b : List Byte) (r : Nat) (s : State), s.netUp p = true ∧ bit (s.get (K 0x3200 2)) p = true ∧ 8 ≤ b.length ∧
      s.geo.lastLseq = none ∧ s.geo.asm = none ∧ (parseFrag b).sound = true ∧ (parseFrag b).fcnt = 1 ∧ (s.tick dt).checkList ⟨beAt b 0 4,
      s.now + dt, if (parseFrag b).fidx = 0 then some (s.tick dt).timeNs else none, [parseFrag b]⟩ = .error r ∧ s.upd.waits = none) ∧
    (∃ (dt : Nat) (p : Fin 2) (b : List Byte) (s : State), s.netUp p = true ∧ bit (s.get (K 0x3200 2)) p = true ∧ 8 ≤ b.length ∧
      s.geo.lastLseq = none ∧ s.geo.asm = none ∧ (parseFrag b).sound = true ∧ 2 ≤ (parseFrag b).fcnt ∧ s.upd.waits = none) ∧
    (∃ (dt : Nat) (p : Fin 2) (b : List Byte) (s : State), (s.netUp p = false ∨ bit (s.get (K 0x3200 2)) p = false) ∧ s.upd.waits = none) ∧
    (∃ (dt : Nat) (a : Assembly) (s : State), s.geo.asm = some a ∧ a.start + s.get (K 0x3200 5) * 1000000 ≤ s.now + dt ∧ s.upd.waits =
      none) ∧
    (∃ (dt : Nat) (s : State), s.geo.asm = none ∧ s.upd.waits = none) ∧
    (∃ (dt : Nat) (l : ObjList) (rest : List ObjList) (s : State), s.geo.accepted = l :: rest ∧ s.geo.inUse = some 0 ∧ s.upd.waits = none) ∧
    (∃ (dt : Nat) (s : State), s.geo.accepted = [] ∧ s.upd.waits = none) ∧
    (∃ (dt : Nat) (n : Nat) (l : ObjList) (s : State), s.geo.newest = some n ∧ nth none s.geo.slots n = some l ∧ s.upd.waits = none ∧
      s.domState 2 = 0) ∧
    (∃ (dt : Nat) (s : State), s.geo.newest = none ∧ s.upd.waits = none) :=
  ⟨⟨5, 0, fragB 1 true, (let b : List Byte := fragB 1 true; (match (geoS Geo.init).tick 5 |>.checkList ⟨beAt b 0 4, 5, some 5, [parseFrag b]⟩ with | .ok l => l | .error _ => olist true)), geoS Geo.init, by decide +kernel⟩,
   ⟨5, 1, fragB 1 false, 4, geoS Geo.init, by decide +kernel⟩,
   ⟨5, 1, fragB 2 true, geoS Geo.init, by decide +kernel⟩,
   ⟨5, 1, fragB 2 true, up .operate [(K 0x3200 2, 3)], by decide +kernel⟩,
   ⟨99000000000, ⟨9, 3, none, []⟩, (let a : Assembly := ⟨9, 3, none, []⟩; geoS { Geo.init with asm := some a }), by decide +kernel⟩,
   ⟨5, geoS Geo.init, by decide +kernel⟩,
   ⟨5, olist true, [olist true], (let l : ObjList := olist true; let rest : List ObjList := [olist true]; geoS { Geo.init with accepted := l :: rest, inUse := some 0, slots := [some (olist false), none, none, none] }), by decide +kernel⟩,
   ⟨5, geoS Geo.init, by decide +kernel⟩,
   ⟨5, 3, olist false, (let n : Nat := 3; let l : ObjList := olist false; geoS { Geo.init with newest := some n, slots := List.replicate 4 (some l) }), by decide +kernel⟩,
   ⟨5, geoS Geo.init, by decide +kernel⟩⟩


/-- The queue with a command, and the empty one. -/
theorem witness_StepRunsFront :
    (∃ c rest, ∃ s : State, s.pending = c :: rest) ∧ (∃ s : State, s.pending = []) :=
  ⟨⟨.bypass 3, [.firstLight 4], { State.reset with pending := [.bypass 3, .firstLight 4] }, rfl⟩, ⟨State.reset, rfl⟩⟩

/-- A safe state with a stop in force, of which a step answers the next. -/
theorem witness_StepKeepsSafe : ∃ s t : State, s.Safe ∧ step s = .next t ∧ s.aliveStop ≠ 0 :=
  ⟨{ State.reset with pending := [.firstLight 4] },
   (match step { State.reset with pending := [.firstLight 4] } with | .next t => t | _ => State.reset),
   by unfold State.Safe State.blockedIsSafe State.stopHolds; decide +kernel, by rfl, by decide +kernel⟩

/-- A command that stands for a write, taken as a request. -/
theorem witness_TypedWrites : ∃ (i : Instr) (s : State) (dt : Nat) (rq : Rq) (k n : Nat),
    writeMeant i = some (dt, rq, k, n) ∧ (s.tick dt).hears rq 2 k 0 0 (toBe (widthOf k / 8) n) = true :=
  ⟨.stateRequestPreop 5 rq1, up .preop [], 5, rq1, K 0x2000 2, 1, by decide +kernel⟩

/-- An object of the dictionary. -/
theorem witness_SubIndexes_2 : ∃ i o, findObj i = some o ∧ o.hi = 6 :=
  ⟨0x2100, (findObj 0x2100).getD ⟨0, 0, 0, []⟩, by decide +kernel⟩

/-- The last command row's entry while no pair runs. -/
theorem witness_ServerUnavailable_7 : ∃ (s : State) (k : Nat), s.sys.apc.any id = false ∧ widthOf k ≤ 64 ∧ k < 2 ^ 24 :=
  ⟨State.reset, K 0xFFFF 0xFF, by decide +kernel⟩


end Sys2Proof.Tests
end

section
/-! SUPPORT. What the state after reset holds, read through the operations that the statements use (R20, R51, R394, R434). -/

namespace Sys2Proof.Machine

/-! ### The dictionary and the claims after reset -/

@[simp] theorem State.reset_get (k : Nat) : State.reset.get k = dflt k := rfl
@[simp] theorem State.reset_act (k : Nat) : State.reset.act k = dflt k := rfl
@[simp] theorem State.reset_dom (k : Nat) : State.reset.dom k = none := rfl
@[simp] theorem State.reset_owner (r : Nat) : State.reset.owner r = 0 := rfl

/-- The table's default of the mask of latched Roadblocks (R394). -/
theorem dflt_latched : dflt (K 0x8010 1) = 0 := by decide +kernel

/-! ### When the server is down, the outputs are off and ALIVE is stopped -/

/-- Without a running pair of application cores nothing serves the dictionary (R46). -/
theorem State.serverUp_eq_false_of_no_pair {s : State} (h : s.sys.apc.any id = false) : s.serverUp = false := by
  rw [State.serverUp, h, Bool.false_and]

/-- A device that runs single has no outputs before step 7 of the boot (R446). -/
theorem State.outputsOn_eq_false_of_single {s : State} (hs : s.tw.single = true) (hb : s.sys.bootStep < 7) : s.outputsOn = false := by
  rw [State.outputsOn, if_pos hs, decide_eq_false (Nat.not_le.mpr hb)]

/-- Before first light, step 8 of the boot, the state calls for a stop of ALIVE (R434). -/
theorem State.stateStop_of_boot {s : State} (hm : s.mode = .boot) (hb : s.sys.bootStep < 8) : s.stateStop = true := by
  simp [State.stateStop, hm, hb]

/-- A stop that the state calls for is in force, unless a reaction's stop, which ranks above it, is (R434). -/
theorem State.aliveStop_ne_zero_of_stateStop {s : State} (h : s.stateStop = true) : s.aliveStop ≠ 0 := by
  rw [State.aliveStop, if_pos h]
  split <;> decide

/-! ### The fields of the state after reset -/

theorem State.reset_serverUp : State.reset.serverUp = false := State.serverUp_eq_false_of_no_pair rfl

theorem State.reset_log : ∀ e ∈ State.reset.safe.log, e = none := fun _ he => List.eq_of_mem_replicate he

theorem State.reset_latched : State.reset.latched = 0 := by
  rw [State.latched, State.reset_get, dflt_latched]

theorem State.reset_outputsOn : State.reset.outputsOn = false := State.outputsOn_eq_false_of_single rfl (by decide)

theorem State.reset_aliveStop : State.reset.aliveStop ≠ 0 :=
  State.aliveStop_ne_zero_of_stateStop (State.stateStop_of_boot rfl (by decide))

/-- Settles O3: the plain fields are those of the literal `State.reset`; the others follow from what no running pair, the boot before
step 7 and the table's default of the Roadblock mask entail. -/
theorem resetState : Obligations.ResetState :=
  ⟨rfl, rfl, State.reset_get, State.reset_act, State.reset_serverUp, State.reset_owner, rfl, State.reset_dom, State.reset_log,
   State.reset_latched, State.reset_outputsOn, State.reset_aliveStop, rfl⟩

end Sys2Proof.Machine
end

section
/-! PROOFS. Every command completes, and what every step keeps (R48, R52, R53, R427, R434). -/

namespace Sys2Proof.Machine

/-! ### Every command ends in `done` -/

/-- The form that every meaning has: an effect is made, and what hardware keeps true follows. -/
theorem exec_eq_done (i : Instr) (s : State) : ∃ u, exec i s = done u := by
  cases i <;> exact ⟨_, rfl⟩

/-- A step idles on an empty queue, and settles the effect of a command otherwise. -/
theorem step_cases (s : State) : step s = .next s ∨ ∃ u, step s = done u := by
  unfold step
  split
  · exact .inl rfl
  · exact .inr (exec_eq_done _ _)

/-- Settles O2: every meaning ends in `done`, which answers a next state. -/
theorem noCommandStops : Obligations.NoCommandStops := by
  refine ⟨fun i s => ?_, fun s => ?_⟩
  · obtain ⟨u, hu⟩ := exec_eq_done i s
    exact ⟨u.settle, hu⟩
  · obtain h | ⟨u, hu⟩ := step_cases s
    · exact ⟨s, h⟩
    · exact ⟨u.settle, hu⟩

/-! ### A Roadblock on every enabled source has the device in SAFE or BOOT -/

theorem State.allBlocked_congr {s t : State} (ha : t.active = s.active) (hl : t.latched = s.latched) : t.allBlocked = s.allBlocked := by
  unfold State.allBlocked State.srcs State.srcOn State.act
  rw [ha, hl]

/-- The statement reads the device state, the sources in force and the mask of latched Roadblocks alone. -/
theorem State.blockedIsSafe.congr {s t : State} (h : s.blockedIsSafe) (hm : t.mode = s.mode) (ha : t.active = s.active)
    (hl : t.latched = s.latched) : t.blockedIsSafe := by
  unfold State.blockedIsSafe
  rw [State.allBlocked_congr ha hl, hm]
  exact h

theorem State.latched_set_ne (s : State) (k v : Nat) (h : k ≠ K 0x8010 1) : (s.set k v).latched = s.latched :=
  s.get_set_ne k _ v h.symm

theorem State.latched_of_dict {s t : State} (h : t.dict = s.dict) : t.latched = s.latched := by
  unfold State.latched State.get
  rw [h]

theorem State.noteStage_mode (s : State) : s.noteStage.mode = s.mode := by
  unfold State.noteStage; split <;> rfl

theorem State.noteStage_active (s : State) : s.noteStage.active = s.active := by
  unfold State.noteStage; split <;> rfl

theorem State.noteStage_dict (s : State) : s.noteStage.dict = s.dict := by
  unfold State.noteStage; split <;> rfl

theorem State.startRoll_active (s : State) (slot : Nat) (fall : Option Nat) : (s.startRoll slot fall).active = s.active := by
  unfold State.startRoll; rw [State.noteStage_active]; rfl

theorem State.startRoll_latched (s : State) (slot : Nat) (fall : Option Nat) : (s.startRoll slot fall).latched = s.latched := by
  unfold State.startRoll State.enter
  rw [State.latched_of_dict (State.noteStage_dict _), State.latched_set_ne _ _ _ (by decide +kernel),
    State.latched_set_ne _ _ _ (by decide +kernel)]
  rfl

theorem State.resetTo_mode (s : State) (powerOn : Bool) (cause : Nat) : (s.resetTo powerOn cause).mode = .boot := rfl

/-- A fall-back that starts rolls with the sources as they are, or resets the device to BOOT. -/
theorem State.fallBackNow_cases (s : State) (cause : Nat) :
    (s.fallBackNow cause).allBlocked = s.allBlocked ∨ (s.fallBackNow cause).mode = .boot := by
  unfold State.fallBackNow
  dsimp only
  split
  · exact .inl (State.allBlocked_congr (State.startRoll_active ..) (State.startRoll_latched ..))
  · exact .inr (State.resetTo_mode ..)

theorem State.blockedIsSafe_safeSettle (s : State) : s.safeSettle.blockedIsSafe := by
  unfold State.safeSettle
  split
  · exact fun _ => .inl rfl
  · rename_i h
    intro hb
    by_contra hm
    rw [not_or] at hm
    exact h ⟨hm.2, hm.1, hb⟩

theorem State.fallSettle_cases (s : State) : s.fallSettle = s ∨
    (s.mode ≠ .safe ∧ s.mode ≠ .boot ∧ ∃ c, s.fallSettle = s.fallBackNow c) := by
  unfold State.fallSettle
  split
  · rename_i c _
    split
    · rename_i hm
      have hne : s.mode ≠ .safe ∧ s.mode ≠ .boot := by
        rcases hm with hm | ⟨hm | hm, _⟩ <;> rw [hm] <;> decide
      exact .inr ⟨hne.1, hne.2, c, rfl⟩
    · exact .inl rfl
  · exact .inl rfl

theorem State.blockedIsSafe.fallSettle {s : State} (h : s.blockedIsSafe) : s.fallSettle.blockedIsSafe := by
  obtain he | ⟨hs, hb, c, he⟩ := s.fallSettle_cases
  · rwa [he]
  · rw [he]
    intro ha
    rcases s.fallBackNow_cases c with hc | hc
    · exact absurd (h (hc ▸ ha)) (not_or.mpr ⟨hs, hb⟩)
    · exact .inr hc

theorem State.aliveLow_mode (s : State) (code : Nat) : (s.aliveLow code).mode = s.mode := by
  unfold State.aliveLow; dsimp only; split <;> rfl

theorem State.aliveSettle_mode (s : State) : s.aliveSettle.mode = s.mode := by
  unfold State.aliveSettle
  split
  · rfl
  · exact State.aliveLow_mode ..

theorem State.blockedIsSafe.aliveSettle {s : State} (h : s.blockedIsSafe) : s.aliveSettle.blockedIsSafe := by
  have f := frame_aliveSettle [] (fun _ => False) s
  exact h.congr s.aliveSettle_mode (f.1 .active List.not_mem_nil) (f.2 _ (by decide +kernel) id)

theorem State.interlock_mode (s : State) : s.interlock.mode = s.mode := by
  unfold State.interlock; split <;> rfl

theorem State.interlock_dict (s : State) : s.interlock.dict = s.dict := by
  unfold State.interlock; split <;> rfl

theorem State.blockedIsSafe.interlock {s : State} (h : s.blockedIsSafe) : s.interlock.blockedIsSafe :=
  h.congr s.interlock_mode ((frame_interlock [] (fun _ => False) s).1 .active List.not_mem_nil) (State.latched_of_dict s.interlock_dict)

/-! ### While a stop is in force, ALIVE is low -/

theorem State.aliveLow_aliveP (s : State) (code : Nat) : (s.aliveLow code).safe.aliveP = false := by
  unfold State.aliveLow; dsimp only; split <;> rfl

theorem State.aliveLow_reads_stopped (s : State) (code : Nat) : (s.aliveLow code).get (K 0x8400 1) = 0 := by
  unfold State.aliveLow
  dsimp only
  split
  · assumption
  · unfold State.inc
    rw [State.get_set_ne _ _ _ _ (by decide +kernel), State.get_set_ne _ _ _ _ (by decide +kernel), State.get_set_self _ _ _ (by decide +kernel)]

theorem State.stopHolds_aliveSettle (s : State) : s.aliveSettle.stopHolds := by
  unfold State.aliveSettle
  split
  · rename_i h
    exact fun hn => absurd h hn
  · exact fun _ => ⟨State.aliveLow_aliveP .., State.aliveLow_reads_stopped ..⟩

/-- The interlock moves the laser enables and what leaves on the ports, of which no stop depends. -/
theorem State.stopHolds.interlock {s : State} (h : s.stopHolds) : s.interlock.stopHolds := by
  unfold State.interlock
  split
  · exact h
  · exact h

/-- What hardware keeps true at every instant makes every state safe. -/
theorem State.safe_settle (s : State) : s.settle.Safe :=
  ⟨s.resetSettle.blockedIsSafe_safeSettle.fallSettle.aliveSettle.interlock, (State.stopHolds_aliveSettle _).interlock⟩

/-- Settles O5: an idle step stays, and the effect of a command is settled into a safe state. -/
theorem stepKeepsSafe : Obligations.StepKeepsSafe := by
  intro s t hs ht
  obtain h | ⟨u, hu⟩ := step_cases s
  · exact Host.Outcome.next.inj (h.symm.trans ht) ▸ hs
  · exact Host.Outcome.next.inj (hu.symm.trans ht) ▸ u.safe_settle

end Sys2Proof.Machine
end

section
/-! PROOFS. PDUs: the fields that the bytes of a PDU spell (R39). -/

namespace Sys2Proof.Machine

theorem slice_zero_append (a r : List Byte) : slice (a ++ r) 0 a.length = a := by simp [slice]

/-- A number that stands first among some bytes reads back (R16, R35). -/
theorem beAt_toBe_append (n v : Nat) (r : List Byte) : beAt (toBe n v ++ r) 0 n = v % 256 ^ n := by
  have h := slice_zero_append (toBe n v) r
  rw [toBe_length] at h
  rw [beAt, h, be_toBe]

theorem byteAt_lt (b : List Byte) (o : Nat) : byteAt b o < 256 := by
  obtain ⟨x, hx⟩ : ∃ x, slice b o 1 = [x] := List.length_eq_one_iff.mp (by simp [slice])
  rw [byteAt, beAt, hx, be, List.foldl_cons, List.foldl_nil]
  exact (Nat.zero_mul 256).symm ▸ (Nat.zero_add x.toNat).symm ▸ x.isLt

/-- The bytes of a PDU, field by field. -/
theorem Pdu.bytes_append (p : Pdu) (pad : List Byte) : p.bytes ++ pad = BitVec.ofNat 8 p.cmd :: p.tag :: (toBe 2 (p.key / 256) ++
    (toBe 1 (p.key % 256) ++ (toBe 1 p.flags ++ (toBe 2 p.data.length ++ (toBe 4 p.arg ++ (p.data ++ pad)))))) := by
  simp only [Pdu.bytes, List.append_assoc, List.cons_append, List.nil_append]

theorem Pdu.bytes_length (p : Pdu) : p.bytes.length = 12 + p.data.length := by
  simp only [Pdu.bytes, List.length_append, List.length_cons, List.length_nil, toBe_length]

/-- What a PDU's bytes spell: each field of its header to the width of that field, and the data. -/
theorem parsePdu_bytes_append (p : Pdu) (pad : List Byte) :
    parsePdu (p.bytes ++ pad) =
      ⟨p.cmd % 256, p.tag, p.key / 256 % 65536 * 256 + p.key % 256, p.flags % 256, p.data.length % 65536, p.arg % 2 ^ 32,
        (p.data ++ pad).take (p.data.length % 65536)⟩ := by
  rw [Pdu.bytes_append]
  generalize hb : BitVec.ofNat 8 p.cmd :: p.tag :: _ = b
  have hcmd : byteAt b 0 = p.cmd % 256 := by subst hb; simp [byteAt, beAt, slice, be]
  have htag : byteAt b 1 = p.tag.toNat := by subst hb; simp [byteAt, beAt, slice, be]
  have hidx : beAt b 2 2 = p.key / 256 % 65536 := hb ▸ beAt_toBe_append 2 _ _
  have hsub : byteAt b 4 = p.key % 256 := by
    have h : byteAt b 4 = p.key % 256 % 256 ^ 1 := hb ▸ beAt_toBe_append 1 _ _
    rw [h]; omega
  have hflags : byteAt b 5 = p.flags % 256 := hb ▸ beAt_toBe_append 1 _ _
  have hlen : beAt b 6 2 = p.data.length % 65536 := hb ▸ beAt_toBe_append 2 _ _
  have harg : beAt b 8 4 = p.arg % 2 ^ 32 := hb ▸ beAt_toBe_append 4 _ _
  have hdata : b.drop 12 = p.data ++ pad := hb ▸ rfl
  rw [parsePdu, hcmd, htag, hidx, hsub, hflags, hlen, harg, hdata, BitVec.ofNat_toNat, BitVec.setWidth_eq]

/-- Settles O8: a field in its width is what its bytes spell, and LEN bytes of what follows the header are the data. -/
theorem pduRoundTrip : Obligations.PduRoundTrip := by
  intro cmd key flags arg tag data pad hcmd hkey hflags harg hlen
  have hk : key / 256 % 65536 * 256 + key % 256 = key := by omega
  rw [parsePdu_bytes_append]
  simp only [Nat.mod_eq_of_lt hcmd, Nat.mod_eq_of_lt hflags, Nat.mod_eq_of_lt harg, Nat.mod_eq_of_lt hlen, hk, List.take_left]

end Sys2Proof.Machine
end

section
/-! PROOFS. Requests: what a request that is heard, or that no server hears, comes to (R39–R46), and what its answer leaves unchanged. -/

namespace Sys2Proof.Machine

/-! ### Keys of entries -/

theorem K_div (i : Nat) {u : Nat} (h : u < 256) : K i u / 256 = i := by unfold K; omega

theorem K_mod (i : Nat) {u : Nat} (h : u < 256) : K i u % 256 = u := by unfold K; omega

/-! ### The PDU of a request -/

/-- The PDU that a request with a given header and data is. -/
def requestPdu (rq : Rq) (cmd k flags arg : Nat) (data : List Byte) : Pdu := ⟨cmd, rq.tag, k, flags, data.length, arg, data⟩

theorem framed_eq_append (c : Client) (b : List Byte) : ∃ pad, framed c b = b ++ pad := by
  cases c with
  | can _ => exact ⟨_, rfl⟩
  | _ => exact ⟨[], (List.append_nil b).symm⟩

/-- What a transport puts behind a PDU is no part of the request. -/
theorem framed_take (c : Client) (p : Pdu) : (framed c p.bytes).take (12 + p.data.length) = p.bytes := by
  obtain ⟨pad, h⟩ := framed_eq_append c p.bytes
  rw [h, ← Pdu.bytes_length, List.take_left]

theorem parsePdu_framed (c : Client) (p : Pdu) : ∃ d, parsePdu (framed c p.bytes) =
    ⟨p.cmd % 256, p.tag, p.key / 256 % 65536 * 256 + p.key % 256, p.flags % 256, p.data.length % 65536, p.arg % 2 ^ 32, d⟩ := by
  obtain ⟨pad, h⟩ := framed_eq_append c p.bytes
  rw [h, parsePdu_bytes_append]
  exact ⟨_, rfl⟩

/-! ### A request that is heard -/

/-- What it is for a request to be heard. -/
theorem State.hears_iff (s : State) (rq : Rq) (cmd k flags arg : Nat) (data : List Byte) :
    s.hears rq cmd k flags arg data = true ↔
      s.serverUp = true ∧ s.repeated rq.client (requestPdu rq cmd k flags arg data).bytes = none ∧
      formOk rq.client (framed rq.client (requestPdu rq cmd k flags arg data).bytes) = true ∧
      emptyOk (requestPdu rq cmd k flags arg data) = true ∧
      (∀ u v, (requestPdu rq cmd k flags arg data).use = some (u, v) → s.outsideRecovery k u v = false) ∧
      parsePdu (framed rq.client (requestPdu rq cmd k flags arg data).bytes) = requestPdu rq cmd k flags arg data := by
  have ht := framed_take rq.client (requestPdu rq cmd k flags arg data)
  unfold State.hears
  unfold requestPdu at *
  dsimp only at *
  generalize framed rq.client (Pdu.bytes ⟨cmd, rq.tag, k, flags, data.length, arg, data⟩) = b at *
  simp only [Bool.and_eq_true, beq_iff_eq, Option.isNone_iff_eq_none, Bool.not_eq_true']
  constructor
  · rintro ⟨⟨⟨⟨⟨hup, hrep⟩, hform⟩, hempty⟩, huse⟩, hp⟩
    rw [hp] at hrep hempty huse
    refine ⟨hup, ht ▸ hrep, hform, hempty, fun u v h => ?_, hp⟩
    rw [h] at huse
    exact huse
  · rintro ⟨hup, hrep, hform, hempty, huse, hp⟩
    rw [hp]
    refine ⟨⟨⟨⟨⟨hup, ht ▸ hrep⟩, hform⟩, hempty⟩, ?_⟩, rfl⟩
    cases h : Pdu.use ⟨cmd, rq.tag, k, flags, data.length, arg, data⟩ with
    | none => rfl
    | some x => exact huse x.1 x.2 h

/-- A request that is heard is served by its command; one that wants nothing of an entry must find no recovery loader, or its open transfer. -/
theorem State.request_heard {s : State} {rq : Rq} {cmd k flags arg : Nat} {data : List Byte} (h : s.hears rq cmd k flags arg data = true)
    (hc : cmd ≠ 0x7F) (hr : (requestPdu rq cmd k flags arg data).use ≠ none ∨ s.sys.recovery = false ∨
      ((cmd = 4 ∨ cmd = 6) ∧ (s.xferOf rq.client).isSome = true)) :
    s.request rq cmd k flags arg data =
      s.serve rq.client (requestPdu rq cmd k flags arg data) (requestPdu rq cmd k flags arg data).bytes := by
  obtain ⟨hup, hrep, hform, hempty, huse, hp⟩ := (s.hears_iff rq cmd k flags arg data).mp h
  have haway : (match (requestPdu rq cmd k flags arg data).use with
      | some (u, v) => s.outsideRecovery k u v
      | none => s.sys.recovery && !((cmd == 4 || cmd == 6) && (s.xferOf rq.client).isSome)) = false := by
    cases hu : (requestPdu rq cmd k flags arg data).use with
    | some x => exact huse x.1 x.2 hu
    | none =>
      rcases hr with hr | hr | ⟨hr, hx⟩
      · exact absurd hu hr
      · simp [hr]
      · rcases hr with hr | hr <;> simp [hr, hx]
  have hreq : (framed rq.client (requestPdu rq cmd k flags arg data).bytes).take (12 + (requestPdu rq cmd k flags arg data).len) =
      (requestPdu rq cmd k flags arg data).bytes := framed_take rq.client (requestPdu rq cmd k flags arg data)
  change s.servePdu rq.client (framed rq.client (requestPdu rq cmd k flags arg data).bytes) = _
  simp only [State.servePdu, hp, hform, hempty, Bool.and_self, if_true, hreq, hup, hrep, Bool.not_true, Bool.false_eq_true, if_false]
  exact (if_neg fun h => hc h.1).trans (if_neg (ne_true_of_eq_false haway))

/-- While no server runs, a request is answered with an abort at once (R46). -/
theorem State.request_unserved {s : State} {rq : Rq} {cmd k flags arg : Nat} {data : List Byte} (h : s.serverUp = false)
    (hc : cmd % 256 ≠ 0x7F) (hk : k < 2 ^ 24) :
    s.request rq cmd k flags arg data = s.deliver rq.client (abortPdu rq.tag k (0x0409, 0)) := by
  change s.servePdu rq.client (framed rq.client (requestPdu rq cmd k flags arg data).bytes) = _
  obtain ⟨d, hp⟩ := parsePdu_framed rq.client (requestPdu rq cmd k flags arg data)
  have hkey : k / 256 % 65536 * 256 + k % 256 = k := by omega
  have hcmd : (parsePdu (framed rq.client (requestPdu rq cmd k flags arg data).bytes)).cmd ≠ 0x7F := by rw [hp]; exact hc
  have htag : (parsePdu (framed rq.client (requestPdu rq cmd k flags arg data).bytes)).tag = rq.tag := by rw [hp]; rfl
  have hkey' : (parsePdu (framed rq.client (requestPdu rq cmd k flags arg data).bytes)).key = k := by rw [hp]; exact hkey
  simp only [State.servePdu, hcmd, htag, hkey', h, false_and, if_false, Bool.not_false, if_true]

/-! ### What an answer leaves -/

theorem State.lastReply_of_clients {s t : State} (h : t.sys.clients = s.sys.clients) (c : Client) : t.lastReply c = s.lastReply c := by
  unfold State.lastReply State.clientRec; rw [h]

theorem State.lastReply_answer (s : State) (c : Client) (req resp : List Byte) : (s.answer c req resp).lastReply c = some resp := by
  obtain ⟨x, hx, -, hr⟩ := answer_rec s c req resp
  rw [State.lastReply, hx, Option.map_some, hr]

/-- A command that ends in an answer changes, beside what it changed before, what waits to leave and the clients, and the answer is the
client's last one. -/
theorem does_answer {i : Instr} {s v : State} {dt : Nat} {c : Client} {req resp : List Byte} {ps : List Part} {ks : Nat → Prop}
    {post : State → Prop} (hx : exec i s = done (v.answer c req resp)) (hw : s.upd.waits = none) (hf : Frame ps ks (s.tick dt) v)
    (hq : .ports ∈ ps ∧ .clients ∈ ps ∧ .upd ∉ ps ∧ .due ∉ ps)
    (hp : ∀ t, Frame [.ports, .clients] (fun _ => False) v t → t.lastReply c = some resp → post t) : Does i s ps ks post := by
  obtain ⟨hports, hclients, hupd, hdue⟩ := hq
  have fa (qs : List Part) (ls : Nat → Prop) (h1 : .ports ∈ qs) (h2 : .clients ∈ qs) : Frame qs ls v (v.answer c req resp) :=
    frame_answer qs ls v c req resp h1 h2
  have hfr := hf.trans (fa ps ks hports hclients)
  refine does_keeps hx hw (hfr.1 .due hdue rfl) ((frame_tick ps ks s dt).trans hfr) hupd fun t ft _ => hp t ?_ ?_
  · exact (fa _ _ (by decide) (by decide)).trans (ft.mono (by simp) fun _ h => h)
  · rw [State.lastReply_of_clients (ft.1 .clients (by decide)), State.lastReply_answer]

/-- A request that is only answered changes nothing else. -/
theorem does_refuse {i : Instr} {s : State} {dt : Nat} {c : Client} {req resp : List Byte}
    {post : State → Prop} (hx : exec i s = done ((s.tick dt).answer c req resp)) (hw : s.upd.waits = none)
    (hp : ∀ t, t.lastReply c = some resp → post t) : Does i s [.ports, .clients] (fun _ => False) post :=
  does_answer hx hw (Frame.refl _ _ _) (by decide) fun t _ h => hp t h

/-! ### What leaves on the ports stays -/

theorem State.mem_out_aliveLow {s : State} {o : Out} (code : Nat) (h : o ∈ s.out) : o ∈ (s.aliveLow code).out := by
  have hm : o ∈ s.out ++ s.aliveFalls := List.mem_append_left _ h
  unfold State.aliveLow
  dsimp only
  split
  · exact hm
  · exact hm

theorem State.mem_out_interlock {s : State} {o : Out} (h : o ∈ s.out) : o ∈ s.interlock.out := by
  unfold State.interlock
  split
  · exact h
  · exact List.mem_append_left _ h

/-- Where no fall-back waits and no reset is due, what a command has sent leaves on the ports. -/
theorem State.mem_out_settle {s : State} {o : Out} (hw : s.upd.waits = none) (hd : s.due = none) (h : o ∈ s.out) : o ∈ s.settle.out := by
  rw [settle_calm s hw hd]
  have hs : o ∈ s.safeSettle.out := by unfold State.safeSettle; split <;> exact h
  refine State.mem_out_interlock ?_
  unfold State.aliveSettle
  split
  · exact hs
  · exact State.mem_out_aliveLow _ hs

theorem State.mem_out_deliver (s : State) (c : Client) (pdu : List Byte) : Out.dap c pdu ∈ (s.deliver c pdu).out := by
  have h : Out.dap c pdu ∈ (s.emit (.dap c pdu)).out := List.mem_append_right _ List.mem_cons_self
  cases c <;> exact h

/-- A command that ends in what is sent to a client without a record of it. -/
theorem does_deliver {i : Instr} {s v : State} {dt : Nat} {c : Client} {pdu : List Byte} {ps : List Part} {ks : Nat → Prop}
    {post : State → Prop} (hx : exec i s = done (v.deliver c pdu)) (hw : s.upd.waits = none) (hf : Frame ps ks (s.tick dt) v)
    (hq : .ports ∈ ps ∧ .upd ∉ ps ∧ .due ∉ ps)
    (hp : ∀ t, Frame [] (fun _ => False) (v.deliver c pdu) t → Out.dap c pdu ∈ t.out → post t) : Does i s ps ks post := by
  obtain ⟨hports, hupd, hdue⟩ := hq
  have hfr := hf.trans (frame_deliver ps ks v c pdu hports)
  have hd : (v.deliver c pdu).due = none := hfr.1 .due hdue rfl
  have hu : (v.deliver c pdu).upd.waits = none := by
    have e : (v.deliver c pdu).upd = s.upd := hfr.1 .upd hupd
    rw [e]; exact hw
  exact ⟨_, hx, hp _ (frame_settle _ _ _ hu hd) (State.mem_out_settle hu hd (State.mem_out_deliver ..)),
    ((frame_tick ps ks s dt).trans hfr).trans (frame_settle ps ks _ hu hd)⟩

end Sys2Proof.Machine
end

section
/-! PROOFS. Requests while no pair of application cores runs (R46). -/

namespace Sys2Proof.Machine

/-- A request that meets no server is answered with an abort, and changes nothing but what waits to leave (R46). -/
theorem does_unserved {i : Instr} {s : State} {dt : Nat} {rq : Rq} {cmd k flags arg : Nat} {data : List Byte}
    (hx : exec i s = done ((s.tick dt).request rq cmd k flags arg data)) (hn : s.sys.apc.any id = false) (hw : s.upd.waits = none)
    (hc : cmd % 256 ≠ 0x7F) (hk : k < 2 ^ 24) :
    Does i s [.ports] (fun _ => False) fun t => Out.dap rq.client (abortPdu rq.tag k (0x0409, 0)) ∈ t.out := by
  rw [State.request_unserved (s := s.tick dt) (State.serverUp_eq_false_of_no_pair hn) hc hk] at hx
  exact does_deliver hx hw (Frame.refl _ _ _) (by decide) fun _ _ h => h

/-! ### What the start of an HSPI transaction changes -/

theorem frame_setDomain (ps : List Part) (ks : Nat → Prop) (s : State) (d st : Nat) (hk : ks (K 0x2302 (d + 1))) :
    Frame ps ks s (s.setDomain d st) := frame_set ps ks s _ _ (.inr hk)

theorem frame_startWake (ps : List Part) (ks : Nat → Prop) (s : State) (d : Nat) (hp : .pwr ∈ ps) (hk : ks (K 0x2302 (d + 1))) :
    Frame ps ks s (s.startWake d) := by
  unfold State.startWake
  dsimp only
  split
  · exact (frame_setDomain ps ks s d 3 hk).trans (frame_pwr ps ks _ _ hp)
  · split
    · exact frame_pwr ps ks s _ hp
    · exact Frame.refl ps ks s

/-- The row of HSPI among the wake sources names domains of the power table (R500). -/
theorem wakeSet_hspi_lt (s : State) : ∀ d ∈ s.wakeSet 4 0 false, d < 0x25 := by
  intro d hd
  change d ∈ (if bit (s.get (K 0x2300 3)) 2 then [0x24, 2] ++ (if bit (s.get (K 0x2300 4)) 0 then [3, 4] else []) ++
    (if bit (s.get (K 0x2300 4)) 1 then [5, 6] else []) else []) at hd
  split_ifs at hd <;> simp only [List.mem_append, List.mem_cons, List.not_mem_nil, or_false] at hd <;> omega

/-- What the start of a transaction may change: the wake source kept, and the states of domains (R500). -/
def hspiKeys (k : Nat) : Prop := k = K 0x2300 6 ∨ k / 256 = 0x2302

theorem frame_hspiBegin (s : State) : Frame [.pwr] hspiKeys s s.hspiBegin := by
  have fc : Frame [.pwr] hspiKeys s (if s.hspiOn then s.count 11 3 1 else s) :=
    frame_ite (fun _ => frame_count _ _ s 11 3 1 (by omega)) fun _ => Frame.refl _ _ s
  unfold State.hspiBegin
  generalize (if s.hspiOn then s.count 11 3 1 else s) = u at fc
  refine fc.trans ?_
  unfold State.wakeFor
  dsimp only
  split
  · exact Frame.refl _ _ u
  · refine (frame_foldl _ _ (fun t d hd => ?_) u).trans (frame_set _ _ _ _ _ (.inr (.inl rfl)))
    have hlt := wakeSet_hspi_lt u d (List.mem_filter.mp hd).1
    exact frame_startWake _ _ t d (by decide) (.inr (K_div 0x2302 (by omega)))

/-- An HSPI request while no pair runs: the domains that the transaction wakes, and an abort that the port holds (R46, R500, R553). -/
theorem hspiRequest_unserved {s : State} {b : List Byte} (hn : s.sys.apc.any id = false) (hr : s.hspiReady = true)
    (hc : (parsePdu b).cmd ≠ 0x7F) : ∃ v, s.hspiRequest b = v.deliver .hspi (abortPdu (parsePdu b).tag (parsePdu b).key (0x0409, 0)) ∧
      Frame [.ports, .pwr] hspiKeys s v ∧ v.pins.hspiHeld = s.pins.hspiHeld := by
  have fb := (frame_emit [.pwr] hspiKeys s (.hspi (s.hspiStatus :: List.replicate b.length 0))).trans (frame_hspiBegin _)
  unfold State.hspiRequest
  dsimp only
  rw [if_pos hr]
  generalize (s.emit (.hspi (s.hspiStatus :: List.replicate b.length 0))).hspiBegin = t at fb
  refine ⟨{ t with pins := { t.pins with hspiBusy := true } }, ?_, ?_, (fb.1 .ports (by decide)).2.2.1⟩
  · have hup : State.serverUp { t with pins := { t.pins with hspiBusy := true } } = false := by
      refine State.serverUp_eq_false_of_no_pair ?_
      rw [← hn]
      exact congrArg (List.any · id) (fb.1 .apc (by decide))
    unfold State.servePdu
    dsimp only
    rw [if_neg hc, if_neg (fun h => hc h.1), hup]
    rfl
  · exact (fb.mono (by decide) fun _ h => h).trans (frame_field .ports (by decide) (fun p hp => by cases p <;> simp_all [Part.same]) rfl)

/-- Settles O14: without a pair the server is down, so that every request ends in the same abort; the checks of a Guardrail frame read
nothing of the pairs. -/
theorem serverUnavailable : Obligations.ServerUnavailable := by
  refine ⟨fun dt rq k s hn hw hk => ?_, fun dt rq k data s hn hw hk _ => ?_, fun dt rq k s hn hw hk => ?_, fun dt rq k seg s hn hw hk => ?_,
    fun dt rq k total s hn hw hk => ?_, fun dt rq k seg last data s hn hw hk _ => ?_, fun s rq k n eff hn _ _ => ?_,
    fun dt b s hn hw hr hc => ?_, fun s a src n ty pre f => rfl⟩
  · exact does_unserved (cmd := 1) rfl hn hw (by decide) hk
  · exact does_unserved (cmd := 2) rfl hn hw (by decide) hk
  · exact does_unserved (cmd := 3) rfl hn hw (by decide) hk
  · exact does_unserved (cmd := 4) rfl hn hw (by decide) hk
  · exact does_unserved (cmd := 5) rfl hn hw (by decide) hk
  · exact does_unserved (cmd := 6) rfl hn hw (by decide) hk
  · exact if_pos (by rw [State.serverUp_eq_false_of_no_pair hn]; rfl)
  · obtain ⟨v, hv, fv, hheld⟩ := hspiRequest_unserved (s := s.tick dt) hn hr hc
    refine does_deliver (dt := dt) (congrArg done hv) hw (fv.mono (by decide) fun _ h => h) (by decide) fun t ft hm => ⟨hm, ?_⟩
    have hports := (ft.1 .ports (by decide)).2.2.1
    exact hports.trans (congrArg (· ++ _) hheld)

end Sys2Proof.Machine
end

section
/-! PROOFS. Sub-index 0x00 of every index, and sub-indices above the highest (R38). -/

namespace Sys2Proof.Machine

/-! ### Requests by their command -/

theorem request_read {s : State} {rq : Rq} {k : Nat} (h : s.hears rq 1 k 0 0 [] = true) :
    s.request rq 1 k 0 0 [] = s.serveRead rq.client (requestPdu rq 1 k 0 0 []).bytes rq.tag k :=
  State.request_heard h (by decide) (.inl (by simp [requestPdu, Pdu.use]))

theorem request_write {s : State} {rq : Rq} {k : Nat} {data : List Byte} (h : s.hears rq 2 k 0 0 data = true) :
    s.request rq 2 k 0 0 data = s.serveWrite rq.client (writePdu rq.tag k data) rq.tag k data (writeOf k) :=
  State.request_heard h (by decide) (.inl (by simp [requestPdu, Pdu.use]))

theorem request_upload {s : State} {rq : Rq} {k : Nat} (h : s.hears rq 3 k 0 0 [] = true) :
    s.request rq 3 k 0 0 [] = s.serveUpload rq.client (requestPdu rq 3 k 0 0 []).bytes rq.tag k :=
  State.request_heard h (by decide) (.inl (by simp [requestPdu, Pdu.use]))

theorem request_download {s : State} {rq : Rq} {k total : Nat} (h : s.hears rq 5 k 0 total [] = true) :
    s.request rq 5 k 0 total [] = s.serveDownload rq.client (requestPdu rq 5 k 0 total []).bytes rq.tag k total :=
  State.request_heard h (by decide) (.inl (by simp [requestPdu, Pdu.use]))

/-! ### Reads -/

theorem frame_pcgOpen (ps : List Part) (ks : Nat → Prop) (s : State) (g j : Nat) (hg : g < 12) (hj : j < 8) : Frame ps ks s (s.pcgOpen g j) := by
  unfold State.pcgOpen
  split
  · exact (frame_fresh ps ks s).trans (frame_pcgBump ps ks _ g j _ hg hj)
  · exact Frame.refl ps ks s

/-- Bringing a counter group up to date changes its cycle counter beside its counts (R526). -/
theorem frame_pcgSync (ps : List Part) (ks : Nat → Prop) (s : State) (g : Nat) (hg : g < 12) (hp : .pcg ∈ ps) (hk : ks (K (0x9100 + g) 2)) :
    Frame ps ks s (s.pcgSync g) := by
  unfold State.pcgSync
  extract_lets on n src t u v
  refine frame_ite (fun _ => ?_) fun _ => Frame.refl ps ks s
  have fu : Frame ps ks s u := (frame_ins_pcgSince ps ks s _ hp).trans (frame_set ps ks t _ _ (.inr hk))
  have fv : Frame ps ks s v := frame_ite (fun _ => fu) fun _ => fu.trans (frame_setFlag ps ks u _ _ _ (.inl (observer_pcg g 0x13 hg (.inr rfl))))
  exact fv.trans (frame_foldl _ _ (fun t j hj => frame_pcgOpen ps ks t g j hg (List.mem_range.mp hj)) v)

/-- What a Read brings up to date outside the check-value units and the lanes that are measured: a counter group (R526). -/
def groupKeys (k j : Nat) : Prop := j / 256 = k / 256 ∧ 0x9100 ≤ k / 256 ∧ k / 256 ≤ 0x910B

theorem frame_upToDate (s : State) {k : Nat} (hc : ¬ (0x9000 ≤ k / 256 ∧ k / 256 ≤ 0x9007)) (hl : measuredLane k = none) :
    Frame [.pcg] (groupKeys k) s (s.upToDate k) := by
  unfold State.upToDate
  simp only [if_neg hc, hl]
  refine frame_ite (fun hg => ?_) fun _ => Frame.refl _ _ s
  have hi : 0x9100 + (k / 256 - 0x9100) = k / 256 := by omega
  exact frame_pcgSync _ _ s _ (by omega) (by decide) ⟨by rw [hi]; exact K_div _ (by omega), hg⟩

theorem serveRead_open {s : State} {c : Client} {req : List Byte} {tag : Byte} {k : Nat} {e : Ent} (he : s.checkUse k .read = .ok e)
    (hg : s.gateOf k = .open_) : s.serveRead c req tag k =
      (s.upToDate k).answer c req (Pdu.bytes ⟨0x81, tag, k, 0, e.ty.size, 0, toBe e.ty.size ((s.upToDate k).readNum k)⟩) := by
  unfold State.serveRead
  rw [he]
  dsimp only
  rw [hg]

/-! ### Sub-index 0x00 -/

theorem toBe_one (v : Nat) : toBe 1 v = [BitVec.ofNat 8 v] := by simp [toBe]

theorem findEnt_zero {i : Nat} {o : Obj} (h : findObj i = some o) : findEnt (K i 0) = some (entHigh o) := by
  unfold findEnt
  rw [K_div i (by omega), K_mod i (by omega), h]
  rfl

theorem checkUse_read_zero {s : State} {i : Nat} {o : Obj} (h : findObj i = some o) : s.checkUse (K i 0) .read = .ok (entHigh o) := by
  unfold State.checkUse checkForm
  rw [findEnt_zero h, K_div i (by omega), K_mod i (by omega), h]
  rfl

theorem measuredLane_zero (i : Nat) : measuredLane (K i 0) = none := by
  unfold measuredLane
  rw [K_mod i (by omega)]
  rfl

theorem readNum_zero {s : State} {i : Nat} {o : Obj} (h : findObj i = some o) : s.readNum (K i 0) = o.hi := by
  unfold State.readNum
  rw [if_pos (K_mod i (by omega)), dflt, findEnt_zero h]
  rfl

/-! ### Sub-indices above the highest -/

/-- No use of an entry passes the checks of its form when its sub-index lies above the highest of its index (R38, R562). -/
theorem checkUse_above {s : State} {k : Nat} {o : Obj} (ho : findObj (k / 256) = some o) (hh : o.hi < k % 256) (u : Use) :
    s.checkUse k u = .error (0x0202, 0) := by
  unfold State.checkUse checkForm
  rw [ho]
  dsimp only
  rw [if_pos hh]

theorem serveRead_error {s : State} {c : Client} {req : List Byte} {tag : Byte} {k : Nat} {r : Code} (h : s.checkUse k .read = .error r) :
    s.serveRead c req tag k = s.answer c req (abortPdu tag k r) := by
  unfold State.serveRead; rw [h]

theorem serveUpload_error {s : State} {c : Client} {req : List Byte} {tag : Byte} {k : Nat} {r : Code} (h : s.checkUse k .upload = .error r) :
    s.serveUpload c req tag k = s.answer c req (abortPdu tag k r) := by
  unfold State.serveUpload; rw [h]

theorem serveDownload_error {s : State} {c : Client} {req : List Byte} {tag : Byte} {k total : Nat} {r : Code}
    (h : s.checkUse k .download = .error r) : s.serveDownload c req tag k total = s.answer c req (abortPdu tag k r) := by
  unfold State.serveDownload; rw [h]

/-- A Write that is heard and whose checks of form or state fail is answered with their code. -/
theorem request_write_error {s : State} {rq : Rq} {k : Nat} {data : List Byte} {r : Code} (h : s.hears rq 2 k 0 0 data = true)
    (he : s.checkUse k .write = .error r) :
    s.request rq 2 k 0 0 data = s.answer rq.client (writePdu rq.tag k data) (codePdu 0x82 rq.tag k r) := by
  obtain ⟨hup, hrep, -, -, huse, -⟩ := (s.hears_iff rq 2 k 0 0 data).mp h
  have hrep' : s.repeated rq.client (writePdu rq.tag k data) = none := hrep
  have hrec : s.outsideRecovery k .write (be data) = false := huse _ _ rfl
  rw [request_write h, State.serveWrite]
  simp only [hup, hrep', hrec, he, Bool.not_true, Bool.false_eq_true, if_false]

/-! ### The table -/

/-- The rows of an index start at sub-index 0x01 and end at its highest (R38). -/
def Obj.subsOk (o : Obj) : Bool :=
  o.ents.all (fun x => decide (1 ≤ x.sub ∧ x.sub + x.cnt ≤ o.hi + 1)) && o.ents.any fun x => decide (x.sub + x.cnt = o.hi + 1)

theorem objs_subsOk : objs.all Obj.subsOk = true := by decide +kernel

theorem Obj.subs_of_mem {o : Obj} (ho : o ∈ objs) :
    (∀ x ∈ o.ents, 1 ≤ x.sub ∧ x.sub + x.cnt ≤ o.hi + 1) ∧ ∃ x ∈ o.ents, x.sub + x.cnt = o.hi + 1 := by
  have h := List.all_eq_true.mp objs_subsOk o ho
  rw [Obj.subsOk, Bool.and_eq_true, List.all_eq_true, List.any_eq_true] at h
  exact ⟨fun x hx => of_decide_eq_true (h.1 x hx), h.2.imp fun x hx => ⟨hx.1, of_decide_eq_true hx.2⟩⟩

/-- Settles O13: the table holds what R38 says of its rows; a Read of sub-index 0x00 passes every check and answers the constant, and no
request above the highest sub-index passes the check of its form. -/
theorem subIndexes : Obligations.SubIndexes := by
  refine ⟨fun o ho => Obj.subs_of_mem ho, fun i o ho => ⟨_, findEnt_zero ho, rfl, rfl, rfl⟩, fun dt rq i o s hh hw ho hg hc => ?_,
    fun dt rq k o s hh hw ho hi => ?_, fun dt rq k data o s hh hw ho hi => ?_, fun dt rq k o s hh hw ho hi => ?_,
    fun dt rq k total o s hh hw ho hi => ?_⟩
  · have hd : K i 0 / 256 = i := K_div i (by omega)
    have hx := congrArg done ((request_read hh).trans (serveRead_open (checkUse_read_zero ho) hg))
    have hf := frame_upToDate (s.tick dt) (k := K i 0) (by rwa [hd]) (measuredLane_zero i)
    refine does_answer hx hw (hf.mono (by decide) fun j hj => ?_) (by decide) fun t _ hr => ?_
    · rw [groupKeys, hd] at hj
      exact hj
    · rw [hr, readNum_zero ho]
      exact congrArg (fun d => some (Pdu.bytes ⟨0x81, rq.tag, K i 0, 0, 1, 0, d⟩)) (toBe_one o.hi)
  · exact does_refuse (congrArg done ((request_read hh).trans (serveRead_error (checkUse_above ho hi _)))) hw fun t h => h
  · exact does_refuse (congrArg done (request_write_error hh (checkUse_above ho hi _))) hw fun t h => h
  · exact does_refuse (congrArg done ((request_upload hh).trans (serveUpload_error (checkUse_above ho hi _)))) hw fun t h => h
  · exact does_refuse (congrArg done ((request_download hh).trans (serveDownload_error (checkUse_above ho hi _)))) hw fun t h => h

end Sys2Proof.Machine
end

section
/-! PROOFS. Transfers: their segments, and how they end (R40, R42, R45). -/

namespace Sys2Proof.Machine

/-! ### The open transfer of a client -/

theorem State.xferOf_congr {s t : State} (h : t.sys.xfers = s.sys.xfers) (c : Client) : t.xferOf c = s.xferOf c := by
  unfold State.xferOf; rw [h]

theorem State.xferOf_of_frame {ps : List Part} {ks : Nat → Prop} {s t : State} (f : Frame ps ks s t) (hp : .xfers ∉ ps) (c : Client) :
    t.xferOf c = s.xferOf c := State.xferOf_congr (f.1 .xfers hp) c

theorem State.xferOf_closeXfer (s : State) (c : Client) : (s.closeXfer c).xferOf c = none := by
  unfold State.xferOf State.closeXfer
  rw [List.find?_eq_none]
  intro x hx
  simpa using (List.mem_filter.mp hx).2

theorem State.sameClient_of_xferOf {s : State} {c : Client} {x : Xfer} (h : s.xferOf c = some x) : sameClient x.client c = true :=
  List.find?_some (p := fun y : Xfer => sameClient y.client c) h

/-- A client that has a transfer has the one that replaces it. -/
theorem State.xferOf_putXfer {s : State} {c : Client} {x y : Xfer} (h : s.xferOf c = some x) (hy : sameClient y.client c = true) :
    (s.putXfer c y).xferOf c = some y := by
  unfold State.xferOf State.putXfer at *
  dsimp only
  generalize s.sys.xfers = l at *
  induction l with
  | nil => cases h
  | cons z r ih =>
    rw [List.map_cons, List.find?_cons]
    rw [List.find?_cons] at h
    cases hz : sameClient z.client c with
    | true => simp only [if_true, hy]
    | false =>
      simp only [hz, Bool.false_eq_true, if_false] at h ⊢
      exact ih h

theorem frame_closeXfer (ps : List Part) (ks : Nat → Prop) (s : State) (c : Client) (hp : .xfers ∈ ps) : Frame ps ks s (s.closeXfer c) :=
  frame_sys_xfers ps ks s _ hp

theorem frame_putXfer (ps : List Part) (ks : Nat → Prop) (s : State) (c : Client) (x : Xfer) (hp : .xfers ∈ ps) :
    Frame ps ks s (s.putXfer c x) := frame_sys_xfers ps ks s _ hp

/-! ### Aborts, timeouts and unknown commands -/

theorem framed_length_dataless (c : Client) (p : Pdu) (h : p.data = []) : (framed c p.bytes).length = 12 := by
  have hl : p.bytes.length = 12 := by rw [Pdu.bytes_length, h]; rfl
  cases c with
  | can _ =>
    have hc : canLength 12 = 12 := by decide
    simp only [framed, List.length_append, List.length_replicate, hl, hc]
  | _ => exact hl

/-- An abort has the right form, and ends the client's transfer (R42 rule 6). -/
theorem request_abort (s : State) (rq : Rq) (k arg : Nat) : s.request rq 0x7F k 0 arg [] = s.closeXfer rq.client := by
  change s.servePdu rq.client (framed rq.client (requestPdu rq 0x7F k 0 arg []).bytes) = _
  obtain ⟨d, hp⟩ := parsePdu_framed rq.client (requestPdu rq 0x7F k 0 arg [])
  have hl := framed_length_dataless rq.client (requestPdu rq 0x7F k 0 arg []) rfl
  generalize framed rq.client (requestPdu rq 0x7F k 0 arg []).bytes = b at hp hl
  have hform : formOk rq.client b = true := by
    unfold formOk
    rw [hp, hl]
    cases rq.client <;> rfl
  have hcmd : (parsePdu b).cmd = 0x7F := by rw [hp]; rfl
  have hempty : emptyOk (parsePdu b) = true := by rw [hp]; rfl
  unfold State.servePdu
  dsimp only
  rw [if_pos ⟨hcmd, by rw [hform, hempty]; rfl⟩]

theorem serve_unknown {s : State} {c : Client} {p : Pdu} {req : List Byte} (h : p.cmd = 0 ∨ 7 ≤ p.cmd) :
    s.serve c p req = s.answer c req (abortPdu p.tag p.key (0x0101, 0)) := by
  unfold State.serve
  split
  case h_7 => rfl
  all_goals omega

/-- A client's stored response is gone when its window has ended (R45). -/
theorem State.clientRec_forget {s : State} {c : Client} {r : ClientRec} (h : s.clientRec c = some r) (hr : r.response ≠ [])
    (hone : ∀ y ∈ s.sys.clients, sameClient y.client c = true → y = r) (ht : r.sentAt + 1000000000 ≤ s.now) :
    (s.forget c).clientRec c = none := by
  unfold State.clientRec State.forget
  rw [List.find?_eq_none]
  intro y hy hsame
  obtain ⟨hmem, hkeep⟩ := List.mem_filter.mp hy
  obtain rfl := hone y hmem hsame
  have hne : y.response.isEmpty = false := by simpa using hr
  rw [hsame, hne, decide_eq_true ht] at hkeep
  cases hkeep

/-- Settles O12: each of the four commands comes to one plain change of the transfers, of the clients, or to one answer. -/
theorem transferEnds : Obligations.TransferEnds := by
  refine ⟨fun dt rq k code detail s _ hw => ?_, fun dt c x s hx hl ht hw => ?_, fun dt c r s hr hne hone ht hw => ?_,
    fun dt rq cmd k arg data s hh hc hne hrec hw => ?_⟩
  · refine does_keeps (congrArg done (request_abort (s.tick dt) rq k _)) hw rfl
      ((frame_tick _ _ s dt).trans (frame_closeXfer _ _ _ _ (by decide))) (by decide) fun t ft _ => ?_
    rw [State.xferOf_of_frame ft (by decide), State.xferOf_closeXfer]
  · have hto : (s.tick dt).segmentTimeout c = ((s.tick dt).closeXfer c).deliver c (abortPdu x.tag x.key (0x0104, 0)) := by
      have hxt : (s.tick dt).xferOf c = some x := hx
      have hlate : x.at_ + (s.tick dt).get (K 0x1230 1) * 1000000 ≤ (s.tick dt).now := ht
      unfold State.segmentTimeout
      rw [hxt]
      dsimp only
      rw [hl, decide_eq_true hlate]
      rfl
    refine does_deliver (congrArg done hto) hw (frame_closeXfer _ _ _ _ (by decide)) (by decide) fun t ft hm => ⟨?_, ?_⟩
    · rw [State.xferOf_of_frame ft (by decide),
        State.xferOf_of_frame (frame_deliver [.ports] (fun _ => False) _ c _ (by decide)) (by decide), State.xferOf_closeXfer]
    · exact List.contains_iff_mem.mpr hm
  · refine does_keeps rfl hw rfl ((frame_tick _ _ s dt).trans (frame_clients _ _ _ _ (by decide))) (by decide) fun t ft _ => ?_
    have hc : t.sys.clients = ((s.tick dt).forget c).sys.clients := ft.1 .clients (by decide)
    unfold State.clientRec
    rw [hc]
    exact State.clientRec_forget (s := s.tick dt) hr hne hone ht
  · obtain ⟨-, -, -, -, -, hp⟩ := ((s.tick dt).hears_iff rq cmd k 0 arg data).mp hh
    have hlt : cmd < 256 := (congrArg Pdu.cmd hp).symm.trans_lt (byteAt_lt _ 0)
    have hreq : (s.tick dt).request rq cmd k 0 arg data = _ := (State.request_heard hh hne (.inr (.inl hrec))).trans (serve_unknown hc)
    have hx : exec (.unknownCommand dt rq cmd k arg data) s = done _ := congrArg done ((if_neg (by omega)).trans hreq)
    exact does_refuse hx hw fun t h => h

end Sys2Proof.Machine
end

section
/-! PROOFS. Downloads (R42, R44). -/

namespace Sys2Proof.Machine

/-! ### The initiate -/

/-- A download opens where the entry takes it, its length holds, and nothing holds the entry or a transfer (R42, R44). -/
theorem serveDownload_opens {s : State} {c : Client} {req : List Byte} {tag : Byte} {k total : Nat} {e : Ent}
    (he : s.checkUse k .download = .ok e) (hg : s.gateOf k = .open_) (hl : s.lengthOk e k total = true) (hx : s.sys.xfers = [])
    (hk : s.comp.kerb.loading = none) :
    s.serveDownload c req tag k total =
      State.answer { s with sys := { s.sys with xfers := [⟨c, tag, false, k, [], total, 0, false, s.now⟩] } } c req
        (Pdu.bytes ⟨0x85, tag, k, 0, 0, 0, []⟩) := by
  have hheld : (s.sys.xfers.any (fun x => !x.upload && x.key == k && !sameClient x.client c) ||
      (k == K 0x4100 1 && s.comp.kerb.loading.isSome)) = false := by simp [hx, hk]
  have hopen (x : Xfer) : s.openXfer c x = some { s with sys := { s.sys with xfers := [x] } } := by
    simp [State.openXfer, State.xferOf, hx]
  unfold State.serveDownload
  simp only [he, hg, hl, hheld, hopen, Bool.not_true, Bool.false_eq_true, if_false]

/-! ### Segments -/

/-- A segment that is heard while the client has a transfer is one of that transfer. -/
theorem request_downSegment {s : State} {rq : Rq} {k seg : Nat} {last : Bool} {data : List Byte} {x : Xfer}
    (h : s.hears rq 6 k (if last then 0x80 else 0) seg data = true) (hx : s.xferOf rq.client = some x) :
    s.request rq 6 k (if last then 0x80 else 0) seg data =
      s.serveDownSegment rq.client (requestPdu rq 6 k (if last then 0x80 else 0) seg data).bytes rq.tag k seg last data := by
  have hbit : bit (if last then 0x80 else 0) 7 = last := by cases last <;> rfl
  rw [State.request_heard h (by decide) (.inr (.inr ⟨.inr rfl, by rw [hx]; rfl⟩))]
  exact congrArg (fun b => s.serveDownSegment rq.client _ rq.tag k seg b data) hbit

/-- A transfer after its next segment (R42). -/
def Xfer.grown (x : Xfer) (tag : Byte) (data : List Byte) (last : Bool) (now : Nat) : Xfer :=
  { x with tag := tag, data := x.data ++ data, next := x.next + 1, last := last, at_ := now }

theorem State.xferOf_grown {s : State} {c : Client} {x : Xfer} (h : s.xferOf c = some x) (tag : Byte) (data : List Byte) (last : Bool) (now : Nat) :
    (s.putXfer c (x.grown tag data last now)).xferOf c = some (x.grown tag data last now) :=
  State.xferOf_putXfer h (show sameClient x.client c = true from State.sameClient_of_xferOf h)

/-- A segment in order and within the window is kept; the LAST one waits for the check of the value (R42 rules 2 and 7). -/
theorem serveDownSegment_kept {s : State} {c : Client} {req : List Byte} {tag : Byte} {k : Nat} {last : Bool} {data : List Byte} {x : Xfer}
    (hx : s.xferOf c = some x) (hu : x.upload = false) (hl : x.last = false) (hw : s.unacked c < windowOf c) :
    s.serveDownSegment c req tag k x.next last data =
      if last then (s.putXfer c (x.grown tag data last s.now)).asked c req
      else (s.putXfer c (x.grown tag data last s.now)).answer c req (Pdu.bytes ⟨0x86, tag, k, 0, 0, x.next, []⟩) := by
  have hstray : (x.upload || x.last) = false := by rw [hu, hl]; rfl
  have hwin : ¬ windowOf c ≤ s.unacked c := Nat.not_le.mpr hw
  unfold State.serveDownSegment
  simp only [hx, hstray, hwin, Bool.false_eq_true, if_false, ne_eq, not_true_eq_false, Xfer.grown]

/-- A segment beyond the window ends the transfer (R42 rule 2). -/
theorem serveDownSegment_beyond {s : State} {c : Client} {req : List Byte} {tag : Byte} {k : Nat} {last : Bool} {data : List Byte} {x : Xfer}
    (hx : s.xferOf c = some x) (hu : x.upload = false) (hl : x.last = false) (hw : windowOf c ≤ s.unacked c) :
    s.serveDownSegment c req tag k x.next last data = (s.closeXfer c).answer c req (abortPdu tag k (0x0105, 0)) := by
  have hstray : (x.upload || x.last) = false := by rw [hu, hl]; rfl
  unfold State.serveDownSegment
  simp only [hx, hstray, hw, Bool.false_eq_true, if_false, if_true, ne_eq, not_true_eq_false]

/-- The request that waits for its answer is the client's last one, with an empty answer so far (R45). -/
theorem State.lastReply_asked (s : State) (c : Client) (req : List Byte) : (s.asked c req).lastReply c = some [] := by
  unfold State.lastReply State.clientRec State.asked
  rw [List.find?_append, List.find?_eq_none.mpr (fun r hr => by simpa using (List.mem_filter.mp hr).2)]
  simp [sameClient_self]

/-! ### The check of the value -/

theorem servedBy_of_open {s : State} {k : Nat} (h : s.gateOf k = .open_) : s.servedBy k = none := by
  unfold State.gateOf at h
  split at h
  · assumption
  · dsimp only at h
    split_ifs at h

/-- The value of a download whose LAST segment is in is checked, put, and answered with 0x87 (R42 rules 3, 4 and 7). -/
theorem complete_checked {s t : State} {c : Client} {eff : DomEffect} {x : Xfer} {r : Code} (hx : s.xferOf c = some x)
    (hu : x.upload = false) (hl : x.last = true) (hup : s.serverUp = true) (hg : s.gateOf x.key = .open_)
    (he : (if x.data.length ≠ x.total then (s, ((0x0107, 0) : Code)) else eff s x.key x.data) = (t, r)) :
    ∃ req, s.complete c (fun _ => true) eff =
      ((if r.1 = 0 ∨ r.1 = 0x0404 then t.probe 7 (fun _ => true) (x.key % 2 ^ 24) (be (slice x.data 0 4)) else t).closeXfer c).answer c req
        (codePdu 0x87 x.tag x.key r) := by
  have hgo : (x.upload || !x.last || !true || !s.serverUp) = false := by rw [hu, hl, hup]; rfl
  unfold State.complete
  simp only [hx, hgo, servedBy_of_open hg, he, Bool.false_eq_true, if_false, Option.isSome_none]
  exact ⟨_, rfl⟩

/-- A mesh is put as it is (R80). -/
theorem domWrite_mesh (s : State) {k : Nat} (b : List Byte) (h : 0x3100 ≤ k / 256 ∧ k / 256 ≤ 0x3103) :
    domWrite s k b = (s.setDom k b, ok) := by
  unfold domWrite K
  simp (disch := omega) only [if_neg]

/-- Settles O11: each request of a download comes to one of the cases of its serving, and the check of the value to its own. -/
theorem downloads : Obligations.Downloads := by
  refine ⟨fun dt rq k total e s hh hw he hg hl hx hk => ?_, fun dt rq k seg data x s hh hw hx hu hl hseg hwin => ?_,
    fun dt rq k seg data x s hh hw hx hu hl hseg hwin => ?_, fun dt rq k seg last data x s hh hw hx hu hl hseg hwin => ?_,
    fun dt c x s hx hu hl hup hw hlen hg hk => ?_, fun dt c x s hx hu hl hup hw hlen hg => ?_⟩
  · have ho := serveDownload_opens (s := s.tick dt) (c := rq.client) (req := (requestPdu rq 5 k 0 total []).bytes) (tag := rq.tag) he hg hl hx hk
    refine does_answer (congrArg done ((request_download hh).trans ho)) hw (frame_sys_xfers _ _ _ _ (by decide)) (by decide) fun t ft hr => ⟨hr, ?_⟩
    exact ft.1 .xfers (by decide)
  · subst hseg
    have hs := (request_downSegment (last := false) hh hx).trans (serveDownSegment_kept hx hu hl hwin)
    refine does_answer (congrArg done hs) hw (frame_putXfer _ _ _ _ _ (by decide)) (by decide) fun t ft hr => ⟨hr, ?_⟩
    rw [State.xferOf_of_frame ft (by decide), State.xferOf_grown (s := s.tick dt) hx, Xfer.grown, hl]
    rfl
  · subst hseg
    have hs := (request_downSegment (last := true) hh hx).trans (serveDownSegment_kept hx hu hl hwin)
    refine does_keeps (congrArg done hs) hw rfl (((frame_tick _ _ s dt).trans (frame_putXfer _ _ _ _ _ (by decide))).trans
      (frame_clients _ _ _ _ (by decide))) (by decide) fun t ft _ => ⟨?_, ?_⟩
    · rw [State.lastReply_of_clients (ft.1 .clients (by decide))]
      exact State.lastReply_asked _ _ _
    · rw [State.xferOf_of_frame ft (by decide)]
      exact State.xferOf_grown (s := s.tick dt) hx ..
  · subst hseg
    have hs := (request_downSegment hh hx).trans (serveDownSegment_beyond hx hu hl hwin)
    refine does_answer (congrArg done hs) hw (frame_closeXfer _ _ _ _ (by decide)) (by decide) fun t ft hr => ⟨hr, ?_⟩
    rw [State.xferOf_of_frame ft (by decide), State.xferOf_closeXfer]
  · obtain ⟨req, hs⟩ := complete_checked (s := s.tick dt) hx hu hl hup hg ((if_neg (not_not_intro hlen)).trans (domWrite_mesh _ _ hk))
    rw [if_pos (.inl rfl)] at hs
    have fp := frame_probe [] (fun _ => False) ((s.tick dt).setDom x.key x.data) 7 (fun _ => true) (x.key % 2 ^ 24) (be (slice x.data 0 4))
    have hf := ((frame_setDom [.doms, .xfers, .ports, .clients] (fun _ => False) (s.tick dt) x.key x.data (by decide)).trans
      (fp.mono (by simp) fun _ h => h)).trans (frame_closeXfer _ _ _ c (by decide))
    refine does_answer (congrArg done hs) hw hf (by decide) fun t ft hr => ⟨?_, ?_, hr⟩
    · have hd : t.doms = mapPut s.doms x.key x.data := (ft.1 .doms (by decide)).trans (fp.1 .doms (by decide))
      rw [State.dom, hd, mapGet_mapPut, if_pos rfl]
    · rw [State.xferOf_of_frame ft (by decide), State.xferOf_closeXfer]
  · obtain ⟨req, hs⟩ := complete_checked (s := s.tick dt) (eff := domWrite) hx hu hl hup hg (if_pos hlen)
    rw [if_neg (by decide)] at hs
    refine does_answer (congrArg done hs) hw (frame_closeXfer _ _ _ _ (by decide)) (by decide) fun t ft hr => ⟨?_, hr⟩
    rw [State.xferOf_of_frame ft (by decide), State.xferOf_closeXfer]

end Sys2Proof.Machine
end

section
/-! PROOFS. Commands of the table that stand for a write of an entry (R41). -/

namespace Sys2Proof.Machine

theorem K_eq_iff (i u j v : Nat) : K i u = K j v ↔ i * 256 + u = j * 256 + v := by unfold K; rfl

/-! ### Lanes -/

theorem laneIdx_range (l : Fin 18) : 0x7010 ≤ laneIdx l ∧ laneIdx l ≤ 0x701F ∨ 0x7032 ≤ laneIdx l ∧ laneIdx l ≤ 0x7033 := by
  unfold laneIdx; split <;> omega

theorem laneIdx_number_low {l : Fin 18} (h : laneIdx l ≤ 0x701F) : laneIdx l - 0x7010 = l := by
  unfold laneIdx at *; split at h <;> split <;> omega

theorem laneIdx_number_high {l : Fin 18} (h : 0x7032 ≤ laneIdx l) : laneIdx l - 0x7032 + 16 = l := by
  unfold laneIdx at *; split at h <;> split <;> omega

/-! ### What a write to each command entry does

Each entry lies in the one branch of the tables of effects that its index and sub-index meet. -/

section
set_option linter.unusedSimpArgs false

theorem writeOf_stateRequest : writeOf (K 0x2000 2) = effStateRequest := by
  simp (disch := omega) only [SK, LS, CU, PG, writeOf, sysWrite, lightWrite, ioWrite, K_div, K_mod, K_eq_iff, if_neg, if_pos, if_true, and_true,
    true_and, Option.orElse_none, Option.orElse_some, Option.getD_some, add_tsub_cancel_left, add_tsub_cancel_right]

theorem writeOf_store : writeOf (K 0x2010 1) = effStore := by
  simp (disch := omega) only [SK, LS, CU, PG, writeOf, sysWrite, lightWrite, ioWrite, K_div, K_mod, K_eq_iff, if_neg, if_pos, if_true, and_true,
    true_and, Option.orElse_none, Option.orElse_some, Option.getD_some, add_tsub_cancel_left, add_tsub_cancel_right]

theorem writeOf_update : writeOf (K 0x2200 1) = effUpdate := by
  simp (disch := omega) only [SK, LS, CU, PG, writeOf, sysWrite, lightWrite, ioWrite, K_div, K_mod, K_eq_iff, if_neg, if_pos, if_true, and_true,
    true_and, Option.orElse_none, Option.orElse_some, Option.getD_some, add_tsub_cancel_left, add_tsub_cancel_right]

theorem writeOf_powerRequest : writeOf (K 0x2300 1) = effPowerRequest := by
  simp (disch := omega) only [SK, LS, CU, PG, writeOf, sysWrite, lightWrite, ioWrite, K_div, K_mod, K_eq_iff, if_neg, if_pos, if_true, and_true,
    true_and, Option.orElse_none, Option.orElse_some, Option.getD_some, add_tsub_cancel_left, add_tsub_cancel_right]

theorem writeOf_calibration : writeOf (K 0x2400 1) = effCalibration := by
  simp (disch := omega) only [SK, LS, CU, PG, writeOf, sysWrite, lightWrite, ioWrite, K_div, K_mod, K_eq_iff, if_neg, if_pos, if_true, and_true,
    true_and, Option.orElse_none, Option.orElse_some, Option.getD_some, add_tsub_cancel_left, add_tsub_cancel_right]

theorem writeOf_acknowledge : writeOf (K 0x8100 3) = effAcknowledge := by
  simp (disch := omega) only [SK, LS, CU, PG, writeOf, sysWrite, lightWrite, ioWrite, K_div, K_mod, K_eq_iff, if_neg, if_pos, if_true, and_true,
    true_and, Option.orElse_none, Option.orElse_some, Option.getD_some, add_tsub_cancel_left, add_tsub_cancel_right]

theorem writeOf_rule (n : Fin 64) : writeOf (K 0x8120 (n + 1)) = effRule n := by
  simp (disch := omega) only [SK, LS, CU, PG, writeOf, sysWrite, lightWrite, ioWrite, K_div, K_mod, K_eq_iff, if_neg, if_pos, if_true, and_true,
    true_and, Option.orElse_none, Option.orElse_some, Option.getD_some, add_tsub_cancel_left, add_tsub_cancel_right]

theorem writeOf_handover : writeOf (K 0x8600 9) = effHandover := by
  simp (disch := omega) only [SK, LS, CU, PG, writeOf, sysWrite, lightWrite, ioWrite, K_div, K_mod, K_eq_iff, if_neg, if_pos, if_true, and_true,
    true_and, Option.orElse_none, Option.orElse_some, Option.getD_some, add_tsub_cancel_left, add_tsub_cancel_right]

theorem writeOf_meshCommit (i : Fin 4) : writeOf (K (0x3100 + i) 2) = effMeshCommit i := by
  simp (disch := omega) only [SK, LS, CU, PG, writeOf, sysWrite, lightWrite, ioWrite, K_div, K_mod, K_eq_iff, if_neg, if_pos, if_true, and_true,
    true_and, Option.orElse_none, Option.orElse_some, Option.getD_some, add_tsub_cancel_left, add_tsub_cancel_right]

theorem writeOf_memoryQuota (l : Fin 7) : writeOf (K (0x3400 + l) 0x12) = effMemoryQuota l := by
  simp (disch := omega) only [SK, LS, CU, PG, writeOf, sysWrite, lightWrite, ioWrite, K_div, K_mod, K_eq_iff, if_neg, if_pos, if_true, and_true,
    true_and, Option.orElse_none, Option.orElse_some, Option.getD_some, add_tsub_cancel_left, add_tsub_cancel_right]

theorem writeOf_layerCommit (l : Fin 7) : writeOf (K (0x3400 + l) 0x14) = effLayerCommit l := by
  simp (disch := omega) only [SK, LS, CU, PG, writeOf, sysWrite, lightWrite, ioWrite, K_div, K_mod, K_eq_iff, if_neg, if_pos, if_true, and_true,
    true_and, Option.orElse_none, Option.orElse_some, Option.getD_some, add_tsub_cancel_left, add_tsub_cancel_right]

theorem writeOf_groupCommit : writeOf (K 0x3410 1) = effGroupCommit := by
  simp (disch := omega) only [SK, LS, CU, PG, writeOf, sysWrite, lightWrite, ioWrite, K_div, K_mod, K_eq_iff, if_neg, if_pos, if_true, and_true,
    true_and, Option.orElse_none, Option.orElse_some, Option.getD_some, add_tsub_cancel_left, add_tsub_cancel_right]

theorem writeOf_allocate : writeOf (K 0x3420 1) = effAllocate := by
  simp (disch := omega) only [SK, LS, CU, PG, writeOf, sysWrite, lightWrite, ioWrite, K_div, K_mod, K_eq_iff, if_neg, if_pos, if_true, and_true,
    true_and, Option.orElse_none, Option.orElse_some, Option.getD_some, add_tsub_cancel_left, add_tsub_cancel_right]

theorem writeOf_free : writeOf (K 0x3420 2) = effFree := by
  simp (disch := omega) only [SK, LS, CU, PG, writeOf, sysWrite, lightWrite, ioWrite, K_div, K_mod, K_eq_iff, if_neg, if_pos, if_true, and_true,
    true_and, Option.orElse_none, Option.orElse_some, Option.getD_some, add_tsub_cancel_left, add_tsub_cancel_right]

theorem writeOf_contentReady (n : Fin 32) : writeOf (K (0x3440 + n) 5) = effContentReady n := by
  simp (disch := omega) only [SK, LS, CU, PG, writeOf, sysWrite, lightWrite, ioWrite, K_div, K_mod, K_eq_iff, if_neg, if_pos, if_true, and_true,
    true_and, Option.orElse_none, Option.orElse_some, Option.getD_some, add_tsub_cancel_left, add_tsub_cancel_right]

theorem writeOf_gainMesh (i : Fin 4) : writeOf (K (0x4200 + i) 3) = effGainMesh i := by
  simp (disch := omega) only [SK, LS, CU, PG, writeOf, sysWrite, lightWrite, ioWrite, K_div, K_mod, K_eq_iff, if_neg, if_pos, if_true, and_true,
    true_and, Option.orElse_none, Option.orElse_some, Option.getD_some, add_tsub_cancel_left, add_tsub_cancel_right]

theorem writeOf_clearReported (i : Fin 4) : writeOf (K (0x4210 + i) 5) = effClearReported i := by
  simp (disch := omega) only [SK, LS, CU, PG, writeOf, sysWrite, lightWrite, ioWrite, K_div, K_mod, K_eq_iff, if_neg, if_pos, if_true, and_true,
    true_and, Option.orElse_none, Option.orElse_some, Option.getD_some, add_tsub_cancel_left, add_tsub_cancel_right]

theorem writeOf_doseReset (i : Fin 4) : writeOf (K (0x4220 + i) 7) = effDoseReset i := by
  simp (disch := omega) only [SK, LS, CU, PG, writeOf, sysWrite, lightWrite, ioWrite, K_div, K_mod, K_eq_iff, if_neg, if_pos, if_true, and_true,
    true_and, Option.orElse_none, Option.orElse_some, Option.getD_some, add_tsub_cancel_left, add_tsub_cancel_right]

theorem writeOf_hostBudget (i : Fin 4) : writeOf (K (0x4240 + i) 1) = effHostBudget i := by
  simp (disch := omega) only [SK, LS, CU, PG, writeOf, sysWrite, lightWrite, ioWrite, K_div, K_mod, K_eq_iff, if_neg, if_pos, if_true, and_true,
    true_and, Option.orElse_none, Option.orElse_some, Option.getD_some, add_tsub_cancel_left, add_tsub_cancel_right]

theorem writeOf_scanOut : writeOf (K 0x4300 0x1C) = effScanOut := by
  simp (disch := omega) only [SK, LS, CU, PG, writeOf, sysWrite, lightWrite, ioWrite, K_div, K_mod, K_eq_iff, if_neg, if_pos, if_true, and_true,
    true_and, Option.orElse_none, Option.orElse_some, Option.getD_some, add_tsub_cancel_left, add_tsub_cancel_right]

theorem writeOf_windowAddr : writeOf (K 0x4410 3) = effWindowAddr := by
  simp (disch := omega) only [SK, LS, CU, PG, writeOf, sysWrite, lightWrite, ioWrite, K_div, K_mod, K_eq_iff, if_neg, if_pos, if_true, and_true,
    true_and, Option.orElse_none, Option.orElse_some, Option.getD_some, add_tsub_cancel_left, add_tsub_cancel_right]

theorem writeOf_windowData : writeOf (K 0x4410 4) = effWindowData := by
  simp (disch := omega) only [SK, LS, CU, PG, writeOf, sysWrite, lightWrite, ioWrite, K_div, K_mod, K_eq_iff, if_neg, if_pos, if_true, and_true,
    true_and, Option.orElse_none, Option.orElse_some, Option.getD_some, add_tsub_cancel_left, add_tsub_cancel_right]

theorem writeOf_planeCommit (i : Fin 4) : writeOf (K (0x4500 + i) 4) = effPlaneCommit i := by
  simp (disch := omega) only [SK, LS, CU, PG, writeOf, sysWrite, lightWrite, ioWrite, K_div, K_mod, K_eq_iff, if_neg, if_pos, if_true, and_true,
    true_and, Option.orElse_none, Option.orElse_some, Option.getD_some, add_tsub_cancel_left, add_tsub_cancel_right]

theorem writeOf_colourCommit (i : Fin 4) : writeOf (K (0x4530 + i) 3) = effColourCommit i := by
  simp (disch := omega) only [SK, LS, CU, PG, writeOf, sysWrite, lightWrite, ioWrite, K_div, K_mod, K_eq_iff, if_neg, if_pos, if_true, and_true,
    true_and, Option.orElse_none, Option.orElse_some, Option.getD_some, add_tsub_cancel_left, add_tsub_cancel_right]

theorem writeOf_level (c : Fin 128) : writeOf (K (SK c) 4) = effLevel c := by
  simp (disch := omega) only [SK, LS, CU, PG, writeOf, sysWrite, lightWrite, ioWrite, K_div, K_mod, K_eq_iff, if_neg, if_pos, if_true, and_true,
    true_and, Option.orElse_none, Option.orElse_some, Option.getD_some, add_tsub_cancel_left, add_tsub_cancel_right]

theorem writeOf_clearFaults (c : Fin 128) : writeOf (K (SK c) 0x0E) = effClearFaults c := by
  simp (disch := omega) only [SK, LS, CU, PG, writeOf, sysWrite, lightWrite, ioWrite, K_div, K_mod, K_eq_iff, if_neg, if_pos, if_true, and_true,
    true_and, Option.orElse_none, Option.orElse_some, Option.getD_some, add_tsub_cancel_left, add_tsub_cancel_right]

theorem writeOf_engine (e : Fin 8) : writeOf (K (0x5100 + e) 4) = effEngine e := by
  simp (disch := omega) only [SK, LS, CU, PG, writeOf, sysWrite, lightWrite, ioWrite, K_div, K_mod, K_eq_iff, if_neg, if_pos, if_true, and_true,
    true_and, Option.orElse_none, Option.orElse_some, Option.getD_some, add_tsub_cancel_left, add_tsub_cancel_right]

theorem writeOf_gainCommit (n : Fin 8) : writeOf (K (LS n) 0x17) = effGainCommit n := by
  simp (disch := omega) only [SK, LS, CU, PG, writeOf, sysWrite, lightWrite, ioWrite, K_div, K_mod, K_eq_iff, if_neg, if_pos, if_true, and_true,
    true_and, Option.orElse_none, Option.orElse_some, Option.getD_some, add_tsub_cancel_left, add_tsub_cancel_right]

theorem writeOf_slotCommand (n : Fin 8) : writeOf (K (LS n) 0x27) = effSlotCommand n := by
  simp (disch := omega) only [SK, LS, CU, PG, writeOf, sysWrite, lightWrite, ioWrite, K_div, K_mod, K_eq_iff, if_neg, if_pos, if_true, and_true,
    true_and, Option.orElse_none, Option.orElse_some, Option.getD_some, add_tsub_cancel_left, add_tsub_cancel_right]

theorem writeOf_bitSlip (l : Fin 18) : writeOf (K (laneIdx l) 4) = effBitSlip l := by
  rcases laneIdx_range l with hl | hl <;>
  simp (disch := omega) only [SK, LS, CU, PG, writeOf, sysWrite, lightWrite, ioWrite, K_div, K_mod, K_eq_iff, if_neg, if_pos, if_true, and_true,
    true_and, Option.orElse_none, Option.orElse_some, Option.getD_some, add_tsub_cancel_left, add_tsub_cancel_right, laneIdx_number_low, laneIdx_number_high]

theorem writeOf_prbs (l : Fin 18) : writeOf (K (laneIdx l) 9) = effPrbs l := by
  rcases laneIdx_range l with hl | hl <;>
  simp (disch := omega) only [SK, LS, CU, PG, writeOf, sysWrite, lightWrite, ioWrite, K_div, K_mod, K_eq_iff, if_neg, if_pos, if_true, and_true,
    true_and, Option.orElse_none, Option.orElse_some, Option.getD_some, add_tsub_cancel_left, add_tsub_cancel_right, laneIdx_number_low, laneIdx_number_high]

theorem writeOf_eyeScan (l : Fin 18) : writeOf (K (laneIdx l) 0x0C) = effEyeScan l := by
  rcases laneIdx_range l with hl | hl <;>
  simp (disch := omega) only [SK, LS, CU, PG, writeOf, sysWrite, lightWrite, ioWrite, K_div, K_mod, K_eq_iff, if_neg, if_pos, if_true, and_true,
    true_and, Option.orElse_none, Option.orElse_some, Option.getD_some, add_tsub_cancel_left, add_tsub_cancel_right, laneIdx_number_low, laneIdx_number_high]

theorem writeOf_streamCommit (n : Fin 2) : writeOf (K (0x7120 + n) 9) = effStreamCommit n := by
  simp (disch := omega) only [SK, LS, CU, PG, writeOf, sysWrite, lightWrite, ioWrite, K_div, K_mod, K_eq_iff, if_neg, if_pos, if_true, and_true,
    true_and, Option.orElse_none, Option.orElse_some, Option.getD_some, add_tsub_cancel_left, add_tsub_cancel_right]

theorem writeOf_recover (c : Fin 4) : writeOf (K (0x7140 + c) 7) = effRecover c := by
  simp (disch := omega) only [SK, LS, CU, PG, writeOf, sysWrite, lightWrite, ioWrite, K_div, K_mod, K_eq_iff, if_neg, if_pos, if_true, and_true,
    true_and, Option.orElse_none, Option.orElse_some, Option.getD_some, add_tsub_cancel_left, add_tsub_cancel_right]

theorem writeOf_timeCommand : writeOf (K 0x7180 0x0D) = effTimeCommand := by
  simp (disch := omega) only [SK, LS, CU, PG, writeOf, sysWrite, lightWrite, ioWrite, K_div, K_mod, K_eq_iff, if_neg, if_pos, if_true, and_true,
    true_and, Option.orElse_none, Option.orElse_some, Option.getD_some, add_tsub_cancel_left, add_tsub_cancel_right]

theorem writeOf_tpoMode (n : Fin 4) : writeOf (K (0x71A0 + n) 1) = effTpoMode n := by
  simp (disch := omega) only [SK, LS, CU, PG, writeOf, sysWrite, lightWrite, ioWrite, K_div, K_mod, K_eq_iff, if_neg, if_pos, if_true, and_true,
    true_and, Option.orElse_none, Option.orElse_some, Option.getD_some, add_tsub_cancel_left, add_tsub_cancel_right]

theorem writeOf_crcClaim (u : Fin 8) : writeOf (K (CU u) 1) = effCrcClaim u := by
  simp (disch := omega) only [SK, LS, CU, PG, writeOf, sysWrite, lightWrite, ioWrite, K_div, K_mod, K_eq_iff, if_neg, if_pos, if_true, and_true,
    true_and, Option.orElse_none, Option.orElse_some, Option.getD_some, add_tsub_cancel_left, add_tsub_cancel_right]

theorem writeOf_crc (u : Fin 8) : writeOf (K (CU u) 8) = effCrc u := by
  simp (disch := omega) only [SK, LS, CU, PG, writeOf, sysWrite, lightWrite, ioWrite, K_div, K_mod, K_eq_iff, if_neg, if_pos, if_true, and_true,
    true_and, Option.orElse_none, Option.orElse_some, Option.getD_some, add_tsub_cancel_left, add_tsub_cancel_right]

theorem writeOf_pcg (g : Fin 12) : writeOf (K (PG g) 1) = effPcg g := by
  simp (disch := omega) only [SK, LS, CU, PG, writeOf, sysWrite, lightWrite, ioWrite, K_div, K_mod, K_eq_iff, if_neg, if_pos, if_true, and_true,
    true_and, Option.orElse_none, Option.orElse_some, Option.getD_some, add_tsub_cancel_left, add_tsub_cancel_right]

theorem writeOf_trace : writeOf (K 0x9200 1) = effTrace := by
  simp (disch := omega) only [SK, LS, CU, PG, writeOf, sysWrite, lightWrite, ioWrite, K_div, K_mod, K_eq_iff, if_neg, if_pos, if_true, and_true,
    true_and, Option.orElse_none, Option.orElse_some, Option.getD_some, add_tsub_cancel_left, add_tsub_cancel_right]

end

/-! ### The commands -/

/-- A command that stands for a write makes the effect that the entry's write has. -/
theorem exec_of_writeMeant {i : Instr} {s : State} {dt : Nat} {rq : Rq} {k n : Nat} (h : writeMeant i = some (dt, rq, k, n)) :
    exec i s = done ((s.tick dt).command rq k n (writeOf k)) := by
  cases i <;> simp only [writeMeant, Option.some.injEq, Prod.mk.injEq, reduceCtorEq] at h
  all_goals
    obtain ⟨rfl, rfl, rfl, rfl⟩ := h
    simp only [writeOf_stateRequest, writeOf_store, writeOf_update, writeOf_powerRequest, writeOf_calibration, writeOf_acknowledge, writeOf_rule, writeOf_handover, writeOf_meshCommit, writeOf_memoryQuota, writeOf_layerCommit, writeOf_groupCommit, writeOf_allocate, writeOf_free, writeOf_contentReady, writeOf_gainMesh, writeOf_clearReported, writeOf_doseReset, writeOf_hostBudget, writeOf_scanOut, writeOf_windowAddr, writeOf_windowData, writeOf_planeCommit, writeOf_colourCommit, writeOf_level, writeOf_clearFaults, writeOf_engine, writeOf_gainCommit, writeOf_slotCommand, writeOf_bitSlip, writeOf_prbs, writeOf_eyeScan, writeOf_streamCommit, writeOf_recover, writeOf_timeCommand, writeOf_tpoMode, writeOf_crcClaim, writeOf_crc, writeOf_pcg, writeOf_trace]
    rfl

/-- Settles O15: both come to the server's write of the entry, with the effect that its table gives. -/
theorem typedWrites : Obligations.TypedWrites := by
  intro i s dt rq k n h hh
  rw [exec_of_writeMeant h]
  exact congrArg done (request_write hh).symm

end Sys2Proof.Machine
end

section
/-! PROOFS. Statements of the dictionary and of the device states that fail, each with a state that the model runs to another outcome. -/

namespace Sys2Proof.Machine

/-! ### States and requests to run -/

/-- A device after BOOT, in a device state, with both pairs of application cores running. -/
def State.booted (m : Mode) : State :=
  { State.reset with mode := m, sys := { State.reset.sys with bootStep := 9, apc := [true, true] } }

/-- A request by the window of the first pair. -/
def windowRq : Rq := ⟨.window 0, 1⟩

/-- What is read of the state that a command answers. -/
def readAfter {α : Type} (i : Instr) (s : State) (f : State → α) : Option α :=
  match exec i s with
  | .next t => some (f t)
  | _ => none

theorem readAfter_next {α : Type} {i : Instr} {s t : State} (h : exec i s = .next t) (f : State → α) : readAfter i s f = some (f t) := by
  rw [readAfter, h]

/-! ### Writes of a wrong length (R562) -/

/-- The row of the store command. -/
def storeRow : Ent := ⟨0x01, 1, .u8, .wo, 0, .iv [(1, 1), (2, 2), (3, 3)], false⟩

/-- In OPERATE a Restore defaults of two bytes is answered with the code of the device state. -/
theorem write_store_answer : readAfter (.write 0 windowRq (K 0x2010 1) [0, 2]) (State.booted .operate) (State.lastReply · windowRq.client) =
    some (some (codePdu 0x82 windowRq.tag (K 0x2010 1) (0x0401, 2))) := by decide +kernel

/-- Refutes O9: a store command that the device state does not allow is answered with 0x0401, an earlier check of R562, and not with the
0x0107 of its wrong length. -/
theorem not_readAndWrite : ¬ Obligations.ReadAndWrite := by
  rintro ⟨-, -, -, -, hlen, -, -⟩
  obtain ⟨t, ht, ha, -⟩ := hlen 0 windowRq (K 0x2010 1) [0, 2] storeRow (State.booted .operate) (by decide +kernel) rfl (by decide +kernel)
    (by decide +kernel) (by decide)
  have h := write_store_answer
  rw [readAfter_next ht, ha] at h
  exact absurd h (by decide +kernel)

/-! ### Uploads of a map with an uncorrectable word (R158) -/

/-- OPERATE with a stored gain map of one pixel, the first word of whose copy in the frame store is uncorrectable. -/
def badMapState : State :=
  { State.booted .operate with
    doms := [(K 0x4200 4, [1, 2])], fs := { State.reset.fs with gainArea := true, bad := [(State.booted .operate).gainByte 0 0 / 8] } }

/-- The row of a stored gain map. -/
def gainMapRow : Ent := ⟨0x04, 1, .dom, .rwp, 0, .len 0 4194304 1, true⟩

theorem upload_counts_bad_word :
    readAfter (.uploadInitiate 0 windowRq (K 0x4200 4)) badMapState (fun t => t.get (K 0x4310 3)) = some 1 := by decide +kernel

/-- Refutes O10: an upload that reads an uncorrectable word of the frame store counts and records it, which the statement's frame leaves out. -/
theorem not_uploads : ¬ Obligations.Uploads := by
  rintro ⟨hinit, -, -⟩
  obtain ⟨t, ht, -, hf⟩ := hinit 0 windowRq (K 0x4200 4) gainMapRow [1, 2] badMapState (by decide +kernel) rfl (by decide +kernel)
    (by decide +kernel) (by decide +kernel) (by decide) (by decide)
  have h := upload_counts_bad_word
  rw [readAfter_next ht, hf.2 (K 0x4310 3) (by decide +kernel) id] at h
  exact absurd h (by decide +kernel)

/-! ### Requests of a device that is blocked (R52, R53) -/

/-- OPERATE with a Roadblock latched on the one enabled source. -/
def blockedState : State := { State.booted .operate with active := [(K 0x4330 1, 1)], dict := [(K 0x8010 1, 1)] }

theorem request_of_blocked : readAfter (.stateRequestPreop 0 windowRq) blockedState (fun t => t.sys.stateReq) = some none := by decide +kernel

/-- Refutes O16: with every enabled source blocked the device enters SAFE in the instant of the request, which drops it. -/
theorem not_stateRequests : ¬ Obligations.StateRequests := by
  rintro ⟨hpreop, -, -, -⟩
  obtain ⟨t, ht, ⟨-, hreq⟩, -⟩ := hpreop 0 windowRq blockedState (by unfold Served; decide +kernel) rfl rfl
  have h := request_of_blocked
  rw [readAfter_next ht, hreq] at h
  cases h

/-! ### The end of BOOT with a chip reset reaction (R430) -/

/-- BOOT at step 8 with an enabled tile source of one block, the word of whose dose counter is uncorrectable, and with a last rule that
resets the chip for records of the frame store. -/
def resetRuleState : State :=
  let s : State := { State.reset with
    active := [(K 0x4330 1, 1), (K 0x4330 2, 1), (K 0x4330 3, 2), (K 0x4330 4, 2)], dict := [(K 0x8120 0x0D, 0x0D010089)],
    sys := { State.reset.sys with bootStep := 8, apc := [true, true] }, tw := { State.reset.tw with single := true } }
  { s with fs := { s.fs with bad := [s.doseByte 0 0 / 8] } }

theorem endOfBoot_resets : readAfter (.endOfBoot 0) resetRuleState (fun t => t.mode) = some .boot := by decide +kernel

/-- Refutes O18: the firmware's first fold of the ageing curves reads an uncorrectable word, whose record resets the chip by its rule, so that
BOOT starts again. -/
theorem not_startUp : ¬ Obligations.StartUp := by
  rintro ⟨-, -, -, -, -, -, -, -, hpreop, -⟩
  obtain ⟨t, ht, hm, -⟩ := hpreop 0 resetRuleState rfl rfl rfl rfl (by decide +kernel) (by decide +kernel) (by decide +kernel) rfl
  have h := endOfBoot_resets
  rw [readAfter_next ht, hm] at h
  exact absurd h (by decide)

/-! ### The frame milestone of a granted handover (R460) -/

/-- OPERATE as the active device of a granted handover, with a running raster and a request for PREOP. -/
def grantedState : State :=
  { State.booted .operate with
    fs := { State.reset.fs with running := true }, tw := { State.reset.tw with granted := true }, dict := [(K 0x8600 3, 1)],
    sys := { (State.booted .operate).sys with stateReq := some ⟨1, 3, []⟩ } }

theorem frameMilestone_standby : readAfter (.frameMilestone 0 [] 0 ⟨[], false⟩) grantedState (fun t => t.mode) = some .standby := by decide +kernel

/-- Refutes O24: at the milestone of a granted handover the old active device is standby before a request for PREOP takes effect. -/
theorem not_frameMilestone : ¬ Obligations.FrameMilestone := by
  rintro ⟨-, hpreop, -⟩
  obtain ⟨t, ht, hm, -⟩ := hpreop 0 [] 0 ⟨[], false⟩ ⟨1, 3, []⟩ grantedState rfl (by unfold Steady; decide +kernel) rfl rfl rfl
  have h := frameMilestone_standby
  rw [readAfter_next ht, Option.some.injEq] at h
  rcases hm with ⟨hm, -⟩ | hm
  · exact absurd (hm.symm.trans h) (by decide)
  · exact absurd (hm.symm.trans h) (by decide)

end Sys2Proof.Machine
end

section
/-! PROOFS. A statement of the commits that fails, with a state that the model runs to another outcome. -/

namespace Sys2Proof.Machine

/-! ### Footprints of refused layer commits (R93, R130) -/

/-- OPERATE with a committed tile source of 2,048 by 1,024 pixels and the default memory quota of layer 0, to which a region of 100 units is
charged. The last commit of the layer found a footprint of 12 lines; its shadow now asks for shading, which has none. -/
def overQuotaState : State :=
  { State.booted .operate with
    active := [(K 0x4330 1, 1), (K 0x4330 2, 1)],
    dict := [(K 0x3300 1, 3), (K 0x3300 0x14, 12), (K 0x3400 1, 1), (K 0x3400 2, 4), (K 0x3440 1, 1), (K 0x3440 2, 0), (K 0x3440 4, 100),
      (K 0x4330 5, 0x08000400)] }

theorem layerCheck_overQuota :
    (overQuotaState.layerCheck 0 fun k => if k = 0 then overQuotaState.shadow k else overQuotaState.comingCfg k) = (0x4006, some 0) := by
  decide +kernel

theorem refusedCommit_shows_footprint :
    readAfter (.layerCommit 0 windowRq 0) overQuotaState (fun t => t.get (K 0x3300 0x14)) = some 0 := by decide +kernel

/-- Refutes O19: a layer commit that is refused after its footprint was found reports the footprint all the same (R93), which the frame of
the clause on refused layer commits leaves out. -/
theorem not_commits : ¬ Obligations.Commits := by
  rintro ⟨-, hrefused, -⟩
  obtain ⟨t, ht, -, -, hget⟩ := hrefused 0 windowRq 0 overQuotaState (by unfold Served; decide +kernel)
    (by rw [show (0 : Fin 7).val = 0 from rfl, layerCheck_overQuota]; decide)
  have hshown := refusedCommit_shows_footprint
  rw [readAfter_next ht, hget (K 0x3300 0x14) (by decide +kernel) (by decide +kernel)] at hshown
  exact absurd hshown (by decide +kernel)

end Sys2Proof.Machine
end

section
/-! PROOFS. The host budget (R154–R156). -/

namespace Sys2Proof.Machine

/-! ### Writes out of range (R562) -/

theorem checkForm_of_checkUse {s : State} {k : Nat} {u : Use} {e : Ent} (h : s.checkUse k u = .ok e) : checkForm k u = .ok e := by
  unfold State.checkUse at h
  cases hc : checkForm k u with
  | error r => rw [hc] at h; cases h
  | ok x =>
    rw [hc] at h
    dsimp only at h
    split_ifs at h <;> exact h

/-- A write whose value lies outside the Range column is answered with 0x0301, where its chapter does not refuse it for an earlier reason. -/
theorem command_out_of_range {s : State} {rq : Rq} {k n : Nat} {eff : Effect} {e : Ent}
    (h : s.hears rq 2 k 0 0 (toBe (widthOf k / 8) n) = true) (he : s.checkUse k .write = .ok e) (hg : s.gateOf k = .open_)
    (hx : s.sys.xfers = []) (hl : widthOf k / 8 = e.ty.size) (hn : n < 2 ^ widthOf k) (hr : rangeOk e n = false)
    (hstate : (eff s n).2.1 ≠ 0x0401) (hearly : earlier (eff s n).2.1 = false) :
    s.command rq k n eff =
      s.answer rq.client (writePdu rq.tag k (toBe (widthOf k / 8) n)) (codePdu 0x82 rq.tag k (0x0301, 0)) := by
  obtain ⟨hup, hrep, -, -, huse, -⟩ := (s.hears_iff rq 2 k 0 0 _).mp h
  have hrep' : s.repeated rq.client (writePdu rq.tag k (toBe (widthOf k / 8) n)) = none := hrep
  have hrec : s.outsideRecovery k .write (be (toBe (widthOf k / 8) n)) = false := huse _ _ rfl
  have hlen : (toBe (widthOf k / 8) n).length = e.ty.size := (toBe_length _ n).trans hl
  have hbe := be_write k n hn
  unfold State.command State.serveWrite
  dsimp only
  generalize toBe (widthOf k / 8) n = v at *
  subst hbe
  simp only [hup, hrep', hrec, he, hg, hx, hlen, hr, hstate, hearly, Bool.not_true, Bool.false_eq_true, if_false, ne_eq,
    not_true_eq_false, List.any_nil, Bool.false_and, Bool.not_false, if_true]

/-! ### The entries of a budget (R156) -/

/-- The row of a host budget: a binary32 number up to 10,000. -/
def hostBudgetRow : Ent := ⟨0x01, 1, .f32, .rw, 0x461C4000, .fl 0xFF7FFFFF 0x461C4000, false⟩

theorem checkForm_hostBudget : ∀ i : Fin 4, checkForm (K (0x4240 + i) 1) .write = .ok hostBudgetRow := by decide +kernel

theorem widthOf_budget : ∀ i : Fin 4, widthOf (K (0x4240 + i) 1) = 32 ∧ widthOf (K (0x4240 + i) 9) = 32 ∧ widthOf (K (0x4240 + i) 0x0A) = 32 := by
  decide +kernel

theorem rangeOk_hostBudget {v : Nat} (h : F32.lt 0x461C4000 (F32.ofNat v) = true) : rangeOk hostBudgetRow v = false := by
  have hle : F32.le (F32.ofNat v) 0x461C4000 = false := by
    simp only [F32.lt, F32.le, decide_eq_true_eq, decide_eq_false_iff_not, not_le] at h ⊢
    exact h
  simp only [rangeOk, hostBudgetRow, hle, Bool.and_false]

theorem observer_budget (i : Fin 4) : observer (K (0x4240 + i) 1) = false := by revert i; decide +kernel

theorem K_sub_inj (i u v : Nat) : K i u = K i v ↔ u = v := by rw [K_eq_iff]; omega

/-- A pattern keeps its value in an entry of 32 bits. -/
theorem ofNat_toNat_mod (x : Word32) : F32.ofNat (x.toNat % 2 ^ 32) = x := by
  rw [Nat.mod_eq_of_lt x.isLt, F32.ofNat, BitVec.ofNat_toNat, BitVec.setWidth_eq]

/-- What the limiter leaves in the entries of a source: an effective budget that is not below the floor requirement, and the host budget as it
was (R154–R156). -/
theorem budgetSrc_eq (s : State) (i n : Nat) : ∃ (y : State) (b fl : Word32) (draw code status : Nat), (∀ j, y.get j = s.get j) ∧ F32.lt b fl = false ∧
    s.budgetSrc i n = ((((y.set (K (0x4240 + i) 9) b.toNat).set (K (0x4240 + i) 0x0A) fl.toNat).set (K (0x4240 + i) 0x0B) draw).set
      (K (0x4240 + i) 0x0C) code).set (K (0x4240 + i) 0x0D) status := by
  have hfloor (b fl : Word32) : F32.lt (if F32.lt b fl = true then fl else b) fl = false := by
    split
    · simp [F32.lt]
    · next h => exact Bool.eq_false_iff.mpr h
  unfold State.budgetSrc
  extract_lets k x b kk d0 mirror maxFd md mf floorReq
  split
  extract_lets under b2
  refine ⟨_, b2, floorReq, _, _, _, ?_, hfloor _ _, rfl⟩
  exact fun _ => rfl

theorem budgetSrc_get (s : State) (i : Fin 4) (n : Nat) : (s.budgetSrc i n).get (K (0x4240 + i) 1) = s.get (K (0x4240 + i) 1) ∧
    F32.lt (F32.ofNat ((s.budgetSrc i n).get (K (0x4240 + i) 9))) (F32.ofNat ((s.budgetSrc i n).get (K (0x4240 + i) 0x0A))) = false := by
  obtain ⟨-, h9, hA⟩ := widthOf_budget i
  obtain ⟨y, b, fl, draw, code, status, hy, hlt, he⟩ := budgetSrc_eq s i n
  rw [he]
  constructor
  · simp [K_sub_inj, hy]
  · simp only [State.get_set, K_sub_inj, h9, hA, ofNat_toNat_mod, hlt, Nat.reduceEqDiff, if_false, if_true]

theorem effHostBudget_eq (s : State) (i v : Nat) : effHostBudget i s v =
    if F32.lt (F32.ofNat v) (F32.ofNat (s.get (K (0x4240 + i) 0x0A))) = true then
      (s.set (K (0x4240 + i) 1) (s.get (K (0x4240 + i) 0x0A) % 2 ^ 32), (0x0404, 0))
    else (s.set (K (0x4240 + i) 1) v, ok) := rfl

/-- Settles O7: a served write sets the entry alone, by the floor requirement; a value above the Range column never reaches the effect; and the
limiter writes no host budget. -/
theorem hostBudget : Obligations.HostBudget := by
  refine ⟨fun dt rq i v s h => ?_, fun dt rq i v e s hh hw he hg hx hv hlt => ?_, fun s i n hi => budgetSrc_get s ⟨i, hi⟩ n⟩
  · obtain ⟨h1, -, -⟩ := widthOf_budget i
    have hv : v < 2 ^ 32 := h1 ▸ h.2.1
    have hset (u : Nat) : Frame [.ports, .clients] (fun k => k = K (0x4240 + i) 1) (s.tick dt) ((s.tick dt).set (K (0x4240 + i) 1) u) :=
      frame_set _ _ _ _ _ (.inr rfl)
    have heff := effHostBudget_eq (s.tick dt) i v
    have hread (u : Nat) (hu : u < 2 ^ 32) {t : State}
        (ft : Frame [.ports, .clients] (fun _ => False) ((s.tick dt).set (K (0x4240 + i) 1) u) t) : t.get (K (0x4240 + i) 1) = u := by
      rw [ft.2 _ (observer_budget i) id, State.get_set_self _ _ _ (h1.symm ▸ hu)]
    by_cases hlow : F32.lt (F32.ofNat v) (F32.ofNat (s.get (K (0x4240 + i) 0x0A))) = true
    · refine command_keeps rfl h (heff.trans (if_pos hlow)) (hset _) rfl (by decide) fun t ft ha _ => ⟨fun hf => ?_, fun _ => ⟨ha, ?_⟩⟩
      · rw [hlow] at hf; cases hf
      · exact hread _ (Nat.mod_lt _ (by decide)) ft
    · refine command_keeps rfl h (heff.trans (if_neg hlow)) (hset _) rfl (by decide) fun t ft ha _ => ⟨fun _ => ⟨ha, hread v hv ft⟩, fun hf => ?_⟩
      exact absurd hf hlow
  · obtain ⟨h1, -, -⟩ := widthOf_budget i
    have hrow : hostBudgetRow = e := Except.ok.inj ((checkForm_hostBudget i).symm.trans (checkForm_of_checkUse he))
    subst hrow
    have heff : (effHostBudget i (s.tick dt) v).2.1 = 0x0404 ∨ (effHostBudget i (s.tick dt) v).2.1 = 0 := by
      rw [effHostBudget_eq]; split
      · exact .inl rfl
      · exact .inr rfl
    refine does_refuse (congrArg done (command_out_of_range (by rw [h1]; exact hh) he hg hx (by rw [h1]; rfl) (by rw [h1]; exact hv)
      (rangeOk_hostBudget hlt) ?_ ?_)) hw fun t ht => ht
    · rcases heff with h | h <;> rw [h] <;> decide
    · rcases heff with h | h <;> rw [h] <;> rfl

end Sys2Proof.Machine
end

section
/-! PROOFS. Regions of the frame store (R132–R135). -/

namespace Sys2Proof.Machine

/-! ### Entries -/

/-- The entries of layers and regions observe nothing. -/
theorem observer_region {k : Nat} (h : 0x3400 ≤ k / 256 ∧ k / 256 ≤ 0x345F) : observer k = false := by
  simp only [observer, K, List.contains_eq_mem, List.mem_cons, List.not_mem_nil, or_false, Bool.or_eq_false_iff, decide_eq_false_iff_not]
  omega

theorem K_ne {i j u v : Nat} (h : i ≠ j) (hu : u < 256) (hv : v < 256) : K i u ≠ K j v := by unfold K; omega

theorem Frame.set {ps : List Part} {ks : Nat → Prop} {s t : State} (f : Frame ps ks s t) (k v : Nat) (h : ks k) : Frame ps ks s (t.set k v) :=
  f.trans (frame_set ps ks t k v (.inr h))

theorem widthOf_region : ∀ n < 32, widthOf (K (0x3440 + n) 1) = 8 ∧ widthOf (K (0x3440 + n) 2) = 8 ∧ widthOf (K (0x3440 + n) 3) = 32 ∧
    widthOf (K (0x3440 + n) 4) = 16 := by decide +kernel

theorem widthOf_regionResult : widthOf (K 0x3420 3) = 8 ∧ widthOf (K 0x3420 4) = 16 := by decide +kernel

theorem field_lt (v hi lo : Nat) : field v hi lo < 2 ^ (hi + 1 - lo) := Nat.mod_lt _ (Nat.two_pow_pos _)

/-! ### The record of a region -/

/-- The record of a region with a state, an owner, a base and a size, without content and without a release frame. -/
def State.putRegion (s : State) (n st own base size : Nat) : State :=
  (((((s.set (K (0x3440 + n) 1) st).set (K (0x3440 + n) 2) own).set (K (0x3440 + n) 3) base).set (K (0x3440 + n) 4) size).set
    (K (0x3440 + n) 5) 0).set (K (0x3440 + n) 7) 0

theorem frame_putRegion (ps : List Part) (ks : Nat → Prop) (s : State) (n st own base size : Nat) (h : ∀ k, k / 256 = 0x3440 + n → ks k) :
    Frame ps ks s (s.putRegion n st own base size) := by
  have hk {u : Nat} (hu : u < 256) : ks (K (0x3440 + n) u) := h _ (K_div _ hu)
  exact ((((((Frame.refl ps ks s).set _ _ (hk (by decide))).set _ _ (hk (by decide))).set _ _ (hk (by decide))).set _ _ (hk (by decide))).set _ _
    (hk (by decide))).set _ _ (hk (by decide))

theorem State.get_putRegion (s : State) {n st own base size : Nat} (hn : n < 32) (hst : st < 2 ^ 8) (hown : own < 2 ^ 8) (hbase : base < 2 ^ 32)
    (hsize : size < 2 ^ 16) :
    (s.putRegion n st own base size).get (K (0x3440 + n) 1) = st ∧ (s.putRegion n st own base size).get (K (0x3440 + n) 2) = own ∧
    (s.putRegion n st own base size).get (K (0x3440 + n) 3) = base ∧ (s.putRegion n st own base size).get (K (0x3440 + n) 4) = size := by
  obtain ⟨h1, h2, h3, h4⟩ := widthOf_region n hn
  unfold State.putRegion
  simp only [State.get_set, K_sub_inj, h1, h2, h3, h4, Nat.reduceEqDiff, if_false, if_true, Nat.mod_eq_of_lt hst, Nat.mod_eq_of_lt hown,
    Nat.mod_eq_of_lt hbase, Nat.mod_eq_of_lt hsize, and_self]

/-! ### Requests (R132–R135) -/

theorem allocate_placed {s : State} {v n u : Nat} (ho : field v 31 28 = 7) (hn : (List.range 32).find? (fun n => s.get (K (0x3440 + n) 1) == 0) = some n)
    (hu : s.firstFit 7 (field v 15 0) = some u) :
    s.allocate v = (((s.putRegion n 1 7 (u * 65536) (field v 15 0)).set (K 0x3420 3) n).set (K 0x3420 4) 0, ok) := by
  unfold State.allocate
  simp only [ho, hn, hu, Nat.lt_irrefl, false_and, if_false]
  rfl

theorem allocate_no_record {s : State} {v : Nat} (ho : field v 31 28 = 7) (hn : ∀ n ∈ List.range 32, s.get (K (0x3440 + n) 1) ≠ 0) :
    s.allocate v = s.regionRefuse (0x0402, 0) := by
  have hnone : (List.range 32).find? (fun n => s.get (K (0x3440 + n) 1) == 0) = none := by
    rw [List.find?_eq_none]
    exact fun n hm => by simpa using hn n hm
  unfold State.allocate
  simp only [ho, hnone, Nat.lt_irrefl, false_and, if_false]

theorem freeRequest_unused {s : State} {n : Nat} (h1 : s.get (K (0x3440 + n) 1) = 1) (hr : s.regionRead n = false)
    (hu : mapGet s.fs.lastUse n = none) : s.freeRequest n = ((s.regionFree n).set (K 0x3420 4) 0, ok) := by
  unfold State.freeRequest
  simp [h1, hr, hu]

theorem freeRequest_free {s : State} {n : Nat} (h0 : s.get (K (0x3440 + n) 1) = 0) : s.freeRequest n = s.regionRefuse (0x0301, 0) := by
  unfold State.freeRequest
  exact if_pos h0

theorem contentReady_allocated {s : State} {n : Nat} (v : Nat) (h1 : s.get (K (0x3440 + n) 1) = 1) (hr : s.regionRead n = false) :
    s.contentReady n v = (s.set (K (0x3440 + n) 5) v, ok) := by
  unfold State.contentReady
  simp [h1, hr]

theorem memoryQuota_enough {s : State} {l v : Nat} (h : s.charged l ≤ v) : s.memoryQuota l v = (s.set (K (0x3400 + l) 0x12) v, ok) :=
  if_neg fun hv => absurd hv.1 (Nat.not_lt.mpr h)

/-- A region that becomes FREE has an empty record, and its use is forgotten; the usage of its layer follows. -/
theorem regionFree_cases (s : State) (n : Nat) : ∃ x : Fs,
    s.regionFree n = { s.putRegion n 0 7 0 0 with fs := x } ∨
    ∃ own v, own < 7 ∧ s.regionFree n = State.set { s.putRegion n 0 7 0 0 with fs := x } (K (0x3400 + own) 0x13) v := by
  refine ⟨{ s.fs with lastUse := mapDel s.fs.lastUse n }, ?_⟩
  by_cases h : s.get (K (0x3440 + n) 2) < 7
  · exact .inr ⟨_, _, h, if_pos h⟩
  · exact .inl (if_neg h)

/-- What a free request may change: its result, the record of the region, and the usage of a layer. -/
def freeKeys (n k : Nat) : Prop :=
  k = K 0x3420 4 ∨ k / 256 = 0x3440 + n ∨ 0x3400 ≤ k / 256 ∧ k / 256 ≤ 0x3406 ∧ k % 256 = 0x13

theorem frame_regionFree (s : State) (n : Nat) : Frame [.fs, .ports, .clients] (freeKeys n) s (s.regionFree n) := by
  have f (x : Fs) := (frame_putRegion [.fs, .ports, .clients] (freeKeys n) s n 0 7 0 0 fun k hk => .inr (.inl hk)).trans
    (frame_fs _ _ _ x (by decide))
  obtain ⟨x, h | ⟨own, v, hown, h⟩⟩ := regionFree_cases s n
  · exact h ▸ f x
  · refine h ▸ (f x).set _ _ (.inr (.inr ?_))
    rw [K_div _ (by decide), K_mod _ (by decide)]
    omega

theorem State.get_regionFree (s : State) {n : Nat} (hn : n < 32) : (s.regionFree n).get (K (0x3440 + n) 1) = 0 := by
  have hput : (s.putRegion n 0 7 0 0).get (K (0x3440 + n) 1) = 0 := (s.get_putRegion hn (by decide) (by decide) (by decide) (by decide)).1
  obtain ⟨x, h | ⟨own, v, hown, h⟩⟩ := regionFree_cases s n
  · exact h ▸ hput
  · rw [h, State.get_set_ne _ _ _ _ (K_ne (by omega) (by decide) (by decide))]
    exact hput

/-- An entry of a layer or a region that a request has set reads so after its answer. -/
theorem get_of_answered {u t : State} (ft : Frame [.ports, .clients] (fun _ => False) u t) {i v : Nat} (hi : 0x3400 ≤ i ∧ i ≤ 0x345F)
    (hv : v < 256) : t.get (K i v) = u.get (K i v) :=
  ft.2 _ (observer_region (by rw [K_div _ hv]; exact hi)) id

/-- Settles O20: each request comes to the record of one region, to its result alone, or to the one entry written. -/
theorem regions : Obligations.Regions := by
  obtain ⟨w3, w4⟩ := widthOf_regionResult
  refine ⟨fun dt rq word n u s h ho hn hu hlt => ?_, fun dt rq word s h ho hn => ?_, fun dt rq n s h hn h1 hr hlast => ?_,
    fun dt rq n s h hn h0 => ?_, fun dt rq n v s h h1 hr => ?_, fun dt rq l v s h hq => ?_⟩
  · have hn32 : n < 32 := List.mem_range.mp (List.mem_of_find?_eq_some hn)
    obtain ⟨h1, h2, h3, h4⟩ := (s.tick dt).get_putRegion (st := 1) (own := 7) (base := u * 65536) hn32 (by decide) (by decide) (by omega)
      (field_lt word 15 0)
    refine command_keeps rfl h (allocate_placed (s := s.tick dt) ho hn hu)
      (((frame_putRegion _ _ _ n _ _ _ _ fun k hk => .inr (.inr hk)).set _ _ (.inl rfl)).set _ _ (.inr (.inl rfl))) rfl (by decide) fun t ft ha _ => ?_
    have hget {v : Nat} (hv : v < 256) : t.get (K (0x3440 + n) v) = ((s.tick dt).putRegion n 1 7 (u * 65536) (field word 15 0)).get (K (0x3440 + n) v) := by
      rw [get_of_answered ft (by omega) hv, State.get_set_ne _ _ _ _ (K_ne (by omega) hv (by decide)),
        State.get_set_ne _ _ _ _ (K_ne (by omega) hv (by decide))]
    refine ⟨ha, ?_, ?_, ?_, ?_, ?_, ?_⟩
    · rw [get_of_answered ft (by decide) (by decide), State.get_set_ne _ _ _ _ (by simp [K_sub_inj]), State.get_set_self _ _ _ (by rw [w3]; omega)]
    · rw [get_of_answered ft (by decide) (by decide), State.get_set_self _ _ _ (by rw [w4]; decide)]
    · exact (hget (by decide)).trans h1
    · exact (hget (by decide)).trans h2
    · exact (hget (by decide)).trans h3
    · exact (hget (by decide)).trans h4
  · exact command_keeps rfl h (allocate_no_record (s := s.tick dt) ho hn) (frame_set _ _ _ _ _ (.inr rfl)) rfl (by decide) fun t _ ha _ => ha
  · refine command_keeps rfl h (freeRequest_unused (s := s.tick dt) h1 hr hlast) ((frame_regionFree _ n).set _ _ (.inl rfl)) ?_ (by decide)
      fun t ft ha _ => ⟨ha, ?_, ?_⟩
    · obtain ⟨x, he | ⟨own, v, -, he⟩⟩ := regionFree_cases (s.tick dt) n <;> rw [he] <;> rfl
    · rw [get_of_answered ft (by decide) (by decide), State.get_set_self _ _ _ (by rw [w4]; decide)]
    · rw [get_of_answered ft (by omega) (by decide), State.get_set_ne _ _ _ _ (K_ne (by omega) (by decide) (by decide)), State.get_regionFree _ hn]
  · exact command_keeps rfl h (freeRequest_free (s := s.tick dt) h0) (frame_set _ _ _ _ _ (.inr rfl)) rfl (by decide) fun t _ ha _ => ha
  · refine command_keeps rfl h (contentReady_allocated (s := s.tick dt) v h1 hr) (frame_set _ _ _ _ _ (.inr rfl)) rfl (by decide)
      fun t ft ha _ => ⟨ha, ?_⟩
    rw [get_of_answered ft (by omega) (by decide), State.get_set_self _ _ _ h.2.1]
  · refine command_keeps rfl h (memoryQuota_enough (s := s.tick dt) hq) (frame_set _ _ _ _ _ (.inr rfl)) rfl (by decide) fun t ft ha _ => ⟨ha, ?_⟩
    rw [get_of_answered ft (by omega) (by decide), State.get_set_self _ _ _ h.2.1]

end Sys2Proof.Machine
end

section
/-! PROOFS. Statements of the regions' content and of the Guardrail commands that fail, each with a state that the model runs to another
outcome. -/

namespace Sys2Proof.Machine

/-! ### A release that ends SAFE while a pattern engine runs (R52, R288, R397) -/

/-- SAFE with a Roadblock latched on the one enabled source, Guardrail connection 0 open to ROADBLOCK frames over NET0 without a time check,
and pattern engine 0 half way through a ramp from 0 to 100. -/
def rampingState : State :=
  { State.booted .safe with
    now := 1000000,
    active := [(K 0x1400 6, 0x0A000009), (K 0x1400 0x0B, 0x20), (K 0x1400 0x0C, 2), (K 0x4330 1, 1), (K 0x7100 1, 1)],
    dict := [(K 0x1400 0x12, 1), (K 0x5100 7, 1), (K 0x7100 0x0B, 5), (K 0x8010 1, 1)],
    skb := { State.reset.skb with engines := [{ Engine.init with wait := .ramp 0 100 0 2000000 }] } }

/-- A ROADBLOCK release of source 0 from that connection's producer. -/
def releaseFrame : GFrame :=
  let f : GFrame := ⟨2, 1, 0, [1], 0, []⟩
  { f with check := BitVec.ofNat 32 (rampingState.guardCheck 0 ((guardBytes f 5 [2]).take 10)) }

/-- Where that connection's frames come from. -/
def releaseSrc : GcSrc := .udp 0 0 0x0A000009 50330

/-- The engine stops where the release finds it, and its value shows. -/
theorem roadblockRelease_stops_engine :
    readAfter (.roadblockRelease 0 releaseSrc releaseFrame) rampingState (fun t => t.get (K 0x5100 9)) = some 50 := by decide +kernel

/-- Refutes O43: a release that takes the device from SAFE to PREOP stops the pattern engines (R288), whose values the frame of the clause
leaves out. -/
theorem not_guardrailCommands : ¬ Obligations.GuardrailCommands := by
  rintro ⟨-, -, hrelease, -⟩
  obtain ⟨t, ht, -, hf⟩ := hrelease 0 releaseSrc releaseFrame 0 rampingState (by decide +kernel) (by decide)
    (by unfold Calm; decide +kernel) (by decide +kernel)
  have h := roadblockRelease_stops_engine
  rw [readAfter_next ht, hf.2 (K 0x5100 9) (by decide +kernel) (by decide +kernel)] at h
  exact absurd h (by decide +kernel)

/-! ### A download beyond the length of a DOM (R35, R133) -/

/-- An upload of a region gives at most the bytes of a DOM (R35). -/
theorem domValue_region_length {s : State} {k : Nat} {b : List Byte} (hk : 0x3440 ≤ k / 256 ∧ k / 256 ≤ 0x345F) (h : s.domValue k = .ok b) :
    b.length ≤ 16777216 := by
  unfold State.domValue at h
  simp only [if_pos hk] at h
  split at h
  · cases h
  · cases h
    simp [memSlice]

/-- A download to region 0 by the window of the first pair that holds one byte more than the 16 MiB of a DOM. -/
def longXfer : Xfer := ⟨.window 0, 1, false, K 0x3440 6, List.replicate 16777217 0, 16777217, 0, true, 0⟩

theorem longXfer_length : longXfer.data.length = longXfer.total := by unfold longXfer; rw [List.length_replicate]

/-- OPERATE with that download and region 0 allocated with 300 units. -/
def longState : State :=
  { State.booted .operate with
    dict := [(K 0x3440 1, 1), (K 0x3440 4, 300)], sys := { (State.booted .operate).sys with xfers := [longXfer] } }

/-- Refutes O6: a region may be longer than a DOM, and an upload gives no more than the 16 MiB of one (R35), so that it cannot give back a
download that is longer than that; only the initiate checks the length (R42). -/
theorem not_regionContent : ¬ Obligations.RegionContent := by
  rintro ⟨hput, -, -⟩
  obtain ⟨t, -, ⟨-, -, -, -, hval⟩, -⟩ := hput 0 (.window 0) 0 longXfer longState rfl rfl rfl rfl (by decide +kernel) rfl
    longXfer_length rfl (by decide +kernel) (by decide +kernel)
  have hle := domValue_region_length (k := K 0x3440 6) (by decide +kernel) hval
  rw [List.length_append, longXfer_length] at hle
  have hbig : longXfer.total = 16777217 := rfl
  omega

end Sys2Proof.Machine
end

section
/-! PROOFS. A statement of the lane faults and lane tests that fails, with a state that the model runs to another outcome. -/

namespace Sys2Proof.Machine

/-! ### Loss of block lock on a lane of no port (R334, R354) -/

/-- The port of a lane follows the values in force and the twin link's enable alone. -/
theorem State.portOfLane_congr {s t : State} (l : Nat) (ha : t.active = s.active) (ht : t.get (K 0x7030 1) = s.get (K 0x7030 1)) :
    t.portOfLane l = s.portOfLane l := by
  unfold State.portOfLane State.twinLink State.epOn State.portLanes State.srcOn State.ep State.act
  rw [ha, ht]

/-- Outside host mode a receiver without block lock shows at least one invalid header among the last 64. -/
theorem State.unlocked_headers {s : State} {l : Nat} (h : s.get (K (laneIdx l) 3) ≠ 1) : (s.unlocked l).get (K (laneIdx l) 5) < 64 := by
  have hset : s.unlocked l = s.fresh.2.set (K (laneIdx l) 5) (s.fresh.1 % 64) := by
    simp only [State.unlocked, State.fresh, if_neg h]
  rw [hset, State.get_set, if_pos rfl]
  exact (Nat.mod_le _ _).trans_lt (Nat.mod_lt _ (by decide))

/-- The receiver of a lane of no port loses block lock: it shows the headers as they come without lock, and the loss is counted. -/
theorem State.lockLoss_no_port {s : State} {l : Nat} (h : s.portOfLane l = none) : s.lockLoss l =
    ((s.putLane l { s.lane l with locked := false, run := 0 }).unlocked l).incSat (K (laneIdx l) 7) 0xFFFFFFFF := by
  have hne : ∀ u < 256, K 0x7030 1 ≠ K (laneIdx l) u := fun u hu => K_ne (by unfold laneIdx; split <;> omega) (by decide) hu
  have hport : (((s.putLane l { s.lane l with locked := false, run := 0 }).unlocked l).incSat (K (laneIdx l) 7) 0xFFFFFFFF).portOfLane l =
      none := by
    rw [← h]
    refine State.portOfLane_congr l rfl ?_
    unfold State.incSat State.unlocked
    rw [State.get_set_ne _ _ _ _ (hne 7 (by decide)), State.get_set_ne _ _ _ _ (hne 5 (by decide))]
    rfl
  unfold State.lockLoss
  simp only [hport]

/-- OPERATE without a twin link, whose lane T0 is still in block lock and shows 64 valid headers of the last 64. -/
def lockedLaneState : State :=
  { State.booted .operate with dict := [(K 0x7032 5, 64)] }.putLane 16 { Lane.init with locked := true }

/-- Refutes O36: a receiver that loses block lock shows other headers at sub-index 05 of its lane's record, in a lane of no port too; the
clause on such lanes leaves that entry out of what changes. -/
theorem not_laneFaultsAndTests : ¬ Obligations.LaneFaultsAndTests := by
  rintro ⟨-, hfree, -⟩
  have hport : lockedLaneState.portOfLane 16 = none := by decide +kernel
  obtain ⟨t, ht, -, hf⟩ := hfree 0 16 lockedLaneState hport rfl
  have hbefore : lockedLaneState.get (K 0x7032 5) = 64 := by decide +kernel
  have hstays : t.get (K 0x7032 5) = lockedLaneState.get (K 0x7032 5) := hf.2 _ (by decide +kernel) (by decide +kernel)
  have hloss := State.lockLoss_no_port (s := lockedLaneState.tick 0) (l := 16) hport
  have hsettle : t = State.settle ((lockedLaneState.tick 0).lockLoss 16) := (Host.Outcome.next.inj ht).symm
  have hshown : t.get (K 0x7032 5) < 64 := by
    rw [hsettle, (frame_settle [] (fun _ => False) _ (by rw [hloss]; rfl) (by rw [hloss]; rfl)).2 _ (by decide +kernel) id, hloss, State.incSat,
      State.get_set_ne _ _ _ _ (by decide +kernel)]
    exact State.unlocked_headers (l := 16) (by decide +kernel)
  omega

end Sys2Proof.Machine
end

section
/-! PROOFS. Statements of the Tile Link that fail, each with a state that the model runs to another outcome. -/

namespace Sys2Proof.Machine

/-! ### An ACK while a packet waits for its turn (R200, R201) -/

/-- A trained port of a tile endpoint on four lanes. -/
def trainedPort : Port := { Port.init with trained := true, rate := 1, stripe := [0, 1, 2, 3] }

/-- OPERATE with a source and its tile endpoint 0 enabled, whose port is in some state. -/
def State.onPort (p : Port) : State :=
  { State.booted .operate with
    active := [(K 0x4330 1, 1), (K 0x4330 2, 1), (K 0x4400 1, 1), (K 0x4400 3, 1), (K 0x4400 5, 0xF)],
    tl := { State.reset.tl with tse := 1, ports := putNth Port.init State.reset.tl.ports 0 p } }

/-- The REG_RD of the identity check (R224). -/
def identRead : RegOp := { why := .ident, write := false, first := 0, count := 4, vals := [] }

/-- A BLANK with SEQ 7 is unanswered at port 0, and the REG_RD of the identity check waits for the next block slot, 5 ns ahead. -/
def waitingReadState : State :=
  .onPort { trainedPort with
    seq := 7, slotAt := 20000, unans := [⟨7, 5, 0, [], 0, 1, none⟩], txq := [⟨0, 8, 4, [], 0, none, some identRead⟩] }

/-- The header of the ACK that answers SEQ 7. -/
def ackHead : Nat := packetHead 0xA 0 0 9 0 (7 * 2 ^ 24)

/-- The REG_RD leaves before the ACK is taken, and is unanswered in its turn. -/
theorem ack_leaves_read_unanswered :
    readAfter (.ack 5 0 ackHead (packetCrc ackHead [])) waitingReadState (fun t => (t.port (0 : Fin 8)).unans.map Unans.typ) = some [8] := by
  decide +kernel

/-- Refutes O25: the ACK of a BLANK leaves a packet unanswered at its port where one that waited there has left by then; the clause on such an
ACK says that none is, and does not ask for an empty queue. -/
theorem not_tileLinkReturns : ¬ Obligations.TileLinkReturns := by
  rintro ⟨-, hblank, -⟩
  obtain ⟨t, ht, ⟨hnone, -, -⟩, -⟩ := hblank 5 0 ackHead (packetCrc ackHead []) ⟨7, 5, 0, [], 0, 1, none⟩ waitingReadState (by decide +kernel) rfl
    (by decide +kernel) rfl rfl rfl
  have h := ack_leaves_read_unanswered
  rw [readAfter_next ht, hnone] at h
  cases h

/-! ### A window access that may not be sent again (R200, R226, R231) -/

/-- A REG_WR of the register window to register 0x0200. -/
def windowWrite : RegOp := { why := .window, write := true, first := 0x200, count := 1, vals := [5] }

/-- That REG_WR as it waits for its answer, sent once. -/
def windowUnans : Unans := ⟨7, 7, 0x02000001, regWords [5], 0, 1, some windowWrite⟩

/-- A twin device that has lost its claim while the REG_WR of the register window is unanswered at port 0, and the window busy. -/
def claimLostState : State :=
  let s := State.onPort { trainedPort with seq := 7, unans := [windowUnans] }
  { s with dict := [(K 0x4410 5, 1)], tw := { s.tw with single := false, enabled := 1 } }

/-- The window shows that no answer came. -/
theorem retransmit_ends_window :
    readAfter (.retransmitTimeout 5 0 windowUnans.seq) claimLostState (fun t => t.get (K 0x4410 5)) = some 3 := by decide +kernel

/-- Refutes O26: a REG_WR of the register window that may not leave again, since the device has lost its claim, ends the access with no answer
(R231); the frame of the clause on packets sent again leaves the window's status out. -/
theorem not_tileLinkSends : ¬ Obligations.TileLinkSends := by
  rintro ⟨-, -, hagain, -⟩
  obtain ⟨t, ht, -, -, hget⟩ := hagain 5 0 windowUnans claimLostState rfl (by decide) rfl (by decide +kernel) rfl
  have h := retransmit_ends_window
  rw [readAfter_next ht, hget (K 0x4410 5) (by decide +kernel) (by decide +kernel)] at h
  exact absurd h (by decide +kernel)

end Sys2Proof.Machine
end

section
/-! PROOFS. Statements of the projection and of Scan Guard that fail, each with a state that the model runs to another outcome. -/

namespace Sys2Proof.Machine

-- In sequence, as the tests: proofs elaborated side by side bring the whole text near the memory limit of its check.
set_option Elab.async false

/-! ### The next plane on the link (R238) -/

/-- OPERATE with a running mirror-array source of 8 by 1 mirrors, whose endpoint 0 is ready; its plane table is the default one. -/
def runningPlanesState : State :=
  let s := State.onPort { trainedPort with ready := true }
  { s with
    active := [(K 0x4330 1, 1), (K 0x4330 2, 2), (K 0x4330 3, 8), (K 0x4330 4, 1), (K 0x4400 1, 1), (K 0x4400 5, 0xF)],
    fs := { s.fs with running := true, firstLight := true } }

/-- As slot 0 starts, the PLANE packet of plane 1 waits at the port (R238). -/
theorem planeSlot_queues_next_plane :
    readAfter (.planeSlot 0 0 0) runningPlanesState (fun t => (t.port (0 : Fin 8)).txq.map Tx.typ) = some [2] := by decide +kernel

/-- Refutes O27: a plane slot also sends the next plane to the endpoint (R238), and so changes the Tile Link; the frame of the clause on plane
slots of a running source leaves the Tile Link out. -/
theorem not_projection : ¬ Obligations.Projection := by
  rintro ⟨-, -, -, -, hslot, -⟩
  obtain ⟨t, ht, -, hparts, -⟩ := hslot 0 0 0 runningPlanesState (by decide +kernel) (by decide +kernel) rfl (by decide +kernel) rfl
    (by decide +kernel)
  have htl : t.tl = runningPlanesState.tl := hparts .tl (by decide)
  have h := planeSlot_queues_next_plane
  rw [readAfter_next ht, State.port, htl] at h
  exact absurd h (by decide +kernel)

/-! ### The laser of a guard that is enabled again (R240, R257) -/

/-- OPERATE with a running scanner on mirror-drive port 0 and LAS port 0, past first light, whose Scan Guard stabilises: every condition has
held since time 0. -/
def stabilisingState : State :=
  let s := State.booted .operate
  { s with
    active := [(K 0x4330 1, 1), (K 0x4330 2, 3), (K 0x4530 0xB, 0x02000000)], dict := [(K 0x4540 7, 1)],
    fs := { s.fs with running := true, firstLight := true },
    prj := { s.prj with guards := [{ Guard.init with okSince := some 0 }, Guard.init] } }

/-- After the default T_stab of 20 ms LAS0_EN is asserted (R257). -/
theorem scanGuardStabilised_enables_laser :
    readAfter (.scanGuardStabilised 20000000 0) stabilisingState (fun t => t.pins.las) = some 1 := by decide +kernel

/-- Refutes O28: a guard that is enabled gives its laser the enable back (R240, R257); the frame of the clause on guards that have stabilised
leaves the laser enables out, so that they could only stay or fall. -/
theorem not_scanGuard : ¬ Obligations.ScanGuard := by
  rintro ⟨-, -, -, -, -, hstable, -⟩
  obtain ⟨t, ht, -, hparts, -⟩ := hstable 20000000 0 0 stabilisingState (by decide +kernel) (by decide +kernel) (by decide +kernel) rfl
    (by decide +kernel)
  have hlas : t.pins.las = stabilisingState.pins.las ∨ t.pins.las = 0 := hparts .lasers (by decide)
  have hlow : t.pins.las = 0 := hlas.elim id id
  have h := scanGuardStabilised_enables_laser
  rw [readAfter_next ht, hlow] at h
  cases h

end Sys2Proof.Machine
end

section
/-! PROOFS. A statement of the tables of engines and slots that fails, with a state that the model runs to another outcome. -/

namespace Sys2Proof.Machine

/-! ### A target table with a reserved byte that is not 0 (R17, R277) -/

/-- A target on the string of channel 4 whose reserved byte is 1. -/
def reservedTarget : List Byte := [0x10, 4, 0, 1, 0, 0, 0, 1, 0, 9]

/-- Its download to the target table of engine 0 by the window of the first pair, with the LAST segment in. -/
def reservedXfer : Xfer := ⟨.window 0, 1, false, K 0x5100 2, reservedTarget, 10, 1, true, 0⟩

/-- PREOP with that download and channel 4 the head of a string that an engine drives. -/
def reservedTargetState : State :=
  { State.booted .preop with dict := [(K 0xA004 1, 3)], sys := { (State.booted .preop).sys with xfers := [reservedXfer] } }

/-- The table is refused with 0x0301. -/
theorem targetTable_reserved_refused : readAfter (.targetTable 0 (.window 0) 0) reservedTargetState (State.lastReply · (.window 0)) =
    some (some (codePdu 0x87 1 (K 0x5100 2) (0x0301, 0))) := by decide +kernel

/-- Refutes O30: a target table whose outputs exist and are free is refused all the same when a reserved byte is not 0 (R17, R277). -/
theorem not_engineTables : ¬ Obligations.EngineTables := by
  rintro ⟨-, -, htake, -⟩
  obtain ⟨t, ht, ⟨-, ha, -⟩, -⟩ := htake 0 (.window 0) 0 reservedXfer reservedTargetState rfl rfl rfl rfl (by decide +kernel) (by decide +kernel)
    rfl rfl (by decide +kernel) (by decide +kernel) (by decide +kernel) (by decide +kernel)
  have h := targetTable_reserved_refused
  rw [readAfter_next ht, ha] at h
  exact absurd h (by decide +kernel)

end Sys2Proof.Machine
end

section
/-! PROOFS. Pattern engines: their commands and instructions (R274–R276, R279). -/

namespace Sys2Proof.Machine

/-! ### The entries of an engine -/

/-- The state code and the program counter of an engine are bytes. -/
theorem widthOf_engine : ∀ e : Fin 8, widthOf (K (0x5100 + e) 7) = 8 ∧ widthOf (K (0x5100 + e) 8) = 8 := by decide +kernel

/-- The entries of the engines observe nothing. -/
theorem observer_engine (e : Fin 8) {u : Nat} (hu : u < 256) : observer (K (0x5100 + e) u) = false := by
  simp only [observer, K, List.contains_eq_mem, List.mem_cons, List.not_mem_nil, or_false, Bool.or_eq_false_iff, decide_eq_false_iff_not]
  omega

/-- Program counter and value of an engine. -/
def progressKeys (e k : Nat) : Prop := k / 256 = 0x5100 + e ∧ (k % 256 = 8 ∨ k % 256 = 9)

theorem progressKeys_pc (e : Nat) : progressKeys e (K (0x5100 + e) 8) := ⟨K_div _ (by decide), .inl (K_mod _ (by decide))⟩

theorem progressKeys_value (e : Nat) : progressKeys e (K (0x5100 + e) 9) := ⟨K_div _ (by decide), .inr (K_mod _ (by decide))⟩

/-- State code, program counter and value of an engine. -/
def runKeys (e k : Nat) : Prop := k / 256 = 0x5100 + e ∧ 7 ≤ k % 256 ∧ k % 256 ≤ 9

theorem runKeys_K (e : Nat) {u : Nat} (h : 7 ≤ u ∧ u ≤ 9) : runKeys e (K (0x5100 + e) u) := by
  refine ⟨K_div _ (by omega), ?_⟩
  rw [K_mod _ (by omega)]
  exact h

/-! ### Reading an engine -/

/-- What leaves sinks and entries as they are leaves every engine. -/
theorem engine_of_frame {ps : List Part} {u t : State} (f : Frame ps (fun _ => False) u t) (hp : .skb ∉ ps) (e : Fin 8) :
    t.engine e = u.engine e ∧ t.engState e = u.engState e ∧ t.pc e = u.pc e := by
  refine ⟨?_, f.2 _ (observer_engine e (by decide)) id, f.2 _ (observer_engine e (by decide)) id⟩
  unfold State.engine
  rw [f.1 .skb hp]

@[simp] theorem State.set_engine (s : State) (k v e : Nat) : (s.set k v).engine e = s.engine e := rfl

@[simp] theorem State.putEngine_engine (s : State) (e : Nat) (x : Engine) : (s.putEngine e x).engine e = x :=
  (nth_putNth ..).trans (if_pos rfl)

theorem State.putEngine_get (s : State) (e : Nat) (x : Engine) {u : Nat} (h : u ≠ 9) :
    (s.putEngine e x).get (K (0x5100 + e) u) = s.get (K (0x5100 + e) u) :=
  State.get_set_ne _ _ _ _ (mt (K_sub_inj _ _ _).mp h)

@[simp] theorem State.putEngine_pc (s : State) (e : Nat) (x : Engine) : (s.putEngine e x).pc e = s.pc e := s.putEngine_get e x (by decide)

@[simp] theorem State.putEngine_engState (s : State) (e : Nat) (x : Engine) : (s.putEngine e x).engState e = s.engState e :=
  s.putEngine_get e x (by decide)

theorem State.set_pc (s : State) (e : Fin 8) {pc : Nat} (h : pc < 256) : (s.set (K (0x5100 + e) 8) pc).pc e = pc :=
  State.get_set_self _ _ _ (by rw [(widthOf_engine e).2]; exact h)

theorem State.set_engState (s : State) (e : Fin 8) {st : Nat} (h : st < 256) : (s.set (K (0x5100 + e) 7) st).engState e = st :=
  State.get_set_self _ _ _ (by rw [(widthOf_engine e).1]; exact h)

theorem State.set_pc_engState (s : State) (e pc : Nat) : (s.set (K (0x5100 + e) 8) pc).engState e = s.engState e :=
  State.get_set_ne _ _ _ _ (mt (K_sub_inj _ _ _).mp (by decide))

/-! ### What the shared operations of an engine change -/

theorem frame_putEngine (ps : List Part) (ks : Nat → Prop) (s : State) (e : Nat) (x : Engine) (hp : .skb ∈ ps) (hk : ks (K (0x5100 + e) 9)) :
    Frame ps ks s (s.putEngine e x) := (frame_skb ps ks s _ hp).set _ _ hk

theorem State.engNext_inside {s : State} {e pc : Nat} (h : pc < (s.program e).length / 4) : s.engNext e pc = s.set (K (0x5100 + e) 8) pc :=
  if_pos h

theorem State.engNext_engine (s : State) (e pc : Nat) : (s.engNext e pc).engine e = s.engine e := by
  unfold State.engNext
  dsimp only
  split <;> rfl

theorem frame_engNext (ps : List Part) (ks : Nat → Prop) (s : State) (e pc : Nat) (hk : ks (K (0x5100 + e) 8)) :
    Frame ps ks s (s.engNext e pc) :=
  frame_ite (fun _ => frame_set _ _ _ _ _ (.inr hk)) fun _ => (frame_fresh _ _ s).set _ _ hk

/-- An untimed instruction that is not one too many goes on at an instruction of the program (R275). -/
theorem State.engUntimed_goes {s : State} {e pc : Nat} {x : Engine} (hx : x.untimed < 32) (hpc : pc < (s.program e).length / 4) :
    s.engUntimed e x pc = (s.putEngine e { x with untimed := x.untimed + 1 }).set (K (0x5100 + e) 8) pc :=
  (if_neg (by omega)).trans (State.engNext_inside hpc)

/-- An engine after an untimed instruction too many, before the record of it (R275). -/
def State.engFaulted (s : State) (e : Nat) (x : Engine) (pc : Nat) : State :=
  ((s.putEngine e { x with untimed := x.untimed + 1 }).engNext e pc).set (K (0x5100 + e) 7) 3

/-- One too many in a row ends in FAULT with a record (R275). -/
theorem State.engUntimed_faults {s : State} {e pc : Nat} {x : Engine} (hx : 32 ≤ x.untimed) :
    s.engUntimed e x pc = (s.engFaulted e x pc).event 9 0x14 (Config.argCode 0x14 (0x900 + e)) := if_pos (by omega)

theorem frame_engFaulted (s : State) (e pc : Nat) (x : Engine) : Frame [.skb, .log] (runKeys e) s (s.engFaulted e x pc) :=
  ((frame_putEngine _ _ s e _ (by decide) (runKeys_K e (by decide))).trans (frame_engNext _ _ _ e pc (runKeys_K e (by decide)))).set _ _
    (runKeys_K e (by decide))

theorem State.engFaulted_engine (s : State) (e pc : Nat) (x : Engine) :
    (s.engFaulted e x pc).engine e = { x with untimed := x.untimed + 1 } := by
  rw [State.engFaulted, State.set_engine, State.engNext_engine, State.putEngine_engine]

/-- A timed instruction that ends goes on at the next instruction of the program (R274). -/
theorem State.engEnd_goes {s : State} {e v : Nat} (hpc : s.pc e + 1 < (s.program e).length / 4) :
    s.engEnd e v = (s.putEngine e { s.engine e with value := v, wait := .none }).set (K (0x5100 + e) 8) (s.pc e + 1) := State.engNext_inside hpc

/-! ### The commands (R279) -/

theorem frame_engineStart (s : State) (e : Nat) : Frame [.skb, .ports, .clients] (runKeys e) s (s.engineStart e) :=
  ((frame_putEngine _ _ s e _ (by decide) (runKeys_K e (by decide))).set _ _ (runKeys_K e (by decide))).set _ _ (runKeys_K e (by decide))

theorem State.engineStart_engState (s : State) (e : Fin 8) : (s.engineStart e).engState e = 1 :=
  (State.set_pc_engState ..).trans (State.set_engState _ e (by decide))

theorem State.engineStart_engine (s : State) (e : Nat) :
    (s.engineStart e).engine e = { s.engine e with value := 0, counters := [none, none], untimed := 0, wait := .none } :=
  State.putEngine_engine ..

theorem effEngine_start {s : State} {e : Nat} (h : s.mode ≠ .preop) : effEngine e s 1 = (s.engineStart e, ok) := if_neg h

theorem effEngine_preop {s : State} {e : Nat} (h : s.mode = .preop) : effEngine e s 1 = (s, (0x0401, s.mode.code)) := if_pos h

theorem effEngine_stop {s : State} {e : Nat} : effEngine e s 2 = (s.engineStop e, ok) := rfl

theorem frame_engineStop (ps : List Part) (ks : Nat → Prop) (s : State) (e : Nat) (hp : .skb ∈ ps) (h7 : ks (K (0x5100 + e) 7))
    (h9 : ks (K (0x5100 + e) 9)) : Frame ps ks s (s.engineStop e) := (frame_putEngine _ _ s e _ hp h9).set _ _ h7

/-! ### Instructions -/

/-- Blocks whose domains are on work. -/
theorem State.inDomains_on {s : State} {ds : List Nat} (f : State → State) (h : ∀ d ∈ ds, s.domState d = 0) : s.inDomains ds f = f s :=
  if_pos (List.all_eq_true.mpr fun d hd => beq_iff_eq.mpr (h d hd))

/-- What changes nothing does so with the domains on or not. -/
theorem State.inDomains_idle {s : State} {ds : List Nat} {f : State → State} (h : f s = s) : s.inDomains ds f = s := by
  unfold State.inDomains
  split
  · exact h
  · rfl

/-- The domains that the engines need are on (R28). -/
theorem enginesOn {s : State} (h2 : s.domState 0x22 = 0) (h3 : s.domState 0x23 = 0) : ∀ d ∈ [0x22, 0x23], s.domState d = 0 := by
  simp [h2, h3]

theorem State.engState_of_due {s : State} {e op : Nat} (h : s.engDue e op = true) : s.engState e = 1 := by
  simp only [State.engDue, Bool.and_eq_true, beq_iff_eq] at h
  exact h.1.1

/-- An engine executes the instruction that is due. -/
theorem exec_due {i : Instr} {s : State} {dt e op : Nat} {f : State → State}
    (hx : exec i s = done ((s.tick dt).inDomains [0x22, 0x23] fun t => if t.engDue e op then f t else t)) (hd : s.engDue e op = true)
    (h2 : s.domState 0x22 = 0) (h3 : s.domState 0x23 = 0) : exec i s = done (f (s.tick dt)) :=
  hx.trans (congrArg done ((State.inDomains_on _ (enginesOn (s := s.tick dt) h2 h3)).trans (if_pos hd)))

/-- An engine that does not run executes none. -/
theorem State.inDomains_stopped {s : State} {e op : Nat} {ds : List Nat} {f : State → State} (h : s.engState e ≠ 1) :
    (s.inDomains ds fun t => if t.engDue e op then f t else t) = s :=
  State.inDomains_idle (if_neg fun hd => h (State.engState_of_due hd))

/-- A command that leaves an engine x and a program counter does nothing else. -/
theorem does_goes {i : Instr} {s : State} {dt pc : Nat} {e : Fin 8} {x : Engine} {post : State → Prop}
    (hx : exec i s = done (((s.tick dt).putEngine e x).set (K (0x5100 + e) 8) pc)) (hw : s.upd.waits = none) (hpc : pc < 256)
    (hp : ∀ t, t.engine e = x → t.pc e = pc → post t) : Does i s [.skb] (progressKeys e) post := by
  have hf := (frame_putEngine [.skb] _ (s.tick dt) e x (by decide) (progressKeys_value e)).set _ pc (progressKeys_pc e)
  refine does_keeps hx hw (hf.1 .due (by decide) rfl) ((frame_tick _ _ s dt).trans hf) (by decide) fun t ft _ => ?_
  obtain ⟨he, -, hpct⟩ := engine_of_frame ft (by decide) e
  exact hp t (he.trans (by simp)) (hpct.trans (State.set_pc _ e hpc))

/-- An instruction that takes no time puts the engine and the program counter, and counts (R275). -/
theorem does_untimed {i : Instr} {s : State} {dt pc : Nat} {e : Fin 8} {x : Engine} {post : State → Prop}
    (hx : exec i s = done ((s.tick dt).engUntimed e x pc)) (hw : s.upd.waits = none) (hu : x.untimed < 32)
    (hn : pc < (s.program e).length / 4) (hpc : pc < 256)
    (hp : ∀ t, t.engine e = { x with untimed := x.untimed + 1 } → t.pc e = pc → post t) : Does i s [.skb] (progressKeys e) post :=
  does_goes (hx.trans (congrArg done (State.engUntimed_goes hu hn))) hw hpc hp

/-- An instruction that takes time has the engine wait where it stands (R274). -/
theorem does_timed {i : Instr} {s : State} {dt : Nat} {e : Fin 8} {w : EngWait} {ks : Nat → Prop} {post : State → Prop}
    (hx : exec i s = done ((s.tick dt).engTimed e w)) (hw : s.upd.waits = none) (hk : ks (K (0x5100 + e) 9))
    (hp : ∀ t, (t.engine e).wait = w → t.engState e = s.engState e → t.pc e = s.pc e → post t) : Does i s [.skb] ks post := by
  have hf : Frame [.skb] ks (s.tick dt) ((s.tick dt).engTimed e w) := frame_putEngine _ _ _ e _ (by decide) hk
  refine does_keeps hx hw (hf.1 .due (by decide) rfl) ((frame_tick _ _ s dt).trans hf) (by decide) fun t ft _ => ?_
  obtain ⟨he, hst, hpc⟩ := engine_of_frame ft (by decide) e
  refine hp t ?_ (hst.trans (State.putEngine_engState ..)) (hpc.trans (State.putEngine_pc ..))
  rw [he, State.engTimed, State.putEngine_engine]

/-- An engine that halts stands in its state code (R274). -/
theorem does_halt {i : Instr} {s : State} {dt : Nat} {e : Fin 8} {ks : Nat → Prop} {post : State → Prop}
    (hx : exec i s = done (((s.tick dt).engTimed e .none).set (K (0x5100 + e) 7) 2)) (hw : s.upd.waits = none) (h7 : ks (K (0x5100 + e) 7))
    (h9 : ks (K (0x5100 + e) 9)) (hp : ∀ t, t.engState e = 2 → post t) : Does i s [.skb] ks post := by
  have hf := (frame_putEngine [.skb] ks (s.tick dt) e { s.engine e with untimed := 0, wait := .none } (by decide) h9).set _ 2 h7
  refine does_keeps hx hw (hf.1 .due (by decide) rfl) ((frame_tick _ _ s dt).trans hf) (by decide) fun t ft _ => ?_
  obtain ⟨-, hst, -⟩ := engine_of_frame ft (by decide) e
  exact hp t (hst.trans (State.set_engState _ e (by decide)))

/-- An untimed instruction too many: the engine has its new value, and stands in FAULT (R275). -/
theorem does_fault {i : Instr} {s : State} {dt pc : Nat} {e : Fin 8} {x : Engine} {post : State → Prop}
    (hx : exec i s = done ((s.tick dt).engUntimed e x pc)) (hc : Calm s [(9, 0x14)]) (hu : 32 ≤ x.untimed)
    (hp : ∀ t, (t.engine e).value = x.value → t.engState e = 3 → post t) : Does i s [.skb, .log] (runKeys e) post := by
  obtain ⟨hw, hmild⟩ := hc
  have hf := frame_engFaulted (s.tick dt) e pc x
  have hm : ((s.tick dt).engFaulted e x pc).mild 9 0x14 = true := by
    refine mild_of_frame (s := s.tick dt) (hmild (9, 0x14) (by simp)) hf fun n _ hk => ?_
    have hn : K 0x8120 (n + 1) / 256 = 0x5100 + e := hk.1
    unfold K at hn
    omega
  have hr (ps : List Part) (ks : Nat → Prop) (hp : .log ∈ ps) := frame_record ps ks _ 9 0x14 (Config.argCode 0x14 (0x900 + e)) false hm hp
  have hall := hf.trans (hr _ (runKeys e) (by decide))
  refine does_keeps (hx.trans (congrArg done (State.engUntimed_faults hu))) hw (hall.1 .due (by decide) rfl) ((frame_tick _ _ s dt).trans hall)
    (by decide) fun t ft _ => ?_
  obtain ⟨he, hst, -⟩ := engine_of_frame ((hr [.log] _ (by decide)).trans (ft.mono (by simp) fun _ h => h)) (by decide) e
  refine hp t ?_ (hst.trans (State.set_engState _ e (by decide)))
  rw [he, State.engFaulted_engine]

/-! ### Each instruction (R274–R276) -/

theorem State.engHold_halts {s : State} {e : Nat} (h : field (s.instrAt e) 27 0 = 0) :
    s.engHold e = (s.engTimed e .none).set (K (0x5100 + e) 7) 2 := if_pos h

theorem State.engHold_waits {s : State} {e : Nat} (h : field (s.instrAt e) 27 0 ≠ 0) :
    s.engHold e = s.engTimed e (.hold s.now (field (s.instrAt e) 27 0 * 1000000)) := if_neg h

theorem State.engWaitMs_waits {s : State} {e : Nat} (h : 1 ≤ field (s.instrAt e) 15 0) :
    s.engWaitMs e = s.engTimed e (.frames (field (s.instrAt e) 15 0)) := by
  unfold State.engWaitMs
  simp only [if_neg (Nat.ne_of_gt h)]

/-- LOOP with a counter that is not armed and a count above 1 arms it and jumps (R275). -/
theorem State.engLoop_arms {s : State} {e : Nat} (hc : nth none (s.engine e).counters (field (s.instrAt e) 27 27) = none)
    (hn : 2 ≤ field (s.instrAt e) 26 16) :
    s.engLoop e = s.engUntimed e { s.engine e with
      counters := putNth none (s.engine e).counters (field (s.instrAt e) 27 27) (some (field (s.instrAt e) 26 16 - 1)) } (field (s.instrAt e) 4 0) := by
  unfold State.engLoop
  simp only [hc, if_neg (show field (s.instrAt e) 26 16 ≠ 0 by omega), if_pos (show 0 < field (s.instrAt e) 26 16 - 1 by omega)]

/-- LOOP with a counter at 1 disarms it and goes on (R275). -/
theorem State.engLoop_disarms {s : State} {e : Nat} (hc : nth none (s.engine e).counters (field (s.instrAt e) 27 27) = some 1) :
    s.engLoop e = s.engUntimed e { s.engine e with counters := putNth none (s.engine e).counters (field (s.instrAt e) 27 27) none } (s.pc e + 1) := by
  unfold State.engLoop
  simp only [hc, if_neg Nat.one_ne_zero, Nat.sub_self, Nat.lt_irrefl, if_false]

theorem State.engTimedEnd_ramp {s : State} {e a v b l : Nat} (hs : s.engState e = 1) (hw : (s.engine e).wait = .ramp a v b l)
    (hl : b + l ≤ s.now) : s.engTimedEnd e = s.engEnd e v := by
  unfold State.engTimedEnd
  simp only [hs, hw, hl, ne_eq, not_true_eq_false, if_false, if_true]

theorem State.engTimedEnd_hold {s : State} {e b l : Nat} (hs : s.engState e = 1) (hw : (s.engine e).wait = .hold b l)
    (hl : s.now < b + l) : s.engTimedEnd e = s := by
  unfold State.engTimedEnd
  simp only [hs, hw, Nat.not_le.mpr hl, ne_eq, not_true_eq_false, if_false]

theorem State.engTimedEnd_stopped {s : State} {e : Nat} (h : s.engState e ≠ 1) : s.engTimedEnd e = s := if_pos h

/-- The target of a jump lies below 32. -/
theorem jumpTarget_lt (w : Nat) : field w 4 0 < 256 := (field_lt w 4 0).trans (by decide)

/-- A command that lets time pass and no more leaves sinks and engines as they are. -/
theorem does_idle {i : Instr} {s : State} {dt : Nat} (hx : exec i s = done (s.tick dt)) (hw : s.upd.waits = none) :
    Does i s [] (fun _ => False) fun t => t.skb = s.skb :=
  does_keeps hx hw rfl (frame_tick _ _ s dt) (by decide) fun _ ft _ => ft.1 .skb (by decide)

/-- Settles O31: a command puts the engine and its state code; each instruction that is due puts the engine and goes on, faults or waits; and
without one due only time passes. -/
theorem engines : Obligations.Engines := by
  refine ⟨fun dt rq e s h hm => ?start, fun dt rq e s h hm => ?preop, fun dt rq e s h => ?stop, fun dt e s hd hu hn hpc hw h2 h3 => ?set,
    fun dt e s hd hu hc h2 h3 => ?fault, fun dt e s hd hw h2 h3 => ?ramp, fun dt e s hd hw h2 h3 => ?hold,
    fun dt e s hd hc hn ht hu hw h2 h3 => ?loopArms, fun dt e s hd hc hn hpc hu hw h2 h3 => ?loopDisarms,
    fun dt e s hd ht hu hw h2 h3 => ?jump, fun dt e s hd hn hw h2 h3 => ?waitMs, fun dt e s hd hw h2 h3 => ?waitTime,
    fun dt e a v b l s hs hwait hl hn hpc hw h2 h3 => ?rampEnds, fun dt e b l s hs hwait hl hw => ?holdLasts, fun dt e op s hs hw hop => ?stopped⟩
  case start =>
    refine command_keeps rfl h (effEngine_start hm) (frame_engineStart _ e) rfl (by decide) fun t ft ha _ => ?_
    obtain ⟨he, hst, hpc⟩ := engine_of_frame ft (by decide) e
    rw [he, State.engineStart_engine]
    exact ⟨ha, hst.trans (State.engineStart_engState _ e), hpc.trans (State.set_pc _ e (by decide)), rfl, rfl, rfl⟩
  case preop =>
    exact command_keeps rfl h (effEngine_preop hm) (Frame.refl _ _ _) rfl (by decide) fun t _ ha _ => ha
  case stop =>
    refine command_keeps rfl h effEngine_stop (frame_engineStop _ _ _ e (by decide) ⟨K_div _ (by decide), .inl (K_mod _ (by decide))⟩
      ⟨K_div _ (by decide), .inr (K_mod _ (by decide))⟩) rfl (by decide) fun t ft ha _ => ⟨ha, ?_⟩
    obtain ⟨-, hst, -⟩ := engine_of_frame ft (by decide) e
    exact hst.trans (State.set_engState _ e (by decide))
  case set =>
    refine does_untimed (exec_due (f := (·.engSet e)) rfl hd h2 h3) hw hu hn (Nat.succ_lt_succ hpc) fun t he hp => ?_
    rw [he]
    exact ⟨rfl, hp, rfl⟩
  case fault =>
    exact does_fault (exec_due (f := (·.engSet e)) rfl hd h2 h3) hc hu fun t hv hst => ⟨hv, hst⟩
  case ramp =>
    exact does_timed (exec_due (f := (·.engRamp e)) rfl hd h2 h3) hw rfl fun t hwait _ hp => ⟨hwait, hp⟩
  case hold =>
    have hx := exec_due (i := .hold dt e) (f := (·.engHold e)) rfl hd h2 h3
    by_cases h0 : field (s.instrAt e) 27 0 = 0
    · refine does_halt (hx.trans (congrArg done (State.engHold_halts (s := s.tick dt) h0))) hw (.inl rfl) (.inr rfl) fun t hst => ?_
      rw [if_pos h0]
      exact hst
    · refine does_timed (hx.trans (congrArg done (State.engHold_waits (s := s.tick dt) h0))) hw (.inr rfl) fun t hwait hst _ => ?_
      rw [if_neg h0]
      exact ⟨hst.trans (State.engState_of_due hd), hwait⟩
  case loopArms =>
    refine does_untimed ((exec_due (f := (·.engLoop e)) rfl hd h2 h3).trans
      (congrArg done (State.engLoop_arms (s := s.tick dt) hc hn))) hw hu ht (jumpTarget_lt _) fun t he hp => ⟨hp, ?_⟩
    rw [he]
    exact (nth_putNth ..).trans (if_pos rfl)
  case loopDisarms =>
    refine does_untimed ((exec_due (f := (·.engLoop e)) rfl hd h2 h3).trans
      (congrArg done (State.engLoop_disarms (s := s.tick dt) hc))) hw hu hn (Nat.succ_lt_succ hpc) fun t he hp => ⟨hp, ?_⟩
    rw [he]
    exact (nth_putNth ..).trans (if_pos rfl)
  case jump =>
    exact does_untimed (exec_due (f := (·.engJump e)) rfl hd h2 h3) hw hu ht (jumpTarget_lt _) fun t _ hp => hp
  case waitMs =>
    exact does_timed ((exec_due (f := (·.engWaitMs e)) rfl hd h2 h3).trans
      (congrArg done (State.engWaitMs_waits (s := s.tick dt) hn))) hw rfl fun t hwait _ _ => hwait
  case waitTime =>
    exact does_timed (exec_due (f := (·.engWaitTime e)) rfl hd h2 h3) hw rfl fun t hwait _ _ => hwait
  case rampEnds =>
    refine does_goes (congrArg done ((State.inDomains_on _ (enginesOn (s := s.tick dt) h2 h3)).trans
      ((State.engTimedEnd_ramp (s := s.tick dt) hs hwait hl).trans (State.engEnd_goes (s := s.tick dt) hn)))) hw (Nat.succ_lt_succ hpc)
      fun t he hp => ?_
    rw [he]
    exact ⟨rfl, rfl, hp⟩
  case holdLasts =>
    exact does_idle (congrArg done (State.inDomains_idle (State.engTimedEnd_hold (s := s.tick dt) hs hwait hl))) hw
  case stopped =>
    have hstop : (s.tick dt).engState e ≠ 1 := hs
    refine does_idle (dt := dt) ?_ hw
    simp only [List.mem_cons, List.not_mem_nil, or_false] at hop
    obtain rfl | rfl | rfl | rfl | rfl | rfl | rfl | rfl := hop
    case inr.inr.inr.inr.inr.inr.inr => exact congrArg done (State.inDomains_idle (State.engTimedEnd_stopped hstop))
    all_goals exact congrArg done (State.inDomains_stopped hstop)

end Sys2Proof.Machine
end

section
/-! PROOFS. A statement of the loop slots that fails, with a state that the model runs to another outcome. -/

namespace Sys2Proof.Machine

/-! ### A start whose claim another slot holds (R65, R322, R562) -/

/-- PREOP with loop slot 0 in CLOSED as the actuator slot of ACT0, whose claim record 0x93 it holds beside its own, and with loop slot 1 off and
configured for the same port. -/
def sharedPortState : State :=
  { State.booted .preop with
    dict := [(K (LS 0) 2, 4), (K (LS 0) 0x28, 2), (K (LS 1) 2, 4)],
    sys := { (State.booted .preop).sys with claims := [(0x85, slotOwner 0), (0x93, slotOwner 0)] } }

/-- The configuration of slot 1 fails its own check too: its port is in use by another slot of its kind (detail 0x6007). -/
theorem slotCheckCfg_sharedPort : sharedPortState.slotCheckCfg (1 : Fin 8) = 0x6007 := by decide +kernel

/-- The start of slot 1 is answered with the code of the claim, and names its record. -/
theorem slotStart_answers_claim : readAfter (.slotStart 0 windowRq 1) sharedPortState (State.lastReply · windowRq.client) =
    some (some (codePdu 0x82 windowRq.tag (K (LS 1) 0x27) (0x0402, 0x93))) := by decide +kernel

/-- Refutes O32: a start whose claim another owner holds is answered with 0x0402, an earlier check of R562, and not with the 0x0403 of its
configuration. -/
theorem not_loopSlots : ¬ Obligations.LoopSlots := by
  rintro ⟨-, -, hcheck, -⟩
  obtain ⟨t, ht, ha, -⟩ := hcheck 0 windowRq 1 sharedPortState (by unfold Served; decide +kernel) (.inl rfl) (by decide +kernel)
    (slotCheckCfg_sharedPort.trans_ne (by decide))
  have h := slotStart_answers_claim
  rw [readAfter_next ht, ha, slotCheckCfg_sharedPort] at h
  exact absurd h (by decide +kernel)

end Sys2Proof.Machine
end

section
/-! PROOFS. Statements of the training and the rates of lanes that fail, each with a state that the model runs to another outcome. -/

namespace Sys2Proof.Machine

-- In sequence, as the tests: proofs elaborated side by side bring the whole text near the memory limit of its check.
set_option Elab.async false

/-! ### A TRAIN block at a receiver that the host has not aligned yet (R334, R335) -/

/-- OPERATE with the port of endpoint 0 training on lanes 0 and 1; the host searches the block boundary of lane 0, where 40 of the last 64 headers
are valid. -/
def hostSearchState : State :=
  let s := State.onPort Port.init
  { s with
    dict := [(K (laneIdx 0) 1, 2), (K (laneIdx 0) 3, 1), (K (laneIdx 0) 5, 40), (K (laneIdx 1) 1, 2)],
    ln := { s.ln with trains := putNth Train.init s.ln.trains 0 { Train.init with since := some 0 } } }

/-- Bytes 1 to 7 of a TRAIN block of lane 0 with LOCKED and READY (R333). -/
def readyTrain : List Byte := [0x0F, 0x0F, 0, 2, 3, 0, 0]

/-- The receiver takes no block before its boundary is found. -/
theorem train_leaves_host_search :
    readAfter (.train 5 0 readyTrain) hostSearchState (fun t => (t.lane (0 : Fin 18)).locked) = some false := by decide +kernel

/-- Refutes O34: a receiver in host mode whose block boundary is not found yet takes no TRAIN block; the clause on TRAIN blocks has every
receiver that trains in block lock after one. -/
theorem not_training : ¬ Obligations.Training := by
  rintro ⟨-, -, htrain, -⟩
  obtain ⟨t, ht, ⟨hlocked, -⟩, -⟩ := htrain 5 0 readyTrain 0 hostSearchState (by decide +kernel) (by decide +kernel) (by decide +kernel) rfl
  have h := train_leaves_host_search
  rw [readAfter_next ht, hlocked] at h
  cases h

/-! ### An endpoint record that names no lane group of the device (R230, R339) -/

/-- A trained port of a tile endpoint on lanes 0 and 1 of lane group 5, in a rate check since time 0. A write of that group is refused by its range
(R230); a stored configuration comes into force with it. -/
def strayGroupState : State :=
  let s := State.onPort trainedPort
  { s with
    active := [(K 0x4330 1, 1), (K 0x4330 2, 1), (K 0x4330 3, 0x400), (K 0x4330 4, 0x200), (K 0x4400 1, 1), (K 0x4400 4, 5)],
    ln := { s.ln with trains := putNth Train.init s.ln.trains 0 { Train.init with check := some 0 } } }

/-- The check of endpoint records that a commit makes, that of BOOT included, finds no fault with the group (R232, R566). -/
theorem endpointCheck_takes_stray_group : strayGroupState.endpointCheck strayGroupState.act = 0 := by decide +kernel

/-- An invalid header in the window counts at the place of lane 20, which the device does not have. -/
theorem rateCheck_counts_at_stray_lane :
    readAfter (.rateCheck 1000000 0 1) strayGroupState (fun t => t.get (K (laneIdx 20) 6)) = some 1 := by decide +kernel

/-- Refutes O35: an endpoint record in force may name a lane group above LG3, and the rate check of its port then counts at a lane beyond T1; the
frame of the clause on checks that fail ends with the record of T1, and no premise says that the group exists. -/
theorem not_laneRates : ¬ Obligations.LaneRates := by
  rintro ⟨-, -, -, hfails, -⟩
  obtain ⟨t, ht, -, hf⟩ := hfails 1000000 0 1 0 strayGroupState (by decide +kernel) (by decide +kernel) rfl (by decide +kernel)
    (by decide +kernel) rfl
  have hbefore : strayGroupState.get (K (laneIdx 20) 6) = 0 := by decide +kernel
  have h := rateCheck_counts_at_stray_lane
  rw [readAfter_next ht, hf.2 _ (by decide +kernel) (by decide +kernel), hbefore] at h
  cases h

end Sys2Proof.Machine
end

section
/-! PROOFS. Statements of the network and of the time that fail, each with a state that the model runs to another outcome. -/

namespace Sys2Proof.Machine

-- In sequence, as the tests: proofs elaborated side by side bring the whole text near the memory limit of its check.
set_option Elab.async false

/-! ### An in-band word with a speed that the interface mode does not have (R356) -/

/-- OPERATE with NET0 in SGMII, whose link is down. -/
def sgmiiState : State := { State.booted .operate with active := [(K 0x7100 2, 1)] }

/-- 2.5 Gb/s is no speed of SGMII. -/
theorem linkStateChange_leaves_foreign_speed :
    readAfter (.linkStateChange 0 0 4) sgmiiState (fun t => t.get (K 0x7100 0x0B)) = some 0 := by decide +kernel

/-- Refutes O37: an in-band word whose speed the interface mode of the port does not have changes nothing (R356); the clause on link states
has every word show in the port's entry. -/
theorem not_ethernetAndVideo : ¬ Obligations.EthernetAndVideo := by
  rintro ⟨hlink, -⟩
  obtain ⟨t, ht, hshown, -⟩ := hlink 0 0 4 sgmiiState rfl (by decide +kernel)
  have h := linkStateChange_leaves_foreign_speed
  rw [readAfter_next ht, Option.some.injEq] at h
  exact absurd (hshown.symm.trans h) (by decide)

/-! ### A DAP frame that finds the receive buffer of its controller full (R373) -/

/-- A Read of 0x7110:01 by the CAN client of identifier 5, which waits for the NET domain to wake. -/
def stalledRead (tag : Byte) : Stall := ⟨.can 5, Pdu.bytes ⟨1, tag, K 0x7110 1, 0, 0, 0, []⟩, 0x20, 0⟩

/-- OPERATE with identifier 5 of CAN0 as that of the DAP, four of whose frames wait, while both pairs of application cores restart. -/
def fullBufferState : State :=
  { State.booted .operate with
    dict := [(K 0x1200 2, 5)], sys := { (State.booted .operate).sys with apc := [false, false] },
    pwr := { State.reset.pwr with stalled := [stalledRead 1, stalledRead 2, stalledRead 3, stalledRead 4] } }

/-- The fifth frame is dropped, so that no stored frame counts. -/
theorem canFrame_drops_fifth :
    readAfter (.canFrame 0 0 5 false []) fullBufferState (fun t => t.get (K 0x7140 0x0A)) = some 0 := by decide +kernel

/-- Refutes O38: a DAP frame that finds the receive buffer full is dropped and counts as an overrun (R373); the clause on frames of a consumer
has each count as a stored frame, and no premise says that the buffer has room. -/
theorem not_canControllers : ¬ Obligations.CanControllers := by
  rintro ⟨-, -, hframe, -⟩
  obtain ⟨t, ht, hcount, -⟩ := hframe 0 0 5 [] fullBufferState (by decide +kernel) (by decide +kernel) (by decide +kernel) (by decide +kernel) rfl
  have h := canFrame_drops_fifth
  rw [readAfter_next ht, Option.some.injEq] at h
  exact absurd (hcount.symm.trans h) (by decide +kernel)

/-! ### A one-shot of TPO3 while SYNC_OUT holds its claim (R181, R383, R562) -/

/-- OPERATE at time 0, with claim record 0x9A held for SYNC_OUT and the default start time of TPO3, which lies less than 10 µs ahead. -/
def syncOutState : State :=
  { State.booted .operate with sys := { (State.booted .operate).sys with claims := [(0x9A, 0x700)] } }

/-- The one-shot is answered with the code of the claim, and names its record. -/
theorem oneShot_answers_claim : readAfter (.oneShot 0 windowRq 3) syncOutState (State.lastReply · windowRq.client) =
    some (some (codePdu 0x82 windowRq.tag (K 0x71A3 1) (0x0402, 0x9A))) := by decide +kernel

/-- Refutes O48: a one-shot of TPO3 whose claim SYNC_OUT holds is answered with 0x0402, an earlier check of R562, and not with the 0x0301 of
its start time; the clause on late starts, unlike those on modes that are taken, has no premise on the claim. -/
theorem not_timePulses : ¬ Obligations.TimePulses := by
  rintro ⟨-, hlate, -⟩
  obtain ⟨t, ht, ha, -⟩ := hlate 0 windowRq 3 syncOutState (by unfold Served; decide +kernel) (by decide +kernel)
  have h := oneShot_answers_claim
  rw [readAfter_next ht, ha] at h
  exact absurd h (by decide +kernel)

/-! ### A Pdelay_Req in the instant in which the interlock lowers a laser enable (R376, R444) -/

/-- One of a pair in PREOP, without the claim and with the link of NET0 up, where LAS0_EN is still high: the interlock has not acted on this
state yet. -/
def laserHighState : State :=
  { State.booted .preop with
    dict := [(K 0x7100 0x0B, 5)], pins := { State.reset.pins with las := 1 }, tw := { State.reset.tw with single := false } }

/-- Beside the two answers, the fall of the laser enable leaves on the ports. -/
theorem pdelayReq_with_laser_fall :
    readAfter (.pdelayReq 0 0 ⟨0, 1⟩) laserHighState (fun t => t.out.getLast?) = some (some (.pin "LAS0_EN" false)) := by decide +kernel

/-- Refutes O49: what hardware keeps true at every instant shows on the ports beside what a command sends; the clause on Pdelay_Req has the two
answers alone leave, and no premise says that the interlock finds nothing to lower. -/
theorem not_timeUnit : ¬ Obligations.TimeUnit := by
  rintro ⟨-, -, -, -, -, -, -, -, -, hreq, -⟩
  obtain ⟨t, ht, ⟨hout, -⟩, -⟩ := hreq 0 0 ⟨0, 1⟩ laserHighState (by decide +kernel) (by decide +kernel) rfl (by decide +kernel)
  have h := pdelayReq_with_laser_fall
  rw [readAfter_next ht, hout] at h
  cases h

end Sys2Proof.Machine
end

section
/-! PROOFS. Statements of safety and of twin operation that fail, each with a state that the model runs to another outcome. -/

namespace Sys2Proof.Machine

-- In sequence, as the tests: proofs elaborated side by side bring the whole text near the memory limit of its check.
set_option Elab.async false

/-! ### A Roadblock of every source takes the device to SAFE, and its tile links down (R213, R394) -/

/-- OPERATE with one source, whose tile endpoint 0 is linked, as the status of the endpoint shows. -/
def linkedState : State := { State.onPort trainedPort with dict := [(K 0x4400 0x0A, 2)] }

/-- With ROADBLOCK_N low the device enters SAFE, TSE falls, and the endpoint reads as down. -/
theorem roadblockNAssert_drops_endpoint :
    readAfter (.roadblockNAssert 0 0) linkedState (fun t => t.get (K 0x4400 0x0A)) = some 0 := by decide +kernel

/-- Refutes O39: a Roadblock of every source that is used takes the device to SAFE, where TSE falls and the ports of the tile link drop; the frame
of the clause on ROADBLOCK_N ends with the Roadblock entries, and the status of an endpoint is none of them. -/
theorem not_roadblockPin : ¬ Obligations.RoadblockPin := by
  rintro ⟨hassert, -⟩
  obtain ⟨t, ht, -, -, hkeys⟩ := hassert 0 0 linkedState (by decide +kernel) (by decide +kernel) (by decide +kernel)
    ⟨rfl, by decide +kernel⟩
  have hbefore : linkedState.get (K 0x4400 0x0A) = 2 := by decide +kernel
  have h := roadblockNAssert_drops_endpoint
  rw [readAfter_next ht, hkeys _ (by decide +kernel) (by decide +kernel), hbefore] at h
  cases h

/-- The same device with core 2 out of the vote. -/
def twoCoresState : State := { linkedState with safe := { linkedState.safe with cores := [true, true, false] } }

/-- With the second core gone every source is blocked, the device enters SAFE, and the endpoint reads as down. -/
theorem aliveToggle_drops_endpoint :
    readAfter (.aliveToggle 500000 [1]) twoCoresState (fun t => t.get (K 0x4400 0x0A)) = some 0 := by decide +kernel

/-- Refutes O41: the Roadblock of the second voter failure takes the device to SAFE as any other does, and the ports of the tile link drop; the
frame of the clause ends with the entries of the voter and of the Roadblock. -/
theorem not_aliveAndVoter : ¬ Obligations.AliveAndVoter := by
  rintro ⟨-, -, hsecond, -⟩
  obtain ⟨t, ht, -, -, hkeys⟩ := hsecond 500000 twoCoresState (by decide +kernel) (by decide +kernel) (by decide +kernel)
    (by decide +kernel) ⟨rfl, by decide +kernel⟩
  have hbefore : twoCoresState.get (K 0x4400 0x0A) = 2 := by decide +kernel
  have h := aliveToggle_drops_endpoint
  rw [readAfter_next ht, hkeys _ (by decide +kernel) (by decide +kernel), hbefore] at h
  cases h

/-! ### A Guardrail frame in the instant in which ALIVE stops (R416, R434) -/

/-- BOOT with ALIVE_P still high: the stop that BOOT is has not lowered it yet. -/
def aliveHighState : State := { State.reset with safe := { State.reset.safe with aliveP := true } }

/-- A VEHICLE frame of network port 0, all of whose fields are 0. -/
def vehicleFrame : GFrame := ⟨0, 0, 0, [], 0, []⟩

/-- The stop lowers ALIVE_P at the instant of the frame. -/
theorem vehicle_with_alive_fall :
    readAfter (.vehicle 0 (.udp 0 0 0 0) vehicleFrame) aliveHighState (fun t => t.safe.aliveP) = some false := by decide +kernel

/-- Refutes O42: what hardware keeps true at every instant holds beside what a command does; the clause on frames of a port that is down has
the whole safety record stay, and no premise says that ALIVE already shows the stop. -/
theorem not_guardrailInputs : ¬ Obligations.GuardrailInputs := by
  rintro ⟨-, -, -, -, -, hdown⟩
  obtain ⟨t, ht, hsafe, -⟩ := hdown 0 (.udp 0 0 0 0) vehicleFrame aliveHighState (by decide +kernel) rfl
  have h := vehicle_with_alive_fall
  rw [readAfter_next ht, hsafe] at h
  cases h

/-! ### The record of a blocked claim ends with the partner's claim (R430, R445) -/

/-- The active record of a claim that met a standing one (block 0x1A, kind 0x0B). -/
def blockedRecord : LogE := ⟨0x1A, 0x0B, K 0x8600 5, true, true, false, false, false, 1, 0, 0, 0⟩

/-- One of a pair in PREOP whose claim is blocked by that of its partner. -/
def blockedClaimState : State :=
  let s := State.booted .preop
  { s with
    tw := { s.tw with single := false, claimIn := true, blocked := true },
    safe := { s.safe with log := putNth none s.safe.log 0 (some blockedRecord) } }

/-- The fall of CLAIM_IN ends the cause of the record. -/
theorem claimInFall_ends_record :
    readAfter (.claimInFall 0) blockedClaimState (fun t => t.logActive 0x1A 0x0B (K 0x8600 5)) = some false := by decide +kernel

/-- Refutes O45: the fall of CLAIM_IN ends the cause of the record of a blocked claim, which then is no longer active; the fault log is not in
the frame of the clause. -/
theorem not_twinBeatsAndClaims : ¬ Obligations.TwinBeatsAndClaims := by
  rintro ⟨-, -, -, -, -, -, -, -, -, hfall, -⟩
  obtain ⟨t, ht, -, hparts, -⟩ := hfall 0 blockedClaimState (by decide +kernel) rfl rfl rfl
  have hlog : t.safe.log = blockedClaimState.safe.log := hparts .log (by decide)
  have hbefore : blockedClaimState.logActive 0x1A 0x0B (K 0x8600 5) = true := by decide +kernel
  have h := claimInFall_ends_record
  rw [readAfter_next ht, State.logActive, hlog, ← State.logActive, hbefore] at h
  cases h

/-! ### A copied entry that comes into force at the next start only (R358, R455) -/

/-- A standby device with a bulk copy open. -/
def bulkState : State :=
  let s := State.booted .standby
  { s with dict := [(K 0x8600 3, 2)], tw := { s.tw with single := false, bulk := true } }

/-- The enable of NET0, copied as 0, is still 1 in force. -/
theorem bulkSyncComplete_keeps_boot_entry :
    readAfter (.bulkSyncComplete 0 [(K 0x7100 1, 0), (K 0x8600 1, 0)] [] [] []) bulkState (fun t => t.act (K 0x7100 1)) = some 1 := by
  decide +kernel

/-- Refutes O46: the configuration of the network ports is taken over from the partner but comes into force with the next start (R358); the
clause on completed copies has every entry of 0x3000 to 0x7FFF in force at once. -/
theorem not_twinCopies : ¬ Obligations.TwinCopies := by
  rintro ⟨-, -, -, -, -, -, -, -, -, -, -, -, hbulk, -⟩
  obtain ⟨t, ht, -, hact, -⟩ := hbulk 0 (K 0x7100 1) 0 [] [] [] bulkState rfl (by decide +kernel) (by decide +kernel) (by decide +kernel)
    (by decide +kernel) ⟨rfl, by decide +kernel⟩ (by decide +kernel)
  have h := bulkSyncComplete_keeps_boot_entry
  rw [readAfter_next ht, hact] at h
  cases h

/-! ### A grant whose CRC fails, with no offer out (R448, R460) -/

/-- A standby device whose twin link is up. -/
def pairedState : State :=
  let s := State.booted .standby
  { s with dict := [(K 0x7030 3, 1)], tw := { s.tw with single := false } }

/-- The packet is counted. -/
theorem handoverGrant_counts_bad_crc : readAfter (.handoverGrant 0 0 [] 0) pairedState (fun t => t.tw.crcBad) = some 1 := by decide +kernel

/-- Refutes O47: a packet of the twin link whose CRC fails is counted before it is looked at (R448); the clause on grants without an offer has
the record of the link stay, and no premise says that the CRC holds. -/
theorem not_handover : ¬ Obligations.Handover := by
  rintro ⟨-, -, -, -, -, -, -, -, -, hgrant, -⟩
  obtain ⟨t, ht, htw, -⟩ := hgrant 0 0 [] 0 pairedState rfl rfl
  have h := handoverGrant_counts_bad_crc
  rw [readAfter_next ht, htw] at h
  cases h

end Sys2Proof.Machine
end

section
/-! PROOFS. Statements of the update, of power, of the instruments and of the pins that fail, each with a state that the model runs to another
outcome. -/

namespace Sys2Proof.Machine

-- In sequence, as the tests: proofs elaborated side by side bring the whole text near the memory limit of its check.
set_option Elab.async false

/-! ### A power request just after the cycle of a wake event (R497, R500) -/

/-- PREOP at time 0, in the cycle of a wake event that named the NET domain, with a staged request for that domain to go off. -/
def wokenCycleState : State :=
  { State.booted .preop with dict := [(K 0x2301 0x21, 2)], pwr := { State.reset.pwr with named := (0, [0x20]) } }

/-- The request comes 1 µs later, when the wake event no longer stands against it. -/
theorem powerRequestCommit_after_wake_cycle : readAfter (.powerRequestCommit 1000 windowRq) wokenCycleState (State.lastReply · windowRq.client) =
    some (some (codePdu 0x82 windowRq.tag (K 0x2300 1) ok)) := by decide +kernel

/-- Refutes O53: a staged set is refused for a wake event of the same cycle, so its check belongs to the instant of the request (R497); the
clause on refused commits makes the check before the time of the command has passed. -/
theorem not_powerDomains : ¬ Obligations.PowerDomains := by
  rintro ⟨-, hrefused, -⟩
  obtain ⟨t, ht, ⟨ha, -⟩, -⟩ := hrefused 1000 windowRq wokenCycleState (by unfold Served; decide +kernel) (by decide +kernel)
  have h := powerRequestCommit_after_wake_cycle
  rw [readAfter_next ht, ha] at h
  exact absurd h (by decide +kernel)

/-! ### IDCODE while EXTEST drives the boundary cells (R554) -/

/-- A device with EXTEST in force and both balls of ROADBLOCK_N asserted. -/
def extestState : State := { State.reset with pins := { State.reset.pins with jtag := 3, rbBalls := [true, true] } }

/-- Beside the identification, the release of the boundary cells shows on the ports. -/
theorem idcode_ends_extest : readAfter (.idcode 0) extestState (fun t => t.out.length) = some 2 := by decide +kernel

/-- Refutes O59: an instruction that ends EXTEST gives the cells back, which shows on the ports beside its answer; the clause on IDCODE has the
identification alone leave, and no premise says that no cells drive. -/
theorem not_hostPorts : ¬ Obligations.HostPorts := by
  rintro ⟨-, -, -, -, -, -, hidcode, -⟩
  obtain ⟨t, ht, ⟨-, hout⟩, -⟩ := hidcode 0 extestState rfl
  have h := idcode_ends_extest
  rw [readAfter_next ht, hout] at h
  cases h

/-! ### Working values beyond the width of their entry

No command puts such a value, and no premise of these statements keeps it out: the states they range over hold working values as numbers. -/

/-- PREOP with the link of NET0 up and 65,536 as the result of the last update command, an entry of 16 bits. -/
def wideResultState : State :=
  { State.booted .preop with dict := [(K 0x7100 0x0B, 5), (K 0x2200 5, 65536)], active := [(K 0x7100 1, 1)] }

/-- The answer to a status query carries 16 bits of the result. -/
theorem statusQuery_answers_low_bits : readAfter (.statusQuery 0 0 ⟨0, 0⟩ 0 0 0) wideResultState
    (fun t => (nth [] t.net.ethTx 0).getLast?.map fun x => beAt x.data 16 2) = some (some 0) := by decide +kernel

/-- Refutes O50: the answer to a status query has two bytes for the result code, and the clause has them read as the whole working value,
which no premise bounds by the width of its entry. -/
theorem not_updateDownload : ¬ Obligations.UpdateDownload := by
  rintro ⟨-, -, -, -, -, -, -, -, -, -, -, -, -, -, hquery, -⟩
  obtain ⟨t, ht, ⟨-, hlast⟩, -⟩ := hquery 0 0 ⟨0, 0⟩ 0 0 0 wideResultState (by decide +kernel) (by decide +kernel) (by decide +kernel) rfl
  have h := statusQuery_answers_low_bits
  rw [readAfter_next ht, Option.some.injEq, Option.map_eq_some_iff] at h
  obtain ⟨x, hx, hzero⟩ := h
  obtain ⟨-, -, -, -, -, hcode, -⟩ := hlast x hx
  exact absurd (hzero.symm.trans hcode) (by decide +kernel)

/-- PREOP in the grace time of the thermal supervisor, with 65,536 as the derate factor, an entry of 16 bits. -/
def wideFactorState : State := { State.booted .preop with dict := [(K 0x2500 9, 1), (K 0x2500 8, 65536)] }

/-- The factor in force takes 16 bits of it. -/
theorem graceTimeEnd_takes_low_bits :
    readAfter (.graceTimeEnd 2000000000) wideFactorState (fun t => t.get (K 0x2500 0x0A)) = some 0 := by decide +kernel

/-- Refutes O55: the factor in force is an entry of 16 bits, and the clause on the grace time has it read as the whole working value of the
derate factor, which no premise bounds by the width of its entry. -/
theorem not_thermal : ¬ Obligations.Thermal := by
  rintro ⟨-, hgrace, -⟩
  obtain ⟨t, ht, ⟨-, hfactor, -⟩, -⟩ := hgrace 2000000000 wideFactorState (by decide +kernel) (by decide +kernel) rfl rfl
  have h := graceTimeEnd_takes_low_bits
  rw [readAfter_next ht, hfactor] at h
  exact absurd h (by decide +kernel)

/-- The last descriptor of a list: 4 bytes at the start of application RAM. -/
def lastDescriptor : List Byte := [0x80, 0, 0, 0, 0, 0, 0, 4, 0, 0, 0, 0, 0, 0, 0, 1]

/-- PREOP with unit 0 claimed for DAP and running, at the end of its last descriptor, with 2^64 as its byte count, an entry of 64 bits. -/
def wideCountState : State :=
  { State.booted .preop with
    dict := [(K (CU 0) 9, 1), (K (CU 0) 1, 1), (K (CU 0) 0x0C, 2 ^ 64)],
    ins := { State.reset.ins with
      ram := memPutAll State.reset.ins.ram 0 lastDescriptor, crc := putNth ⟨0, 0, 0⟩ State.reset.ins.crc 0 ⟨0, 4, 1⟩ } }

/-- No byte is left to count, and the count stays. -/
theorem crcRunEnd_leaves_count :
    readAfter (.crcRunEnd 0 0) wideCountState (fun t => t.get (K (CU 0) 0x0C)) = some (2 ^ 64) := by decide +kernel

/-- Refutes O57: a run that ends without another byte leaves its byte count as it is, and the clause on the end of a run has it reduced to 64
bits; no premise bounds the working value by the width of its entry. -/
theorem not_checkValueUnits : ¬ Obligations.CheckValueUnits := by
  rintro ⟨-, -, -, -, -, hend⟩
  obtain ⟨t, ht, ⟨-, hcount⟩, -⟩ := hend 0 0 4 0 wideCountState rfl (by decide +kernel) (by decide +kernel) (by decide) (by decide)
    (by decide +kernel) (by decide +kernel) (by decide +kernel) (by decide +kernel) (by decide +kernel) (by decide +kernel)
  have h := crcRunEnd_leaves_count
  rw [readAfter_next ht, Option.some.injEq] at h
  exact absurd (hcount.symm.trans h) (by decide +kernel)

end Sys2Proof.Machine
end

section
/-! PROOFS. The queue, and the state after reset. -/

namespace Sys2Proof.Machine

-- In sequence, as the tests, for the memory limit of the check.
set_option Elab.async false

/-- Settles O1: the two cases of the definition of `step`. -/
theorem stepRunsFront : Obligations.StepRunsFront := by
  refine ⟨fun c rest s hq => ?_, fun s hq => ?_⟩ <;> (unfold step; rw [hq])

/-- Settles O4: a device in BOOT may have every source blocked; BOOT is a stop, under which ALIVE_P is low and the table's default of ALIVE is
stopped. -/
theorem resetIsSafe : Obligations.ResetIsSafe :=
  ⟨fun _ => .inr rfl, fun _ => ⟨rfl, State.reset_get _ ▸ by decide +kernel⟩⟩

end Sys2Proof.Machine
end

section
/-! PROOFS. Upkeep of the store: the refresher and the archives (R466, R491, R492). -/

namespace Sys2Proof.Machine

-- In sequence, as the tests, for the memory limit of the check.
set_option Elab.async false

/-- A command that lets time pass and no more. -/
theorem does_pass {i : Instr} {s : State} {dt : Nat} {post : State → Prop} (hx : exec i s = done (s.tick dt)) (hw : s.upd.waits = none)
    (hp : ∀ t, Frame [] (fun _ => False) s t → post t) : Does i s [] (fun _ => False) post :=
  does_keeps hx hw rfl (frame_tick _ _ s dt) (by decide) fun t ft _ => hp t ((frame_tick _ _ s dt).trans ft)

/-! ### Entries -/

/-- Entries with different addresses differ. -/
theorem K_apart {i j u v : Nat} (h : i * 256 + u ≠ j * 256 + v) : K i u ≠ K j v := fun e => h ((K_eq_iff ..).mp e)

theorem upkeep_entries : (widthOf (K 0x2100 2) = 16 ∧ widthOf (K 0x2100 3) = 64 ∧ widthOf (K 0x2100 4) = 32) ∧
    (widthOf (K 0x2110 2) = 64 ∧ widthOf (K 0x2110 3) = 8) ∧
    (observer (K 0x2100 2) = false ∧ observer (K 0x2100 3) = false ∧ observer (K 0x2100 4) = false) ∧
    observer (K 0x2110 2) = false ∧ observer (K 0x2110 3) = false := by decide +kernel

theorem widthOf_refresh : widthOf (K 0x2100 2) = 16 ∧ widthOf (K 0x2100 3) = 64 ∧ widthOf (K 0x2100 4) = 32 := upkeep_entries.1

theorem widthOf_archive : widthOf (K 0x2110 2) = 64 ∧ widthOf (K 0x2110 3) = 8 := upkeep_entries.2.1

theorem observer_refresh : observer (K 0x2100 2) = false ∧ observer (K 0x2100 3) = false ∧ observer (K 0x2100 4) = false := upkeep_entries.2.2.1

theorem observer_archive : observer (K 0x2110 2) = false ∧ observer (K 0x2110 3) = false := upkeep_entries.2.2.2

/-! ### The refresher -/

/-- The state with the refresher replaced. -/
def State.putRefresh (s : State) (x : Refresh) : State := { s with nv := { s.nv with refresh := x } }

@[simp] theorem State.putRefresh_get (s : State) (x : Refresh) (k : Nat) : (s.putRefresh x).get k = s.get k := rfl

/-- A block that nothing writes is counted, and the pass goes on with the next one. -/
theorem State.refreshBlock_next {s : State} {corrected : Nat} (hf : s.nv.refresh.first = []) (hn : s.nv.refresh.next < 1024)
    (hb : s.blockBusy s.nv.refresh.next = false) (hc : s.get (K 0x2100 2) + 1 < 1024) :
    s.refreshBlock corrected [] =
      ((s.addTo (K 0x2100 4) corrected).putRefresh { s.nv.refresh with next := s.nv.refresh.next + 1 }).inc (K 0x2100 2) := by
  have hg : (s.addTo (K 0x2100 4) corrected).get (K 0x2100 2) = s.get (K 0x2100 2) := State.get_set_ne _ _ _ _ (K_apart (by decide))
  unfold State.refreshBlock
  simp only [hf, List.find?_nil, hn, hb, List.foldl_nil, Bool.false_eq_true, if_true, if_false]
  exact if_pos (by rw [← hg] at hc; exact hc)

/-- The last block of a pass of 1,024 ends it with its time. -/
theorem State.refreshBlock_last {s : State} {corrected : Nat} (hr : s.nv.refresh = ⟨1023, [], []⟩) (hb : s.blockBusy 1023 = false)
    (hc : s.get (K 0x2100 2) = 1023) :
    s.refreshBlock corrected [] = ((((s.addTo (K 0x2100 4) corrected).putRefresh ⟨1024, [], []⟩).set (K 0x2100 2) 0).set (K 0x2100 3)
      s.timeNs).putRefresh ⟨0, [], []⟩ := by
  have hg : (s.addTo (K 0x2100 4) corrected).get (K 0x2100 2) = 1023 := (State.get_set_ne _ _ _ _ (K_apart (by decide))).trans hc
  unfold State.refreshBlock
  simp only [hr, List.find?_nil, hb, List.foldl_nil, Bool.false_eq_true, if_false, show (1023 : Nat) < 1024 by decide, if_true]
  exact if_neg (by show ¬ ((s.addTo (K 0x2100 4) corrected).get (K 0x2100 2) + 1 < 1024); omega)

/-- The refresher takes a block while a pair of cores runs, after BOOT, and when no other work of the store manager waits. -/
theorem exec_refreshBlock {dt corrected : Nat} {bad : List Nat} {s : State} (ha : s.sys.apc.any id = true) (hm : s.mode ≠ .boot)
    (hw : s.refreshWaits = false) : exec (.refreshBlock dt corrected bad) s = done ((s.tick dt).refreshBlock corrected bad) := by
  have h : ((s.tick dt).sys.apc.any id && (s.tick dt).mode != .boot && !(s.tick dt).refreshWaits) = true := by
    have hw' : (s.tick dt).refreshWaits = false := hw
    simp [ha, hm, hw']
  exact congrArg done (if_pos h)

/-! ### The archives -/

theorem DoseCopy.valid_sealed (c : DoseCopy) : c.sealed.valid = true := by simp [DoseCopy.sealed, DoseCopy.valid, DoseCopy.bytes]

/-- The store manager runs in every state after BOOT with a pair of cores. -/
theorem State.storeRuns_of {s : State} (hm : s.mode ≠ .boot) (ha : s.sys.apc = [true, true]) : s.storeRuns = true := by
  simp [State.storeRuns, hm, ha]

theorem State.storeRuns_boot {s : State} (hm : s.mode = .boot) : s.storeRuns = false := by simp [State.storeRuns, hm]

/-- The number of the dose copy that is not in use. -/
def State.doseTarget (s : State) : Nat := if s.get (K 0x2110 3) = 1 then 1 else 0

theorem State.doseTarget_cases (s : State) : s.doseTarget = 0 ∨ s.doseTarget = 1 := by
  unfold State.doseTarget; split
  · exact .inr rfl
  · exact .inl rfl

/-- The dose copy that an archive of this instant writes (R491). -/
def State.doseNext (s : State) : DoseCopy :=
  DoseCopy.sealed { DoseCopy.empty with
    seq := if s.get (K 0x2110 3) = 0 then 1 else ((nth DoseCopy.empty s.nv.doses (s.get (K 0x2110 3) - 1)).seq + 1) % 2 ^ 32,
    written := s.timeNs, doseLen := nth 0 s.fixedNow 2, ageLen := nth 0 s.fixedNow 3,
    dose := s.comp.src.map (·.dose), again := s.comp.src.map (·.again) }

/-- The state with the copies replaced and no archive waiting. -/
def State.putDoses (s : State) (x : List DoseCopy) : State :=
  { s with nv := { s.nv with doses := x }, upd := { s.upd with doseAt := s.now, doseDue := false } }

theorem frame_putDoses (ps : List Part) (ks : Nat → Prop) (s : State) (x : List DoseCopy) (hn : .nv ∈ ps) (hu : .upd ∈ ps) :
    Frame ps ks s (s.putDoses x) :=
  (frame_nv ps ks s { s.nv with doses := x } hn).trans
    (frame_upd ps ks { s with nv := { s.nv with doses := x } } { s.upd with doseAt := s.now, doseDue := false } hu)

theorem State.doseWrite_eq (s : State) : s.doseWrite =
    ((s.putDoses (putNth DoseCopy.empty s.nv.doses s.doseTarget s.doseNext)).set (K 0x2110 2) s.timeNs).set (K 0x2110 3) (s.doseTarget + 1) := rfl

theorem State.doseWrite_nv (s : State) :
    s.doseWrite.nv.doses = putNth DoseCopy.empty s.nv.doses s.doseTarget s.doseNext := by
  rw [State.doseWrite_eq, State.set_nv, State.set_nv]; rfl

theorem frame_doseWrite (s : State) : Frame [.nv, .upd] (fun k => k = K 0x2110 2 ∨ k = K 0x2110 3) s s.doseWrite := by
  rw [State.doseWrite_eq]
  exact ((frame_putDoses _ _ s _ (by decide) (by decide)).set _ _ (.inl rfl)).set _ _ (.inr rfl)

/-- A dose archive leaves its time and the number of its copy. -/
theorem State.doseWrite_get (s : State) :
    s.doseWrite.get (K 0x2110 3) = s.doseTarget + 1 ∧ s.doseWrite.get (K 0x2110 2) = s.timeNs % 2 ^ 64 := by
  obtain ⟨w2, w3⟩ := widthOf_archive
  have hlt : s.doseTarget + 1 < 2 ^ widthOf (K 0x2110 3) := by rw [w3]; rcases s.doseTarget_cases with h | h <;> rw [h] <;> decide
  rw [State.doseWrite_eq]
  refine ⟨State.get_set_self _ _ _ hlt, ?_⟩
  rw [State.get_set_ne _ _ _ _ (K_apart (by decide)), State.get_set, if_pos rfl, w2]

/-- A dose archive leaves a valid copy with the maps of this instant, and the other copy as it is. -/
theorem State.doseWrite_doses (s : State) :
    nth DoseCopy.empty s.doseWrite.nv.doses s.doseTarget = s.doseNext ∧
    nth DoseCopy.empty s.doseWrite.nv.doses (1 - s.doseTarget) = nth DoseCopy.empty s.nv.doses (1 - s.doseTarget) := by
  have hother : 1 - s.doseTarget ≠ s.doseTarget := by rcases s.doseTarget_cases with h | h <;> rw [h] <;> decide
  rw [State.doseWrite_nv, nth_putNth, nth_putNth, if_pos rfl, if_neg hother]
  exact ⟨rfl, rfl⟩

/-- The time of the next archive has not come. -/
def State.doseEarly (s : State) : Bool := decide (s.now < s.upd.doseAt + s.get (K 0x2110 1) * 60000000000)

theorem State.doseArchive_idle {s : State} (h : s.storeRuns = false ∨ s.doseEarly = true) : s.doseArchive = s :=
  if_pos (by rcases h with h | h
             · rw [h]; rfl
             · exact Bool.or_eq_true_iff.mpr (.inr h))

theorem State.doseArchive_due {s : State} (hr : s.storeRuns = true) (he : s.doseEarly = false) : s.doseArchive =
    if s.doseWaits then { s with upd := { s.upd with doseDue := true } } else s.doseWrite :=
  if_neg (Bool.eq_false_iff.mp (Bool.or_eq_false_iff.mpr ⟨by rw [hr]; rfl, he⟩))

/-- Without an archive that waits nothing is written. -/
theorem State.doseNow_idle {s : State} (h : s.upd.doseDue = false) : s.doseNow = s := by simp [State.doseNow, h]

theorem frame_faultArchive (s : State) : Frame [.nv] (fun k => k = K 0x2110 4) s s.faultArchive := by
  unfold State.faultArchive
  split
  · exact Frame.refl ..
  · split
    · exact Frame.refl ..
    · exact (frame_nv _ _ s _ (by decide)).set _ _ rfl

/-- A new log entry joins the half being written while that has room. -/
theorem State.faultArchive_appends {s : State} {e : LogE} (hm : s.mode = .operate) (ha : s.sys.apc = [true, true]) (he : s.nextArchive = some e)
    (hl : (nth [] s.nv.faults.halves s.nv.faults.half).length < 32768) :
    nth [] s.faultArchive.nv.faults.halves s.nv.faults.half =
      nth [] s.nv.faults.halves s.nv.faults.half ++ [e.bytes ++ toBe 8 s.timeNs] ∧ s.faultArchive.nv.faults.nextOrd = e.ord + 1 := by
  have hr := State.storeRuns_of (hm ▸ by decide) ha
  have hroom : ¬ 32768 ≤ (nth [] s.nv.faults.halves s.nv.faults.half).length := by omega
  unfold State.faultArchive
  rw [hr, hm, he]
  simp [hroom]

/-- In BOOT and in HOLD, and without a new entry, nothing is archived. -/
theorem State.faultArchive_idle {s : State} (h : s.mode = .boot ∨ s.mode = .hold ∨ s.nextArchive = none) : s.faultArchive = s := by
  unfold State.faultArchive
  rcases h with h | h | h
  · rw [State.storeRuns_boot h]; rfl
  · exact if_pos (by simp [h])
  · rw [h]; exact ite_self _

/-- Settles O52: each command puts the store and its entries, or only lets time pass. -/
theorem storeUpkeep : Obligations.StoreUpkeep := by
  refine ⟨fun dt corrected s ha hm hf hn hb hc hr hw => ?next, fun dt corrected s ha hm hn hb hc hr hw => ?last,
    fun dt corrected bad s hm hw => ?boot, fun dt s hm ha hd hno hw => ?dose, fun dt s hm ha hd hwaits hw => ?doseWaits,
    fun dt s hno hw => ?doseNot, fun dt e s hm ha he hl hh hd hw => ?fault, fun dt s hno hd hw => ?faultNot⟩
  case next =>
    obtain ⟨w2, -, w4⟩ := widthOf_refresh
    obtain ⟨o2, -, o4⟩ := observer_refresh
    have hx := (exec_refreshBlock (dt := dt) (corrected := corrected) (bad := []) (s := s) (by rw [ha]; rfl) (hm ▸ by decide) hr).trans
      (congrArg done (State.refreshBlock_next (s := s.tick dt) hf hn hb hc))
    refine does_keeps hx hw rfl ((((frame_tick _ _ s dt).set _ _ (.inr rfl)).trans (frame_nv _ _ _ _ (by decide))).set _ _ (.inl rfl))
      (by decide) fun t ft _ => ⟨congrArg Nv.refresh (ft.1 .nv (by decide)), ?_, ?_⟩
    · have hget : ((s.tick dt).addTo (K 0x2100 4) corrected).get (K 0x2100 2) = s.get (K 0x2100 2) := State.get_set_ne _ _ _ _ (K_apart (by decide))
      refine (ft.2 _ o2 id).trans ((State.get_set_self _ _ _ ?_).trans (congrArg (· + 1) hget))
      show ((s.tick dt).addTo (K 0x2100 4) corrected).get (K 0x2100 2) + 1 < _
      rw [w2, hget]; omega
    · refine (ft.2 _ o4 id).trans ((State.get_set_ne _ _ _ _ (K_apart (by decide))).trans ((State.get_set ..).trans ?_))
      rw [if_pos rfl, w4]; rfl
  case last =>
    obtain ⟨-, w3, -⟩ := widthOf_refresh
    obtain ⟨o2, o3, -⟩ := observer_refresh
    have hx := (exec_refreshBlock (dt := dt) (corrected := corrected) (bad := []) (s := s) (by rw [ha]; rfl) (hm ▸ by decide) hr).trans
      (congrArg done (State.refreshBlock_last (s := s.tick dt) hn hb hc))
    refine does_keeps hx hw rfl ((((((frame_tick _ _ s dt).set _ _ (.inr (.inr rfl))).trans (frame_nv _ _ _ _ (by decide))).set _ _
      (.inl rfl)).set _ _ (.inr (.inl rfl))).trans (frame_nv _ _ _ _ (by decide))) (by decide) fun t ft _ =>
      ⟨congrArg Nv.refresh (ft.1 .nv (by decide)), ?_, ?_⟩
    · rw [ft.2 _ o2 id, State.putRefresh_get, State.get_set_ne _ _ _ _ (K_apart (by decide)), State.get_set_self _ _ _ (Nat.two_pow_pos _)]
    · rw [ft.2 _ o3 id, State.putRefresh_get, State.get_set, if_pos rfl, w3]
  case boot =>
    exact does_pass (congrArg done (if_neg (by simp [hm]))) hw fun t ft => ft.1 .nv (by decide)
  case dose =>
    obtain ⟨o2, o3⟩ := observer_archive
    have hx : exec (.doseArchive dt) s = done (s.tick dt).doseWrite :=
      congrArg done ((State.doseArchive_due (s := s.tick dt) (State.storeRuns_of (hm ▸ by decide) ha) (decide_eq_false (Nat.not_lt.mpr hd))).trans
        (if_neg (Bool.eq_false_iff.mp hno)))
    obtain ⟨hcopy, htime⟩ := (s.tick dt).doseWrite_get
    obtain ⟨hnew, hother⟩ := (s.tick dt).doseWrite_doses
    refine does_of hx hw rfl ((frame_tick _ _ s dt).trans (frame_doseWrite _)) fun t ft _ => ?_
    have h3 : t.get (K 0x2110 3) = s.doseTarget + 1 := (ft.2 _ o3 id).trans hcopy
    have hlast : 2 - (s.doseTarget + 1) = 1 - s.doseTarget := by omega
    rw [show t.nv = (s.tick dt).doseWrite.nv from ft.1 .nv (by decide), h3, hlast]
    refine ⟨?_, (ft.2 _ o2 id).trans htime, congrArg DoseCopy.dose hnew, (congrArg DoseCopy.valid hnew).trans (DoseCopy.valid_sealed _), hother,
      ft.1 .upd (by decide)⟩
    unfold State.doseTarget; split <;> rfl
  case doseWaits =>
    have hx : exec (.doseArchive dt) s = done { s.tick dt with upd := { s.upd with doseDue := true } } :=
      congrArg done ((State.doseArchive_due (s := s.tick dt) (State.storeRuns_of hm ha) (decide_eq_false (Nat.not_lt.mpr hd))).trans (if_pos hwaits))
    exact does_of hx hw rfl ((frame_tick _ _ s dt).trans (frame_upd _ _ _ _ (by decide))) fun t ft _ => ft.1 .upd (by decide)
  case doseNot =>
    refine does_pass (congrArg done (State.doseArchive_idle ?_)) hw fun t ft => ft.1 .nv (by decide)
    exact hno.imp (State.storeRuns_boot (s := s.tick dt)) decide_eq_true
  case fault =>
    have hframe := frame_faultArchive (s.tick dt)
    have hupd : (s.tick dt).faultArchive.upd = s.upd := hframe.1 .upd (by decide)
    have hx : exec (.faultArchive dt) s = done (s.tick dt).faultArchive :=
      congrArg done (State.doseNow_idle (by rw [hupd]; exact hd))
    obtain ⟨hhalf, hord⟩ := State.faultArchive_appends (s := s.tick dt) hm ha he hl
    refine does_keeps hx hw (hframe.1 .due (by decide) rfl) ((frame_tick _ _ s dt).trans hframe) (by decide) fun t ft _ => ?_
    rw [show t.nv = (s.tick dt).faultArchive.nv from ft.1 .nv (by decide)]
    exact ⟨hhalf, hord⟩
  case faultNot =>
    refine does_pass (congrArg done ((congrArg State.doseNow (State.faultArchive_idle (s := s.tick dt) hno)).trans
      (State.doseNow_idle hd))) hw fun t ft => ft.1 .nv (by decide)

end Sys2Proof.Machine
end

section
/-! PROOFS. Resets: what they keep, and what hardware leaves of a state in BOOT (R431, R502–R504, R506). -/

namespace Sys2Proof.Machine

-- In sequence, as the tests, for the memory limit of the check.
set_option Elab.async false

/-! ### What a reset keeps -/

theorem mapGet_kept {m : List (Nat × Nat)} {kept : Nat → Bool} {f : Nat × Nat → Nat × Nat} {k : Nat} (hk : kept k = true)
    (hf : ∀ p, (f p).1 = p.1) (hs : ∀ p, p.1 = k → f p = p) : mapGet ((m.filter fun p => kept p.1).map f) k = mapGet m k := by
  induction m with
  | nil => rfl
  | cons p r ih =>
    rw [List.filter_cons]
    by_cases hp : p.1 = k
    · rw [hp, if_pos hk, List.map_cons, hs p hp]
      obtain ⟨a, x⟩ := p
      simp only at hp
      simp [mapGet, hp]
    · have hne (q : Nat × Nat) (l : List (Nat × Nat)) (hq : q.1 ≠ k) : mapGet (q :: l) k = mapGet l k := by
        obtain ⟨a, x⟩ := q
        exact if_neg fun h => hq h.symm
      rw [hne p r hp]
      split
      · rw [List.map_cons, hne _ _ (by rw [hf]; exact hp), ih]
      · exact ih

theorem reset_entries : (∀ k ∈ retainedKeys, k / 256 ≠ 0x2302 ∧ k ≠ K 0x2000 4) ∧
    (K 0x2320 2 ∈ retainedKeys ∧ K 0x2320 5 ∈ retainedKeys ∧ K 0x2330 3 ∈ retainedKeys) ∧
    (widthOf (K 0x2320 2) = 8 ∧ widthOf (K 0x2320 3) = 32 ∧ widthOf (K 0x2320 4) = 8 ∧ widthOf (K 0x2320 5) = 32 ∧
      widthOf (K 0x2330 3) = 32) ∧
    (observer (K 0x2320 2) = false ∧ observer (K 0x2320 3) = false ∧ observer (K 0x2320 4) = false ∧ observer (K 0x2320 5) = false ∧
      observer (K 0x2330 3) = false) ∧ dflt (K 0x2320 5) = 0 := by decide +kernel

theorem retainedKeys_apart : ∀ k ∈ retainedKeys, k / 256 ≠ 0x2302 ∧ k ≠ K 0x2000 4 := reset_entries.1

theorem retainedKeys_has : K 0x2320 2 ∈ retainedKeys ∧ K 0x2320 5 ∈ retainedKeys ∧ K 0x2330 3 ∈ retainedKeys := reset_entries.2.1

theorem widthOf_reset : widthOf (K 0x2320 2) = 8 ∧ widthOf (K 0x2320 3) = 32 ∧ widthOf (K 0x2320 4) = 8 ∧ widthOf (K 0x2320 5) = 32 ∧
    widthOf (K 0x2330 3) = 32 := reset_entries.2.2.1

theorem observer_reset : observer (K 0x2320 2) = false ∧ observer (K 0x2320 3) = false ∧ observer (K 0x2320 4) = false ∧
    observer (K 0x2320 5) = false ∧ observer (K 0x2330 3) = false := reset_entries.2.2.2.1

/-- After a reset the entries of the always-on domain read as before, but for the cause and the count of resets. -/
theorem State.resetTo_get (s : State) (powerOn : Bool) (cause k : Nat) (hk : k ∈ retainedKeys) : (s.resetTo powerOn cause).get k =
    if k = K 0x2320 5 then (s.get k + 1) % 2 ^ 32 else if k = K 0x2320 2 then cause % 2 ^ 8 else s.get k := by
  obtain ⟨w2, -, -, w5, -⟩ := widthOf_reset
  obtain ⟨hstatus, h4⟩ := retainedKeys_apart k hk
  have h52 : K 0x2320 5 ≠ K 0x2320 2 := K_apart (by decide)
  unfold State.resetTo
  extract_lets r held kept sigs rsys rsafe rpwr rpins rfs rtw t
  have hbase : t.get k = s.get k := by
    refine congrArg (Option.getD · (dflt k)) (mapGet_kept (kept := kept) ?_ ?_ ?_)
    · exact Bool.or_eq_true_iff.mpr (.inl (List.contains_iff_mem.mpr hk))
    · intro p; split <;> rfl
    · rintro p rfl; exact if_neg hstatus
  rw [State.get_set_ne _ _ _ _ h4, State.inc, State.get_set, w5]
  split
  · rename_i h5
    rw [← h5, State.get_set_ne _ _ _ _ (h5 ▸ h52), hbase]
  · rw [State.get_set, w2, hbase]

theorem State.resetTo_cause (s : State) (powerOn : Bool) {cause : Nat} (h : cause < 2 ^ 8) :
    (s.resetTo powerOn cause).get (K 0x2320 2) = cause := by
  rw [State.resetTo_get _ _ _ _ retainedKeys_has.1, if_neg (K_apart (by decide)), if_pos rfl, Nat.mod_eq_of_lt h]

theorem State.resetTo_count (s : State) (powerOn : Bool) (cause : Nat) :
    (s.resetTo powerOn cause).get (K 0x2320 5) = (s.get (K 0x2320 5) + 1) % 2 ^ 32 := by
  rw [State.resetTo_get _ _ _ _ retainedKeys_has.2.1, if_pos rfl]

theorem State.resetTo_clockFaults (s : State) (powerOn : Bool) (cause : Nat) :
    (s.resetTo powerOn cause).get (K 0x2330 3) = s.get (K 0x2330 3) := by
  rw [State.resetTo_get _ _ _ _ retainedKeys_has.2.2, if_neg (K_apart (by decide)), if_neg (K_apart (by decide))]

/-! ### What hardware leaves of a state in BOOT -/

theorem State.aliveLow_pins (s : State) (code : Nat) : (s.aliveLow code).pins = s.pins := by
  unfold State.aliveLow; dsimp only; split <;> rfl

theorem State.interlock_supplies (s : State) : s.interlock.pins.supplies = s.pins.supplies := by
  unfold State.interlock; split <;> rfl

/-- A device at the start of BOOT. -/
def State.starts (s : State) : Prop := s.mode = .boot ∧ s.sys.bootStep = 0 ∧ s.upd.waits = none ∧ s.due = none

/-- A device at the start of BOOT stays there, with ALIVE_P low; beside it hardware changes observers and the laser enables. -/
theorem settle_starts {s : State} (h : s.starts) : s.settle.mode = .boot ∧ s.settle.sys.bootStep = 0 ∧ s.settle.safe.aliveP = false ∧
    s.settle.pins.supplies = s.pins.supplies ∧ Frame [] (fun _ => False) s s.settle := by
  obtain ⟨hm, hb, hw, hd⟩ := h
  have hf := frame_settle [] (fun _ => False) s hw hd
  have hsafe : s.safeSettle = s := if_neg fun h => h.1 hm
  have hsettle : s.settle = s.aliveSettle.interlock := by rw [settle_calm s hw hd, hsafe]
  have hmode : s.settle.mode = .boot := by rw [hsettle, State.interlock_mode, State.aliveSettle_mode, hm]
  have hstep : s.settle.sys.bootStep = 0 := (hf.1 .boot (by decide)).1.trans hb
  refine ⟨hmode, hstep, ?_, ?_, hf⟩
  · exact (s.safe_settle.2 (State.aliveStop_ne_zero_of_stateStop (State.stateStop_of_boot hmode (by rw [hstep]; decide)))).1
  · rw [hsettle, State.interlock_supplies]
    unfold State.aliveSettle
    split
    · rfl
    · rw [State.aliveLow_pins]

/-- The state without its supplies. -/
def State.unsupplied (s : State) : State := { s with pins := { s.pins with supplies := false } }

/-- The state in a reset that RESET_N holds, with the pin watched afresh (R503, R504). -/
def State.heldInReset (s : State) : State := { s with pwr := { s.pwr with inReset := true } }.set (K 0x2320 4) 0

/-- A command that ends in a record of an event, whose rules reset nothing. -/
theorem does_event {i : Instr} {s u : State} {dt src kind arg : Nat} {ps : List Part} {ks : Nat → Prop} {post : State → Prop}
    (hx : exec i s = done (u.event src kind arg)) (hc : Calm s [(src, kind)]) (hf : Frame ps ks (s.tick dt) u)
    (hq : .log ∈ ps ∧ .upd ∉ ps ∧ .due ∉ ps) (hk : ∀ n < 64, ¬ ks (K 0x8120 (n + 1)))
    (hp : ∀ t, Frame [.log] (fun _ => False) u t → post t) : Does i s ps ks post := by
  obtain ⟨hlog, hupd, hdue⟩ := hq
  have hmild : u.mild src kind = true := mild_of_frame (s := s.tick dt) (hc.2 _ List.mem_cons_self) hf hk
  have fe := frame_record ps ks u src kind arg false hmild hlog
  refine does_keeps hx hc.1 ((hf.trans fe).1 .due hdue rfl) (((frame_tick ps ks s dt).trans hf).trans fe) hupd fun t ft _ => hp t ?_
  exact (frame_record [.log] _ u src kind arg false hmild (by decide)).trans (ft.mono (by simp) fun _ h => h)

/-- No entry of an object is a rule. -/
theorem not_rule_key {i v : Nat} (hi : i ≠ 0x8120) (hv : v < 256) : ∀ n < 64, ¬ K 0x8120 (n + 1) = K i v :=
  fun _ hn => K_ne hi.symm (by omega) hv

theorem satN_le (hi v : Nat) : satN hi v ≤ hi := by unfold satN; split <;> omega

/-- Settles O54: a reset is a state at the start of BOOT; the other commands put the reset pin and its record. -/
theorem resets : Obligations.Resets := by
  obtain ⟨o2, o3, o4, o5, oc⟩ := observer_reset
  obtain ⟨-, w3, w4, -, wc⟩ := widthOf_reset
  refine ⟨fun dt rail s hr => ?trip, fun dt s => ?aon, fun dt s hp hh => ?pin, fun dt s hp h4 hh hw => ?watched, fun dt s hp hl hw => ?release,
    fun dt s hp hi hl hc => ?long, fun dt s hi ht hl hc => ?stuck, fun dt check s => ?clock⟩
  case trip =>
    have hx : exec (.supplyMonitorTrip dt rail) s = done ((s.tick dt).resetTo true 1).unsupplied := congrArg done (if_neg hr)
    obtain ⟨hm, hb, ha, hs, hf⟩ := settle_starts (s := ((s.tick dt).resetTo true 1).unsupplied) ⟨rfl, rfl, rfl, rfl⟩
    exact ⟨_, hx, hm, hb, (hf.2 _ o2 id).trans ((s.tick dt).resetTo_cause true (by decide)),
      (hf.2 _ o5 id).trans ((s.tick dt).resetTo_count true 1), hs, hf.1 .nv (by decide), hf.1 .claims (by decide), hf.1 .doms (by decide),
      hf.1 .active (by decide), ha, hf.1 .log (by decide), hf.1 .queue (by decide)⟩
  case aon =>
    have hx : exec (.supplyMonitorTrip dt 2) s = done (s.tick dt).aonLost := rfl
    obtain ⟨hm, hb, -, hs, hf⟩ := settle_starts (s := (s.tick dt).aonLost) ⟨rfl, rfl, rfl, rfl⟩
    have hcount : (s.tick dt).aonLost.get (K 0x2320 5) = 0 := (State.reset_get _).trans reset_entries.2.2.2.2
    exact ⟨_, hx, hm, hb, (hf.2 _ o5 id).trans hcount, hs, hf.1 .nv (by decide), hf.1 .log (by decide), hf.1 .queue (by decide)⟩
  case pin =>
    have hnot : ¬ ((s.tick dt).get (K 0x2320 4) = 1 ∧ (s.tick dt).now < s.pwr.highSince + 1000000) := fun h =>
      hh.elim (fun h4 => h4 h.1) fun hl => absurd h.2 (Nat.not_lt.mpr hl)
    have hx : exec (.resetNAssert dt) s =
        done (({ s.tick dt with pwr := { s.pwr with pinLow := true, lowSince := s.now + dt } } : State).resetTo false 2).heldInReset :=
      congrArg done ((if_neg (by rw [State.tick_pwr, hp]; decide)).trans (if_neg hnot))
    obtain ⟨hm, hb, ha, -, hf⟩ := settle_starts (s := (({ s.tick dt with
      pwr := { s.pwr with pinLow := true, lowSince := s.now + dt } } : State).resetTo false 2).heldInReset) ⟨rfl, rfl, rfl, rfl⟩
    refine ⟨_, hx, hm, hb, (hf.2 _ o2 id).trans ?_, (hf.2 _ o4 id).trans (State.get_set_self _ _ _ (Nat.two_pow_pos _)),
      congrArg Pwr.inReset (hf.1 .pwr (by decide)), congrArg Pwr.lowSince (hf.1 .pwr (by decide)), hf.1 .nv (by decide),
      hf.1 .claims (by decide), ha, hf.1 .log (by decide)⟩
    exact (State.get_set_ne _ _ _ _ (K_apart (by decide))).trans (State.resetTo_cause _ false (by decide))
  case watched =>
    have hx : exec (.resetNAssert dt) s = done { s.tick dt with pwr := { s.pwr with pinLow := true, lowSince := s.now + dt } } :=
      congrArg done ((if_neg (by rw [State.tick_pwr, hp]; decide)).trans (if_pos ⟨h4, hh⟩))
    exact does_keeps hx hw rfl ((frame_tick _ _ s dt).trans (frame_pwr _ _ _ _ (by decide))) (by decide) fun t ft _ => ft.1 .pwr (by decide)
  case release =>
    have hnot : ¬ (s.pwr.inReset = true ∧ s.pwr.lowSince + 2000000000 < s.now + dt) := fun h => absurd h.2 (Nat.not_lt.mpr hl)
    have hx : exec (.resetNRelease dt) s =
        done { s.tick dt with pwr := { s.pwr with pinLow := false, inReset := false, highSince := s.now + dt } } :=
      congrArg done ((if_neg (by rw [State.tick_pwr, hp]; decide)).trans (if_neg hnot))
    exact does_keeps hx hw rfl ((frame_tick _ _ s dt).trans (frame_pwr _ _ _ _ (by decide))) (by decide) fun t ft _ => ft.1 .pwr (by decide)
  case long =>
    have hx : exec (.resetNRelease dt) s = done ((({ s.tick dt with
        pwr := { s.pwr with pinLow := false, inReset := false, highSince := s.now + dt } } : State).set (K 0x2320 3)
        (satN 0xFFFFFFFF ((s.now + dt - s.pwr.lowSince) / 1000000))).event 0x16 0x12 (satN 0xFFFFFFFF ((s.now + dt - s.pwr.lowSince) / 1000000))) :=
      congrArg done ((if_neg (by rw [State.tick_pwr, hp]; decide)).trans (if_pos ⟨hi, hl⟩))
    refine does_event hx hc ((frame_pwr _ _ _ _ (by decide)).set _ _ rfl) (by decide) (not_rule_key (by decide) (by decide)) fun t ft => ?_
    refine ⟨congrArg Pwr.inReset (ft.1 .pwr (by decide)), (ft.2 _ o3 id).trans (State.get_set_self _ _ _ ?_)⟩
    rw [w3]
    exact Nat.lt_of_le_of_lt (satN_le ..) (by decide)
  case stuck =>
    have hx : exec (.stuckReset dt) s =
        done ((({ s.tick dt with pwr := { s.pwr with inReset := false } } : State).set (K 0x2320 4) 1).event 0x16 0x12 0x80000001) :=
      congrArg done (if_pos ⟨hi, ht, hl⟩)
    exact does_event hx hc ((frame_pwr _ _ _ _ (by decide)).set _ _ rfl) (by decide) (not_rule_key (by decide) (by decide)) fun t ft =>
      ⟨ft.1 .pwr (by decide), (ft.2 _ o4 id).trans (State.get_set_self _ _ _ (by rw [w4]; decide))⟩
  case clock =>
    have hx : exec (.clockMonitorFault dt check) s =
        done ((({ s.tick dt with pwr := { s.pwr with clockFault := some check.val } } : State).inc (K 0x2330 3)).resetTo false 4) := rfl
    obtain ⟨hm, hb, -, -, hf⟩ := settle_starts (s := (({ s.tick dt with
      pwr := { s.pwr with clockFault := some check.val } } : State).inc (K 0x2330 3)).resetTo false 4) ⟨rfl, rfl, rfl, rfl⟩
    refine ⟨_, hx, hm, hb, (hf.2 _ o2 id).trans (State.resetTo_cause _ false (by decide)), congrArg Pwr.clockFault (hf.1 .pwr (by decide)),
      hf.1 .nv (by decide), (hf.2 _ oc id).trans ((State.resetTo_clockFaults ..).trans ?_), hf.1 .log (by decide)⟩
    rw [State.inc, State.get_set, if_pos rfl, wc]
    rfl

end Sys2Proof.Machine
end

section
/-! PROOFS. Guardrail deadlines and produced frames (R417, R419, R420, R422). -/

namespace Sys2Proof.Machine

-- In sequence, as the tests, for the memory limit of the check.
set_option Elab.async false

/-! ### What the SSV combines from its inputs -/

/-- The entries that show what the SSV combines from all connections (R419). -/
def combinedKeys (k : Nat) : Prop := (∃ u, 1 ≤ u ∧ u ≤ 7 ∧ k = K 0x8020 u) ∨ ∃ i < 4, k = K (0x8200 + i) 0x10

theorem combinedKeys_input {u : Nat} (h : 1 ≤ u ∧ u ≤ 7) : combinedKeys (K 0x8020 u) := .inl ⟨u, h.1, h.2, rfl⟩

theorem combinedKeys_cause {i : Nat} (h : i < 4) : combinedKeys (K (0x8200 + i) 0x10) := .inr ⟨i, h, rfl⟩

theorem guardKeys_of_combined {n k : Nat} (h : combinedKeys k) : guardKeys n k = true := by
  rcases h with ⟨u, h1, h7, rfl⟩ | ⟨i, hi, rfl⟩
  · have : (decide (K 0x8020 1 ≤ K 0x8020 u) && decide (K 0x8020 u ≤ K 0x8020 7)) = true := by
      unfold K; simp only [Bool.and_eq_true, decide_eq_true_eq]; omega
    simp [guardKeys, this]
  · have : (decide (0x8200 ≤ K (0x8200 + i) 0x10 / 256) && decide (K (0x8200 + i) 0x10 / 256 ≤ 0x8203) &&
        K (0x8200 + i) 0x10 % 256 == 0x10) = true := by
      rw [K_div _ (by decide), K_mod _ (by decide)]
      simp only [Bool.and_eq_true, decide_eq_true_eq, beq_self_eq_true, and_true]; omega
    simp [guardKeys, this]

theorem frame_pendMasks (ps : List Part) (ks : Nat → Prop) (s : State) (x : List Mask) (q : List (List (Nat × Mask))) (hp : .masks ∈ ps) :
    Frame ps ks s { s with safe := { s.safe with pendMasks := x, maskQueue := q } } :=
  frame_field .masks hp (fun p h => by cases p <;> simp_all [Part.same]) rfl

/-- A revision writes the decisions that wait and the entries that show them. -/
theorem frame_revise (s : State) (delay : Nat) : Frame [.masks] combinedKeys s (s.revise delay) := by
  refine frame_foldl _ _ (fun t i hi => ?_) s
  have hi4 : i < 4 := List.mem_range.mp hi
  have hset := ((Frame.refl [.masks] combinedKeys t).set (K 0x8020 (4 + i)) (t.decision i).beam (combinedKeys_input (by omega))).set
    (K (0x8200 + i) 0x10) (b2n ((t.decision i).beam == 1) + 2 * b2n (t.glareLost i) + 4 * b2n (nth Blc.init t.safe.blc i).fallBack)
    (combinedKeys_cause hi4)
  exact hset.trans (frame_ite (fun _ => Frame.refl _ _ _) fun _ => frame_pendMasks _ _ _ _ _ (by decide))

theorem frame_combineVehicle (s : State) : Frame [.masks] combinedKeys s s.combineVehicle := by
  have hput (v : Nat × Nat × Nat) : Frame [.masks] combinedKeys s (((s.set (K 0x8020 1) v.1).set (K 0x8020 2) v.2.1).set (K 0x8020 3) v.2.2) :=
    (((Frame.refl _ _ s).set _ _ (combinedKeys_input (by decide))).set _ _ (combinedKeys_input (by decide))).set _ _
      (combinedKeys_input (by decide))
  unfold State.combineVehicle
  extract_lets allow give put
  cases give with
  | cons v r => exact hput v
  | nil => exact frame_ite (fun _ => Frame.refl _ _ _) fun _ => hput _

theorem State.reviseSoon_eq (s : State) : s.reviseSoon = s.fresh.2.revise (s.fresh.1 % 1000001) := rfl

/-- The inputs that are combined anew show in the entries of the SSV, and the decisions wait. -/
theorem frame_guardInputs (s : State) : Frame [.masks] combinedKeys s s.guardInputs := by
  unfold State.guardInputs
  rw [State.reviseSoon_eq]
  exact (frame_combineVehicle s).trans ((frame_fresh _ _ _).trans (frame_revise _ _))

/-! ### A connection that is lost -/

/-- A number put together from its bits has them. -/
theorem bit_sum_pow (p : Nat → Bool) (k : Nat) : (List.range k).foldl (fun m a => if p a then m + 2 ^ a else m) 0 < 2 ^ k ∧
    ∀ n, bit ((List.range k).foldl (fun m a => if p a then m + 2 ^ a else m) 0) n = (decide (n < k) && p n) := by
  induction k with
  | zero => simp [bit]
  | succ k ih =>
    obtain ⟨hlt, hbit⟩ := ih
    simp only [List.range_succ, List.foldl_append, List.foldl_cons, List.foldl_nil]
    generalize (List.range k).foldl (fun m a => if p a then m + 2 ^ a else m) 0 = m at hlt hbit
    rw [Nat.pow_succ]
    cases hp : p k
    · refine ⟨by simp only [Bool.false_eq_true, if_false]; omega, fun n => ?_⟩
      rw [if_neg Bool.false_ne_true, hbit]
      rcases Nat.lt_trichotomy n k with h | rfl | h
      · simp [h, Nat.lt_succ_of_lt h]
      · simp [hp]
      · simp [Nat.not_lt.mpr h.le, show ¬ n < k + 1 by omega]
    · have hor : m + 2 ^ k = 2 ^ k ||| m := by
        have h := Nat.two_pow_add_eq_or_of_lt hlt 1
        rw [Nat.mul_one] at h
        omega
      refine ⟨by simp only [if_true]; omega, fun n => ?_⟩
      rw [if_pos rfl, bit, hor, Nat.testBit_or, Nat.testBit_two_pow, ← bit, hbit]
      rcases Nat.lt_trichotomy n k with h | rfl | h
      · simp [h, Nat.lt_succ_of_lt h, h.ne']
      · simp [hp]
      · simp [Nat.not_lt.mpr h.le, show ¬ n < k + 1 by omega, h.ne]

/-- The entries of a connection that a lost deadline changes, beside what the SSV combines. -/
theorem connection_entries : (∀ n : Fin 16, (widthOf (K (0x1400 + n) 0x12) = 8 ∧ widthOf (K (0x1400 + n) 0x16) = 32) ∧
    observer (K (0x1400 + n) 0x12) = false ∧ observer (K (0x1400 + n) 0x16) = false) ∧
    widthOf (K 0x1410 1) = 16 ∧ observer (K 0x1410 1) = false := by decide +kernel

theorem widthOf_conn (n : Fin 16) : widthOf (K (0x1400 + n) 0x12) = 8 ∧ widthOf (K (0x1400 + n) 0x16) = 32 := (connection_entries.1 n).1

theorem observer_conn (n : Fin 16) : observer (K (0x1400 + n) 0x12) = false ∧ observer (K (0x1400 + n) 0x16) = false := (connection_entries.1 n).2

theorem widthOf_valid : widthOf (K 0x1410 1) = 16 := connection_entries.2.1

theorem observer_valid : observer (K 0x1410 1) = false := connection_entries.2.2

theorem not_combined {i u : Nat} (hi : i < 0x8020) (hu : u < 256) : ¬ combinedKeys (K i u) := by
  rintro (⟨v, h1, h7, h⟩ | ⟨j, hj, h⟩)
  · exact K_ne (by omega) hu (by omega) h
  · exact K_ne (by omega) hu (by omega) h

/-- The mask of valid connections has the bits of those that are VALID. -/
theorem State.showValid_bit (s : State) {n : Nat} (hn : n < 16) : bit (s.showValid.get (K 0x1410 1)) n = s.connValid n := by
  unfold State.showValid
  rw [State.get_set, if_pos rfl, widthOf_valid, bit, Nat.testBit_mod_two_pow, decide_eq_true hn, Bool.true_and, ← bit,
    (bit_sum_pow s.connValid 16).2, decide_eq_true hn, Bool.true_and]

/-- The state with the record of connection n replaced. -/
def State.putConn (s : State) (n : Nat) (c : Conn) : State := { s with safe := { s.safe with conns := putNth Conn.init s.safe.conns n c } }

theorem State.putConn_conn (s : State) (n : Nat) (c : Conn) : (s.putConn n c).conn n = c := (nth_putNth ..).trans (if_pos rfl)

theorem frame_putConn (ps : List Part) (ks : Nat → Prop) (s : State) (n : Nat) (c : Conn) (hp : .conns ∈ ps) : Frame ps ks s (s.putConn n c) :=
  frame_safe_conns ps ks s _ hp

/-- Connection n with its sequence forgotten, its state LOST, and the loss counted (R417). -/
def State.connLost (s : State) (n : Nat) : State :=
  ((s.putConn n { s.conn n with lastSeq := none, recover := 0 }).set (K (0x1400 + n) 0x12) 3).inc (K (0x1400 + n) 0x16)

theorem State.guardLost_late {s : State} {n : Nat} (hc : s.consumer n = true) (hv : s.connValid n = true)
    (hd : (s.conn n).since + s.act (K (0x1400 + n) 0x0E) * 1000000 ≤ s.now) :
    s.guardLost n = (((s.connLost n).stand 0x11 4 n).showValid).guardInputs := by
  unfold State.guardLost
  extract_lets k c c1 t
  have hdue : c.since + s.act (K k 0x0E) * 1000000 ≤ s.now := hd
  rw [hc, hv, decide_eq_true hdue, if_pos (by decide)]
  rfl

/-- The entries that a lost connection changes. -/
def lostKeys (n k : Nat) : Prop := guardKeys n k = true ∨ k = K (0x1400 + n) 0x16

theorem frame_connLost (s : State) (n : Nat) : Frame [.conns, .masks, .log] (lostKeys n) s (s.connLost n) :=
  ((frame_putConn _ _ s n _ (by decide)).set _ _ (Or.inl (by simp [guardKeys]))).set _ _ (Or.inr rfl)

/-- After the record of the loss the combined inputs leave the connection as the loss put it. -/
theorem frame_lostInputs {s : State} {n : Nat} (hm : s.mild 0x11 4 = true) :
    Frame [.masks, .log] (fun k => k = K 0x1410 1 ∨ combinedKeys k) s (((s.stand 0x11 4 n).showValid).guardInputs) :=
  ((frame_record _ _ s 0x11 4 n true hm (by decide)).set _ _ (.inl rfl)).trans ((frame_guardInputs _).mono (by simp) fun _ h => .inr h)

theorem not_guardKeys_rule (n : Fin 16) {m : Nat} (hm : m < 64) : guardKeys n (K 0x8120 (m + 1)) = false := by
  have hn := n.isLt
  simp only [guardKeys, K_div 0x8120 (show m + 1 < 256 by omega), Bool.or_eq_false_iff, beq_eq_false_iff_ne, Bool.and_eq_false_iff,
    decide_eq_false_iff_not]
  unfold K
  omega

theorem not_lostKeys_rule (n : Fin 16) {m : Nat} (hm : m < 64) : ¬ lostKeys n (K 0x8120 (m + 1)) := by
  rintro (h | h)
  · rw [not_guardKeys_rule n hm] at h; cases h
  · exact K_ne (by omega) (by omega) (by decide) h

/-- A deadline that passes leaves the connection LOST, and no other connection's record. -/
theorem deadlineLost {dt : Nat} {n : Fin 16} {s : State} (hc : s.consumer n = true) (hv : s.connValid n = true)
    (hd : (s.conn n).since + s.act (K (0x1400 + n) 0x0E) * 1000000 ≤ s.now + dt) (h : Calm s [(0x11, 4)]) :
    Does (.guardrailDeadline dt n) s [.conns, .masks, .log] (lostKeys n) fun t =>
      t.get (K (0x1400 + n) 0x12) = 3 ∧ t.get (K (0x1400 + n) 0x16) = (s.get (K (0x1400 + n) 0x16) + 1) % 2 ^ 32 ∧
      (t.conn n).lastSeq = none ∧ bit (t.get (K 0x1410 1)) n = false := by
  have hn := n.isLt
  obtain ⟨o12, o16⟩ := observer_conn n
  obtain ⟨w12, w16⟩ := widthOf_conn n
  have hother : K (0x1400 + n) 0x12 ≠ K (0x1400 + n) 0x16 := by rw [ne_eq, K_sub_inj]; decide
  have hkey (u : Nat) (hu : u < 256) : ¬ (K (0x1400 + n) u = K 0x1410 1 ∨ combinedKeys (K (0x1400 + n) u)) := by
    rintro (h | h)
    · exact K_ne (by omega) hu (by decide) h
    · exact not_combined (by omega) hu h
  generalize hu : (s.tick dt).connLost n = u
  have hfl : Frame [.conns, .masks, .log] (lostKeys n) (s.tick dt) u := hu ▸ frame_connLost (s.tick dt) n
  have hmild : u.mild 0x11 4 = true := mild_of_frame (s := s.tick dt) (h.2 _ List.mem_cons_self) hfl fun m hm => not_lostKeys_rule n hm
  have hfi := frame_lostInputs (n := n) hmild
  have hf := hfl.trans (hfi.mono (qs := [.conns, .masks, .log]) (ls := lostKeys n) (by simp) fun k hk => .inl
    (hk.elim (fun e => by simp [guardKeys, e]) guardKeys_of_combined))
  have hconn : u.conn n = { s.conn n with lastSeq := none, recover := 0 } := hu ▸ State.putConn_conn ..
  have h12 : u.get (K (0x1400 + n) 0x12) = 3 := by
    rw [← hu, State.connLost, State.inc, State.get_set_ne _ _ _ _ hother, State.get_set_self _ _ _ (by rw [w12]; decide)]
  have h16 : u.get (K (0x1400 + n) 0x16) = (s.get (K (0x1400 + n) 0x16) + 1) % 2 ^ 32 := by
    rw [← hu, State.connLost, State.inc, State.get_set, if_pos rfl, w16, State.get_set_ne _ _ _ _ hother.symm]; rfl
  have hinputs := frame_guardInputs (u.stand 0x11 4 n).showValid
  refine does_keeps ((congrArg done (State.guardLost_late (s := s.tick dt) hc hv hd)).trans (by rw [hu])) h.1 (hf.1 .due (by decide) rfl)
    ((frame_tick _ _ s dt).trans hf) (by decide) fun t ft _ => ⟨?_, ?_, ?_, ?_⟩
  · rw [ft.2 _ o12 id, hfi.2 _ o12 (hkey _ (by decide)), h12]
  · rw [ft.2 _ o16 id, hfi.2 _ o16 (hkey _ (by decide)), h16]
  · have hsame : t.safe.conns = u.safe.conns := (ft.1 .conns (by decide)).trans (hfi.1 .conns (by decide))
    rw [State.conn, hsame, ← State.conn, hconn]
  · rw [ft.2 _ observer_valid id, hinputs.2 _ observer_valid (not_combined (by decide) (by decide)), State.showValid_bit _ hn, State.connValid]
    have hlost : (u.stand 0x11 4 n).get (K (0x1400 + n) 0x12) = 3 :=
      ((frame_record [.log] (fun _ => False) u 0x11 4 n true hmild (by decide)).2 _ o12 id).trans h12
    rw [hlost]; rfl

/-! ### Produced frames -/

/-- The record of a producing connection after its frame (R417). -/
def State.sentConn (s : State) (n : Nat) : Conn := { s.conn n with since := s.now, txSeq := ((s.conn n).txSeq + 1) % 65536 }

/-- The state with a frame added to what waits at network port p. -/
def State.addEth (s : State) (x : EthTx) (p : Nat) : State :=
  { s with net := { s.net with ethTx := modNth [] s.net.ethTx p fun q => q ++ [x] } }

/-- The state with a frame added to what waits at a CAN controller. -/
def State.addCan (s : State) (x : CanTx) (c : Nat) : State :=
  { s with net := { s.net with canTx := modNth [] s.net.canTx c fun q => q ++ [x] } }

theorem frame_addEth (ps : List Part) (ks : Nat → Prop) (s : State) (x : EthTx) (p : Nat) (hp : .ports ∈ ps) : Frame ps ks s (s.addEth x p) :=
  frame_field .ports hp (fun q h => by cases q <;> simp_all [Part.same, State.addEth]) rfl

theorem frame_addCan (ps : List Part) (ks : Nat → Prop) (s : State) (x : CanTx) (c : Nat) (hp : .ports ∈ ps) : Frame ps ks s (s.addCan x c) :=
  frame_field .ports hp (fun q h => by cases q <;> simp_all [Part.same, State.addCan]) rfl

theorem frame_addEth_foldl (s : State) (x : EthTx) (l : List Nat) : Frame [.ports] (fun _ => False) s (l.foldl (fun u p => u.addEth x p) s) :=
  frame_foldl l (fun u p => u.addEth x p) (fun u p _ => frame_addEth _ _ u x p (by decide)) s

/-- A frame added at each port of a list without repetition is the last that waits there. -/
theorem nth_addEth_foldl (x : EthTx) (l : List Nat) (hl : l.Nodup) (s : State) (p : Nat) :
    nth [] (l.foldl (fun u q => u.addEth x q) s).net.ethTx p = nth [] s.net.ethTx p ++ if p ∈ l then [x] else [] := by
  induction l generalizing s with
  | nil => simp
  | cons a r ih =>
    obtain ⟨ha, hr⟩ := List.nodup_cons.mp hl
    have hadd : nth [] (s.addEth x a).net.ethTx p = if p = a then nth [] s.net.ethTx a ++ [x] else nth [] s.net.ethTx p :=
      nth_modNth [] s.net.ethTx a p fun q => q ++ [x]
    rw [List.foldl_cons, ih hr, hadd]
    by_cases h : p = a
    · subst h; simp [ha]
    · simp [h]

/-- A producing connection whose period has ended. -/
def State.produces (s : State) (n : Nat) : Prop := s.ssvOn = true ∧ s.get (K (0x1400 + n) 0x12) ≠ 0 ∧ s.act (K (0x1400 + n) 2) = 1 ∧
  (s.conn n).since + s.act (K (0x1400 + n) 0x0E) * 1000000 ≤ s.now

/-- The frame that a connection produces over Ethernet. -/
def State.statusEth (s : State) (n : Nat) : EthTx :=
  ⟨1, 0, false, s.act (K (0x1400 + n) 5) * 2 ^ 64 + s.act (K (0x1400 + n) 6), s.act (K (0x1400 + n) 7), s.statusFrame n, none⟩

/-- The frame that a connection produces over CAN. -/
def State.statusCan (s : State) (n : Nat) : CanTx := ⟨true, s.act (K (0x1400 + n) 4),
  s.statusFrame n ++ List.replicate (canLength (s.statusFrame n).length - (s.statusFrame n).length) 0⟩

theorem State.produce_eth {s : State} {n : Nat} (h : s.produces n) (ht : s.act (K (0x1400 + n) 3) = 0) : s.produce n =
    ((List.range 2).filter fun p => bit (s.act (K (0x1400 + n) 8)) p).foldl (fun u p => u.addEth (s.statusEth n) p)
      (s.putConn n (s.sentConn n)) := by
  obtain ⟨hon, hst, hrole, hdue⟩ := h
  unfold State.produce
  extract_lets k c b tr c1 t tx
  have hcond : (s.ssvOn && decide (s.get (K k 0x12) ≠ 0) && s.act (K k 2) == 1 &&
      decide (c.since + s.act (K k 0x0E) * 1000000 ≤ s.now)) = true := by
    rw [hon, decide_eq_true hst, hrole, decide_eq_true (show c.since + s.act (K k 0x0E) * 1000000 ≤ s.now from hdue)]; rfl
  rw [if_pos hcond, if_pos ht]
  rfl

theorem State.produce_can {s : State} {n c : Nat} (h : s.produces n) (ht : s.act (K (0x1400 + n) 3) = 0x10 + c) :
    s.produce n = (s.putConn n (s.sentConn n)).addCan (s.statusCan n) c := by
  obtain ⟨hon, hst, hrole, hdue⟩ := h
  unfold State.produce
  extract_lets k c0 b tr c1 t tx fr
  have hcond : (s.ssvOn && decide (s.get (K k 0x12) ≠ 0) && s.act (K k 2) == 1 &&
      decide (c0.since + s.act (K k 0x0E) * 1000000 ≤ s.now)) = true := by
    rw [hon, decide_eq_true hst, hrole, decide_eq_true (show c0.since + s.act (K k 0x0E) * 1000000 ≤ s.now from hdue)]; rfl
  have htr : tr = 0x10 + c := ht
  rw [if_pos hcond, if_neg (by omega), show tr - 0x10 = c by omega]
  rfl

/-- Settles O44: a lost deadline is a connection put, its record, and the inputs combined anew; a produced frame is a connection put and a
frame added where its transport sends it. -/
theorem guardrailTime : Obligations.GuardrailTime := by
  refine ⟨fun dt n s hc hv hd h => deadlineLost hc hv hd h, fun dt n s hon hst hrole htr hdue hw => ?eth,
    fun dt n ctl s hon hst hrole htr hdue hw => ?can⟩
  case eth =>
    have hx := State.produce_eth (s := s.tick dt) ⟨hon, hst, hrole, hdue⟩ htr
    have hports := frame_addEth_foldl ((s.tick dt).putConn n ((s.tick dt).sentConn n)) ((s.tick dt).statusEth n)
      ((List.range 2).filter fun p => bit ((s.tick dt).act (K (0x1400 + n) 8)) p)
    have hlast := nth_addEth_foldl ((s.tick dt).statusEth n) _
      ((List.nodup_range (n := 2)).filter fun p => bit ((s.tick dt).act (K (0x1400 + n) 8)) p) ((s.tick dt).putConn n ((s.tick dt).sentConn n))
    rw [← hx] at hports hlast
    refine does_keeps rfl hw (hports.1 .due (by decide) rfl) ((frame_tick _ _ s dt).trans ((frame_putConn _ _ _ n _ (by decide)).trans
      (hports.mono (by simp) fun _ h => h))) (by decide) fun t ft _ => ⟨?_, fun p hp hb => ?_⟩
    · have hsame : t.safe.conns = ((s.tick dt).putConn n ((s.tick dt).sentConn n)).safe.conns :=
        (ft.1 .conns (by decide)).trans (hports.1 .conns (by decide))
      rw [State.conn, hsame]
      exact State.putConn_conn ..
    · obtain ⟨heth, -⟩ := ft.1 .ports (by decide)
      have hmem : p ∈ (List.range 2).filter fun p => bit ((s.tick dt).act (K (0x1400 + n) 8)) p := List.mem_filter.mpr ⟨hp, hb⟩
      rw [heth, hlast p, if_pos hmem]
      rfl
  case can =>
    have hx := State.produce_can (s := s.tick dt) ⟨hon, hst, hrole, hdue⟩ htr
    refine does_keeps (congrArg done hx) hw rfl ((frame_tick _ _ s dt).trans ((frame_putConn _ _ _ n _ (by decide)).trans
      (frame_addCan _ _ _ _ _ (by decide)))) (by decide) fun t ft _ => ⟨?_, ?_⟩
    · have hsame : t.safe.conns = ((s.tick dt).putConn n ((s.tick dt).sentConn n)).safe.conns := ft.1 .conns (by decide)
      rw [State.conn, hsame]
      exact State.putConn_conn ..
    · obtain ⟨-, hcan, -⟩ := ft.1 .ports (by decide)
      rw [hcan]
      exact (nth_modNth [] s.net.canTx ctl ctl fun q => q ++ [(s.tick dt).statusCan n]).trans (if_pos rfl)

end Sys2Proof.Machine
end

section
/-! PROOFS. Fault records, their acknowledges and the rules (R430–R433). -/

namespace Sys2Proof.Machine

-- In sequence, as the tests, for the memory limit of the check.
set_option Elab.async false

/-! ### Where a record goes, and what it leaves there -/

theorem mem_putNth {α : Type} (d : α) (l : List α) (n : Nat) (x : α) : x ∈ putNth d l n x := by
  induction n generalizing l with
  | zero => cases l <;> simp [putNth]
  | succ n ih => cases l <;> simp [putNth, ih]

theorem nth_eq_getElem {α : Type} (d : α) (l : List α) {n : Nat} (h : n < l.length) : nth d l n = l[n] := by
  simp [nth, h]

/-- A slot found for an equal entry holds one. -/
theorem logHit_of_firstIdx {l : List (Option LogE)} {src kind arg n : Nat} (h : firstIdx (logHit src kind arg) l = some n) :
    logHit src kind arg (nth none l n) = true := by
  obtain ⟨hn, hp, -⟩ := List.findIdx?_eq_some_iff_getElem.mp h
  rw [nth_eq_getElem none l hn]
  exact hp

/-- An entry of the log is that of a record. -/
def LogE.isOf (e : LogE) (src kind arg : Nat) : Prop := e.src = src ∧ e.kind = kind ∧ e.arg = arg

/-- What a record leaves in its slot is an entry of its own, latched, active while its cause stands, with ALIVE when a rule has it. -/
theorem logEntry_isOf {l : List (Option LogE)} {src kind arg n : Nat} (hs : logSlot l src kind arg = some n) (t ord : Nat)
    (standing safety alive sticky : Bool) :
    let e := logEntry (nth none l n) (firstIdx (logHit src kind arg) l).isSome src kind arg t ord standing safety alive sticky
    e.isOf src kind arg ∧ e.latched = true ∧ (standing = true → e.active = true) ∧ (alive = true → e.alive = true) := by
  unfold logSlot at hs
  cases hf : firstIdx (logHit src kind arg) l with
  | none =>
    intro e
    have he : e = ⟨src, kind, arg, standing, true, safety, alive, alive && sticky, 1, t, t, ord⟩ := by
      simp only [e]
      cases nth none l n <;> rfl
    rw [he]
    exact ⟨⟨rfl, rfl, rfl⟩, rfl, id, id⟩
  | some m =>
    rw [hf] at hs
    obtain rfl : m = n := Option.some.inj hs
    have hhit := logHit_of_firstIdx hf
    cases hold : nth none l m with
    | none => rw [hold] at hhit; cases hhit
    | some x =>
      rw [hold] at hhit
      simp only [logHit, Bool.and_eq_true, beq_iff_eq] at hhit
      obtain ⟨⟨⟨hsrc, hkind⟩, harg⟩, -⟩ := hhit
      refine ⟨⟨hsrc, hkind, harg⟩, rfl, fun h => ?_, fun h => ?_⟩
      · simp [logEntry, h]
      · simp [logEntry, h]

/-- A record that finds a slot leaves its entry there (R432). -/
theorem record_log {s : State} {src kind arg n : Nat} (standing : Bool) (hd : s.due = none) (hm : s.mild src kind = true)
    (hs : logSlot s.safe.log src kind arg = some n) : (s.record src kind arg standing).safe.log =
      putNth none s.safe.log n (some (logEntry (nth none s.safe.log n) (firstIdx (logHit src kind arg) s.safe.log).isSome src kind arg s.timeNs
        s.safe.nextOrd standing (s.isSafety src kind) ((s.rulesFor src kind).any fun r => bit r 4)
        ((s.rulesFor src kind).any fun r => bit r 4 && bit r 5))) := by
  unfold State.record
  rw [hd, if_neg (by decide), mild_chip hm, if_neg Bool.false_ne_true]
  unfold State.logRecord
  rw [hs]
  extract_lets rs safety alive sticky hit e log ord s0 s1 s2 s3 s4
  have f1 : Frame [] (fun _ => False) s0 s1 := frame_ite (fun _ => frame_aliveLow ..) fun _ => Frame.refl ..
  have f2 : Frame [] (fun _ => False) s1 s2 := frame_ite (fun _ => frame_emit ..) fun _ => Frame.refl ..
  have f3 : Frame [] (fun _ => False) s2 s3 := frame_ite (fun _ => frame_emit ..) fun _ => Frame.refl ..
  have e4 : s4 = s3 := mild_block hm s3
  have f4 : Frame [] (fun _ => False) s3 s4 := by rw [e4]; exact Frame.refl ..
  exact ((((f1.trans f2).trans f3).trans f4).trans ((frame_count [] _ s4 10 4 1 (by omega)).trans (frame_probe ..))).1 .log (by decide)

/-- What a record that finds a slot leaves: its entry, latched, active while its cause stands. -/
theorem record_leaves {s : State} {src kind arg : Nat} (standing : Bool) (hd : s.due = none) (hm : s.mild src kind = true)
    (hs : (logSlot s.safe.log src kind arg).isSome = true) : ∃ e, some e ∈ (s.record src kind arg standing).safe.log ∧ e.isOf src kind arg ∧
      e.latched = true ∧ (standing = true → e.active = true) ∧ (((s.rulesFor src kind).any fun r => bit r 4) = true → e.alive = true) := by
  obtain ⟨n, hn⟩ := Option.isSome_iff_exists.mp hs
  rw [record_log standing hd hm hn]
  exact ⟨_, mem_putNth .., logEntry_isOf hn ..⟩

theorem logLatched_of_mem {s : State} {e : LogE} {src kind arg : Nat} (hm : some e ∈ s.safe.log) (he : e.isOf src kind arg)
    (hl : e.latched = true) : s.logLatched src kind arg = true := by
  obtain ⟨h1, h2, h3⟩ := he
  exact List.any_eq_true.mpr ⟨some e, hm, by simp [h1, h2, h3, hl]⟩

theorem logActive_of_mem {s : State} {e : LogE} {src kind arg : Nat} (hm : some e ∈ s.safe.log) (he : e.isOf src kind arg)
    (ha : e.active = true) : s.logActive src kind arg = true := by
  obtain ⟨h1, h2, h3⟩ := he
  exact List.any_eq_true.mpr ⟨some e, hm, by simp [h1, h2, h3, ha]⟩

/-- An active entry with ALIVE stops it (R431, R434). -/
theorem aliveStop_of_mem {s : State} {e : LogE} (hm : some e ∈ s.safe.log) (ha : e.active = true) (hl : e.alive = true) : s.aliveStop ≠ 0 := by
  have hr : s.reactionStop = true :=
    Bool.or_eq_true_iff.mpr (.inr (List.any_eq_true.mpr ⟨some e, hm, by simp [ha, hl]⟩))
  rw [State.aliveStop, if_pos hr]
  decide

/-! ### A cause that goes -/

theorem logActive_causeGone (s : State) (src kind arg : Nat) : (s.causeGone src kind arg).logActive src kind arg = false := by
  rw [State.logActive, List.any_eq_false]
  intro e he
  obtain ⟨x, -, rfl⟩ := List.mem_map.mp he
  cases x with
  | none => simp
  | some x => dsimp only [Option.map_some]; split <;> simp_all

theorem logLatched_causeGone (s : State) (src kind arg : Nat) :
    (s.causeGone src kind arg).logLatched src kind arg = s.logLatched src kind arg := by
  unfold State.logLatched State.causeGone
  rw [List.any_map]
  refine List.any_congr rfl fun e => ?_
  cases e with
  | none => rfl
  | some x => dsimp only [Function.comp, Option.map_some]; split <;> rfl

theorem frame_causeCleared (s : State) (src kind arg : Nat) : Frame [.log] (fun _ => False) s (s.causeCleared src kind arg) :=
  (frame_causeGone _ _ s src kind arg (by decide)).trans
    (frame_ite (fun _ => ⟨fun p _ => by cases p <;> simp [Part.same], fun _ _ _ => rfl⟩) fun _ => Frame.refl ..)

theorem State.causeCleared_log (s : State) (src kind arg : Nat) :
    (s.causeCleared src kind arg).safe.log = (s.causeGone src kind arg).safe.log := by
  unfold State.causeCleared; dsimp only; split <;> rfl

theorem logActive_congr {s t : State} (h : t.safe.log = s.safe.log) (src kind arg : Nat) :
    t.logActive src kind arg = s.logActive src kind arg := by
  rw [State.logActive, h]; rfl

theorem logLatched_congr {s t : State} (h : t.safe.log = s.safe.log) (src kind arg : Nat) :
    t.logLatched src kind arg = s.logLatched src kind arg := by
  rw [State.logLatched, h]; rfl

theorem logEntry_congr {s t : State} (h : t.safe.log = s.safe.log) (n : Nat) : t.logEntry n = s.logEntry n := by
  rw [State.logEntry, h]; rfl

/-! ### The overflow stop latch beside an answer -/

/-- Entries that a counter group or the trace unit writes. -/
theorem overflow_ne {i u : Nat} (h : 0x9000 ≤ i) (hu : u < 256) : K 0x8100 6 ≠ K i u := K_ne (by omega) (by decide) hu

theorem overflow_foldl {α : Type} (l : List α) (f : State → α → State)
    (h : ∀ s, ∀ a ∈ l, (f s a).get (K 0x8100 6) = s.get (K 0x8100 6)) (s : State) : (l.foldl f s).get (K 0x8100 6) = s.get (K 0x8100 6) := by
  induction l generalizing s with
  | nil => rfl
  | cons a r ih => rw [List.foldl_cons, ih (fun t b hb => h t b (List.mem_cons_of_mem _ hb)), h s a List.mem_cons_self]

theorem overflow_count (s : State) (g code n : Nat) : (s.count g code n).get (K 0x8100 6) = s.get (K 0x8100 6) := by
  unfold State.count
  split
  · refine overflow_foldl _ _ (fun t j hj => ?_) s
    have hj8 := List.mem_range.mp hj
    split
    · unfold State.pcgBump State.setFlag
      dsimp only
      split
      · exact State.get_set_ne _ _ _ _ (overflow_ne (by omega) (by omega))
      · rw [State.get_set_ne _ _ _ _ (overflow_ne (by omega) (by decide)), State.get_set_ne _ _ _ _ (overflow_ne (by omega) (by omega))]
    · rfl
  · rfl

theorem overflow_probeEvent (s : State) (p tag val : Nat) : (s.probeEvent p tag val).get (K 0x8100 6) = s.get (K 0x8100 6) := by
  have htrig (u : State) (a b c : Nat) :
      (((u.set (K 0x9200 2) a).set (K 0x9200 0x0C) b).set (K 0x9200 0x0E) c).get (K 0x8100 6) = u.get (K 0x8100 6) := by
    rw [State.get_set_ne _ _ _ _ (overflow_ne (by decide) (by decide)), State.get_set_ne _ _ _ _ (overflow_ne (by decide) (by decide)),
      State.get_set_ne _ _ _ _ (overflow_ne (by decide) (by decide))]
  unfold State.probeEvent
  extract_lets en armed trig pr due t src1 s1 wanted pr1 fl full pr2 src2 s2
  have h2 : s2.get (K 0x8100 6) = s.get (K 0x8100 6) := by
    show s1.get (K 0x8100 6) = _
    simp only [s1]
    split
    · exact htrig ..
    · rfl
  split
  · rw [State.inc, State.get_set_ne _ _ _ _ (overflow_ne (by decide) (by decide)), State.inc,
      State.get_set_ne _ _ _ _ (overflow_ne (by omega) (by decide)), h2]
  · exact h2

theorem overflow_probe (s : State) (cls : Nat) (sel : Nat → Bool) (tag val : Nat) :
    (s.probe cls sel tag val).get (K 0x8100 6) = s.get (K 0x8100 6) := by
  unfold State.probe
  split
  · refine overflow_foldl _ _ (fun t p _ => ?_) s
    split
    · exact overflow_probeEvent ..
    · rfl
  · rfl

theorem overflow_answer (s : State) (c : Client) (req resp : List Byte) : (s.answer c req resp).get (K 0x8100 6) = s.get (K 0x8100 6) := by
  unfold State.answer
  rw [overflow_count]
  cases c <;> rfl

theorem overflow_settle {s : State} (hw : s.upd.waits = none) (hd : s.due = none) : s.settle.get (K 0x8100 6) = s.get (K 0x8100 6) := by
  have hsafe : s.safeSettle.get (K 0x8100 6) = s.get (K 0x8100 6) := by
    unfold State.safeSettle
    split
    · exact State.get_set_ne _ _ _ _ (K_apart (by decide))
    · rfl
  have halive (u : State) : u.aliveSettle.get (K 0x8100 6) = u.get (K 0x8100 6) := by
    unfold State.aliveSettle State.aliveLow State.inc
    dsimp only
    split
    · rfl
    · split
      · rfl
      · rw [State.get_set_ne _ _ _ _ (K_apart (by decide)), State.get_set_ne _ _ _ _ (K_apart (by decide)),
          State.get_set_ne _ _ _ _ (K_apart (by decide))]
        rfl
  have hlock (u : State) : u.interlock.get (K 0x8100 6) = u.get (K 0x8100 6) := by unfold State.interlock; split <;> rfl
  rw [settle_calm s hw hd, hlock, halive, hsafe]

/-- A served write leaves the overflow stop latch as its effect does. -/
theorem overflow_command {s u : State} {dt : Nat} {rq : Rq} {k n : Nat} {eff : Effect} {r : Code} (h : Served s dt rq k n)
    (he : eff (s.tick dt) n = (u, r)) (hup : u.serverUp = true) (hw : u.upd.waits = none) (hd : u.due = none) :
    ((s.tick dt).command rq k n eff).settle.get (K 0x8100 6) = u.get (K 0x8100 6) := by
  obtain ⟨hs, hn, -⟩ := h
  unfold State.command
  rw [serveWrite_served eff hs, be_write k n hn, he]
  dsimp only
  generalize hv : (if r.1 = 0 ∨ r.1 = 0x0404 then
    u.probe 7 (fun _ => true) (k % 2 ^ 24) (be (slice (toBe (widthOf k / 8) n) 0 4)) else u) = v
  have fv : Frame [] (fun _ => False) u v := hv ▸ frame_ite (fun _ => frame_probe ..) fun _ => Frame.refl ..
  have hget : v.get (K 0x8100 6) = u.get (K 0x8100 6) := by
    rw [← hv]; split
    · exact overflow_probe ..
    · rfl
  have hserves : v.serverUp = true := by
    rw [← hv]; split
    · rw [serverUp_probe, hup]
    · exact hup
  rw [if_pos hserves]
  have fz := (fv.mono (qs := [.ports, .clients]) (by simp) fun _ h => h).trans (frame_answer _ _ v rq.client
    (writePdu rq.tag k (toBe (widthOf k / 8) n)) (codePdu 0x82 rq.tag k r) (by decide) (by decide))
  rw [overflow_settle ((congrArg Upd.waits (fz.1 .upd (by decide))).trans hw) (fz.1 .due (by decide) hd), overflow_answer, hget]

/-! ### Acknowledges and rules -/

theorem rule_entries : (∀ n : Fin 64, observer (K 0x8120 (n + 1)) = false) ∧ observer (K 0x8100 6) = true := by decide +kernel

theorem observer_rule : ∀ n : Fin 64, observer (K 0x8120 (n + 1)) = false := rule_entries.1

theorem frame_ackOne (s : State) (n : Nat) : Frame [.log, .ports, .clients] (fun _ => False) s (s.ackOne n) :=
  frame_safe_log _ _ s _ s.safe.nextOrd (by decide)

/-- An acknowledged entry has its latched flag cleared. -/
theorem State.ackOne_logEntry {s : State} {n : Nat} {e : LogE} (h : s.logEntry n = some e) :
    (s.ackOne (n - 1)).logEntry n = some { e with latched := false } := by
  unfold State.logEntry at h ⊢
  split at h
  · cases h
  · rename_i hn
    rw [if_neg hn]
    refine (nth_modNth none s.safe.log (n - 1) (n - 1) fun e => e.map LogE.ack).trans ?_
    rw [if_pos rfl, h]
    rfl

/-- The log with every entry acknowledged that is neither active nor a safety record (R433). -/
def quietLog (l : List (Option LogE)) : List (Option LogE) :=
  l.map fun e => e.map fun x => if !x.active && !x.safety then { x with latched := false } else x

theorem frame_ackIdle (s : State) : Frame [.log, .ports, .clients] (fun _ => False) s (s.ackIdle false) :=
  (frame_safe_log _ _ s _ s.safe.nextOrd (by decide)).trans
    (frame_ite (fun _ => frame_set _ _ _ _ _ (.inl rule_entries.2)) fun _ => Frame.refl ..)

theorem State.ackIdle_log (s : State) : (s.ackIdle false).safe.log = quietLog s.safe.log := by
  unfold State.ackIdle
  dsimp only
  split <;> rfl

theorem State.ackIdle_overflow (s : State) :
    (s.ackIdle false).get (K 0x8100 6) = if bit (s.get (K 0x8100 6)) 1 then s.get (K 0x8100 6) else 0 := by
  unfold State.ackIdle
  extract_lets one src t
  have hget : t.get (K 0x8100 6) = s.get (K 0x8100 6) := rfl
  cases hb : bit (s.get (K 0x8100 6)) 1
  · rw [if_pos (by rw [hget, hb]; rfl), State.get_set_self _ _ _ (Nat.two_pow_pos _)]; rfl
  · rw [if_neg (by rw [hget, hb]; decide), hget]; rfl

/-- Settles O40: a record leaves its entry in its slot, which stops ALIVE while it is active; the other commands put the log or a rule. -/
theorem faultRecords : Obligations.FaultRecords := by
  refine ⟨fun dt src kind arg standing s hr hc hs => ?record, fun dt src kind arg s hw => ?gone, fun dt rq n e s h hn he hsafe => ?ack,
    fun dt rq n e s h hn he hsafe => ?ackSafety, fun dt rq s h => ?ackAll,
    fun dt rq n v s h hold hv hb => ?rule, fun dt rq n v s h hold => ?ruleSafety⟩
  case record =>
    obtain ⟨hw, hmild⟩ := hc
    have hm : (s.tick dt).mild src.toNat kind.toNat = true := hmild _ List.mem_cons_self
    obtain ⟨e, hmem, hof, hlatched, hactive, halive⟩ := record_leaves (s := s.tick dt) standing rfl hm hs
    have fr := frame_record [.log] (fun _ => False) (s.tick dt) src.toNat kind.toNat arg.toNat standing hm (by decide)
    have hw' : ((s.tick dt).record src.toNat kind.toNat arg.toNat standing).upd.waits = none :=
      (congrArg Upd.waits (fr.1 .upd (by decide))).trans hw
    have hx : exec (.faultRecord dt src kind arg standing) s = done ((s.tick dt).record src.toNat kind.toNat arg.toNat standing) :=
      congrArg done (if_neg (by rw [State.tick_pwr, hr]; decide))
    have fs := frame_settle [] (fun _ => False) _ hw' (fr.1 .due (by decide) rfl)
    refine ⟨_, hx, ?_, ((frame_tick _ _ s dt).trans fr).trans (fs.mono (by simp) fun _ h => h)⟩
    rw [← show _ = _ from fs.1 .log (by decide)] at hmem
    exact ⟨logLatched_of_mem hmem hof hlatched, fun hst => logActive_of_mem hmem hof (hactive hst),
      fun hst hrule => (State.safe_settle _).2 (aliveStop_of_mem hmem (hactive hst) (halive hrule))⟩
  case gone =>
    have fc := frame_causeCleared (s.tick dt) src.toNat kind.toNat arg.toNat
    refine does_keeps (u := (s.tick dt).causeCleared src.toNat kind.toNat arg.toNat) rfl hw (fc.1 .due (by decide) rfl)
      ((frame_tick _ _ s dt).trans fc) (by decide) fun t ft _ => ?_
    have hlog : t.safe.log = ((s.tick dt).causeGone src.toNat kind.toNat arg.toNat).safe.log :=
      (ft.1 .log (by decide)).trans (State.causeCleared_log ..)
    rw [logActive_congr hlog, logLatched_congr hlog]
    exact ⟨logActive_causeGone .., logLatched_causeGone (s.tick dt) ..⟩
  case ack =>
    have heff : effAcknowledge (s.tick dt) n = ((s.tick dt).ackOne (n - 1), ok) := by
      have hent : (s.tick dt).logEntry n = some e := he
      unfold effAcknowledge State.dapAck
      rw [if_neg hn, hent]
      exact if_neg (by rw [hsafe]; decide)
    refine command_keeps rfl h heff (frame_ackOne _ _) rfl (by decide) fun t ft ha _ => ⟨ha, ?_⟩
    rw [logEntry_congr (ft.1 .log (by decide))]
    exact State.ackOne_logEntry he
  case ackSafety =>
    have heff : effAcknowledge (s.tick dt) n = (s.tick dt, (0x0205, 0)) := by
      have hent : (s.tick dt).logEntry n = some e := he
      unfold effAcknowledge State.dapAck
      rw [if_neg hn, hent]
      exact if_pos hsafe
    exact command_keeps rfl h heff (Frame.refl ..) rfl (by decide) fun t _ ha _ => ha
  case ackAll =>
    have heff : effAcknowledge (s.tick dt) 0xFF = ((s.tick dt).ackIdle false, ok) := by
      unfold effAcknowledge State.dapAck
      exact if_pos rfl
    have fa := frame_ackIdle (s.tick dt)
    have hmode : ((s.tick dt).ackIdle false).mode = s.mode := by
      unfold State.ackIdle; dsimp only; split <;> rfl
    have hover := overflow_command h heff ((serverUp_congr (fa.1 .apc (by decide)) hmode (fa.1 .boot (by decide)).2).trans (served_up h))
      ((congrArg Upd.waits (fa.1 .upd (by decide))).trans h.2.2) (fa.1 .due (by decide) rfl)
    obtain ⟨t, hx, ⟨ha, hlog⟩, hf⟩ := command_keeps (c := .faultAcknowledgeAll dt rq) (s := s) (ps := [.log, .ports, .clients])
      (ks := fun _ => False)
      (post := fun t => t.answered rq (K 0x8100 3) ok ∧ t.safe.log = quietLog s.safe.log) rfl h heff fa hmode (by decide)
      fun t ft ha _ => ⟨ha, (ft.1 .log (by decide)).trans (State.ackIdle_log _)⟩
    have ht : ((s.tick dt).command rq (K 0x8100 3) 0xFF effAcknowledge).settle = t := Host.Outcome.next.inj hx
    exact ⟨t, hx, ⟨ha, hlog, by rw [← ht, hover]; exact State.ackIdle_overflow _⟩, hf⟩
  case rule =>
    have heff : effRule n (s.tick dt) v = ((s.tick dt).set (K 0x8120 (n + 1)) v, ok) := by
      have hold' : bit ((s.tick dt).get (K 0x8120 (n + 1))) 6 = false := hold
      unfold effRule
      dsimp only
      rw [hold', hv, hb]
      exact if_neg Bool.false_ne_true
    refine command_keeps rfl h heff (frame_set _ _ _ _ _ (.inr rfl)) rfl (by decide) fun t ft ha _ => ⟨ha, ?_⟩
    rw [ft.2 _ (observer_rule n) id, State.get_set_self _ _ _ h.2.1]
  case ruleSafety =>
    have heff : effRule n (s.tick dt) v = (s.tick dt, (0x0301, 0)) := by
      have hold' : bit ((s.tick dt).get (K 0x8120 (n + 1))) 6 = true := hold
      unfold effRule
      dsimp only
      rw [hold', Bool.true_or, Bool.true_or]
      rfl
    exact command_keeps rfl h heff (Frame.refl ..) rfl (by decide) fun t _ ha _ => ha

end Sys2Proof.Machine
end

section
/-! PROOFS. Calibration: runs, records and their reload (R513–R516). -/

namespace Sys2Proof.Machine

-- In sequence, as the tests, for the memory limit of the check.
set_option Elab.async false

/-! ### Entries -/

theorem calibration_entries : (widthOf (K 0x2400 3) = 8 ∧ widthOf (K 0x2400 4) = 8 ∧ widthOf (K 0x2400 5) = 64 ∧ widthOf (K 0x2400 6) = 8 ∧
    widthOf (K 0x2400 7) = 8 ∧ widthOf (K 0x2400 8) = 32) ∧ (∀ v < 9, observer (K 0x2400 v) = false) ∧
    ∀ k ∈ calKeys, observer k = false ∧ dflt k < 2 ^ widthOf k ∧
      (k / 256 = 0x6040 ∨ k / 256 = 0x6041 ∨ 0x6030 ≤ k / 256 ∧ k / 256 < 0x6034) := by
  decide +kernel

theorem widthOf_calibration : widthOf (K 0x2400 3) = 8 ∧ widthOf (K 0x2400 4) = 8 ∧ widthOf (K 0x2400 5) = 64 ∧ widthOf (K 0x2400 6) = 8 ∧
    widthOf (K 0x2400 7) = 8 ∧ widthOf (K 0x2400 8) = 32 := calibration_entries.1

theorem observer_calibration : ∀ v < 9, observer (K 0x2400 v) = false := calibration_entries.2.1

theorem observer_calKeys : ∀ k ∈ calKeys, observer k = false := fun k hk => (calibration_entries.2.2 k hk).1

theorem dflt_calKeys_lt : ∀ k ∈ calKeys, dflt k < 2 ^ widthOf k := fun k hk => (calibration_entries.2.2 k hk).2.1

theorem calKeys_object : ∀ k ∈ calKeys, k / 256 = 0x6040 ∨ k / 256 = 0x6041 ∨ 0x6030 ≤ k / 256 ∧ k / 256 < 0x6034 :=
  fun k hk => (calibration_entries.2.2 k hk).2.2

/-- No entry outside the values of a run's items and its own object is one of a rule. -/
theorem not_rule_calKeys : ∀ n < 64, ¬ (K 0x8120 (n + 1) ∈ calKeys ∨ K 0x8120 (n + 1) / 256 = 0x2400) := by
  intro n hn h
  have hdiv : K 0x8120 (n + 1) / 256 = 0x8120 := K_div _ (by omega)
  rcases h with h | h
  · have := calKeys_object _ h
    omega
  · omega

theorem not_calKeys_own (v : Nat) (hv : v < 256) : K 0x2400 v ∉ calKeys := by
  intro h
  have := calKeys_object _ h
  have hdiv : K 0x2400 v / 256 = 0x2400 := K_div _ hv
  omega

/-! ### The start of a run -/

/-- The state with the calibration's progress replaced. -/
def State.putCal (s : State) (c : Cal) : State := { s with pwr := { s.pwr with cal := c } }

@[simp] theorem State.putCal_get (s : State) (c : Cal) (k : Nat) : (s.putCal c).get k = s.get k := rfl

theorem frame_putCal (ps : List Part) (ks : Nat → Prop) (s : State) (c : Cal) (hp : .pwr ∈ ps) : Frame ps ks s (s.putCal c) :=
  frame_pwr ps ks s _ hp

/-- A run that has just begun. -/
def Cal.begun (c : Cal) (now : Nat) : Cal := { c with running := true, startedAt := now, waiting := false }

/-- A run starts while a pair of cores runs outside HOLD (R514). -/
theorem State.calStart_runs {s : State} (ha : s.sys.apc.any id = true) (hm : s.mode ≠ .hold) :
    s.calStart = (s.putCal (s.pwr.cal.begun s.now)).set (K 0x2400 3) 1 := if_pos (by simp [ha, hm])

theorem State.calTrigger_idle {s : State} (h : s.pwr.cal.running = false) :
    s.calTrigger = (s.putCal { s.pwr.cal with retries := 0, retryAt := none }).calStart := if_neg (by simp [h])

theorem State.get_started (s : State) : (s.set (K 0x2400 3) 1).get (K 0x2400 3) = 1 :=
  State.get_set_self _ _ _ (by rw [widthOf_calibration.1]; decide)

/-! ### The items of a run -/

theorem frame_putValues (l : List (Nat × Nat)) (s : State) (h : ∀ p ∈ l, p.1 ∈ calKeys) :
    Frame [.doms, .log] (· ∈ calKeys) s (l.foldl (fun t p => t.set p.1 p.2) s) :=
  frame_foldl l _ (fun t p hp => frame_set _ _ t p.1 p.2 (.inr (h p hp))) s

theorem frame_calPut (s : State) (item : Nat) (v : List Nat) : Frame [.doms, .log] (· ∈ calKeys) s (s.calPut item v) := by
  have hdom : ∀ (t : State) k b, Frame [.doms, .log] (· ∈ calKeys) t (t.setDom k b) := fun t k b => frame_setDom _ _ t k b (by decide)
  unfold State.calPut
  split
  · exact hdom ..
  · exact hdom ..
  · exact hdom ..
  · exact frame_putValues _ s fun p hp => List.mem_of_mem_take (List.of_mem_zip hp).1
  · exact (hdom ..).trans (hdom ..)
  · exact frame_putValues _ s fun p hp => List.mem_of_mem_drop (List.of_mem_zip hp).1

/-- An item of a run leaves its values or a record. -/
theorem frame_calItem {s : State} (item : Nat) (a b : List Nat) (hm : s.mild 0x18 6 = true) :
    Frame [.doms, .log] (· ∈ calKeys) s (s.calItem item a b).1 := by
  unfold State.calItem
  extract_lets old tol vals
  split
  · exact (frame_fresh _ _ s).trans (frame_calPut _ _ _)
  · exact frame_record _ _ s _ _ _ _ hm (by decide)

/-- One item of a run, with the items rejected before it. -/
def calStep (a b : List (List Nat)) (x : State × Nat) (j : Nat) : State × Nat :=
  let r := x.1.calItem (j + 1) (nth [] a j) (nth [] b j)
  (r.1, if r.2 then x.2 else x.2 + 2 ^ j)

/-- The items of a run leave their values and records, and a bit for each that was rejected. -/
theorem calSteps_leave (a b : List (List Nat)) (s : State) (hm : s.mild 0x18 6 = true) (n : Nat) :
    Frame [.doms, .log] (· ∈ calKeys) s ((List.range n).foldl (calStep a b) (s, 0)).1 ∧
    ((List.range n).foldl (calStep a b) (s, 0)).2 < 2 ^ n := by
  induction n with
  | zero => exact ⟨Frame.refl .., Nat.one_pos⟩
  | succ n ih =>
    obtain ⟨hframe, hlt⟩ := ih
    rw [List.range_succ, List.foldl_append, List.foldl_cons, List.foldl_nil]
    refine ⟨hframe.trans (frame_calItem _ _ _ (mild_of_frame hm hframe fun k hk h => not_rule_calKeys k hk (.inl h))), ?_⟩
    generalize (List.range n).foldl (calStep a b) (s, 0) = x at hlt ⊢
    unfold calStep
    dsimp only
    split <;> omega

/-! ### The end of a run -/

/-- The progress of the calibration after a run with these means and rejected items (R515). -/
def Cal.ended (c : Cal) (means : Int × Int) (bad now : Nat) : Cal :=
  let c1 := { c with running := false, runLogic := means.1, runPower := means.2 }
  if bad = 0 then { c1 with refs := some means, retries := 0, retryAt := none }
  else if c.retries < 3 then { c1 with retryAt := some (now + 60000000000) } else { c1 with retries := 0, retryAt := none }

theorem Cal.ended_running (c : Cal) (means : Int × Int) (bad now : Nat) : (c.ended means bad now).running = false := by
  unfold Cal.ended; dsimp only; split
  · rfl
  · split <;> rfl

theorem Cal.ended_waiting (c : Cal) (means : Int × Int) (bad now : Nat) : (c.ended means bad now).waiting = c.waiting := by
  unfold Cal.ended; dsimp only; split
  · rfl
  · split <;> rfl

/-- The state with the result of a run in its entries: status, rejected items, time and count. -/
def State.calResult (s : State) (bad time : Nat) : State :=
  (((s.set (K 0x2400 3) (if bad = 0 then 2 else 3)).set (K 0x2400 4) bad).set (K 0x2400 5) time).inc (K 0x2400 8)

theorem State.calRunEnds_eq {s t : State} {a b : List (List Nat)} {bad : Nat} (hr : s.pwr.cal.running = true)
    (ht : (List.range 6).foldl (calStep a b) (s, 0) = (t, bad)) (hw : t.pwr.cal.waiting = false) :
    s.calRunEnds a b = (t.putCal (t.pwr.cal.ended (t.dieMean 0, t.dieMean 1) bad s.now)).calResult bad s.timeNs := by
  have hwait := (Cal.ended_waiting t.pwr.cal (t.dieMean 0, t.dieMean 1) bad s.now).trans hw
  unfold State.calRunEnds
  rw [if_neg (by simp [hr])]
  extract_lets step
  rw [show step = calStep a b from rfl, ht]
  exact if_neg (Bool.eq_false_iff.mp hwait)

theorem State.calResult_pwr (s : State) (bad time : Nat) : (s.calResult bad time).pwr = s.pwr := rfl

theorem frame_calResult (ps : List Part) (s : State) (bad time : Nat) :
    Frame ps (fun k => k ∈ calKeys ∨ k / 256 = 0x2400) s (s.calResult bad time) :=
  ((((Frame.refl ps _ s).set _ _ (.inr (K_div _ (by decide)))).set _ _ (.inr (K_div _ (by decide)))).set _ _ (.inr (K_div _ (by decide)))).set _ _
    (.inr (K_div _ (by decide)))

/-- What the entries of a run read after it. -/
theorem State.get_calResult (s : State) {bad : Nat} (time : Nat) (hb : bad < 2 ^ 8) :
    (s.calResult bad time).get (K 0x2400 3) = (if bad = 0 then 2 else 3) ∧ (s.calResult bad time).get (K 0x2400 4) = bad ∧
    (s.calResult bad time).get (K 0x2400 5) = time % 2 ^ 64 ∧ (s.calResult bad time).get (K 0x2400 8) = (s.get (K 0x2400 8) + 1) % 2 ^ 32 := by
  obtain ⟨w3, w4, w5, -, -, w8⟩ := widthOf_calibration
  have ne {u v : Nat} (h : u ≠ v) : K 0x2400 u ≠ K 0x2400 v := fun e => h ((K_sub_inj _ _ _).mp e)
  unfold State.calResult State.inc
  generalize hr : (if bad = 0 then 2 else 3) = r
  have hr8 : r < 2 ^ 8 := by rw [← hr]; split <;> decide
  refine ⟨?_, ?_, ?_, ?_⟩
  · rw [State.get_set_ne _ _ _ _ (ne (by decide)), State.get_set_ne _ _ _ _ (ne (by decide)), State.get_set_ne _ _ _ _ (ne (by decide)),
      State.get_set_self _ _ _ (by rw [w3]; exact hr8)]
  · rw [State.get_set_ne _ _ _ _ (ne (by decide)), State.get_set_ne _ _ _ _ (ne (by decide)), State.get_set_self _ _ _ (by rw [w4]; exact hb)]
  · rw [State.get_set_ne _ _ _ _ (ne (by decide)), State.get_set, if_pos rfl, w5]
  · rw [State.get_set, if_pos rfl, w8, State.get_set_ne _ _ _ _ (ne (by decide)), State.get_set_ne _ _ _ _ (ne (by decide)),
      State.get_set_ne _ _ _ _ (ne (by decide))]

/-- A run that ends leaves its values, its result and its means (R515). -/
theorem State.calRunEnds_leaves {s : State} (a b : List (List Nat)) (hr : s.pwr.cal.running = true) (hw : s.pwr.cal.waiting = false)
    (hm : s.mild 0x18 6 = true) :
    Frame [.doms, .pwr, .log] (fun k => k ∈ calKeys ∨ k / 256 = 0x2400) s (s.calRunEnds a b) ∧ (s.calRunEnds a b).pwr.cal.running = false ∧
    ∃ bad < 64, (s.calRunEnds a b).get (K 0x2400 3) = (if bad = 0 then 2 else 3) ∧ (s.calRunEnds a b).get (K 0x2400 4) = bad ∧
      (s.calRunEnds a b).get (K 0x2400 5) = s.timeNs % 2 ^ 64 ∧ (s.calRunEnds a b).get (K 0x2400 8) = (s.get (K 0x2400 8) + 1) % 2 ^ 32 := by
  obtain ⟨hframe, hlt⟩ := calSteps_leave a b s hm 6
  obtain ⟨t, bad, ht⟩ : ∃ t bad, (List.range 6).foldl (calStep a b) (s, 0) = (t, bad) := ⟨_, _, rfl⟩
  rw [ht] at hframe hlt
  have hpwr : t.pwr = s.pwr := hframe.1 .pwr (by decide)
  have hcount : t.get (K 0x2400 8) = s.get (K 0x2400 8) := hframe.2 _ (observer_calibration 8 (by decide)) (not_calKeys_own 8 (by decide))
  rw [State.calRunEnds_eq hr ht (by rw [hpwr]; exact hw)]
  obtain ⟨h3, h4, h5, h8⟩ := (t.putCal (t.pwr.cal.ended (t.dieMean 0, t.dieMean 1) bad s.now)).get_calResult s.timeNs (bad := bad) (by omega)
  refine ⟨?_, Cal.ended_running .., bad, hlt, h3, h4, h5, ?_⟩
  · exact ((hframe.mono (by decide) fun _ h => .inl h).trans (frame_putCal _ _ t _ (by decide))).trans (frame_calResult _ _ _ _)
  · rw [h8, State.putCal_get, hcount]

/-! ### Records -/

/-- The state with the calibration records and the calibration's progress replaced. -/
def State.putCals (s : State) (c : Cal) (l : List CalRec) : State := { s with pwr := { s.pwr with cal := c }, nv := { s.nv with cals := l } }

@[simp] theorem State.putCals_get (s : State) (c : Cal) (l : List CalRec) (k : Nat) : (s.putCals c l).get k = s.get k := rfl

theorem frame_putCals (ps : List Part) (ks : Nat → Prop) (s : State) (c : Cal) (l : List CalRec) (hp : .pwr ∈ ps) (hn : .nv ∈ ps) :
    Frame ps ks s (s.putCals c l) := (frame_putCal ps ks s c hp).trans (frame_nv ps ks (s.putCal c) _ hn)

/-- A save of the working values starts with the place of its record marked (R516). -/
theorem effCalibration_save {s : State} (ht : s.onTrial = false) (hc : s.pwr.cal.saving = none) (hs : s.sys.save = none) :
    effCalibration s 2 = ((s.putCals { s.pwr.cal with saving := some s.calRecord, attempt := 1 }
      (modNth CalRec.empty s.nv.cals s.calRecord.1 fun x => { x with magic := 0xFFFFFFFF })).set (K 0x2400 7) 1, ok) := by
  unfold effCalibration
  rw [if_neg (by decide), if_pos rfl, if_neg (by simp [ht]), if_neg (by simp [hc]), if_neg (by simp [hs])]
  rfl

theorem State.calSaved_good {s : State} {n : Nat} {r : CalRec} (h : s.pwr.cal.saving = some (n, r)) :
    s.calSaved true = ((s.putCals { s.pwr.cal with saving := none } (putNth CalRec.empty s.nv.cals n r)).set (K 0x2400 6) (n + 1)).set
      (K 0x2400 7) 2 := by
  unfold State.calSaved
  rw [h]
  rfl

theorem State.calSaved_bad {s : State} {n : Nat} {r : CalRec} (h : s.pwr.cal.saving = some (n, r)) (ha : s.pwr.cal.attempt = 2) :
    s.calSaved false = ((s.putCal { s.pwr.cal with saving := none }).set (K 0x2400 7) 3).event 0x15 3 (0x02500000 + n * 0x00100000) := by
  unfold State.calSaved
  rw [h]
  dsimp only
  rw [if_neg (by decide), if_neg (by omega)]
  rfl

/-! ### Defaults -/

/-- The state with entries at their defaults. -/
def State.withDefaults (s : State) (l : List Nat) : State := l.foldl (fun t k => t.set k (dflt k)) s

theorem State.get_withDefaults {l : List Nat} (hl : ∀ k ∈ l, dflt k < 2 ^ widthOf k) (s : State) (k : Nat) :
    (s.withDefaults l).get k = if k ∈ l then dflt k else s.get k := by
  unfold State.withDefaults
  induction l generalizing s with
  | nil => rfl
  | cons a r ih =>
    rw [List.foldl_cons, ih fun j hj => hl j (List.mem_cons_of_mem _ hj)]
    by_cases hr : k ∈ r
    · rw [if_pos hr, if_pos (List.mem_cons_of_mem _ hr)]
    · rw [if_neg hr, State.get_set, Nat.mod_eq_of_lt (hl a List.mem_cons_self)]
      by_cases ha : k = a
      · rw [if_pos ha, if_pos (ha ▸ List.mem_cons_self), ha]
      · rw [if_neg ha, if_neg (by simp [ha, hr])]

/-- A map with keys deleted has none of them. -/
theorem mapGet_deleted {α : Type} {l : List Nat} (m : List (Nat × α)) {k : Nat} (hk : k ∈ l ∨ mapGet m k = none) :
    mapGet (l.foldl (fun m k => mapDel m k) m) k = none := by
  induction l generalizing m with
  | nil => exact hk.resolve_left List.not_mem_nil
  | cons a r ih =>
    refine ih (mapDel m a) ?_
    rw [mapGet_mapDel]
    rcases hk with hk | hk
    · rcases List.mem_cons.mp hk with h | h
      · exact .inr (if_pos h)
      · exact .inl h
    · exact .inr (by rw [hk, ite_self])

theorem State.calLoad_none (s : State) :
    s.calLoad none = { s.withDefaults calKeys with doms := calDoms.foldl (fun m k => mapDel m k) (s.withDefaults calKeys).doms } := rfl

theorem State.calLoad_none_get (s : State) {k : Nat} (hk : k ∈ calKeys) : (s.calLoad none).get k = dflt k := by
  rw [State.calLoad_none]
  exact (s.get_withDefaults dflt_calKeys_lt k).trans (if_pos hk)

theorem State.calLoad_none_dom (s : State) {k : Nat} (hk : k ∈ calDoms) : (s.calLoad none).dom k = none := by
  rw [State.calLoad_none]
  exact mapGet_deleted _ (.inl hk)

theorem frame_calLoad_none (s : State) : Frame [.doms, .ports, .clients] (· ∈ calKeys) s (s.calLoad none) :=
  (frame_foldl calKeys (fun t k => t.set k (dflt k)) (fun t k hk => frame_set _ _ t k _ (.inr hk)) s).trans
    (frame_doms _ _ (s.withDefaults calKeys) _ (by decide))

/-- Settles O56: each command of the calibration by what it puts in the calibration's progress, its records and its entries. -/
theorem calibration : Obligations.Calibration := by
  obtain ⟨-, -, -, w6, w7, -⟩ := widthOf_calibration
  have own {u : Nat} (hu : u < 9) : observer (K 0x2400 u) = false := observer_calibration u hu
  refine ⟨fun dt rq s h hr ha hm => ?run, fun dt a b s hr hw hc => ?ends, fun dt r s ht hle hr ha hm hw => ?retry,
    fun dt rq s h hc hs ht => ?save, fun dt n r s hs hw hn => ?good, fun dt n r s hs ha hc => ?bad, fun dt rq s h hn => ?reload⟩
  case run =>
    have heff : effCalibration (s.tick dt) 1 = ((s.tick dt).calTrigger, ok) := if_pos rfl
    have htrig : (s.tick dt).calTrigger = _ := (State.calTrigger_idle (s := s.tick dt) hr).trans (State.calStart_runs ha hm)
    rw [htrig] at heff
    refine command_keeps rfl h heff (((frame_putCal _ _ _ _ (by decide)).trans (frame_putCal _ _ _ _ (by decide))).set _ _ rfl) rfl (by decide)
      fun t ft ha _ => ⟨ha, ?_, ?_⟩
    · rw [show _ = _ from ft.1 .pwr (by decide)]; rfl
    · rw [ft.2 _ (own (by decide)) id, State.get_started]
  case ends =>
    obtain ⟨hw', hmild⟩ := hc
    obtain ⟨hf, hrun, bad, -, h3, h4, h5, h8⟩ := (s.tick dt).calRunEnds_leaves a b hr hw (hmild _ List.mem_cons_self)
    refine does_keeps rfl hw' (hf.1 .due (by decide) rfl) ((frame_tick _ _ s dt).trans hf) (by decide) fun t ft _ => ⟨?_, ?_, ?_, ?_⟩
    · rw [show _ = _ from ft.1 .pwr (by decide)]; exact hrun
    · rw [ft.2 _ (own (by decide)) id, ft.2 _ (own (by decide)) id, h3, h4]
    · rw [ft.2 _ (own (by decide)) id, h8]; rfl
    · rw [ft.2 _ (own (by decide)) id, h5]
  case retry =>
    have heq : (s.tick dt).calRetry =
        ((s.tick dt).putCal { s.pwr.cal with retryAt := none, retries := s.pwr.cal.retries + 1 }).calStart := by
      have ht' : (s.tick dt).pwr.cal.retryAt = some r := ht
      unfold State.calRetry
      rw [ht']
      exact if_pos ⟨hle, hr⟩
    have heq' := heq.trans (State.calStart_runs ha hm)
    have hx : exec (.calibrationRetry dt) s = done _ := congrArg done heq'
    refine does_keeps hx hw rfl
      ((((frame_tick _ _ s dt).trans (frame_putCal _ _ _ _ (by decide))).trans (frame_putCal _ _ _ _ (by decide))).set _ _ rfl) (by decide)
      fun t ft _ => ⟨?_, ?_, ?_⟩
    · rw [show _ = _ from ft.1 .pwr (by decide)]; rfl
    · rw [show _ = _ from ft.1 .pwr (by decide)]; rfl
    · rw [ft.2 _ (own (by decide)) id, State.get_started]
  case save =>
    have heff := effCalibration_save (s := s.tick dt) ht hc hs
    refine command_keeps rfl h heff ((frame_putCals _ _ _ _ _ (by decide) (by decide)).set _ _ rfl) rfl (by decide) fun t ft ha _ => ⟨ha, ?_, ?_⟩
    · rw [show _ = _ from ft.1 .pwr (by decide)]; rfl
    · rw [ft.2 _ (own (by decide)) id, State.get_set_self _ _ _ (by rw [w7]; decide)]
  case good =>
    have hx : exec (.calibrationSaveComplete dt true) s = done _ := congrArg done (State.calSaved_good (s := s.tick dt) hs)
    refine does_keeps hx hw rfl
      ((((frame_tick _ _ s dt).trans (frame_putCals _ _ _ _ _ (by decide) (by decide))).set _ _ (.inl rfl)).set _ _ (.inr rfl)) (by decide)
      fun t ft _ => ⟨?_, ?_, ?_, ?_⟩
    · rw [show _ = _ from ft.1 .pwr (by decide)]; rfl
    · rw [show _ = _ from ft.1 .nv (by decide)]
      exact (nth_putNth ..).trans (if_pos rfl)
    · rw [ft.2 _ (own (by decide)) id, State.get_set_ne _ _ _ _ (K_apart (by decide)), State.get_set_self _ _ _ (by rw [w6]; omega)]
    · rw [ft.2 _ (own (by decide)) id, State.get_set_self _ _ _ (by rw [w7]; decide)]
  case bad =>
    have hx : exec (.calibrationSaveComplete dt false) s = done _ := congrArg done (State.calSaved_bad (s := s.tick dt) hs ha)
    refine does_event hx hc ((frame_putCal _ _ _ _ (by decide)).set _ _ rfl) (by decide) (not_rule_key (by decide) (by decide))
      fun t ft => ⟨?_, ?_⟩
    · rw [show _ = _ from ft.1 .pwr (by decide)]; rfl
    · rw [ft.2 _ (own (by decide)) id, State.get_set_self _ _ _ (by rw [w7]; decide)]
  case reload =>
    have hn' : (s.tick dt).calInUse = none := hn
    have heff : effCalibration (s.tick dt) 3 = ((s.tick dt).calLoad none, ok) := by
      unfold effCalibration
      rw [if_neg (by decide), if_neg (by decide), hn']
    refine command_keeps rfl h heff (frame_calLoad_none _) rfl (by decide) fun t ft ha _ => ⟨ha, fun k hk => ?_, fun k hk => ?_⟩
    · exact (ft.2 _ (observer_calKeys k hk) id).trans (State.calLoad_none_get _ hk)
    · exact (congrArg (mapGet · k) (ft.1 .doms (by decide))).trans (State.calLoad_none_dom _ hk)

end Sys2Proof.Machine
end

section
/-! PROOFS. Boot records, and the parts that an activation, a confirmation and a fall-back move (R60, R61, R468, R478, R483–R489). -/

namespace Sys2Proof.Machine

-- In sequence, as the tests, for the memory limit of the check.
set_option Elab.async false

/-! ### Boot records -/

/-- The sequence of a boot record that is valid. -/
def State.bootSeq (s : State) (n : Nat) : Option Nat :=
  if (nth (BootRec.factory false) s.nv.boots n).valid then some (nth (BootRec.factory false) s.nv.boots n).seq else none

theorem State.bootNo_eq (s : State) : s.bootNo = pickCopy (s.bootSeq 0) (s.bootSeq 1) := by
  have hinvalid : (BootRec.factory false).valid = false := rfl
  have hseq (n : Nat) : s.bootSeq n =
      (match nth none (s.nv.boots.map some) n with | some r => if r.valid then some r.seq else none | none => none) := by
    unfold State.bootSeq nth
    rw [List.getElem?_map]
    cases s.nv.boots[n]? with
    | none => exact if_neg (Bool.eq_false_iff.mp hinvalid)
    | some r => rfl
  rw [hseq, hseq]
  rfl

theorem State.bootNo_congr {s t : State} (h : t.nv.boots = s.nv.boots) : t.bootNo = s.bootNo := by
  unfold State.bootNo; rw [h]

theorem State.bootRec_congr {s t : State} (h : t.nv.boots = s.nv.boots) : t.bootRec = s.bootRec := by
  unfold State.bootRec; rw [State.bootNo_congr h, h]

theorem BootRec.valid_sealed (r : BootRec) : r.sealed.valid = true := by simp [BootRec.sealed, BootRec.valid, BootRec.head]

/-- Of two copies the second is newer, by one. -/
theorem seqNewer_succ (q : Nat) : seqNewer ((q + 1) % 2 ^ 32) q = true := by
  unfold seqNewer; simp only [decide_eq_true_eq]; omega

theorem not_seqNewer_succ (q : Nat) : seqNewer q ((q + 1) % 2 ^ 32) = false := by
  unfold seqNewer; simp only [decide_eq_false_iff_not]; omega

/-- The place that the next boot record goes to, and its sequence (R61). -/
def State.bootPlace (s : State) : Nat := match s.bootNo with | some k => 1 - k | none => 0

def State.bootNext (s : State) : Nat := match s.bootNo with | some _ => (s.bootRec.seq + 1) % 2 ^ 32 | none => 1

theorem State.writeBoot_eq (s : State) (r : BootRec) : s.writeBoot r =
    { s with nv := { s.nv with
        boots := putNth (BootRec.factory false) s.nv.boots s.bootPlace ({ r with seq := s.bootNext } : BootRec).sealed } } := rfl

/-- A copy in use is valid, and the other is not newer. -/
theorem pickCopy_eq_some {a b : Option Nat} {k : Nat} (h : pickCopy a b = some k) :
    (k = 0 ∧ ∃ x, a = some x) ∨ (k = 1 ∧ ∃ y, b = some y) := by
  cases a <;> cases b <;> simp only [pickCopy, Option.some.injEq, reduceCtorEq] at h
  · exact .inr ⟨h.symm, _, rfl⟩
  · exact .inl ⟨h.symm, _, rfl⟩
  · split at h <;> rename_i hn
    · exact .inr ⟨(Option.some.inj h).symm, _, rfl⟩
    · exact .inl ⟨(Option.some.inj h).symm, _, rfl⟩

theorem pickCopy_eq_none {a b : Option Nat} (h : pickCopy a b = none) : a = none ∧ b = none := by
  cases a <;> cases b <;> simp only [pickCopy, reduceCtorEq] at h
  · exact ⟨rfl, rfl⟩
  · split at h <;> cases h

theorem State.bootSeq_writeBoot (s : State) (r : BootRec) (n : Nat) :
    (s.writeBoot r).bootSeq n = if n = s.bootPlace then some s.bootNext else s.bootSeq n := by
  unfold State.bootSeq
  rw [State.writeBoot_eq]
  dsimp only
  rw [nth_putNth]
  split
  · rw [BootRec.valid_sealed]; rfl
  · rfl

/-- A boot record that is written is the one in force. -/
theorem State.bootNo_writeBoot (s : State) (r : BootRec) : (s.writeBoot r).bootNo = some s.bootPlace := by
  rw [State.bootNo_eq, State.bootSeq_writeBoot, State.bootSeq_writeBoot]
  have hno := s.bootNo_eq
  cases hb : s.bootNo with
  | none =>
    have hplace : s.bootPlace = 0 := by unfold State.bootPlace; rw [hb]
    rw [hb] at hno
    rw [hplace, if_pos rfl, if_neg (by decide), (pickCopy_eq_none hno.symm).2]
    rfl
  | some k =>
    rw [hb] at hno
    have hnext : s.bootNext = (s.bootRec.seq + 1) % 2 ^ 32 := by unfold State.bootNext; rw [hb]
    have hplace : s.bootPlace = 1 - k := by unfold State.bootPlace; rw [hb]
    have hseq {x : Nat} (hx : s.bootSeq k = some x) : s.bootRec.seq = x := by
      unfold State.bootSeq at hx
      split at hx
      · unfold State.bootRec; rw [hb]; exact Option.some.inj hx
      · cases hx
    rcases pickCopy_eq_some hno.symm with ⟨rfl, x, hx⟩ | ⟨rfl, x, hx⟩
    · rw [hplace, if_neg (by decide), if_pos rfl, hx, hnext, hseq hx]
      exact if_pos (seqNewer_succ x)
    · rw [hplace, if_pos rfl, if_neg (by decide), hx, hnext, hseq hx]
      exact if_neg (Bool.eq_false_iff.mp (not_seqNewer_succ x))

theorem State.bootRec_writeBoot (s : State) (r : BootRec) : (s.writeBoot r).bootRec = ({ r with seq := s.bootNext } : BootRec).sealed := by
  unfold State.bootRec
  rw [State.bootNo_writeBoot, State.writeBoot_eq]
  exact (nth_putNth ..).trans (if_pos rfl)

theorem frame_writeBoot (ps : List Part) (ks : Nat → Prop) (s : State) (r : BootRec) (hp : .nv ∈ ps) : Frame ps ks s (s.writeBoot r) :=
  frame_nv ps ks s _ hp

/-! ### Entries of the update manager and of the copies -/

/-- The entries of an object. -/
def ofObject (i k : Nat) : Prop := k / 256 = i

theorem ofObject_K (i : Nat) {u : Nat} (h : u < 256) : ofObject i (K i u) := K_div i h

theorem update_entries : (widthOf (K 0x2200 4) = 8 ∧ widthOf (K 0x2000 4) = 8) ∧
    observer (K 0x2200 4) = false ∧ observer (K 0x2200 5) = false ∧ observer (K 0x2011 1) = false := by decide +kernel

theorem widthOf_update : widthOf (K 0x2200 4) = 8 ∧ widthOf (K 0x2000 4) = 8 := update_entries.1

theorem observer_update : observer (K 0x2200 4) = false ∧ observer (K 0x2200 5) = false ∧ observer (K 0x2011 1) = false := update_entries.2

theorem update_ne {u v : Nat} (h : u ≠ v) : K 0x2200 u ≠ K 0x2200 v := fun e => h ((K_sub_inj _ _ _).mp e)

/-! ### The entries of the running image and of the chunks -/

theorem frame_showImage (ps : List Part) (s : State) : Frame ps (ofObject 0x2200) s s.showImage := by
  refine frame_foldl _ _ (fun t p hp => frame_set _ _ t _ _ (.inr (ofObject_K _ ?_))) s
  revert p
  simp

theorem State.putUpdates_keeps (l : List (Nat × Nat)) (s t : State) (h : t = l.foldl (fun t p => t.set (K 0x2200 p.1) p.2) s) :
    t.mode = s.mode ∧ t.sys = s.sys ∧ t.upd = s.upd ∧ t.nv = s.nv ∧ t.due = s.due := by
  subst h
  induction l generalizing s with
  | nil => exact ⟨rfl, rfl, rfl, rfl, rfl⟩
  | cons p r ih => exact ih (s.set (K 0x2200 p.1) p.2)

theorem State.showImage_keeps (s : State) :
    s.showImage.mode = s.mode ∧ s.showImage.sys = s.sys ∧ s.showImage.upd = s.upd ∧ s.showImage.nv = s.nv ∧ s.showImage.due = s.due :=
  State.putUpdates_keeps _ s s.showImage rfl

theorem State.get_putUpdates (l : List (Nat × Nat)) (s : State) {u : Nat} (h : ∀ p ∈ l, u ≠ p.1) :
    (l.foldl (fun t p => t.set (K 0x2200 p.1) p.2) s).get (K 0x2200 u) = s.get (K 0x2200 u) := by
  induction l generalizing s with
  | nil => rfl
  | cons p r ih =>
    rw [List.foldl_cons, ih _ fun q hq => h q (List.mem_cons_of_mem _ hq), State.get_set_ne _ _ _ _ (update_ne (h p List.mem_cons_self))]

theorem State.showImage_stage (s : State) : s.showImage.updStage = s.updStage := State.get_putUpdates _ s (by simp)

theorem frame_showChunks (ps : List Part) (s : State) : Frame ps (ofObject 0x2200) s s.showChunks := by
  have three (a b c : Nat) : Frame ps (ofObject 0x2200) s (((s.set (K 0x2200 6) a).set (K 0x2200 7) b).set (K 0x2200 8) c) :=
    (((Frame.refl _ _ s).set _ _ (ofObject_K _ (by decide))).set _ _ (ofObject_K _ (by decide))).set _ _ (ofObject_K _ (by decide))
  exact frame_ite (fun _ => three ..) fun _ => three ..

theorem State.showChunks_mode (s : State) : s.showChunks.mode = s.mode := by unfold State.showChunks; split <;> rfl

theorem State.showChunks_sys (s : State) : s.showChunks.sys = s.sys := by unfold State.showChunks; split <;> rfl

theorem State.showChunks_stage (s : State) : s.showChunks.updStage = s.updStage := by
  have three (a b c : Nat) : (((s.set (K 0x2200 6) a).set (K 0x2200 7) b).set (K 0x2200 8) c).updStage = s.updStage := by
    unfold State.updStage
    rw [State.get_set_ne _ _ _ _ (update_ne (by decide)), State.get_set_ne _ _ _ _ (update_ne (by decide)),
      State.get_set_ne _ _ _ _ (update_ne (by decide))]
  unfold State.showChunks
  split
  · exact three ..
  · exact three ..

/-! ### Stages -/

/-- A journal record that is appended leaves the rest of the store. -/
theorem State.writeJournal_eq (s : State) : ∃ j, s.writeJournal = { s with nv := { s.nv with journals := j }, upd := { s.upd with fresh := 0 } } :=
  ⟨_, rfl⟩

/-- A stage change leaves the rest of the store and the update manager. -/
theorem State.toStage_leaves (s : State) {st : Nat} (h : st < 2 ^ 8) :
    Frame [.nv, .upd] (ofObject 0x2200) s (s.toStage st) ∧ (s.toStage st).mode = s.mode ∧ (s.toStage st).sys = s.sys ∧
    (s.toStage st).upd = { s.upd with fresh := 0 } ∧ (∃ j, (s.toStage st).nv = { s.nv with journals := j }) ∧ (s.toStage st).updStage = st := by
  obtain ⟨j, hj⟩ := (s.set (K 0x2200 4) st).writeJournal_eq
  have hf := frame_showChunks [] (s.set (K 0x2200 4) st).writeJournal
  unfold State.toStage
  refine ⟨?_, ?_, ?_, (hf.1 .upd (by decide)).trans ?_, ⟨j, (hf.1 .nv (by decide)).trans ?_⟩, ?_⟩
  · refine (((Frame.refl _ _ s).set (K 0x2200 4) st (ofObject_K _ (by decide))).trans ?_).trans (hf.mono (by simp) fun _ h => h)
    rw [hj]
    exact (frame_nv _ _ _ _ (by decide)).trans (frame_upd _ _ { s.set (K 0x2200 4) st with nv := { s.nv with journals := j } } _ (by decide))
  · rw [State.showChunks_mode, hj]; rfl
  · rw [State.showChunks_sys, hj]; rfl
  · rw [hj]; rfl
  · rw [hj]; rfl
  · rw [State.showChunks_stage, hj]
    exact State.get_set_self _ _ _ (by rw [widthOf_update.1]; exact h)

theorem frame_showCopies (ps : List Part) (s : State) : Frame ps (ofObject 0x2011) s s.showCopies :=
  (((Frame.refl _ _ s).set (K 0x2011 2) _ (ofObject_K _ (by decide))).set (K 0x2011 3) _ (ofObject_K _ (by decide))).set (K 0x2011 4) _
    (ofObject_K _ (by decide))

theorem State.showCopies_keeps (s : State) :
    s.showCopies.mode = s.mode ∧ s.showCopies.sys = s.sys ∧ s.showCopies.upd = s.upd ∧ s.showCopies.nv = s.nv :=
  ⟨rfl, rfl, rfl, rfl⟩

theorem State.get_showCopies (s : State) {k : Nat} (h : k / 256 ≠ 0x2011 ∨ k = K 0x2011 1) : s.showCopies.get k = s.get k := by
  have hne {u : Nat} (hu : u < 256) (hu1 : u ≠ 1) : k ≠ K 0x2011 u := by
    rintro rfl
    rcases h with h | h
    · exact h (K_div _ hu)
    · exact hu1 ((K_sub_inj _ _ _).mp h)
  unfold State.showCopies
  dsimp only
  rw [State.get_set_ne _ _ _ _ (hne (by decide) (by decide)), State.get_set_ne _ _ _ _ (hne (by decide) (by decide)),
    State.get_set_ne _ _ _ _ (hne (by decide) (by decide))]

end Sys2Proof.Machine
end

section
/-! PROOFS. Activation, trial, confirmation and fall-back (R469, R483–R489). -/

namespace Sys2Proof.Machine

-- In sequence, as the tests, for the memory limit of the check.
set_option Elab.async false

/-! ### The device state beside an answer -/

/-- The device state, and the one before HOLD. -/
def State.standing (s : State) : Mode × Nat := (s.mode, s.sys.before)

theorem standing_foldl {α : Type} (l : List α) (f : State → α → State) (h : ∀ s a, (f s a).standing = s.standing) (s : State) :
    (l.foldl f s).standing = s.standing :=
  List.foldlRecOn l f (motive := fun t => t.standing = s.standing) rfl fun t ht a _ => (h t a).trans ht

theorem standing_count (s : State) (g code n : Nat) : (s.count g code n).standing = s.standing := by
  unfold State.count
  split
  · refine standing_foldl _ _ (fun t j => ?_) s
    unfold State.pcgBump
    dsimp only
    split
    · split <;> rfl
    · rfl
  · rfl

theorem standing_probe (s : State) (cls : Nat) (sel : Nat → Bool) (tag val : Nat) : (s.probe cls sel tag val).standing = s.standing := by
  unfold State.probe
  split
  · refine standing_foldl _ _ (fun t p => ?_) s
    unfold State.probeEvent
    dsimp only
    split
    · split <;> split <;> rfl
    · rfl
  · rfl

theorem standing_answer (s : State) (c : Client) (req resp : List Byte) : (s.answer c req resp).standing = s.standing := by
  unfold State.answer
  rw [standing_count]
  cases c <;> rfl

/-- A served write leaves its effect, answered where the server still runs. -/
theorem command_leaves {s u : State} {dt : Nat} {rq : Rq} {k n : Nat} {eff : Effect} {r : Code} (h : Served s dt rq k n)
    (he : eff (s.tick dt) n = (u, r)) : Frame [.ports, .clients] (fun _ => False) u ((s.tick dt).command rq k n eff) ∧
    ((s.tick dt).command rq k n eff).standing = u.standing ∧ (u.serverUp = true → ((s.tick dt).command rq k n eff).answered rq k r) := by
  obtain ⟨hs, hn, -⟩ := h
  unfold State.command
  rw [serveWrite_served eff hs, be_write k n hn, he]
  dsimp only
  generalize hv : (if r.1 = 0 ∨ r.1 = 0x0404 then
    u.probe 7 (fun _ => true) (k % 2 ^ 24) (be (slice (toBe (widthOf k / 8) n) 0 4)) else u) = v
  have fv : Frame [.ports, .clients] (fun _ => False) u v := hv ▸ frame_ite (fun _ => frame_probe ..) fun _ => Frame.refl ..
  have hplace : v.standing = u.standing := by
    rw [← hv]; split
    · exact standing_probe ..
    · rfl
  have hserves : v.serverUp = u.serverUp := by
    rw [← hv]; split
    · exact serverUp_probe ..
    · rfl
  have fa := frame_answer [.ports, .clients] (fun _ => False) v rq.client (writePdu rq.tag k (toBe (widthOf k / 8) n)) (codePdu 0x82 rq.tag k r)
    (by decide) (by decide)
  split
  · refine ⟨fv.trans fa, (standing_answer ..).trans hplace, fun _ => ?_⟩
    obtain ⟨x, hx1, -, hx3⟩ := answer_rec v rq.client (writePdu rq.tag k (toBe (widthOf k / 8) n)) (codePdu 0x82 rq.tag k r)
    unfold State.answered State.lastReply
    rw [hx1, Option.map_some, hx3]
  · rename_i hdown
    exact ⟨fv, hplace, fun hup => absurd (hserves.trans hup) hdown⟩

theorem State.aliveSettle_standing (s : State) : s.aliveSettle.standing = s.standing := by
  unfold State.aliveSettle State.aliveLow
  dsimp only
  split
  · rfl
  · split <;> rfl

theorem State.interlock_standing (s : State) : s.interlock.standing = s.standing := by unfold State.interlock; split <;> rfl

theorem State.aliveSettle_cause (s : State) : s.aliveSettle.get (K 0x2000 4) = s.get (K 0x2000 4) := by
  unfold State.aliveSettle State.aliveLow State.inc
  dsimp only
  split
  · rfl
  · split
    · rfl
    · rw [State.get_set_ne _ _ _ _ (K_apart (by decide)), State.get_set_ne _ _ _ _ (K_apart (by decide)),
        State.get_set_ne _ _ _ _ (K_apart (by decide))]
      rfl

theorem State.interlock_cause (s : State) : s.interlock.get (K 0x2000 4) = s.get (K 0x2000 4) := by unfold State.interlock; split <;> rfl

/-- What hardware makes of a device state: SAFE, or the same with its cause. -/
theorem settle_standing {s : State} (hw : s.upd.waits = none) (hd : s.due = none) : s.settle.sys.before = s.sys.before ∧
    (s.settle.mode = s.mode ∧ s.settle.get (K 0x2000 4) = s.get (K 0x2000 4) ∨ s.mode ≠ .boot ∧ s.settle.mode = .safe) := by
  have hstand : s.settle.standing = s.safeSettle.standing := by
    rw [settle_calm s hw hd, State.interlock_standing, State.aliveSettle_standing]
  have hcause : s.settle.get (K 0x2000 4) = s.safeSettle.get (K 0x2000 4) := by
    rw [settle_calm s hw hd, State.interlock_cause, State.aliveSettle_cause]
  obtain ⟨hmode, hbefore⟩ := Prod.mk.inj hstand
  rw [hmode, hbefore, hcause]
  unfold State.safeSettle
  split
  · rename_i h
    exact ⟨rfl, .inr ⟨h.1, rfl⟩⟩
  · exact ⟨rfl, .inl ⟨rfl, rfl⟩⟩

/-- A command of the table whose effect may change the device state. -/
theorem gives_command {c : Instr} {s u : State} {dt : Nat} {rq : Rq} {k n : Nat} {eff : Effect} {r : Code} {post : State → Prop}
    (hx : exec c s = done ((s.tick dt).command rq k n eff)) (h : Served s dt rq k n) (he : eff (s.tick dt) n = (u, r))
    (hw : u.upd.waits = none) (hd : u.due = none)
    (hp : ∀ t, Frame [.ports, .clients] (fun _ => False) u t → (u.serverUp = true → t.answered rq k r) →
      (t.mode = u.mode ∨ u.mode ≠ .boot ∧ t.mode = .safe) → t.sys.before = u.sys.before → post t) : Gives c s post := by
  obtain ⟨hf, hstand, hans⟩ := command_leaves h he
  obtain ⟨hmode, hbefore⟩ := Prod.mk.inj hstand
  have hw' := (congrArg Upd.waits (hf.1 .upd (by decide))).trans hw
  have hd' : ((s.tick dt).command rq k n eff).due = none := hf.1 .due (by decide) hd
  have fs := frame_settle [] (fun _ => False) _ hw' hd'
  obtain ⟨hb, hm⟩ := settle_standing hw' hd'
  refine ⟨_, hx, hp _ (hf.trans (fs.mono (by simp) fun _ h => h)) (fun hup => answered_of_frame (hans hup) fs (by decide)) ?_ (hb.trans hbefore)⟩
  rw [hmode] at hm
  exact hm.imp And.left id

/-! ### Effects of the update command -/

theorem effUpdate_activate {s : State} : effUpdate s 4 = updResult s.updateActivate := if_neg (by simp)

theorem effUpdate_confirm {s : State} (h : s.sys.recovery = false) : effUpdate s 5 = updResult s.updateConfirm := if_neg (by simp [h])

theorem effUpdate_fallBack {s : State} (h : s.sys.recovery = false) : effUpdate s 6 = updResult s.updateFallBack := if_neg (by simp [h])

theorem effUpdate_reset {s : State} (h : s.sys.recovery = false) : effUpdate s 7 = updResult s.updateReset := if_neg (by simp [h])

/-- The state with a last update result. -/
def State.withResult (s : State) (v : Nat) : State := s.set (K 0x2200 5) v

theorem updResult_eq (s : State) (r : Code) : updResult (s, r) = (s.withResult r.1, r) := rfl

theorem State.withResult_stage (s : State) (v : Nat) : (s.withResult v).updStage = s.updStage := State.get_set_ne _ _ _ _ (update_ne (by decide))

theorem frame_withResult (ps : List Part) (s : State) (v : Nat) : Frame ps (fun k => k = K 0x2200 5) s (s.withResult v) :=
  frame_set _ _ s _ _ (.inr rfl)

/-- A refused update command leaves its result alone. -/
theorem does_refuseUpdate {c : Instr} {s : State} {dt n : Nat} {rq : Rq} {r : Code}
    (hx : exec c s = done ((s.tick dt).command rq (K 0x2200 1) n effUpdate))
    (h : Served s dt rq (K 0x2200 1) n) (he : effUpdate (s.tick dt) n = updResult (s.tick dt, r)) :
    Does c s [.ports, .clients] (fun k => k = K 0x2200 5) fun t => t.answered rq (K 0x2200 1) r :=
  command_keeps hx h he (frame_withResult ..) rfl (by decide) fun _ _ ha _ => ha

/-! ### A rolling restart begins -/

/-- A rolling restart that begins leaves the boot records, the first pair in restart, and HOLD after the state before it. -/
theorem State.startRoll_leaves (s : State) (slot : Nat) (fall : Option Nat) :
    (s.startRoll slot fall).mode = .hold ∧ (s.startRoll slot fall).sys = { s.sys with before := s.mode.code, apc := [true, false] } ∧
    (s.startRoll slot fall).upd = { s.upd with roll := some ⟨slot, fall, 3⟩, waits := none } ∧
    (s.startRoll slot fall).nv.boots = s.nv.boots ∧ (s.startRoll slot fall).due = s.due ∧
    (s.startRoll slot fall).updStage = if fall.isSome then 7 else 5 := by
  have hw : widthOf (K 0x2200 4) = 8 := widthOf_update.1
  unfold State.startRoll
  extract_lets t
  refine ⟨(State.noteStage_mode _).trans rfl, ?_, ?_, ?_, ?_, ?_⟩
  · unfold State.noteStage; split <;> rfl
  · unfold State.noteStage; split <;> rfl
  · unfold State.noteStage; split <;> rfl
  · unfold State.noteStage; split <;> rfl
  · unfold State.updStage State.get
    rw [State.noteStage_dict]
    exact State.get_set_self _ _ _ (by rw [hw]; split <;> decide)

/-- The state after s has begun a rolling restart into a slot, at an update stage. -/
def State.rolls (s u : State) (slot : Nat) (fall : Option Nat) (stage : Nat) : Prop :=
  u.mode = .hold ∧ u.sys = { s.sys with before := s.mode.code, apc := [true, false] } ∧
    u.upd = { s.upd with roll := some ⟨slot, fall, 3⟩, waits := none } ∧ u.due = none ∧ u.updStage = stage

/-- A command that begins a rolling restart is answered by the pair that runs. -/
theorem gives_roll {c : Instr} {s u : State} {dt n slot stage : Nat} {fall : Option Nat} {rq : Rq} {post : State → Prop}
    (hx : exec c s = done ((s.tick dt).command rq (K 0x2200 1) n effUpdate)) (h : Served s dt rq (K 0x2200 1) n)
    (he : effUpdate (s.tick dt) n = (u, ok)) (hu : s.rolls u slot fall stage)
    (hp : ∀ t, t.answered rq (K 0x2200 1) ok → t.updStage = stage → t.upd.roll = some ⟨slot, fall, 3⟩ → t.sys.apc = [true, false] →
      t.sys.before = s.mode.code → (t.mode = .hold ∨ t.mode = .safe) → t.nv = u.nv → post t) : Gives c s post := by
  obtain ⟨hm, hy, hupd, hd, hst⟩ := hu
  have hup : u.serverUp = true := by unfold State.serverUp; rw [hm, hy]; rfl
  refine gives_command hx h he (by rw [hupd]) hd fun t ft ha hmode hb => hp t (ha hup) ?_ ?_ ?_ ?_ ?_ (ft.1 .nv (by decide))
  · exact (ft.2 _ observer_update.1 id).trans hst
  · rw [show _ = _ from ft.1 .upd (by decide), hupd]
  · rw [show _ = _ from ft.1 .apc (by decide), hy]
  · rw [hb, hy]
  · exact hmode.imp (fun h => h.trans hm) And.right

/-! ### A reset -/

theorem State.resetTo_starts (s : State) (cause : Nat) : (s.resetTo false cause).starts ∧ (s.resetTo false cause).nv = s.nv :=
  ⟨⟨rfl, rfl, rfl, rfl⟩, rfl⟩

/-- A command whose effect resets the device leaves it at the start of BOOT, with the store. -/
theorem gives_reset {c : Instr} {s u : State} {dt n : Nat} {rq : Rq} {post : State → Prop}
    (hx : exec c s = done ((s.tick dt).command rq (K 0x2200 1) n effUpdate)) (h : Served s dt rq (K 0x2200 1) n)
    (he : effUpdate (s.tick dt) n = updResult (u.resetTo false 5, ok))
    (hp : ∀ t, t.mode = .boot → t.sys.bootStep = 0 → t.get (K 0x2320 2) = 5 → t.nv = u.nv → post t) : Gives c s post := by
  obtain ⟨⟨hm, hb, hw, hd⟩, hnv⟩ := u.resetTo_starts 5
  rw [updResult_eq] at he
  refine gives_command hx h he hw hd fun t ft _ hmode _ => hp t ?_ ((ft.1 .boot (by decide)).1.trans hb) ?_ ((ft.1 .nv (by decide)).trans hnv)
  · exact hmode.elim (fun h => h.trans hm) fun h => absurd hm h.1
  · exact (ft.2 _ observer_reset.1 id).trans ((State.get_set_ne _ _ _ _ (K_apart (by decide))).trans (u.resetTo_cause false (by decide)))

/-! ### A confirmation -/

/-- The record of an image that is confirmed. -/
def BootRec.confirmed (r : BootRec) : BootRec :=
  { r with active := r.pending, stage := 0, pending := 0, trials := 0, actDigest := r.pendDigest, pendDigest := [] }

/-- The state with the fuse counter burnt up to the security version of the running image. -/
def State.burn (s : State) : State :=
  { s with nv := { s.nv with fuses := { s.nv.fuses with counter := min 63 (max s.nv.fuses.counter (beAt s.runManifest 0x18 4)) } } }

/-- The state after a confirmation. -/
def State.confirmed (s : State) : State := (((s.writeBoot s.bootRec.confirmed).burn.toStage 0).showImage).startSave

/-- Entries of a confirmation. -/
def confirmKeys (k : Nat) : Prop := k / 256 = 0x2200 ∨ k / 256 = 0x2010 ∨ k / 256 = 0x2011

theorem State.updateConfirm_settles {s : State} (hst : s.bootRec.stage = 2) (hb : s.bodyReadable = true) (hs : s.sys.save = none) :
    s.updateConfirm = (s.confirmed, ok) := by
  have hsave : (((s.writeBoot s.bootRec.confirmed).burn.toStage 0).showImage).sys.save = none := by
    rw [(State.showImage_keeps _).2.1, (State.toStage_leaves _ (by decide)).2.2.1]; exact hs
  unfold State.updateConfirm
  extract_lets r t up nv fuses u v
  rw [if_neg (not_not.mpr hst), if_neg (by simp [hb])]
  have hv : v.sys.save = none := hsave
  rw [if_neg (by simp [hv])]
  rfl

/-- A save that starts leaves the boot records, the fuses and the update manager. -/
theorem State.startSave_leaves (s : State) : Frame [.nv, .save] (fun k => k / 256 = 0x2010 ∨ k / 256 = 0x2011) s s.startSave ∧
    s.startSave.mode = s.mode ∧ s.startSave.nv.boots = s.nv.boots ∧ s.startSave.nv.fuses = s.nv.fuses ∧ s.startSave.sys.save.isSome = true := by
  refine ⟨?_, rfl, rfl, rfl, rfl⟩
  unfold State.startSave
  extract_lets target copy nv sys t
  have ft : Frame [.nv, .save] (fun k => k / 256 = 0x2010 ∨ k / 256 = 0x2011) s t :=
    (frame_nv _ _ s t.nv (by decide)).trans (frame_sys_save _ _ { s with nv := t.nv } _ (by decide))
  exact ((ft.trans ((frame_showCopies _ t).mono (fun _ h => h) fun _ h => .inr h)).set _ _ (.inl (K_div _ (by decide)))).set _ _
    (.inl (K_div _ (by decide)))

/-- What a confirmation leaves (R487, R488). -/
theorem State.confirmed_leaves (s : State) : Frame [.nv, .upd, .save] confirmKeys s s.confirmed ∧ s.confirmed.mode = s.mode ∧
    s.confirmed.bootRec.stage = 0 ∧ s.confirmed.bootRec.active = s.bootRec.pending ∧ s.confirmed.updStage = 0 ∧
    s.confirmed.sys.save.isSome = true ∧ s.confirmed.nv.fuses.counter = min 63 (max s.nv.fuses.counter (beAt s.runManifest 0x18 4)) ∧
    s.confirmed.upd.waits = s.upd.waits := by
  unfold State.confirmed
  obtain ⟨fs, ms, bs, us, ss⟩ := (((s.writeBoot s.bootRec.confirmed).burn.toStage 0).showImage).startSave_leaves
  obtain ⟨mi, -, ui, ni, -⟩ := ((s.writeBoot s.bootRec.confirmed).burn.toStage 0).showImage_keeps
  have fi := frame_showImage [.nv, .upd, .save] ((s.writeBoot s.bootRec.confirmed).burn.toStage 0)
  have hi := ((s.writeBoot s.bootRec.confirmed).burn.toStage 0).showImage_stage
  obtain ⟨ft, mt, -, ut, ⟨j, nt⟩, st⟩ := (s.writeBoot s.bootRec.confirmed).burn.toStage_leaves (show 0 < 2 ^ 8 by decide)
  have fb : Frame [.nv, .upd, .save] confirmKeys s (s.writeBoot s.bootRec.confirmed).burn :=
    (frame_writeBoot _ _ s _ (by decide)).trans (frame_nv _ _ (s.writeBoot s.bootRec.confirmed) _ (by decide))
  have hboot : ((((s.writeBoot s.bootRec.confirmed).burn.toStage 0).showImage).startSave).bootRec = (s.writeBoot s.bootRec.confirmed).bootRec :=
    State.bootRec_congr (by rw [bs, ni, nt]; rfl)
  rw [hboot, State.bootRec_writeBoot]
  refine ⟨?_, ms.trans (mi.trans mt), rfl, rfl, ?_, ss, ?_, ?_⟩
  · exact ((fb.trans (ft.mono (by decide) fun _ h => .inl h)).trans (fi.mono (fun _ h => h) fun _ h => .inl h)).trans
      (fs.mono (by decide) fun _ h => .inr h)
  · refine (fs.2 _ observer_update.1 ?_).trans (hi.trans st)
    dsimp only
    rw [K_div _ (by decide)]
    decide
  · rw [us, ni, nt]; rfl
  · rw [show _ = _ from fs.1 .upd (by decide), ui, ut]; rfl

/-! ### Pairs that restart, and the end of a rolling restart -/

/-- The calibration goes on with nothing in HOLD, and once its first run is behind it while no run waits. -/
theorem State.calResume_hold {s : State} (h : s.mode = .hold) : s.calResume = s := if_pos (by simp [h])

theorem State.calResume_idle {s : State} (hf : s.pwr.cal.firstDone = true) (hw : s.pwr.cal.waiting = false) : s.calResume = s := by
  unfold State.calResume
  split
  · rfl
  · rw [if_neg (by simp [hf]), if_neg (by simp [hw])]

/-- The state with the pairs that run and the step of the rolling restart. -/
def State.atStep (s : State) (apc : List Bool) (r : Roll) (step : Nat) : State :=
  { s with sys := { s.sys with apc := apc }, upd := { s.upd with roll := some { r with step := step } } }

theorem frame_atStep (ps : List Part) (ks : Nat → Prop) (s : State) (apc : List Bool) (r : Roll) (step : Nat) (ha : .apc ∈ ps)
    (hu : .upd ∈ ps) :
    Frame ps ks s (s.atStep apc r step) :=
  (frame_sys_apc ps ks s apc ha).trans (frame_upd ps ks { s with sys := { s.sys with apc := apc } } _ hu)

theorem State.pairBack_first {s : State} {r : Roll} (h : s.upd.roll = some r) (hs : r.step = 3) :
    s.pairBack 1 = s.atStep [false, true] r 4 := by
  unfold State.pairBack
  rw [h]
  exact if_pos ⟨hs, rfl⟩

theorem State.pairBack_second {s : State} {r : Roll} (h : s.upd.roll = some r) (hs : r.step = 4) :
    s.pairBack 0 = (s.atStep [true, true] r 5).restartCore 2 := by
  unfold State.pairBack
  rw [h]
  exact (if_neg (by rw [hs]; decide)).trans (if_pos ⟨hs, rfl⟩)

/-- A place that is put reads as it, whatever the places beyond the end of the list read as. -/
theorem nth_putNth_place {α : Type} (d e : α) (l : List α) (n : Nat) (x : α) : nth e (putNth d l n x) n = x := by
  induction n generalizing l with
  | zero => cases l <;> rfl
  | succ n ih =>
    cases l with
    | nil => exact ih []
    | cons a r => exact ih r

/-- The state with an SSV core out of the vote. -/
def State.withoutCore (s : State) (c : Nat) : State := { s with safe := { s.safe with cores := putNth false s.safe.cores c false } }

theorem frame_withoutCore (ps : List Part) (ks : Nat → Prop) (s : State) (c : Nat) (hp : .cores ∈ ps) : Frame ps ks s (s.withoutCore c) :=
  frame_field .cores hp (fun p h => by
    cases p with
    | cores => exact absurd rfl h
    | _ => simp [Part.same, State.withoutCore]) rfl

theorem State.restartCore_eq (s : State) (c : Nat) : s.restartCore c = (s.withoutCore c).set (K 0x8300 1) 2 := rfl

theorem State.bodyReadable_congr {s t : State} (h : t.get (K 0x2011 1) = s.get (K 0x2011 1)) (hc : t.nv.confs = s.nv.confs)
    (hm : t.runManifest = s.runManifest) : t.bodyReadable = s.bodyReadable := by
  unfold State.bodyReadable State.confInUse State.readsFormat
  rw [h, hc, hm]

/-- The state whose running image is that of a slot, on trial from this instant (R484). -/
def State.runsTrial (s : State) (slot : Nat) : State :=
  { s.writeBoot { s.bootRec with stage := 2 } with upd := { s.upd with roll := none, slot := slot, trialAt := s.now } }

/-- The state at the end of a rolling restart into a slot, before it leaves HOLD: the image on trial, and the entries that show it. -/
def State.onTrialOf (s : State) (slot : Nat) : State := (((s.runsTrial slot).toStage 6).showImage).showCopies

theorem State.rollEnds_none {s : State} (h : s.upd.roll = none) : s.rollEnds = s := by unfold State.rollEnds; rw [h]

/-- What the end of a rolling restart leaves of the store, the update manager and the device state. -/
theorem State.onTrialOf_leaves (s : State) (slot : Nat) : (s.onTrialOf slot).mode = s.mode ∧ (s.onTrialOf slot).sys = s.sys ∧
    (s.onTrialOf slot).upd = { s.upd with roll := none, slot := slot, trialAt := s.now, fresh := 0 } ∧
    (s.onTrialOf slot).bootRec.stage = 2 ∧ (s.onTrialOf slot).updStage = 6 ∧ (s.onTrialOf slot).pwr = s.pwr ∧
    (s.due = none → (s.onTrialOf slot).due = none) ∧ (s.onTrialOf slot).bodyReadable = (s.putUpd { s.upd with slot := slot }).bodyReadable := by
  obtain ⟨ft, mt, yt, ut, ⟨j, nt⟩, st⟩ := (s.runsTrial slot).toStage_leaves (show 6 < 2 ^ 8 by decide)
  obtain ⟨mi, yi, ui, ni, -⟩ := ((s.runsTrial slot).toStage 6).showImage_keeps
  obtain ⟨mc, yc, uc, nc⟩ := ((s.runsTrial slot).toStage 6).showImage.showCopies_keeps
  have fi := frame_showImage [.nv, .upd] ((s.runsTrial slot).toStage 6)
  have fc := frame_showCopies [.nv, .upd] ((s.runsTrial slot).toStage 6).showImage
  have hnv : (s.onTrialOf slot).nv = { (s.runsTrial slot).nv with journals := j } := nc.trans (ni.trans nt)
  have hupd : (s.onTrialOf slot).upd = { (s.runsTrial slot).upd with fresh := 0 } := uc.trans (ui.trans ut)
  have hcopy : (s.onTrialOf slot).get (K 0x2011 1) = s.get (K 0x2011 1) := by
    have hout : ¬ ofObject 0x2200 (K 0x2011 1) := by unfold ofObject; rw [K_div _ (by decide)]; decide
    exact ((((s.runsTrial slot).toStage 6).showImage.get_showCopies (.inr rfl)).trans (fi.2 _ observer_update.2.2 hout)).trans
      (ft.2 _ observer_update.2.2 hout)
  have hstage : (s.onTrialOf slot).updStage = 6 :=
    (((s.runsTrial slot).toStage 6).showImage.get_showCopies (.inl (by rw [K_div _ (by decide)]; decide))).trans ((State.showImage_stage _).trans st)
  refine ⟨mc.trans (mi.trans mt), yc.trans (yi.trans yt), hupd, ?_, hstage, ?_, ?_, ?_⟩
  · rw [State.bootRec_congr (s := s.writeBoot { s.bootRec with stage := 2 }) (by rw [hnv]; rfl), State.bootRec_writeBoot]
    rfl
  · exact (fc.1 .pwr (by decide)).trans ((fi.1 .pwr (by decide)).trans (ft.1 .pwr (by decide)))
  · exact fun hd => fc.1 .due (by decide) (fi.1 .due (by decide) (ft.1 .due (by decide) hd))
  · refine State.bodyReadable_congr hcopy (by rw [hnv]; rfl) ?_
    unfold State.runManifest State.slotManifest
    rw [hnv, hupd]
    rfl

theorem State.enter_bodyReadable (s : State) (m : Mode) (cause : Nat) : (s.enter m cause).bodyReadable = s.bodyReadable :=
  State.bodyReadable_congr (State.get_set_ne _ _ _ _ (K_apart (by decide))) rfl rfl

/-- The end of a rolling restart into a new image puts it on trial, and returns to OPERATE when HOLD came after it. -/
theorem State.rollEnds_trial {s : State} {r : Roll} (h : s.upd.roll = some r) (hs : r.step = 8) (hf : r.fall = none) (hm : s.mode = .hold)
    (hb : s.sys.before = 2) (hr : (s.putUpd { s.upd with slot := r.slot }).bodyReadable = true) :
    s.rollEnds = (s.onTrialOf r.slot).enter .operate 8 := by
  obtain ⟨mt, yt, -, -, -, -, -, bt⟩ := s.onTrialOf_leaves r.slot
  have hread : ((s.onTrialOf r.slot).enter .operate 8).bodyReadable = true := (State.enter_bodyReadable ..).trans (bt.trans hr)
  obtain ⟨slot, fall, step⟩ := r
  simp only at hs hf
  subst hs hf
  unfold State.rollEnds
  rw [h]
  dsimp -zeta only
  rw [if_neg (by decide)]
  extract_lets b boot w upd t u v
  have hu : u = s.onTrialOf slot := rfl
  have hv : v = (s.onTrialOf slot).enter .operate 8 := by
    have hhold : u.mode = .hold := (congrArg State.mode hu).trans (mt.trans hm)
    have hbefore : u.sys.before = 2 := (congrArg (fun t => t.sys.before) hu).trans ((congrArg Sys.before yt).trans hb)
    rw [← hu]
    refine (if_pos hhold).trans ?_
    rw [if_neg (by rw [hbefore]; decide), if_pos hbefore]
  rw [if_pos (by rw [hv, hread]; rfl), hv]

/-! ### The obligation -/

/-- The image of a download is verified and may be activated now: its flag, its versions and the guards (R483). -/
theorem State.updateActivate_rolls {s : State} (hr : s.sys.recovery = false) (hm : s.mode = .preop ∨ s.mode = .operate ∨ s.mode = .standby)
    (hs : s.updStage = 4) (hf : byteAt (s.slotManifest s.targetSlot) 7 % 2 = 1)
    (hv : beAt (s.slotManifest s.targetSlot) 0x24 4 ≤ beAt s.runManifest 0x14 4) (hg : s.guardDetail 2 = none) :
    s.updateActivate = (((s.writeBoot (s.pendRec 1 1 0)).startRoll s.targetSlot none).showImage, ok) := by
  unfold State.updateActivate
  extract_lets m
  rw [if_neg (by simp [hr]), if_neg (by rcases hm with h | h | h <;> simp [h]), if_neg (not_not.mpr hs), if_neg (by simp only [m]; omega), hg]

theorem State.updateActivate_early {s : State} (hr : s.sys.recovery = false) (hm : s.mode = .preop ∨ s.mode = .operate ∨ s.mode = .standby)
    (hs : s.updStage ≠ 4) : s.updateActivate = (s, (0x0403, 0x2204)) := by
  unfold State.updateActivate
  extract_lets m
  rw [if_neg (by simp [hr]), if_neg (by rcases hm with h | h | h <;> simp [h]), if_pos hs]

/-- The boot record that the recovery loader writes (R469). -/
def State.freshRec (s : State) (q : Nat) : BootRec :=
  ({ BootRec.factory true with seq := q, active := s.targetSlot, actDigest := Config.sha384 (s.slotManifest s.targetSlot) } : BootRec).sealed

/-- The state with the boot records of the recovery loader and no download (R469). -/
def State.recovered (s : State) : State :=
  { s with nv := { s.nv with boots := [s.freshRec 1, s.freshRec 2], journals := [none, none] } }

theorem State.updateActivate_recovers {s : State} (hr : s.sys.recovery = true) (hs : s.updStage = 4) :
    s.updateActivate = (s.recovered.resetTo false 5, ok) := by
  unfold State.updateActivate State.recoveryActivate
  extract_lets m
  rw [if_pos hr, if_neg (not_not.mpr hs)]
  rfl

theorem State.recovered_bootRec (s : State) : s.recovered.bootRec = s.freshRec 2 := by
  have hvalid (q : Nat) : (s.freshRec q).valid = true := BootRec.valid_sealed _
  have hno : s.recovered.bootNo = some 1 := by
    rw [State.bootNo_eq]
    have h0 : s.recovered.bootSeq 0 = some 1 := if_pos (hvalid 1)
    have h1 : s.recovered.bootSeq 1 = some 2 := if_pos (hvalid 2)
    rw [h0, h1]
    rfl
  unfold State.bootRec
  rw [hno]
  rfl

theorem State.updateReset_resets {s : State} (hm : s.mode = .preop) (hs : s.updStage = 4) (hg : s.guardDetail 2 = none) :
    s.updateReset = ((s.writeBoot (s.pendRec 2 0 1)).resetTo false 5, ok) := by
  unfold State.updateReset
  rw [if_neg (not_not.mpr hm), if_neg (not_not.mpr hs), hg]

theorem State.updateFallBack_rolls {s : State} (hs : s.bootRec.stage = 2) (ha : s.bootRec.actmode = 0) (hm : s.mode = .operate) :
    s.updateFallBack = (s.startRoll s.bootRec.active (some 3), ok) := by
  unfold State.updateFallBack State.fallBackNow
  extract_lets r
  rw [if_neg (by simp [r, hs]), if_neg (not_not.mpr hs), if_neg (by rw [hm]; decide), if_neg (by rw [ha]; simp), if_pos ha]

theorem State.updateFallBack_untried {s : State} (hs : s.bootRec.stage ≠ 2) (hsafe : s.mode ≠ .safe) (hhold : s.mode ≠ .hold) :
    s.updateFallBack = (s, (0x0403, 0x2207)) := if_pos ⟨hs, hsafe, hhold⟩

theorem State.updateFallBack_safe {s : State} (hs : s.bootRec.stage = 2) (hm : s.mode = .safe) :
    s.updateFallBack = (s.putUpd { s.upd with waits := some 3 }, (0x0401, s.mode.code)) := by
  unfold State.updateFallBack
  extract_lets r
  rw [if_neg (by simp [r, hs]), if_neg (not_not.mpr hs), if_pos hm]

/-- In SAFE a fall-back that waits goes on waiting. -/
theorem settle_safe {s : State} (hm : s.mode = .safe) (hd : s.due = none) : s.settle = s.aliveSettle.interlock := by
  have hcalm : s.safeSettle = s := if_neg fun h => h.2.1 hm
  have hfall : s.fallSettle = s := by
    rcases s.fallSettle_cases with h | ⟨h, -⟩
    · exact h
    · exact absurd hm h
  unfold State.settle State.resetSettle
  rw [hd]
  dsimp only
  rw [hcalm, hfall]

/-- An activation of a verified image rolls into it, with its record written first. -/
theorem updateActivate_gives {dt : Nat} {rq : Rq} {s : State} (h : Served s dt rq (K 0x2200 1) 4) (hr : s.sys.recovery = false)
    (hm : s.mode = .preop ∨ s.mode = .operate ∨ s.mode = .standby) (hs : s.updStage = 4)
    (hf : byteAt (s.slotManifest s.targetSlot) 7 % 2 = 1) (hv : beAt (s.slotManifest s.targetSlot) 0x24 4 ≤ beAt s.runManifest 0x14 4)
    (hg : s.guardDetail 2 = none) :
    Gives (.updateActivate dt rq) s fun t =>
      t.answered rq (K 0x2200 1) ok ∧ t.updStage = 5 ∧ t.upd.roll = some ⟨s.targetSlot, none, 3⟩ ∧ t.sys.apc = [true, false] ∧
      t.sys.before = s.mode.code ∧ (t.mode = .hold ∨ t.mode = .safe) ∧ t.bootRec.stage = 1 ∧ t.bootRec.pending = s.targetSlot ∧
      t.bootRec.actmode = 0 := by
  have heff := effUpdate_activate (s := s.tick dt)
  rw [State.updateActivate_rolls (s := s.tick dt) hr hm hs hf hv hg, updResult_eq] at heff
  obtain ⟨m1, y1, u1, b1, d1, st1⟩ := ((s.tick dt).writeBoot ((s.tick dt).pendRec 1 1 0)).startRoll_leaves (s.tick dt).targetSlot none
  obtain ⟨mi, yi, ui, ni, di⟩ :=
    (((s.tick dt).writeBoot ((s.tick dt).pendRec 1 1 0)).startRoll (s.tick dt).targetSlot none).showImage_keeps
  have hstage := (State.withResult_stage _ 0).trans ((State.showImage_stage _).trans st1)
  refine gives_roll rfl h heff ⟨mi.trans m1, yi.trans y1, ui.trans u1, di.trans d1, hstage⟩ fun t ha hstage hroll hapc hbefore hmode hnv => ?_
  have hboot : t.bootRec = ((s.tick dt).writeBoot ((s.tick dt).pendRec 1 1 0)).bootRec :=
    State.bootRec_congr ((congrArg Nv.boots (hnv.trans ni)).trans b1)
  rw [hboot, State.bootRec_writeBoot]
  exact ⟨ha, hstage, hroll, hapc, hbefore, hmode, rfl, rfl, rfl⟩

/-- The recovery loader's activation resets into its image. -/
theorem recoveryActivate_gives {dt : Nat} {rq : Rq} {s : State} (h : Served s dt rq (K 0x2200 1) 4) (hr : s.sys.recovery = true)
    (hs : s.updStage = 4) : Gives (.recoveryActivate dt rq) s fun t =>
      t.mode = .boot ∧ t.sys.bootStep = 0 ∧ t.get (K 0x2320 2) = 5 ∧ t.bootRec.active = s.targetSlot ∧ t.bootRec.stage = 0 ∧
      t.nv.journals = [none, none] := by
  have heff := effUpdate_activate (s := s.tick dt)
  rw [State.updateActivate_recovers (s := s.tick dt) hr hs] at heff
  refine gives_reset rfl h heff fun t hm hb hc hnv => ?_
  have hboot : t.bootRec = (s.tick dt).freshRec 2 := (State.bootRec_congr (congrArg Nv.boots hnv)).trans (s.tick dt).recovered_bootRec
  rw [hboot, hnv]
  exact ⟨hm, hb, hc, rfl, rfl, rfl⟩

/-- An activation with reset resets with the image on its first trial. -/
theorem updateReset_gives {dt : Nat} {rq : Rq} {s : State} (h : Served s dt rq (K 0x2200 1) 7) (hr : s.sys.recovery = false)
    (hm : s.mode = .preop) (hs : s.updStage = 4) (hg : s.guardDetail 2 = none) : Gives (.updateActivateWithReset dt rq) s fun t =>
      t.mode = .boot ∧ t.sys.bootStep = 0 ∧ t.get (K 0x2320 2) = 5 ∧ t.bootRec.stage = 2 ∧ t.bootRec.pending = s.targetSlot ∧
      t.bootRec.actmode = 1 := by
  have heff := effUpdate_reset (s := s.tick dt) hr
  rw [State.updateReset_resets (s := s.tick dt) hm hs hg] at heff
  refine gives_reset rfl h heff fun t hm hb hc hnv => ?_
  have hboot : t.bootRec = ((s.tick dt).writeBoot ((s.tick dt).pendRec 2 0 1)).bootRec := State.bootRec_congr (congrArg Nv.boots hnv)
  rw [hboot, State.bootRec_writeBoot]
  exact ⟨hm, hb, hc, rfl, rfl, rfl⟩

/-- A state with a confirmation of s. -/
def State.confirms (s t : State) : Prop :=
  t.bootRec.stage = 0 ∧ t.bootRec.active = s.bootRec.pending ∧ t.updStage = 0 ∧ t.sys.save.isSome = true ∧
    t.nv.fuses.counter = min 63 (max s.nv.fuses.counter (beAt s.runManifest 0x18 4))

/-- A confirmation with its result. -/
theorem State.confirmed_result (s : State) : Frame [.nv, .upd, .save] confirmKeys s (s.confirmed.withResult 0) ∧
    (s.confirmed.withResult 0).mode = s.mode ∧ (s.confirmed.withResult 0).upd.waits = s.upd.waits ∧ s.confirms (s.confirmed.withResult 0) := by
  obtain ⟨hf, hmode, hst, hact, hupd, hsaves, hfuse, hwaits⟩ := s.confirmed_leaves
  exact ⟨hf.set (K 0x2200 5) 0 (.inl (K_div _ (by decide))), hmode, hwaits, hst, hact, (State.withResult_stage ..).trans hupd, hsaves, hfuse⟩

theorem State.confirms.of_frame {s u t : State} {ps : List Part} (h : s.confirms u) (f : Frame ps (fun _ => False) u t)
    (hn : .nv ∉ ps) (hs : .save ∉ ps) : s.confirms t := by
  obtain ⟨hst, hact, hupd, hsave, hfuse⟩ := h
  have hnv : t.nv = u.nv := f.1 .nv hn
  have hboot : t.bootRec = u.bootRec := State.bootRec_congr (congrArg Nv.boots hnv)
  exact ⟨(congrArg BootRec.stage hboot).trans hst, (congrArg BootRec.active hboot).trans hact, (f.2 _ observer_update.1 id).trans hupd,
    (congrArg Option.isSome (f.1 .save hs)).trans hsave, (congrArg (fun n => n.fuses.counter) hnv).trans hfuse⟩

theorem updateConfirm_does {dt : Nat} {rq : Rq} {s : State} (h : Served s dt rq (K 0x2200 1) 5) (hr : s.sys.recovery = false)
    (hs : s.bootRec.stage = 2) (hb : s.bodyReadable = true) (hsave : s.sys.save = none) :
    Does (.updateConfirm dt rq) s [.nv, .upd, .save, .ports, .clients] confirmKeys fun t => t.answered rq (K 0x2200 1) ok ∧ s.confirms t := by
  have heff := effUpdate_confirm (s := s.tick dt) hr
  rw [State.updateConfirm_settles (s := s.tick dt) hs hb hsave, updResult_eq] at heff
  obtain ⟨hf, hmode, hwaits, hc⟩ := (s.tick dt).confirmed_result
  have hup := (serverUp_congr (hf.1 .apc (by decide)) hmode (hf.1 .boot (by decide)).2).trans (served_up h)
  exact command_does rfl h heff (hf.mono (by decide) fun _ h => h) hup (hwaits.trans h.2.2) (hf.1 .due (by decide) rfl) (by decide) (by decide)
    fun t ft ha _ => ⟨ha, hc.of_frame ft (by decide) (by decide)⟩

/-- The conditions of a confirmation by the firmware itself, at this instant (R487). -/
theorem State.autoConfirm_due {s : State} (hm : s.mode = .operate) (hn : s.get (K 0x2200 0x0D) ≠ 0)
    (ht : s.upd.trialAt + s.get (K 0x2200 0x0D) * 1000000000 ≤ s.now) (hlog : s.safe.log = Safe.init.log) (hs : s.bootRec.stage = 2)
    (ha : s.sys.apc = [true, true]) (hb : s.bodyReadable = true) (hsave : s.sys.save = none) : s.autoConfirm = s.confirmed.withResult 0 := by
  have hupd := State.updateConfirm_settles hs hb hsave
  unfold State.autoConfirm
  extract_lets n clean
  have hclean : clean = true := by simp only [clean, hlog]; decide
  rw [if_pos (by simp [hm, n, hn, ht, hclean, hs, ha]), hupd]
  rfl

theorem autoConfirm_does {dt : Nat} {s : State} (hm : s.mode = .operate) (hn : s.get (K 0x2200 0x0D) ≠ 0)
    (ht : s.upd.trialAt + s.get (K 0x2200 0x0D) * 1000000000 ≤ s.now + dt) (hlog : s.safe.log = Safe.init.log) (hs : s.bootRec.stage = 2)
    (ha : s.sys.apc = [true, true]) (hb : s.bodyReadable = true) (hsave : s.sys.save = none) (hw : s.upd.waits = none) :
    Does (.autoConfirm dt) s [.nv, .upd, .save] confirmKeys fun t => s.confirms t ∧ t.get (K 0x2200 5) = 0 := by
  have hx : exec (.autoConfirm dt) s = done _ := congrArg done (State.autoConfirm_due (s := s.tick dt) hm hn ht hlog hs ha hb hsave)
  obtain ⟨hf, -, hwaits, hc⟩ := (s.tick dt).confirmed_result
  refine does_of hx (hwaits.trans hw) (hf.1 .due (by decide) rfl) ((frame_tick _ _ s dt).trans hf) fun t ft _ =>
    ⟨hc.of_frame ft (by decide) (by decide), ?_⟩
  exact (ft.2 _ observer_update.2.1 id).trans (State.get_set_self _ _ _ (Nat.two_pow_pos _))

theorem State.autoConfirm_idle {s : State} (h : s.get (K 0x2200 0x0D) = 0 ∨ s.bootRec.stage ≠ 2) : s.autoConfirm = s := by
  unfold State.autoConfirm
  extract_lets n clean
  refine if_neg ?_
  rcases h with h | h
  · simp [n, h]
  · simp [h]

/-- A command of the table whose effect leaves the device in SAFE, whatever waits for the end of it. -/
theorem does_inSafe {c : Instr} {s u : State} {dt : Nat} {rq : Rq} {k n : Nat} {eff : Effect} {r : Code} {ps : List Part} {ks : Nat → Prop}
    {post : State → Prop} (hx : exec c s = done ((s.tick dt).command rq k n eff)) (h : Served s dt rq k n) (he : eff (s.tick dt) n = (u, r))
    (hm : u.mode = .safe) (hd : u.due = none) (hup : u.serverUp = true) (hf : Frame ps ks (s.tick dt) u) (hq : .ports ∈ ps ∧ .clients ∈ ps)
    (hp : ∀ t, Frame [.ports, .clients] (fun _ => False) u t → t.answered rq k r → post t) : Does c s ps ks post := by
  obtain ⟨hz, hstand, hans⟩ := command_leaves h he
  have hsettle := settle_safe ((Prod.mk.inj hstand).1.trans hm) (hz.1 .due (by decide) hd)
  generalize (s.tick dt).command rq k n eff = z at hz hans hsettle hx
  have fs (ps : List Part) (ks : Nat → Prop) : Frame ps ks z z.settle := by
    rw [hsettle]; exact (frame_aliveSettle ps ks z).trans (frame_interlock ps ks _)
  refine ⟨_, hx, hp _ (hz.trans (fs _ _)) (answered_of_frame (hans hup) (fs [] fun _ => False) (by decide)), ?_⟩
  exact (((frame_tick ps ks s dt).trans hf).trans (hz.mono (by simpa using hq) fun _ h => h.elim)).trans (fs _ _)

theorem State.waits_serverUp (s : State) (x : Upd) (v : Nat) : ((s.putUpd x).withResult v).serverUp = s.serverUp := rfl

/-- A fall-back in SAFE is refused and waits (R489). -/
theorem updateFallBack_waits {dt : Nat} {rq : Rq} {s : State} (h : Served s dt rq (K 0x2200 1) 6) (hr : s.sys.recovery = false)
    (hs : s.bootRec.stage = 2) (hm : s.mode = .safe) :
    Does (.updateFallBack dt rq) s [.upd, .ports, .clients] (fun k => k = K 0x2200 5) fun t =>
      t.answered rq (K 0x2200 1) (0x0401, s.mode.code) ∧ t.upd = { s.upd with waits := some 3 } := by
  have heff := effUpdate_fallBack (s := s.tick dt) hr
  rw [State.updateFallBack_safe (s := s.tick dt) hs hm, updResult_eq] at heff
  have hf := (frame_upd [.upd, .ports, .clients] (fun k => k = K 0x2200 5) (s.tick dt) { s.upd with waits := some 3 } (by decide)).trans
    (frame_withResult _ _ 0x0401)
  have hup : (((s.tick dt).putUpd { s.upd with waits := some 3 }).withResult 0x0401).serverUp = true :=
    (State.waits_serverUp ..).trans (served_up h)
  refine does_inSafe rfl h heff hm rfl hup hf (by decide) fun t ft ha => ⟨ha, ?_⟩
  exact ft.1 .upd (by decide)

/-- The end of a rolling restart into a new image leaves it on trial, in OPERATE unless hardware moves to SAFE. -/
theorem endOfRollingRestart_gives {dt : Nat} {r : Roll} {s : State} (hr : s.upd.roll = some r) (hs : r.step = 8) (hf : r.fall = none)
    (hm : s.mode = .hold) (hb : s.sys.before = 2) (hc : s.pwr.cal.firstDone = true) (hcw : s.pwr.cal.waiting = false)
    (hread : (s.putUpd { s.upd with slot := r.slot }).bodyReadable = true) (hdose : s.upd.doseDue = false) (hw : s.upd.waits = none) :
    Gives (.endOfRollingRestart dt) s fun t =>
      t.upd.roll = none ∧ t.upd.slot = r.slot ∧ t.bootRec.stage = 2 ∧ t.updStage = 6 ∧ t.upd.trialAt = s.now + dt ∧
      (t.mode = .operate ∧ t.get (K 0x2000 4) = 8 ∨ t.mode = .safe) := by
  obtain ⟨-, -, ut, bt, st, pt, hdue, -⟩ := (s.tick dt).onTrialOf_leaves r.slot
  have hroll := State.rollEnds_trial (s := s.tick dt) hr hs hf hm hb hread
  generalize (s.tick dt).onTrialOf r.slot = u at ut bt st pt hdue hroll
  have hres : (u.enter .operate 8).calResume = u.enter .operate 8 :=
    State.calResume_idle ((congrArg (fun p => p.cal.firstDone) pt).trans hc) ((congrArg (fun p => p.cal.waiting) pt).trans hcw)
  have hx : exec (.endOfRollingRestart dt) s = done (u.enter .operate 8) := by
    refine congrArg done ?_
    rw [hroll, hres]
    exact State.doseNow_idle ((congrArg Upd.doseDue ut).trans hdose)
  have hw' : (u.enter .operate 8).upd.waits = none := (congrArg Upd.waits ut).trans hw
  have hd' : (u.enter .operate 8).due = none := hdue rfl
  have fs := frame_settle [] (fun _ => False) _ hw' hd'
  have hupd : (u.enter .operate 8).settle.upd = u.upd := fs.1 .upd (by decide)
  have hstage : (u.enter .operate 8).updStage = u.updStage := State.get_set_ne _ _ _ _ (K_apart (by decide))
  have hcause : (u.enter .operate 8).get (K 0x2000 4) = 8 := State.get_set_self _ _ _ (by rw [widthOf_update.2]; decide)
  have hboot : (u.enter .operate 8).settle.bootRec = u.bootRec := State.bootRec_congr (congrArg Nv.boots (fs.1 .nv (by decide)))
  refine ⟨_, hx, ?_, ?_, ?_, (fs.2 _ observer_update.1 id).trans (hstage.trans st), ?_, ?_⟩
  · rw [hupd, ut]
  · rw [hupd, ut]
  · rw [hboot, bt]
  · rw [hupd, ut]; rfl
  · exact (settle_standing hw' hd').2.imp (fun h => ⟨h.1, h.2.trans hcause⟩) And.right

/-- Settles O51: what each command of the update manager makes of the boot records, the pairs and the device state. -/
theorem updateActivation : Obligations.UpdateActivation := by
  refine ⟨fun dt rq s h hr hm hs hf hv hg _ => updateActivate_gives h hr hm hs hf hv hg, fun dt rq s h hr hm hs => ?early,
    fun dt rq s h hr hs => recoveryActivate_gives h hr hs, fun dt rq s h hr hm hs hg => updateReset_gives h hr hm hs hg,
    fun dt rq s h hr hm => ?resetRefused, fun dt rq s h hr hs hb hsave => updateConfirm_does h hr hs hb hsave,
    fun dt rq s h hr hs => ?settled, fun dt rq s h hr hs ha hm _ => ?fall, fun dt rq s h hr hs hsafe hhold => ?untried,
    fun dt rq s h hr hs hm => updateFallBack_waits h hr hs hm, fun dt s hm hn ht hlog hs ha hb hsave hw => ?auto,
    fun dt s hidle hw => does_pass (congrArg done (State.autoConfirm_idle (s := s.tick dt) hidle)) hw fun t ft => ft.1 .nv (by decide),
    fun dt r s hr hs hm hw => ?first, fun dt r s hr hs hm hw => ?second,
    fun dt r s hr hs hf hm hb _ hc hcw hread hdose hw => endOfRollingRestart_gives hr hs hf hm hb hc hcw hread hdose hw,
    fun dt s hr hd hc hcw hw => ?endsIdle⟩
  case early =>
    refine does_refuseUpdate rfl h ?_
    rw [effUpdate_activate, State.updateActivate_early (s := s.tick dt) hr hm hs]
  case resetRefused =>
    refine does_refuseUpdate rfl h ?_
    rw [effUpdate_reset (s := s.tick dt) hr]
    exact congrArg updResult (if_pos hm)
  case settled =>
    refine does_refuseUpdate rfl h ?_
    rw [effUpdate_confirm (s := s.tick dt) hr]
    exact congrArg updResult (if_pos hs)
  case fall =>
    have heff := effUpdate_fallBack (s := s.tick dt) hr
    rw [State.updateFallBack_rolls (s := s.tick dt) hs ha hm, updResult_eq] at heff
    obtain ⟨m1, y1, u1, -, d1, st1⟩ := (s.tick dt).startRoll_leaves (s.tick dt).bootRec.active (some 3)
    exact gives_roll rfl h heff ⟨m1, y1, u1, d1, (State.withResult_stage ..).trans st1⟩
      fun t ha hstage hroll hapc _ hmode _ => ⟨ha, hstage, hroll, hmode, hapc⟩
  case untried =>
    refine does_refuseUpdate rfl h ?_
    rw [effUpdate_fallBack (s := s.tick dt) hr, State.updateFallBack_untried (s := s.tick dt) hs hsafe hhold]
  case auto =>
    obtain ⟨t, hx, ⟨⟨hst, hact, -, hsaves, -⟩, hres⟩, hf⟩ := autoConfirm_does hm hn ht hlog hs ha hb hsave hw
    exact ⟨t, hx, ⟨hst, hact, hsaves, hres⟩, hf⟩
  case first =>
    have hx : exec (.apcPairRestarted dt 1) s = done ((s.tick dt).atStep [false, true] r 4) :=
      congrArg done ((congrArg State.calResume (State.pairBack_first (s := s.tick dt) hr hs)).trans (State.calResume_hold hm))
    exact does_of hx hw rfl ((frame_tick _ _ s dt).trans (frame_atStep _ _ _ _ _ _ (by decide) (by decide))) fun t ft _ =>
      ⟨ft.1 .apc (by decide), congrArg Upd.roll (ft.1 .upd (by decide))⟩
  case second =>
    have hx : exec (.apcPairRestarted dt 0) s = done (((s.tick dt).atStep [true, true] r 5).restartCore 2) :=
      congrArg done ((congrArg State.calResume (State.pairBack_second (s := s.tick dt) hr hs)).trans (State.calResume_hold hm))
    rw [State.restartCore_eq] at hx
    refine does_of hx hw rfl ((((frame_tick _ _ s dt).trans (frame_atStep _ _ _ _ _ _ (by decide) (by decide))).trans
      (frame_withoutCore _ _ _ _ (by decide))).set _ _ rfl) fun t ft _ => ⟨ft.1 .apc (by decide), congrArg Upd.roll (ft.1 .upd (by decide)), ?_⟩
    rw [(ft.1 .cores (by decide)).1]
    exact nth_putNth_place ..
  case endsIdle =>
    have hx : exec (.endOfRollingRestart dt) s = done (s.tick dt) := by
      refine congrArg done ?_
      rw [State.rollEnds_none (s := s.tick dt) hr, State.calResume_idle (s := s.tick dt) hc hcw]
      exact State.doseNow_idle (s := s.tick dt) hd
    exact does_pass hx hw fun t ft => ft.1 .nv (by decide)

end Sys2Proof.Machine
end
